-- ==== Sys2Proof/Word.lean ====
section
/-! DEFINITION. The word types of the module and the plainest arithmetic on numbers read as words. -/

namespace Sys2Proof

/-- One byte, the smallest addressable unit of every memory of the module. -/
abbrev Byte := BitVec 8

/-- A 32-bit word: one register word, one event parameter word. -/
abbrev Word := BitVec 32

/-- Bits `[lo + w - 1 : lo]` of a number, as the spec writes a field `[high:low]` (R7). -/
def bits (x lo w : Nat) : Nat := (x >>> lo) % 2 ^ w

/-- Bit `i` of a number. -/
def bit (x i : Nat) : Bool := x.testBit i

/-- A number of `w` bits read as a two's complement value. -/
def sx (w x : Nat) : Int :=
  if x % 2 ^ w < 2 ^ (w - 1) then ((x % 2 ^ w : Nat) : Int) else ((x % 2 ^ w : Nat) : Int) - ((2 ^ w : Nat) : Int)

/-- An integer wrapped to `w` bits. -/
def toU (w : Nat) (i : Int) : Nat := (i % ((2 ^ w : Nat) : Int)).toNat

/-- An integer limited to the range from `lo` to `hi`. -/
def clampI (lo hi i : Int) : Int := if i < lo then lo else if hi < i then hi else i

/-- A Boolean as the number 0 or 1. -/
def b2n (b : Bool) : Nat := if b then 1 else 0

/-- The `n` low bytes of a number, least significant first: every multi-byte datum the module defines is
little-endian (R7). -/
def leBytes : Nat → Nat → List Byte
  | 0, _ => []
  | n + 1, x => BitVec.ofNat 8 x :: leBytes n (x / 256)

/-- The number that a list of bytes spells, least significant first. -/
def ofLe : List Byte → Nat
  | [] => 0
  | b :: t => b.toNat + 256 * ofLe t

/-- The `n` low bytes of a number, most significant first, as the published network protocols write them (R7). -/
def beBytes (n x : Nat) : List Byte := (leBytes n x).reverse

/-- The number that a list of bytes spells, most significant first. -/
def ofBe (l : List Byte) : Nat := ofLe l.reverse

end Sys2Proof
end

