-- ==== Sys2Proof/Machine/RegTypes.lean ====
section
/-! DEFINITION. The shapes in which the register tables of the spec are written down: a field of a register, the access
types of R8, the stated ranges of RW fields, a row of the register description; and a clock data set of PTP. -/

namespace Sys2Proof.Machine

/-- A field of one register: the register's byte address, the field's lowest bit, its width and its reset value. -/
structure Fld where
  reg : Nat
  lo : Nat
  w : Nat
  rst : Nat
deriving DecidableEq, Repr

/-- An error met in a core's state: its queue, codebook memory, accumulators or control state (R252, R285). -/
inductive StateErr
  | none | corrected | uncorrectable
deriving DecidableEq, Repr

/-- The access types of R8. -/
inductive Acc
  | ro | rw | w1c | wo | rsv
deriving DecidableEq, Repr

/-- The stated range of an RW field; a write outside it is ignored for that field (R8, R16). -/
inductive Lim
  /-- every value of the field's width -/
  | any
  /-- from `lo` to `hi` -/
  | range (lo hi : Nat)
  /-- from `lo` to `hi`, the field read as signed -/
  | srange (lo hi : Int)
  /-- a multiple of `n`: the low bits must be 0 -/
  | mult (n : Nat)
  /-- an output number 0 to 15, or 31 for NONE (R381) -/
  | binOut
deriving DecidableEq, Repr

/-- One field in a register's description: place, width, access, reset value, whether a warm start clears it, range. -/
structure FDesc where
  lo : Nat
  w : Nat
  acc : Acc
  rst : Nat
  cleared : Bool
  lim : Lim
deriving DecidableEq, Repr

/-- One register, or one register repeated in up to two dimensions of windows (stride, count). -/
structure RegDesc where
  name : String
  addr : Nat
  dim1 : Nat × Nat
  dim2 : Nat × Nat
  width : Nat
  fields : List FDesc
deriving DecidableEq, Repr

/-- Whether a value of a `w`-bit field lies in its stated range. -/
def limOk (l : Lim) (w v : Nat) : Bool :=
  match l with
  | .any => true
  | .range lo hi => decide (lo ≤ v ∧ v ≤ hi)
  | .srange lo hi => decide (lo ≤ sx w v ∧ sx w v ≤ hi)
  | .mult n => decide (v % n = 0)
  | .binOut => decide (v ≤ 15 ∨ v = 31)

/-- A clock data set as an Announce gives it, with its sender (R392). -/
structure PtpMaster where
  prio1 : Nat
  cls : Nat
  acc : Nat
  var : Nat
  prio2 : Nat
  gm : Nat
  steps : Nat
  src : Nat
deriving DecidableEq, Repr

end Sys2Proof.Machine
end

