-- ==== Sys2Proof/Syntax.lean ====
section
/-! DEFINITION. The commands: one constructor per row of the table of operations and events, in the table's order, with the operands
that the outside world or the passing of time gives it. -/

namespace Sys2Proof

/-- A command to the module: a write or a read of one of its registers, an operation of its host bus, a frame on one of its links, the end of
a piece of work, or an event on a pin. A field number is bounded by its type; errors that arise in memory are pairs of an address and whether
the error is beyond correction. -/
inductive Instr
  /-- POWER_ON (R600): Module supply rises and PWR_GOOD is asserted, beginning a cold start with cause POWER_ON that clears the AON store. `strap`: the
  profile straps PROF1 and PROF0 (R608). -/
  | powerOn (strap : Fin 4)
  /-- POWER_GOOD_FALL (R601): PWR_GOOD falls, or VIN stays below 9.5 V for 1 µs, and the module goes into reset with its outputs at the states of R581. -/
  | powerGoodFall
  /-- RESET_N (R579): RESET_N is released after being held low for at least 10 µs, starting a cold start; shorter pulses are ignored. `ns`: how long RESET_N
  was low. -/
  | resetN (ns : Nat)
  /-- BROWNOUT (R599): A logic rail stays outside its monitor window for 1 µs, causing a cold start with cause BROWNOUT. -/
  | brownout
  /-- THERMAL_TRIP (R610): The die passes 115 °C, so reset is held until the die is below 95 °C, followed by a cold start with cause THERMAL. -/
  | thermalTrip
  /-- HP_RESET_N (R458): The host asserts HP_RESET_N, which returns the mode registers to reset and ends any training mode without resetting the module. -/
  | hpResetN (asserted : Bool)
  /-- COLD_START_STEP_DONE (R582): A timed cold-start step (self-test, DDR5 training, configuration read, model load, camera and link bring-up) completes
  and the next step begins, ending at verdict-ready. `dt`: ENC cycles from the step's beginning; `fail`: its test or training has failed; `mask`: the
  Lamb engine units that fail their self-test; `reads`: every OTP burn of the step reads back. -/
  | coldStartStepDone (dt : Nat) (fail : Bool) (mask : BitVec 4) (reads : Bool)
  /-- COLD_START_TIMEOUT (R587): Step 10 is not reached within 5 s, so the cold start counts as failed and escalates. `mask`: the Lamb engine units that
  fail a self-test in Paddock mode. -/
  | coldStartTimeout (mask : BitVec 4)
  /-- COLD_FAIL_CLEAR (R587): After 60 s in RUNNING with no failed start, COLD_FAIL is cleared. -/
  | coldFailClear
  /-- HOST_COLD (R589): COLD is written to MG_RESETCTL with the key, starting a cold start with cause HOST_COLD. -/
  | hostCold
  /-- HOST_WARM (R589): WARM is written to MG_RESETCTL with the key, starting a warm start with cause HOST_WARM. -/
  | hostWarm
  /-- WARM_DRAIN_END (R583): The drain ends, either at DRAIN_MS or when the last REALTIME job ends; remaining jobs end as JOB_LOST and the control
  processors restart. -/
  | warmDrainEnd
  /-- WARM_START_STEP_DONE (R583): A timed warm-start step (restart, header read, checks, records, placement, return to service) completes and the next
  begins. `dt`: ENC cycles from the step's beginning; `up`: errors that arise in memory; `fwOk`: the restarted firmware checks out; `crcOk`: so does the
  CRC over the identity's bottom tree. -/
  | warmStartStepDone (dt : Nat) (up : List (Nat × Bool)) (fwOk : Bool) (crcOk : Bool)
  /-- WARM_START_TIMEOUT (R586): A warm-start step has not ended WARM_TMO_MS after step 1, so the warm start fails and restarts at step 3. -/
  | warmStartTimeout
  /-- PROFILE_WRITE (R609): Host software writes PROFILE in MG_PWRCFG, lowering or restoring the power profile within 1 ms at a CORE step change. `v`: the
  word written to MG_PWRCFG. -/
  | profileWrite (v : BitVec 32)
  /-- ENCODER_COUNT (R43): The filtered quadrature pair changes on an ENC cycle and the position steps by ±1 or records a quadrature error. Encoder `e`,
  sampled up to `dt` ENC cycles from now; `wa`, `wb`, `wz`: the last 64 samples of its pins A, B and Z, newest in bit 0. -/
  | encoderCount (e : Fin 4) (dt : Nat) (wa : BitVec 64) (wb : BitVec 64) (wz : BitVec 64)
  /-- ENCODER_LINE_FAULT (R45): A differential input stays below 200 mV for 1 µs, so the encoder becomes FAILED with cause LINE and its position freezes.
  `dt` ENC cycles from now; `lines`: the inputs of encoder `e` that then stand below 200 mV (bit 0 A, bit 1 B, bit 2 Z). -/
  | encoderLineFault (e : Fin 4) (dt : Nat) (lines : Fin 8)
  /-- INDEX_EVENT (R46): Filtered Z rises, gated by ZGATE, and the position is latched into IDX_POS. As for ENCODER_COUNT. -/
  | indexEvent (e : Fin 4) (dt : Nat) (wa : BitVec 64) (wb : BitVec 64) (wz : BitVec 64)
  /-- SPEED_WINDOW_END (R51): A speed window closes and its count is published with the STILL and PARTIAL flags. -/
  | speedWindowEnd (e : Fin 4)
  /-- ENCCFG_WRITE (R65): A write to PS_ENCCFG applies EN, DIR_INV and FILT_N under their restrictions; setting EN fills the filter windows with no count. -/
  | encCfgWrite (e : Fin 4) (v : BitVec 32)
  /-- CLR_FAIL (R45): CLR_FAIL in PS_ENCCTL clears FAILED if the cause has ended, and counting resumes from the frozen value. -/
  | clrFail (e : Fin 4)
  /-- CLR_DRIFT (R48): CLR_DRIFT in PS_ENCCTL sets the drift accumulator to 0. -/
  | clrDrift (e : Fin 4)
  /-- TRIGGER_PENDING_ISSUE (R57): The 2 µs spacing expires and a pending trigger pulse is issued, numbered and logged. -/
  | triggerPendingIssue (t : Fin 8)
  /-- TRIGGER_PULSE_END (R57): After PW ENC cycles, a trigger pulse ends. -/
  | triggerPulseEnd (t : Fin 8)
  /-- TRGCFG_WRITE (R74): A write to PS_TRGCFG applies EN, ENC_SEL and PW; setting EN takes START as the first target and skips targets already passed. -/
  | trgCfgWrite (t : Fin 8) (v : BitVec 32)
  /-- TRGDIV_WRITE (R59): A write to PS_TRGDIV while the output is enabled takes effect from the next target. -/
  | trgDivWrite (t : Fin 8) (v : BitVec 64)
  /-- TRGSTAT_CLEAR (R78): Writing 1 to OVR in PS_TRGSTAT clears OVR and sets DROP_CNT to 0. -/
  | trgStatClear (t : Fin 8) (v : BitVec 32)
  /-- TRACK_SAMPLE (R61): On each microsecond tick, the position of each enabled encoder is written into its track history ring. -/
  | trackSample
  /-- REG64_LOW_READ (R64): Reading the low word of a 64-bit register captures its high word for the next read. Agent 0 is the register portal, 1 to 4 the
  control processors; `a`: the address of the low word. -/
  | reg64LowRead (agent : Fin 5) (a : BitVec 32)
  /-- REG64_LOW_WRITE (R64): A write of the low word of a 64-bit register is held in the agent's staging word and changes nothing. `a`: the address of the
  low word. -/
  | reg64LowWrite (agent : Fin 5) (a : BitVec 32) (v : BitVec 32)
  /-- REG64_HIGH_WRITE (R64): A write of the high word of a 64-bit register stores both halves together, applying the register's restrictions to the
  combined value. `a`: the address of the high word. -/
  | reg64HighWrite (agent : Fin 5) (a : BitVec 32) (v : BitVec 32)
  /-- REGISTER_WRITE (R8): A write to a register without a row of its own stores its RW fields within range, clears W1C bits and ignores the rest. -/
  | registerWrite (agent : Fin 5) (a : BitVec 32) (v : BitVec 32)
  /-- LANECFG_WRITE (R109): A write to LN_LANECFG enables or disables a lane, or changes its loop, test pattern, polarity or low-power-idle settings. -/
  | laneCfgWrite (l : Fin 16) (v : BitVec 32)
  /-- ADAPT_CONVERGED (R85): Receiver equalisation and clock recovery converge, and the lane moves from ADAPT to HUNT. -/
  | adaptConverged (l : Fin 16)
  /-- LANE_SIGNAL_LOSS (R85): No signal is detected for 10 ms, and the lane returns to ADAPT. -/
  | laneSignalLoss (l : Fin 16)
  /-- LANE_BLOCK_RECEIVE (R86): A 66-bit block is received and drives block lock, lock loss, fault state and polarity detection. `hdr`, `data`: the 66 bits
  that the pins receive in a block time, as header and scrambled payload of a block at an unmoved boundary; `at_`: the block time, for the skew of the
  drove lanes. -/
  | laneBlockReceive (l : Fin 16) (hdr : BitVec 2) (data : BitVec 64) (at_ : Nat)
  /-- LPI_ENTRY (R91): After LPI_IDLE µs with no frame queued, the transmit direction enters low-power idle. -/
  | lpiEntry (l : Fin 16)
  /-- LPI_WAKE_DONE (R91): 5.5 µs after wake begins, the queued frame is sent. -/
  | lpiWakeDone (l : Fin 16)
  /-- CAMERA_FRAME_RECEIVE (R94): A received Ethernet frame is classified and passed to the Intake, the Time unit or the firmware queue, or dropped and
  counted. `b`: the frame, FCS included; `ls`: errors met in the line store: view, line, the word's offset in the line's slot, whether beyond
  correction; `up`: errors that arise in memory. -/
  | cameraFrameReceive (l : Fin 16) (b : List Byte) (ls : List (Nat × Int × Nat × Bool)) (up : List (Nat × Bool))
  /-- FRAME_TRANSMIT (R95): A frame composed by the control processors (ARP, ICMP, PTP or GVCP) is transmitted on a camera port. -/
  | frameTransmit (l : Fin 16)
  /-- ARP_REQUEST (R96): The firmware answers an ARP request for the port's IPV4. -/
  | arpRequest (l : Fin 16)
  /-- ICMP_ECHO (R96): The firmware answers an ICMP echo request to the port's IPV4. -/
  | icmpEcho (l : Fin 16)
  /-- GVCP_ACK (R124): A GVCP acknowledgement arrives, completing a step of camera setup, a heartbeat write or a mailbox command. -/
  | gvcpAck (l : Fin 16)
  /-- GVCP_RETRY_TIMEOUT (R124): A GVCP command has no acknowledgement within 200 ms, so it is retried or, after two retries, reported failed. -/
  | gvcpRetryTimeout (l : Fin 16)
  /-- STRCTL_SETUP (R125): SETUP in IN_STRCTL starts camera setup for the stream at once, unless BUSY is 1. -/
  | strctlSetup (n : Fin 16) (v : BitVec 32)
  /-- CAMERA_HEARTBEAT (R123): At one third of the heartbeat timeout, the firmware writes the camera's heartbeat register. -/
  | cameraHeartbeat (l : Fin 16)
  /-- CAMERA_SETUP_GIVE_UP (R582): Setup of a camera has not completed after 800 ms of cold-start step 9, so IN_CAM_FAIL is raised and the start proceeds
  without it. -/
  | cameraSetupGiveUp (n : Fin 16)
  /-- LINE_TIMEOUT (R129): LINE_TMO µs pass after a trigger without its line, or a PTP stream is silent, and lines become missing. -/
  | lineTimeout (n : Fin 16)
  /-- STREAM_EN_CHANGE (R634): A write changes EN of a stream; clearing EN discards the stream's blocks in assembly. -/
  | streamEnChange (n : Fin 16) (en : Bool)
  /-- VIEW_EN_CHANGE (R634): A write changes EN of a view; clearing EN drops unreleased lines and truncates OPEN parts that draw on the view. -/
  | viewEnChange (v : Fin 16) (en : Bool)
  /-- REPLAY_ENTRY_TAKE (R133): The replay decoder takes the next ring entry onto a free decode lane after the checks of R134. -/
  | replayEntryTake (up : List (Nat × Bool))
  /-- REPLAY_DECODE_DONE (R135): A sample finishes decoding or loading, is augmented and enters the tiling stage of its race. `n`: the decode lane. -/
  | replayDecodeDone (n : Fin 4) (up : List (Nat × Bool))
  /-- REPLAY_BUDGET_EXPIRE (R134): A decode exceeds its BUDGET of PIX cycles, so the sample ends NOT_DECODED and its lane is freed. -/
  | replayBudgetExpire (n : Fin 4)
  /-- REPLAY_ENABLE (R149): A write to IN_RPLCFG starts a replay pass, or abandons it when EN is cleared. `v`: the word written to IN_RPLCFG. -/
  | replayEnable (v : BitVec 64)
  /-- REPLAY_CLR_STAT (R152): CLR_STAT sets DONE, NOTDEC and CACHE_SKIP to 0. -/
  | replayClrStat (v : BitVec 32)
  /-- GRAZE_BUILD_DONE (R162): Every segment has its full count of gap lines, so new gains and dynamic defects are computed into the shadow bank. -/
  | grazeBuildDone
  /-- APPROVE (R178): APPROVE in READY begins SWAPPING of the waiting epoch. -/
  | approve
  /-- DISCARD (R178): DISCARD in READY drops the candidate epoch and returns to BUILDING. -/
  | discard
  /-- TILE_WRITE_DONE (R172): The header and every plane of a closed part's tile are written, so its job may dispatch. `i`: the part's Tally slot. -/
  | tileWriteDone (i : Fin 4096)
  /-- FLEECE_ENCODE_DONE (R174): The Fleece encoder finishes an audit image, writes it to the audit buffer and posts an audit ring entry. -/
  | fleeceEncodeDone (up : List (Nat × Bool))
  /-- LAMB_STREAM_START (R230): A queued stem stream takes the next free Lamb engine unit. -/
  | lambStreamStart
  /-- LAMB_STREAM_END (R231): A stream's last output row is computed and its writes are acknowledged, releasing the part's job. -/
  | lambStreamEnd (u : Fin 4) (up : List (Nat × Bool))
  /-- LB_CONV (R224): A Lamb engine convolution runs with requantisation, RELU, pooling and an output mode, and optionally emits a result. -/
  | lbConv (up : List (Nat × Bool))
  /-- LB_SORT (R237): N entries are sorted by descending key, stably, and the first K are written. -/
  | lbSort (up : List (Nat × Bool))
  /-- CONV (R261): A convolution over the command's tiles accumulates and requantises, with widen-on-clip. Core `k` runs the command at the head of its
  queue; `up`: errors that arise in memory; `err`: an error met in the core's state. -/
  | conv (k : Fin 16) (up : List (Nat × Bool)) (err : Machine.StateErr)
  /-- DWCONV (R262): A depthwise convolution computes each channel from its own input channel. Core `k` runs the command at the head of its queue; `up`:
  errors that arise in memory; `err`: an error met in the core's state. -/
  | dwconv (k : Fin 16) (up : List (Nat × Bool)) (err : Machine.StateErr)
  /-- MATMUL (R264): A batched matrix product is computed over K in ascending order. Core `k` runs the command at the head of its queue; `up`: errors that
  arise in memory; `err`: an error met in the core's state. -/
  | matmul (k : Fin 16) (up : List (Nat × Bool)) (err : Machine.StateErr)
  /-- POOL (R263): A MAX, MIN or AVG window pooling is computed. Core `k` runs the command at the head of its queue; `up`: errors that arise in memory;
  `err`: an error met in the core's state. -/
  | pool (k : Fin 16) (up : List (Nat × Bool)) (err : Machine.StateErr)
  /-- ELTW (R266): Two tensors are combined element by element under OP. Core `k` runs the command at the head of its queue; `up`: errors that arise in
  memory; `err`: an error met in the core's state. -/
  | eltw (k : Fin 16) (up : List (Nat × Bool)) (err : Machine.StateErr)
  /-- ACT (R268): An activation function is applied in FP32 and the result is requantised. Core `k` runs the command at the head of its queue; `up`: errors
  that arise in memory; `err`: an error met in the core's state. -/
  | act (k : Fin 16) (up : List (Nat × Bool)) (err : Machine.StateErr)
  /-- SFU (R269): EXP2, LOG2, RECIP or RSQRT is applied in FP32. Core `k` runs the command at the head of its queue; `up`: errors that arise in memory;
  `err`: an error met in the core's state. -/
  | sfu (k : Fin 16) (up : List (Nat × Bool)) (err : Machine.StateErr)
  /-- REQ (R270): A tensor is requantised under R212 to R214. Core `k` runs the command at the head of its queue; `up`: errors that arise in memory; `err`:
  an error met in the core's state. -/
  | req (k : Fin 16) (up : List (Nat × Bool)) (err : Machine.StateErr)
  /-- RESIZE (R271): A nearest or bilinear resize is computed. Core `k` runs the command at the head of its queue; `up`: errors that arise in memory; `err`:
  an error met in the core's state. -/
  | resize (k : Fin 16) (up : List (Nat × Bool)) (err : Machine.StateErr)
  /-- REDUCE (R272): SUM, MEAN, MAX, MIN or SUMSQ is computed over the chosen axes. Core `k` runs the command at the head of its queue; `up`: errors that
  arise in memory; `err`: an error met in the core's state. -/
  | reduce (k : Fin 16) (up : List (Nat × Bool)) (err : Machine.StateErr)
  /-- COPY (R273): A window of the input is copied unchanged. Core `k` runs the command at the head of its queue; `up`: errors that arise in memory; `err`:
  an error met in the core's state. -/
  | copy (k : Fin 16) (up : List (Nat × Bool)) (err : Machine.StateErr)
  /-- TABLE (R274): Codebooks are loaded into the core's codebook memory. Core `k` runs the command at the head of its queue; `up`: errors that arise in
  memory; `err`: an error met in the core's state. -/
  | table (k : Fin 16) (up : List (Nat × Bool)) (err : Machine.StateErr)
  /-- NEAR_SEARCH (R277): The nearest bank vector is found for each query. Core `k` runs the command at the head of its queue; `up`: errors that arise in
  memory; `err`: an error met in the core's state. -/
  | nearSearch (k : Fin 16) (up : List (Nat × Bool)) (err : Machine.StateErr)
  /-- NEAR_MERGE (R277): Shard results are merged by lowest distance, then lowest index. Core `k` runs the command at the head of its queue; `up`: errors
  that arise in memory; `err`: an error met in the core's state. -/
  | nearMerge (k : Fin 16) (up : List (Nat × Bool)) (err : Machine.StateErr)
  /-- SEM_SET (R278): A semaphore is set to VALUE. Job `j`. -/
  | semSet (j : Fin 256)
  /-- SEM_ADD (R278): VALUE is added to a semaphore, saturating. Job `j`. -/
  | semAdd (j : Fin 256)
  /-- DOORBELL (R278): The producer index of a ring is set to INDEX. Job `j`. -/
  | doorbell (j : Fin 256)
  /-- WAIT (R279): A job waits on a semaphore condition, decrementing it when DEC is set. Job `j`. -/
  | wait (j : Fin 256)
  /-- WAIT_SATISFY (R279): A pending WAIT finds its condition true in a Shepherd cycle and completes. -/
  | waitSatisfy
  /-- EMIT (R280): The largest of N elements and its position are sent as a result to the Fold collector. Core `k` runs the command at the head of its
  queue; `up`: errors that arise in memory; `err`: an error met in the core's state. -/
  | emit (k : Fin 16) (up : List (Nat × Bool)) (err : Machine.StateErr)
  /-- FLUSH_RESUME (R324): After the flush completes, placement resumes within 2 ms of the fault. -/
  | flushResume
  /-- CORE_COMMAND_COMPLETE (R309): All writes of a command are acknowledged, releasing its dependants and possibly ending its job. The engine: core `n`, or
  Lamb engine unit `n` modulo 4; `tally`: errors met in the Tally's slots: slot, whether beyond correction. -/
  | coreCommandComplete (lamb : Bool) (n : Fin 16) (tally : List (Nat × Bool))
  /-- CORE_WATCHDOG (R327): A step, save or restore on a core has not completed within 1 ms, so the core is fenced. -/
  | coreWatchdog (k : Fin 16)
  /-- JOB_TABLE_ENTER (R307): A waiting job enters the job table once an entry and a scratch slot are free. -/
  | jobTableEnter
  /-- HOUSEKEEPING_SUBMIT (R308): A submission entry is taken from a client's ring and queued, or refused. Client `c`; `own`: JOB_ID and PROGRAM of a job
  that the control processors submit. -/
  | housekeepingSubmit (c : Fin 64) (own : Option (BitVec 32 × BitVec 64))
  /-- SCOREBOARD_ADMIT (R309): A job's next command enters the scoreboard when its window and the scoreboard have room. -/
  | scoreboardAdmit (j : Fin 256) (up : List (Nat × Bool))
  /-- COMMAND_PLACE (R310): An eligible command is placed on a core queue, chosen by rank and pass. `b`: where a command that is pre-empted stops: its
  instructions done, the steps done of the next, the groups those have summed. -/
  | commandPlace (b : Nat × Nat × Nat)
  /-- SLICE_EXPIRY (R314): A core's time slice expires and a new slice begins for the client with the lowest pass. `b`: where a command that is pre-empted
  stops: its instructions done, the steps done of the next, the groups those have summed. -/
  | sliceExpiry (k : Fin 16) (b : Nat × Nat × Nat)
  /-- SAVE_COMPLETE (R317): A context save into a save slot completes. -/
  | saveComplete (k : Fin 16)
  /-- RESTORE_COMPLETE (R317): A context restore completes and the job continues from the saved step. -/
  | restoreComplete (k : Fin 16)
  /-- READMIT (R339): READMIT clears SUSPECT and the client's flush history. -/
  | readmit (c : Fin 64)
  /-- SH_SEM_WRITE (R340): A host write to a semaphore takes effect between two Shepherd cycles. -/
  | shSemWrite (i : Fin 256) (v : BitVec 32)
  /-- COLLECTOR_ACCEPT (R356): The collector accepts one result per FAB cycle and merges it into the job's result table. -/
  | collectorAccept
  /-- GATE_FRAME_START (R366): At each 1 µs downlink frame start, the Gate commits due start and end edges and resolves aim-point watches. -/
  | gateFrameStart
  /-- PULSE_MAX_EXPIRY (R368): A COUNT-mode pulse reaches PW_MAX_MS and is ended. -/
  | pulseMaxExpiry (o : Fin 16)
  /-- FO_OCFG_WRITE (R385): A write to FO_OCFG changes an output's mode, level, lead or pulse settings, subject to the restrictions of R385. -/
  | foOcfgWrite (o : Fin 16) (v : BitVec 64)
  /-- PTP_SYNC (R396): A Sync from the best master is received and drives the servo and the clock states. Lane, domain, whether it came over UDP/IPv4,
  sender, sequence, receive stamp, the two-step flag, origin time in ns, correction. -/
  | ptpSync (l : Fin 16) (dom : BitVec 8) (udp : Bool) (src : BitVec 64) (seq : BitVec 16) (stamp : BitVec 32) (twoStep : Bool) (t1 : Nat) (corr : Int)
  /-- PTP_FOLLOW_UP (R392): A Follow_Up carrying a two-step Sync timestamp is received. -/
  | ptpFollowUp (l : Fin 16) (dom : BitVec 8) (udp : Bool) (src : BitVec 64) (seq : BitVec 16) (t1 : Nat) (corr : Int)
  /-- PTP_ANNOUNCE (R392): An Announce is received and drives best master selection. -/
  | ptpAnnounce (l : Fin 16) (dom : BitVec 8) (udp : Bool) (m : Machine.PtpMaster)
  /-- PTP_DELAY_REQ (R392): A Delay_Req is received in MASTER role and answered. -/
  | ptpDelayReq (l : Fin 16) (dom : BitVec 8) (udp : Bool) (src : BitVec 64) (seq : BitVec 16) (stamp : BitVec 32)
  /-- PTP_DELAY_RESP (R392): A Delay_Resp is received in SLAVE role. -/
  | ptpDelayResp (l : Fin 16) (dom : BitVec 8) (udp : Bool) (src : BitVec 64) (seq : BitVec 16) (t4 : Nat) (corr : Int)
  /-- PTP_SYNC_SEND (R392): The Sync interval expires in MASTER role, and a two-step Sync is sent. -/
  | ptpSyncSend
  /-- PTP_ANNOUNCE_SEND (R393): The Announce interval expires in MASTER role, and an Announce is sent. -/
  | ptpAnnounceSend
  /-- PTP_TIMEOUT (R396): No Sync for 3 intervals, or no Announce for 3 intervals, moves the clock to HOLDOVER. -/
  | ptpTimeout
  /-- PTP_OFS_WRITE (R397): A host write to PTP_OFS in MASTER role is a step. -/
  | ptpOfsWrite (v : BitVec 64)
  /-- ALIGN_EXCHANGE_TIMER (R400): The alignment or tracking interval expires, and the follower sends ALIGN_REQ. -/
  | alignExchangeTimer
  /-- LAUNCH_ARM (R402): ARM is set, so the module aligns if needed and sends LAUNCH or READY. `v`: the value written to TM_LAUNCHCFG. -/
  | launchArm (v : BitVec 32)
  /-- LAUNCH_CHECK (R402): At L − 100,000, a paired module checks that it holds a matching LAUNCH, or marks the launch missed. -/
  | launchCheck
  /-- LAUNCH (R401): The Bellwether counter reaches L while armed, so triggers and races are enabled and positions latched. -/
  | launch
  /-- LAUNCH_POS_TIMEOUT (R403): LAUNCH_POS has not arrived within 10 ms of L, and PAIR_VALID stays 0. -/
  | launchPosTimeout
  /-- BARRIER_LAUNCH (R404): 64 ticks after GO, the launch actions are performed. -/
  | barrierLaunch
  /-- HALF_VERDICT_SEND (R406): A HALF race part's final computed content is sent as a class 2 + r flit once a credit is available. -/
  | halfVerdictSend
  /-- DRVCFG_WRITE (R115): A write to LN_DRVCFG enables the drove link on lanes 12 to 15, or disables it. -/
  | drvCfgWrite (v : BitVec 32)
  /-- DROVE_INIT_SEND (R102): Every 1 µs in INIT, an INIT flit is sent. -/
  | droveInitSend
  /-- DROVE_INIT_TIMEOUT (R102): More than 10 ms in INIT returns the link to ALIGN. -/
  | droveInitTimeout
  /-- DROVE_INIT_FLIT (R102): An INIT flit carrying initial credits is received; in UP it takes the link DOWN. `b`: the 256 bytes of the flit. -/
  | droveInitFlit (b : List Byte)
  /-- DROVE_NOP_FLIT (R102): A NOP flit carrying ACK and credits is received, and may bring the link UP. `b`: the 256 bytes of the flit. -/
  | droveNopFlit (b : List Byte)
  /-- DROVE_DATA_FLIT (R103): A DATA flit is accepted in sequence, or discarded with a NAK. `b`: the 256 bytes of the flit. -/
  | droveDataFlit (b : List Byte)
  /-- DROVE_NAK_FLIT (R103): A NAK acknowledges earlier flits and starts a replay. `b`: the 256 bytes of the flit. -/
  | droveNakFlit (b : List Byte)
  /-- DROVE_FLIT_BAD_CRC (R101): A flit with a bad CRC is discarded and counted. -/
  | droveFlitBadCrc
  /-- DROVE_ACK_TIMEOUT (R103): No ACK advance for ACK_TIMEOUT ns starts a replay from the oldest outstanding flit. -/
  | droveAckTimeout
  /-- DROVE_FLIT_TRANSMIT (R105): The next flit is sent in the order replay, class 0, class 1, then rotating classes. -/
  | droveFlitTransmit
  /-- SCRUB_READ (R431): The patrol scrubber reads the next line and writes back a corrected error. -/
  | scrubRead (up : List (Nat × Bool))
  /-- DMA_COPY (R438): A COPY descriptor writes LEN bytes from SRC to DST. Channel `c`. -/
  | dmaCopy (c : Fin 64) (up : List (Nat × Bool))
  /-- DMA_FILL (R438): A FILL descriptor writes the VALUE pattern over the destination. Channel `c`. -/
  | dmaFill (c : Fin 64) (up : List (Nat × Bool))
  /-- DMA_COMPARE (R438): A COMPARE descriptor compares two extents and reports the first mismatch. Channel `c`. -/
  | dmaCompare (c : Fin 64) (up : List (Nat × Bool))
  /-- DMA_RESUME (R439): RESUME skips the failed descriptor and continues. -/
  | dmaResume (c : Fin 64)
  /-- DMA_ABORT (R439): ABORT empties the channel's descriptor ring. -/
  | dmaAbort (c : Fin 64)
  /-- RING_INDEX_SAMPLE (R442): The module samples host-written ring indices in the pen window, at least every 2 µs. `descs`: errors met in ring
  descriptors: ring, whether beyond correction; `up`: errors that arise in memory. -/
  | ringIndexSample (descs : List (Nat × Bool)) (up : List (Nat × Bool))
  /-- HOST_ACT (R456): An ACT records the row for its bank. -/
  | hostAct (bank : Fin 16) (row : Fin 32768)
  /-- HOST_PRE (R456): A PRE has no effect. -/
  | hostPre
  /-- HOST_RD (R456): A read returns pen-window bytes, or zeros outside rows 0 to 63, at RL. -/
  | hostRd (bank : Fin 16) (col : Fin 64) (bl32 : Bool) (up : List (Nat × Bool))
  /-- HOST_WR (R456): A write burst takes effect in the pen window when its last beat is received. Bit `i` of `mask` withholds byte `i`. -/
  | hostWr (bank : Fin 16) (col : Fin 64) (bl32 : Bool) (data : List Byte) (mask : BitVec 64)
  /-- HOST_MRW (R455): A mode register write is accepted, or rejected with HP_MR_REJECT. -/
  | hostMrw (reg : Fin 128) (op : BitVec 8)
  /-- HOST_MRR (R455): A mode register read returns the value in force. -/
  | hostMrr (reg : Fin 128)
  /-- HOST_REFRESH (R453): A refresh command is accepted with no internal effect. -/
  | hostRefresh
  /-- SELF_REFRESH_ENTRY (R467): The host enters self-refresh or deep sleep, and liveness checking stops. -/
  | selfRefreshEntry
  /-- SELF_REFRESH_EXIT (R467): The host leaves self-refresh, and liveness checking resumes. -/
  | selfRefreshExit
  /-- POWER_DOWN_ENTRY (R453): Power-down entry is accepted. -/
  | powerDownEntry
  /-- POWER_DOWN_EXIT (R453): Power-down exit is accepted. -/
  | powerDownExit
  /-- ZQ_START (R453): A ZQ calibration start is accepted. -/
  | zqStart
  /-- ZQ_LATCH (R453): A ZQ calibration latch is accepted. -/
  | zqLatch
  /-- COMMAND_BUS_TRAINING (R457): CA is sampled and returned on DQ. `ca`: CA as sampled. -/
  | commandBusTraining (ca : BitVec 7)
  /-- WCK2CK_LEVELLING (R457): CK is sampled by WCK and returned on DQ. `ck`: CK as sampled by WCK. -/
  | wck2ckLevelling (ck : Bool)
  /-- READ_DQ_CALIBRATION (R457): The programmed pattern is returned with its per-pin inversion. -/
  | readDqCalibration
  /-- WFF (R457): Write FIFO data is stored for training. -/
  | wff (data : List Byte)
  /-- RFF (R457): Write FIFO data stored by WFF is returned. -/
  | rff
  /-- WRITE_X (R454): A write-X command is ignored and CMD_REJ increments. -/
  | writeX
  /-- DATA_COPY (R454): A data-copy command is ignored and CMD_REJ increments. -/
  | dataCopy
  /-- HEARTBEAT_WRITE (R464): Every 10 µs of device time, the heartbeat block is rewritten with a new count and CRC. `hck`: the frequency of HCK in MHz, 0
  when absent. -/
  | heartbeatWrite (hck : Fin 1024)
  /-- HP_HOST_LOST (R467): 1 ms passes without a host command, so host loss is raised and counted. -/
  | hpHostLost
  /-- READ32 (R469): A portal request reads a 32-bit register. -/
  | read32
  /-- WRITE32 (R469): A portal request writes a 32-bit register. -/
  | write32
  /-- READ64 (R469): A portal request reads a 64-bit register as one value. -/
  | read64
  /-- WRITE64 (R469): A portal request writes a 64-bit register as one value. -/
  | write64
  /-- MAILBOX_REQUEST (R471): The firmware takes a filled request slot and sends its GVCP command on the module's control channel. -/
  | mailboxRequest
  /-- MAILBOX_REPLY_RELEASE (R471): The host writes reply OWN = 0, and the MBOX_READY bit is cleared. -/
  | mailboxReplyRelease (i : Fin 8)
  /-- HP_STAT_CLEAR (R476): Writing 1 to HOST_LOST clears it and clears heartbeat FLAGS bit 2. -/
  | hpStatClear (v : BitVec 32)
  /-- DOWNLINK_FRAME (R483): The field die receives a downlink frame carrying output states, edges and a configuration byte. `err`: the bits that the link
  disturbs. -/
  | downlinkFrame (err : BitVec 96)
  /-- FIELD_EDGE_EXECUTE (R484): The field die executes an edge at its offset in the window, starting or ending a pulse. -/
  | fieldEdgeExecute
  /-- FIELD_WINDOW_OPEN (R485): A window opens: output states are settled, the supply state and configuration are applied, and an uplink frame starts.
  `rdbk`: the readback levels of the outputs. -/
  | fieldWindowOpen (rdbk : BitVec 16)
  /-- CFG_MESSAGE (R488): A configuration message received in 4 good frames is applied by the field die. -/
  | cfgMessage
  /-- CFG_COMMIT (R488): A COMMIT message ends a configuration pass and sets CFGOK once every address has been received. -/
  | cfgCommit
  /-- FIELD_SAFE_STATE (R489): 8 windows pass without a good downlink frame, so the field die turns every output off. -/
  | fieldSafeState
  /-- UPLINK_FRAME_RECEIVE (R486): The compute die receives an uplink frame, confirms edges, and takes inputs, supply state, faults and HTL counts. `err`:
  the bits that the link disturbs. -/
  | uplinkFrameReceive (err : BitVec 96)
  /-- ISO_ALIGN_LOSS (R481): 8 consecutive periods pass without a good frame, and the receiver loses alignment. `onDie`: of the field die's receiver, else
  of the compute die's. -/
  | isoAlignLoss (onDie : Bool)
  /-- FIELD_LOST (R490): 8 bad periods in a row: ENC2 and ENC3 fail, outputs are sent off, and HEALTHY is held. -/
  | fieldLost
  /-- FIELD_BACK (R490): 64 consecutive good uplinks with CFGOK clear FIELD_LOST. -/
  | fieldBack
  /-- INPUT_FILTER_CHANGE (R492): An input holds its new level for FILT_US, and the filtered level changes. -/
  | inputFilterChange (i : Fin 16) (level : Bool)
  /-- WIRE_BREAK (R493): Off-state current stays below 0.35 mA for 100 ms, so a wire break is detected. -/
  | wireBreak (i : Fin 16)
  /-- SUPPLY_CROSSING (R499): A field supply threshold crossing holds for 10 µs and changes the supply state. `st`: the supply state that has held. -/
  | supplyCrossing (st : Fin 3)
  /-- OUTPUT_OVERLOAD (R498): The current limit has acted for 50 µs, and the output is in overload. `acts`: the current limit acts. -/
  | outputOverload (o : Fin 16) (acts : Bool)
  /-- THERMAL_SHUTDOWN (R498): An output switch's junction reaches its trip temperature, and the output turns off. -/
  | thermalShutdown (o : Fin 16)
  /-- THERMAL_RESTART (R498): At least 10 ms after a trip, the cooled output restarts if still driven. -/
  | thermalRestart (o : Fin 16)
  /-- READBACK_MISMATCH (R501): Readback differs from the drive state for 20 µs, setting the common fault. -/
  | readbackMismatch (o : Fin 16)
  /-- HEALTHY_TOGGLE (R504): Every 500 µs, HEALTHY toggles unless a hold condition stands. -/
  | healthyToggle
  /-- PKG_VERIFY (R520): A VERIFY request checks a candidate slot's package or customer section. -/
  | pkgVerify
  /-- PKG_VERIFY_DONE (R520): Verification completes, and the slot becomes VERIFIED or EMPTY. -/
  | pkgVerifyDone (up : List (Nat × Bool))
  /-- PKG_ADMIT (R523): A verified package is bound to a TRIAL, REPLAY or HOUSEKEEPING client. -/
  | pkgAdmit
  /-- PKG_RELEASE (R520): An admitted package is released, and the client's program is cleared. -/
  | pkgRelease
  /-- PKG_PROMOTE (R529): A verified customer section is range-checked and flashing begins. -/
  | pkgPromote
  /-- PROMOTE_FLASH_DONE (R529): Flash programming and read-back end, leaving READY_TO_START or failing with READBACK. `fate`: 0 good, 1 an erase or a
  program failed, 2 the read-back differs; `reads`: every burn reads back. -/
  | promoteFlashDone (fate : Fin 3) (reads : Bool)
  /-- PKG_START (R520): START, or AUTO_START, begins a warm start that installs the promoted image. -/
  | pkgStart
  /-- RECOVERY_LOAD (R557): LOAD copies a staged piece into the image copy area. -/
  | recoveryLoad
  /-- RECOVERY_CHECK (R557): CHECK verifies the staged image without burning. -/
  | recoveryCheck
  /-- RECOVERY_CHECK_DONE (R557): The check completes, giving phase CHECKED or LOADED. -/
  | recoveryCheckDone
  /-- RECOVERY_WRITE (R557): WRITE begins erasing and programming the flash from the checked image. -/
  | recoveryWrite
  /-- RECOVERY_WRITE_DONE (R557): Flash write and read-back end with burns and the header copy, giving phase WRITTEN. `fate` and `reads` as for a promotion. -/
  | recoveryWriteDone (fate : Fin 3) (reads : Bool)
  /-- RECOVERY_RESTART (R557): RESTART begins a cold start with the failed-start counts cleared. -/
  | recoveryRestart
  /-- ATTEST (R567): An attestation report is written and signed with the next identity leaf. -/
  | attest
  /-- CERT (R567): The DER device certificate is written to staging. -/
  | cert
  /-- BOTTOM_TREE_DONE (R563): Generation of a new bottom tree completes, and the waiting attestation is signed. -/
  | bottomTreeDone
  /-- MG_WATCHDOG (R623): A control-processor watchdog expires, setting the CP hold and starting a warm start. `sram`: the processor's SRAM has failed
  beyond correction, at the word `ofs`; `mask`: the Lamb engine units that fail a self-test in Paddock mode. -/
  | mgWatchdog (cpu : Fin 4) (sram : Bool) (ofs : BitVec 32) (mask : BitVec 4)
  /-- SEQUENCE_WRITE (R622): A processor writes to the sequence checker; a wrong processor or number is a sequence failure. -/
  | sequenceWrite (cpu : Fin 4) (num : BitVec 8) (mask : BitVec 4)
  /-- SEQUENCE_LATE (R622): A pass does not complete within 1 ms, which is a sequence failure. -/
  | sequenceLate (mask : BitVec 4)
  /-- THROTTLE_EVAL (R624): Every 100 µs, the throttle compares power and die temperature and changes the CORE step or duty. Logic power averaged over 1 ms
  and 100 ms in 10 mW, die temperature in °C, VIN in 10 mV. -/
  | throttleEval (avg1 : BitVec 16) (avg100 : BitVec 16) (td : BitVec 8) (vin : BitVec 16)
  /-- THERMAL_RESET_RELEASE (R610): After a thermal trip the die cools below 95 °C, reset is released and the cold start with cause THERMAL proceeds. -/
  | thermalResetRelease
  /-- MM_CE (R432): Once per second, if CORR has changed since the previous report, MM_CE is raised with the corrections made since then. -/
  | mmCe
  /-- MG_SRAM_CE (R625): Once per second, if a corrected count in MG_SERR has changed, MG_SRAM_CE is raised with the store code and the corrections since
  the previous report. `code`: the store (1 SWS, 2 LS, 3 PEN, 4 CP, 5 TD); `cp`: corrections made in the control processors' SRAM since. -/
  | mgSramCe (code : Fin 6) (cp : Nat)
  /-- FLUSH_HISTORY_EXPIRY (R338): A flush in a client's history becomes older than 10 s of device time and leaves the history, so FLUSHES in SH_CSTAT
  decreases. -/
  | flushHistoryExpiry (c : Fin 64)
  /-- WIRE_BREAK_CLEAR (R493): An input's current rises above the wire-break threshold again, so its wire-break fault clears. -/
  | wireBreakClear (i : Fin 16)
  /-- PTP_DELAY_REQ_SEND (R392): In SLAVE role the module sends a Delay_Req to the master for the end-to-end delay measurement. -/
  | ptpDelayReqSend
deriving DecidableEq, Repr

end Sys2Proof
end

