-- ==== Sys2Proof/Decode.lean ====
section
/-! DEFINITION. The words of the table of operations and events: no row of the table gives a command any bits. -/

namespace Sys2Proof

/-- The command that a word spells by the bits that the table gives its rows: the table gives none. -/
def decodeTableWord (_nbits _w : Nat) : Option Instr := none

end Sys2Proof
end

