-- ==== Sys2Proof/Config.lean ====
section
/-! DEFINITION. What an implementation fixes and the spec does not state: constants without a body, and the free values. -/

namespace Sys2Proof.Config

/-- The free values: where the spec leaves a value open, the model takes the next of these. Nothing can be proved of one. -/
opaque freeValue : Nat → BitVec 64

/-- Free bytes: byte `i` of the free block that is drawn `n`-th. -/
opaque freeByte : Nat → Nat → Byte

/-- The camera register that starts acquisition: each camera's own description names it (R123). -/
opaque acquisitionStart : Nat

/-- The silicon stepping of the module (R11). -/
opaque stepping : Nat

/-- SHA-256 of a byte string, a published standard that the spec names (R516, R539): 32 bytes, read by index. -/
opaque sha256 : List Byte → Nat → Byte

/-- HSS signature verification under RFC 8554 with the parameters of R543: public key, message, signature. -/
opaque hssVerify : List Byte → List Byte → List Byte → Bool

/-- The identity signature of R561 over a message, with the top leaf, the bottom tree's leaf: 5,236 bytes, read by index. -/
opaque identitySign : Nat → Nat → List Byte → Nat → Byte

/-- The top LMS public key in an X.509 certificate (R562, R565): the root that the node table must rebuild; and the root rebuilt from a
node table. -/
opaque certRoot : List Byte → List Byte
opaque treeRoot : List Byte → List Byte

/-- The SHA-256 hashes of the eight vendor keys in the boot ROM (R544). -/
opaque vendorKey : Nat → List Byte

/-- The sign of the zero that a maximum (`true`) or a minimum of two zeros of unlike sign gives, from the signs of its operands in
order: the spec states none for ELTW, ACT and REDUCE (R266, R268, R272). -/
opaque extremeZero : Bool → Bool → Bool → Bool

/-- The FP32 code that the special-function unit gives for a function and an input code, within the bound of R269. -/
opaque sfu : Nat → Nat → Nat

/-- TX_LOG2 and TY_LOG2 of the tiles of a mapped input of LB_CONV, from its descriptor: LB_CONV has no TILE field, and the spec names no
other source of the shape (R219, R227, R240). -/
opaque lambTile : List Byte → Nat × Nat

/-- The octets of a frame that the control processors compose for a camera port, FCS included, by a number drawn for the frame: the spec does
not say what the firmware writes into every field (R95). -/
opaque frameOctets : Nat → List Byte

end Sys2Proof.Config
end

