-- ==== Sys2Proof/Machine/Flags.lean ====
section
/-! DEFINITION. The checks and small computations that many units share: rounding (R201), the CRCs (R101, R465, R482), the
comparison of positions (R18), the severities of events (R619). -/

namespace Sys2Proof.Machine

/-- Division rounded to nearest, ties to even (R201). -/
def rneDiv (a : Int) (b : Nat) : Int :=
  let q := a / (b : Int)
  let r := a % (b : Int)
  if 2 * r > (b : Int) then q + 1
  else if 2 * r = (b : Int) ∧ q % 2 = 1 then q + 1
  else q

/-- Division by a power of two rounded to nearest, ties to even; exact for a power that is not positive (R201). -/
def rne (p : Int) (n : Int) : Int :=
  if n ≤ 0 then p * 2 ^ (-n).toNat else rneDiv p (2 ^ n.toNat)

/-- One bit of a reflected CRC-32 register (R101). -/
def crc32Bit (c : Nat) : Nat := if c % 2 = 1 then (c / 2) ^^^ 0xEDB88320 else c / 2

/-- One byte of the CRC-32. -/
def crc32Byte (c : Nat) (b : Byte) : Nat :=
  crc32Bit (crc32Bit (crc32Bit (crc32Bit (crc32Bit (crc32Bit (crc32Bit (crc32Bit (c ^^^ b.toNat))))))))

/-- CRC-32 as the IEEE 802.3 frame check sequence: reflected, initial value all ones, final complement (R101). -/
def crc32 (l : List Byte) : Nat := (l.foldl crc32Byte 0xFFFFFFFF) ^^^ 0xFFFFFFFF

/-- One bit of the CRC-16 with polynomial 0x1021 (R465). -/
def crc16Bit (c : Nat) : Nat := if c ≥ 0x8000 then ((c * 2) % 0x10000) ^^^ 0x1021 else c * 2

/-- One byte of the CRC-16. -/
def crc16Byte (c : Nat) (b : Byte) : Nat :=
  crc16Bit (crc16Bit (crc16Bit (crc16Bit (crc16Bit (crc16Bit (crc16Bit (crc16Bit (c ^^^ (b.toNat * 256)))))))))

/-- CRC-16 with initial value 0xFFFF, without reflection and without a final complement (R465). -/
def crc16 (l : List Byte) : Nat := l.foldl crc16Byte 0xFFFF

/-- One bit of the CRC-8 with polynomial 0x07 (R482). -/
def crc8Bit (c : Nat) : Nat := if c ≥ 0x80 then ((c * 2) % 0x100) ^^^ 0x07 else c * 2

/-- One byte of the CRC-8. -/
def crc8Byte (c : Nat) (b : Byte) : Nat :=
  crc8Bit (crc8Bit (crc8Bit (crc8Bit (crc8Bit (crc8Bit (crc8Bit (crc8Bit (c ^^^ b.toNat))))))))

/-- CRC-8 with initial value 0xFF (R482). -/
def crc8 (l : List Byte) : Nat := l.foldl crc8Byte 0xFF

/-- A bit of a mask set or cleared. -/
def maskSet (m i : Nat) (b : Bool) : Nat := if b then m ||| 2 ^ i else if m.testBit i then m - 2 ^ i else m

/-- A position wrapped to 48 bits (R18). -/
def pos48 (p : Int) : Int := sx 48 (toU 48 p)

/-- The difference of two positions of one encoder, modulo 2^48 and read as signed (R18). -/
def posDiff (a b : Int) : Int := pos48 (a - b)

/-- The difference of two free-running 32-bit ring indices (R442). -/
def idxDiff (a b : Nat) : Nat := (a + 2 ^ 32 - b % 2 ^ 32) % 2 ^ 32

/-- The severity of an event code (R619): 0 INFO, 1 NOTICE, 2 ALARM, 3 CRITICAL. -/
def severity (code : Nat) : Nat :=
  if [0x0102, 0x0401, 0x0404, 0x0501, 0x0604, 0x0902, 0x0A01, 0x0C02, 0x0D02, 0x0E01, 0x0E0A, 0x0E0C].contains code then 0
  else if [0x0101, 0x0202, 0x0203, 0x0302, 0x0402, 0x0403, 0x0406, 0x0408, 0x0502, 0x0904, 0x0B01, 0x0B02, 0x0C01, 0x0C03,
      0x0E02, 0x0E03, 0x0E04, 0x0E0B].contains code then 1
  else if [0x0702, 0x0804, 0x0903, 0x0D01, 0x0E06, 0x0E07, 0x0E08, 0x0E09, 0x0E0D].contains code then 3
  else 2

end Sys2Proof.Machine
end

