-- ==== Sys2Proof/Machine/Regs.lean ====
section
/-! DEFINITION. The registers of the fifteen blocks (R2), read from the register tables of the spec: for each register its
address and the address of each field, and the description rows that the register port reads. -/

namespace Sys2Proof.Machine

/-- ID_PART (R11): the address. -/
def ID_PART : Nat := 0x40000000
/-- PART_NUM of ID_PART (R11). -/
def ID_PART_PART_NUM : Fld := ⟨ID_PART, 16, 16, 12896⟩
/-- VARIANT of ID_PART (R11). -/
def ID_PART_VARIANT : Fld := ⟨ID_PART, 8, 8, 1⟩
/-- STEPPING of ID_PART (R11). -/
def ID_PART_STEPPING : Fld := ⟨ID_PART, 0, 8, 0⟩

/-- ID_ARCH (R12): the address. -/
def ID_ARCH : Nat := 0x40000004
/-- DESC_VERS of ID_ARCH (R12). -/
def ID_ARCH_DESC_VERS : Fld := ⟨ID_ARCH, 16, 16, 2⟩
/-- ARCH_GEN of ID_ARCH (R12). -/
def ID_ARCH_ARCH_GEN : Fld := ⟨ID_ARCH, 0, 8, 1⟩

/-- ID_IMGGEN (R13): the address. -/
def ID_IMGGEN : Nat := 0x40000008
/-- IMG_GEN_MAX of ID_IMGGEN (R13). -/
def ID_IMGGEN_IMG_GEN_MAX : Fld := ⟨ID_IMGGEN, 8, 8, 0⟩
/-- IMG_GEN_MIN of ID_IMGGEN (R13). -/
def ID_IMGGEN_IMG_GEN_MIN : Fld := ⟨ID_IMGGEN, 0, 8, 0⟩

/-- PS_ENCCFG (R65): the address in window e. -/
def PS_ENCCFG (e : Nat) : Nat := 0x43001000 + 0x100 * e
/-- EN of PS_ENCCFG (R65). -/
def PS_ENCCFG_EN (e : Nat) : Fld := ⟨PS_ENCCFG e, 31, 1, 0⟩
/-- DIR_INV of PS_ENCCFG (R65). -/
def PS_ENCCFG_DIR_INV (e : Nat) : Fld := ⟨PS_ENCCFG e, 30, 1, 0⟩
/-- FILT_N of PS_ENCCFG (R65). -/
def PS_ENCCFG_FILT_N (e : Nat) : Fld := ⟨PS_ENCCFG e, 16, 7, 8⟩

/-- PS_SPDCFG (R66): the address in window e. -/
def PS_SPDCFG (e : Nat) : Nat := 0x43001004 + 0x100 * e
/-- WIN_US of PS_SPDCFG (R66). -/
def PS_SPDCFG_WIN_US (e : Nat) : Fld := ⟨PS_SPDCFG e, 12, 20, 1000⟩
/-- STILL_MS of PS_SPDCFG (R66). -/
def PS_SPDCFG_STILL_MS (e : Nat) : Fld := ⟨PS_SPDCFG e, 0, 12, 100⟩

/-- PS_IDXCHK (R67): the address in window e. -/
def PS_IDXCHK (e : Nat) : Nat := 0x43001008 + 0x100 * e
/-- TOL of PS_IDXCHK (R67). -/
def PS_IDXCHK_TOL (e : Nat) : Fld := ⟨PS_IDXCHK e, 28, 4, 0⟩
/-- CHK_EN of PS_IDXCHK (R67). -/
def PS_IDXCHK_CHK_EN (e : Nat) : Fld := ⟨PS_IDXCHK e, 27, 1, 0⟩
/-- ZGATE of PS_IDXCHK (R67). -/
def PS_IDXCHK_ZGATE (e : Nat) : Fld := ⟨PS_IDXCHK e, 26, 1, 0⟩
/-- LPR of PS_IDXCHK (R67). -/
def PS_IDXCHK_LPR (e : Nat) : Fld := ⟨PS_IDXCHK e, 0, 22, 0⟩

/-- PS_POS (R68): the address in window e. -/
def PS_POS (e : Nat) : Nat := 0x43001010 + 0x100 * e
/-- POS_SX of PS_POS (R68). -/
def PS_POS_POS_SX (e : Nat) : Fld := ⟨PS_POS e, 48, 16, 0⟩
/-- POS of PS_POS (R68). -/
def PS_POS_POS (e : Nat) : Fld := ⟨PS_POS e, 0, 48, 0⟩

/-- PS_IDXPOS (R69): the address in window e. -/
def PS_IDXPOS (e : Nat) : Nat := 0x43001018 + 0x100 * e
/-- IDX_VALID of PS_IDXPOS (R69). -/
def PS_IDXPOS_IDX_VALID (e : Nat) : Fld := ⟨PS_IDXPOS e, 63, 1, 0⟩
/-- IDX_POS of PS_IDXPOS (R69). -/
def PS_IDXPOS_IDX_POS (e : Nat) : Fld := ⟨PS_IDXPOS e, 0, 48, 0⟩

/-- PS_SPEED (R70): the address in window e. -/
def PS_SPEED (e : Nat) : Nat := 0x43001020 + 0x100 * e
/-- STILL of PS_SPEED (R70). -/
def PS_SPEED_STILL (e : Nat) : Fld := ⟨PS_SPEED e, 63, 1, 1⟩
/-- PARTIAL of PS_SPEED (R70). -/
def PS_SPEED_PARTIAL (e : Nat) : Fld := ⟨PS_SPEED e, 62, 1, 0⟩
/-- DIR of PS_SPEED (R70). -/
def PS_SPEED_DIR (e : Nat) : Fld := ⟨PS_SPEED e, 61, 1, 0⟩
/-- WIN_US of PS_SPEED (R70). -/
def PS_SPEED_WIN_US (e : Nat) : Fld := ⟨PS_SPEED e, 32, 20, 0⟩
/-- COUNT of PS_SPEED (R70). -/
def PS_SPEED_COUNT (e : Nat) : Fld := ⟨PS_SPEED e, 0, 32, 0⟩

/-- PS_DRIFT (R71): the address in window e. -/
def PS_DRIFT (e : Nat) : Nat := 0x43001028 + 0x100 * e
/-- DRIFT of PS_DRIFT (R71). -/
def PS_DRIFT_DRIFT (e : Nat) : Fld := ⟨PS_DRIFT e, 0, 32, 0⟩

/-- PS_ENCSTAT (R72): the address in window e. -/
def PS_ENCSTAT (e : Nat) : Nat := 0x4300102C + 0x100 * e
/-- FAILED of PS_ENCSTAT (R72). -/
def PS_ENCSTAT_FAILED (e : Nat) : Fld := ⟨PS_ENCSTAT e, 31, 1, 0⟩
/-- SLIP of PS_ENCSTAT (R72). -/
def PS_ENCSTAT_SLIP (e : Nat) : Fld := ⟨PS_ENCSTAT e, 30, 1, 0⟩
/-- QERR of PS_ENCSTAT (R72). -/
def PS_ENCSTAT_QERR (e : Nat) : Fld := ⟨PS_ENCSTAT e, 29, 1, 0⟩
/-- LINEFLT of PS_ENCSTAT (R72). -/
def PS_ENCSTAT_LINEFLT (e : Nat) : Fld := ⟨PS_ENCSTAT e, 28, 1, 0⟩
/-- LINKLOST of PS_ENCSTAT (R72). -/
def PS_ENCSTAT_LINKLOST (e : Nat) : Fld := ⟨PS_ENCSTAT e, 27, 1, 0⟩
/-- SLIP_CNT of PS_ENCSTAT (R72). -/
def PS_ENCSTAT_SLIP_CNT (e : Nat) : Fld := ⟨PS_ENCSTAT e, 0, 16, 0⟩

/-- PS_ENCCTL (R73): the address in window e. -/
def PS_ENCCTL (e : Nat) : Nat := 0x43001030 + 0x100 * e
/-- CLR_FAIL of PS_ENCCTL (R73). -/
def PS_ENCCTL_CLR_FAIL (e : Nat) : Fld := ⟨PS_ENCCTL e, 1, 1, 0⟩
/-- CLR_DRIFT of PS_ENCCTL (R73). -/
def PS_ENCCTL_CLR_DRIFT (e : Nat) : Fld := ⟨PS_ENCCTL e, 0, 1, 0⟩

/-- PS_TRGCFG (R74): the address in window t. -/
def PS_TRGCFG (t : Nat) : Nat := 0x43002000 + 0x40 * t
/-- EN of PS_TRGCFG (R74). -/
def PS_TRGCFG_EN (t : Nat) : Fld := ⟨PS_TRGCFG t, 31, 1, 0⟩
/-- ENC_SEL of PS_TRGCFG (R74). -/
def PS_TRGCFG_ENC_SEL (t : Nat) : Fld := ⟨PS_TRGCFG t, 24, 3, 0⟩
/-- PW of PS_TRGCFG (R74). -/
def PS_TRGCFG_PW (t : Nat) : Fld := ⟨PS_TRGCFG t, 0, 8, 20⟩

/-- PS_TRGDIV (R75): the address in window t. -/
def PS_TRGDIV (t : Nat) : Nat := 0x43002008 + 0x40 * t
/-- N_INT of PS_TRGDIV (R75). -/
def PS_TRGDIV_N_INT (t : Nat) : Fld := ⟨PS_TRGDIV t, 16, 24, 1⟩
/-- M_FRAC of PS_TRGDIV (R75). -/
def PS_TRGDIV_M_FRAC (t : Nat) : Fld := ⟨PS_TRGDIV t, 0, 16, 0⟩

/-- PS_TRGSTART (R76): the address in window t. -/
def PS_TRGSTART (t : Nat) : Nat := 0x43002010 + 0x40 * t
/-- START of PS_TRGSTART (R76). -/
def PS_TRGSTART_START (t : Nat) : Fld := ⟨PS_TRGSTART t, 0, 48, 0⟩

/-- PS_TRGNUM (R77): the address in window t. -/
def PS_TRGNUM (t : Nat) : Nat := 0x43002018 + 0x40 * t
/-- TRGNUM of PS_TRGNUM (R77). -/
def PS_TRGNUM_TRGNUM (t : Nat) : Fld := ⟨PS_TRGNUM t, 0, 32, 0⟩

/-- PS_TRGSTAT (R78): the address in window t. -/
def PS_TRGSTAT (t : Nat) : Nat := 0x4300201C + 0x40 * t
/-- OVR of PS_TRGSTAT (R78). -/
def PS_TRGSTAT_OVR (t : Nat) : Fld := ⟨PS_TRGSTAT t, 31, 1, 0⟩
/-- DROP_CNT of PS_TRGSTAT (R78). -/
def PS_TRGSTAT_DROP_CNT (t : Nat) : Fld := ⟨PS_TRGSTAT t, 0, 16, 0⟩

/-- PS_TRGLAST (R79): the address in window t. -/
def PS_TRGLAST (t : Nat) : Nat := 0x43002020 + 0x40 * t
/-- LAST_POS of PS_TRGLAST (R79). -/
def PS_TRGLAST_LAST_POS (t : Nat) : Fld := ⟨PS_TRGLAST t, 0, 48, 0⟩

/-- PS_THCFG (R80): the address. -/
def PS_THCFG : Nat := 0x43003000
/-- TH_EN of PS_THCFG (R80). -/
def PS_THCFG_TH_EN : Fld := ⟨PS_THCFG, 0, 4, 0⟩

/-- PS_THBASE (R81): the address. -/
def PS_THBASE : Nat := 0x43003008
/-- BASE of PS_THBASE (R81). -/
def PS_THBASE_BASE : Fld := ⟨PS_THBASE, 20, 15, 0⟩

/-- LN_LANECFG (R109): the address in window l. -/
def LN_LANECFG (l : Nat) : Nat := 0x41001000 + 0x100 * l
/-- EN of LN_LANECFG (R109). -/
def LN_LANECFG_EN (l : Nat) : Fld := ⟨LN_LANECFG l, 31, 1, 0⟩
/-- RATE of LN_LANECFG (R109). -/
def LN_LANECFG_RATE (l : Nat) : Fld := ⟨LN_LANECFG l, 30, 1, 0⟩
/-- POL_AUTO of LN_LANECFG (R109). -/
def LN_LANECFG_POL_AUTO (l : Nat) : Fld := ⟨LN_LANECFG l, 29, 1, 1⟩
/-- POL_INV_TX of LN_LANECFG (R109). -/
def LN_LANECFG_POL_INV_TX (l : Nat) : Fld := ⟨LN_LANECFG l, 28, 1, 0⟩
/-- LPI_EN of LN_LANECFG (R109). -/
def LN_LANECFG_LPI_EN (l : Nat) : Fld := ⟨LN_LANECFG l, 27, 1, 0⟩
/-- LOOP of LN_LANECFG (R109). -/
def LN_LANECFG_LOOP (l : Nat) : Fld := ⟨LN_LANECFG l, 24, 3, 0⟩
/-- TESTPAT of LN_LANECFG (R109). -/
def LN_LANECFG_TESTPAT (l : Nat) : Fld := ⟨LN_LANECFG l, 22, 2, 0⟩
/-- LPI_IDLE of LN_LANECFG (R109). -/
def LN_LANECFG_LPI_IDLE (l : Nat) : Fld := ⟨LN_LANECFG l, 0, 16, 100⟩

/-- LN_LANESTAT (R110): the address in window l. -/
def LN_LANESTAT (l : Nat) : Nat := 0x41001004 + 0x100 * l
/-- STATE of LN_LANESTAT (R110). -/
def LN_LANESTAT_STATE (l : Nat) : Fld := ⟨LN_LANESTAT l, 29, 3, 0⟩
/-- RX_POL_INV of LN_LANESTAT (R110). -/
def LN_LANESTAT_RX_POL_INV (l : Nat) : Fld := ⟨LN_LANESTAT l, 28, 1, 0⟩
/-- LPI_TX of LN_LANESTAT (R110). -/
def LN_LANESTAT_LPI_TX (l : Nat) : Fld := ⟨LN_LANESTAT l, 27, 1, 0⟩
/-- LPI_RX of LN_LANESTAT (R110). -/
def LN_LANESTAT_LPI_RX (l : Nat) : Fld := ⟨LN_LANESTAT l, 26, 1, 0⟩
/-- LOCKLOSS of LN_LANESTAT (R110). -/
def LN_LANESTAT_LOCKLOSS (l : Nat) : Fld := ⟨LN_LANESTAT l, 25, 1, 0⟩
/-- LOCKLOSS_CNT of LN_LANESTAT (R110). -/
def LN_LANESTAT_LOCKLOSS_CNT (l : Nat) : Fld := ⟨LN_LANESTAT l, 0, 16, 0⟩

/-- LN_LANEERR (R111): the address in window l. -/
def LN_LANEERR (l : Nat) : Nat := 0x41001008 + 0x100 * l
/-- BADHDR_CNT of LN_LANEERR (R111). -/
def LN_LANEERR_BADHDR_CNT (l : Nat) : Fld := ⟨LN_LANEERR l, 16, 16, 0⟩
/-- PRBS_ERR of LN_LANEERR (R111). -/
def LN_LANEERR_PRBS_ERR (l : Nat) : Fld := ⟨LN_LANEERR l, 0, 16, 0⟩

/-- LN_PORTADDR (R112): the address in window l. -/
def LN_PORTADDR (l : Nat) : Nat := 0x41001010 + 0x100 * l
/-- GVSP_PORT of LN_PORTADDR (R112). -/
def LN_PORTADDR_GVSP_PORT (l : Nat) : Fld := ⟨LN_PORTADDR l, 48, 16, 0⟩
/-- MAC of LN_PORTADDR (R112). -/
def LN_PORTADDR_MAC (l : Nat) : Fld := ⟨LN_PORTADDR l, 0, 48, 0⟩

/-- LN_PORTIP (R113): the address in window l. -/
def LN_PORTIP (l : Nat) : Nat := 0x41001018 + 0x100 * l
/-- MCAST of LN_PORTIP (R113). -/
def LN_PORTIP_MCAST (l : Nat) : Fld := ⟨LN_PORTIP l, 32, 32, 0⟩
/-- IPV4 of LN_PORTIP (R113). -/
def LN_PORTIP_IPV4 (l : Nat) : Fld := ⟨LN_PORTIP l, 0, 32, 0⟩

/-- LN_PORTCNT (R114): the address in window l. -/
def LN_PORTCNT (l : Nat) : Nat := 0x41001020 + 0x100 * l
/-- FCS_ERR of LN_PORTCNT (R114). -/
def LN_PORTCNT_FCS_ERR (l : Nat) : Fld := ⟨LN_PORTCNT l, 48, 16, 0⟩
/-- FILTERED of LN_PORTCNT (R114). -/
def LN_PORTCNT_FILTERED (l : Nat) : Fld := ⟨LN_PORTCNT l, 32, 16, 0⟩
/-- FW_OVF of LN_PORTCNT (R114). -/
def LN_PORTCNT_FW_OVF (l : Nat) : Fld := ⟨LN_PORTCNT l, 16, 16, 0⟩
/-- OVERSIZE of LN_PORTCNT (R114). -/
def LN_PORTCNT_OVERSIZE (l : Nat) : Fld := ⟨LN_PORTCNT l, 0, 16, 0⟩

/-- LN_DRVCFG (R115): the address. -/
def LN_DRVCFG : Nat := 0x41003000
/-- EN of LN_DRVCFG (R115). -/
def LN_DRVCFG_EN : Fld := ⟨LN_DRVCFG, 31, 1, 0⟩
/-- RETRY_LIMIT of LN_DRVCFG (R115). -/
def LN_DRVCFG_RETRY_LIMIT : Fld := ⟨LN_DRVCFG, 16, 8, 16⟩
/-- ACK_TIMEOUT of LN_DRVCFG (R115). -/
def LN_DRVCFG_ACK_TIMEOUT : Fld := ⟨LN_DRVCFG, 0, 16, 2000⟩

/-- LN_DRVSTAT (R116): the address. -/
def LN_DRVSTAT : Nat := 0x41003004
/-- STATE of LN_DRVSTAT (R116). -/
def LN_DRVSTAT_STATE : Fld := ⟨LN_DRVSTAT, 29, 3, 0⟩
/-- REVERSED of LN_DRVSTAT (R116). -/
def LN_DRVSTAT_REVERSED : Fld := ⟨LN_DRVSTAT, 28, 1, 0⟩
/-- DOWN_SEEN of LN_DRVSTAT (R116). -/
def LN_DRVSTAT_DOWN_SEEN : Fld := ⟨LN_DRVSTAT, 27, 1, 0⟩
/-- CAUSE of LN_DRVSTAT (R116). -/
def LN_DRVSTAT_CAUSE : Fld := ⟨LN_DRVSTAT, 24, 3, 0⟩
/-- SKEW of LN_DRVSTAT (R116). -/
def LN_DRVSTAT_SKEW : Fld := ⟨LN_DRVSTAT, 16, 8, 0⟩
/-- DOWN_CNT of LN_DRVSTAT (R116). -/
def LN_DRVSTAT_DOWN_CNT : Fld := ⟨LN_DRVSTAT, 0, 16, 0⟩

/-- LN_DRVCNT (R117): the address. -/
def LN_DRVCNT : Nat := 0x41003008
/-- RETRY_CNT of LN_DRVCNT (R117). -/
def LN_DRVCNT_RETRY_CNT : Fld := ⟨LN_DRVCNT, 32, 32, 0⟩
/-- CRC_ERR of LN_DRVCNT (R117). -/
def LN_DRVCNT_CRC_ERR : Fld := ⟨LN_DRVCNT, 0, 32, 0⟩

/-- IN_STRCFG (R139): the address in window n. -/
def IN_STRCFG (n : Nat) : Nat := 0x42001000 + 0x80 * n
/-- EN of IN_STRCFG (R139). -/
def IN_STRCFG_EN (n : Nat) : Fld := ⟨IN_STRCFG n, 31, 1, 0⟩
/-- VIEW of IN_STRCFG (R139). -/
def IN_STRCFG_VIEW (n : Nat) : Fld := ⟨IN_STRCFG n, 24, 4, 0⟩
/-- PIXFMT of IN_STRCFG (R139). -/
def IN_STRCFG_PIXFMT (n : Nat) : Fld := ⟨IN_STRCFG n, 20, 2, 0⟩
/-- BLK_H of IN_STRCFG (R139). -/
def IN_STRCFG_BLK_H (n : Nat) : Fld := ⟨IN_STRCFG n, 8, 7, 1⟩

/-- IN_STRGEOM (R140): the address in window n. -/
def IN_STRGEOM (n : Nat) : Nat := 0x42001008 + 0x80 * n
/-- X_OFS of IN_STRGEOM (R140). -/
def IN_STRGEOM_X_OFS (n : Nat) : Fld := ⟨IN_STRGEOM n, 32, 17, 0⟩
/-- WIDTH of IN_STRGEOM (R140). -/
def IN_STRGEOM_WIDTH (n : Nat) : Fld := ⟨IN_STRGEOM n, 0, 17, 0⟩

/-- IN_STRCHUNK (R141): the address in window n. -/
def IN_STRCHUNK (n : Nat) : Nat := 0x42001010 + 0x80 * n
/-- TRIG_CHUNK_ID of IN_STRCHUNK (R141). -/
def IN_STRCHUNK_TRIG_CHUNK_ID (n : Nat) : Fld := ⟨IN_STRCHUNK n, 0, 32, 0⟩

/-- IN_STRBIAS (R142): the address in window n. -/
def IN_STRBIAS (n : Nat) : Nat := 0x42001014 + 0x80 * n
/-- TRG_BIAS of IN_STRBIAS (R142). -/
def IN_STRBIAS_TRG_BIAS (n : Nat) : Fld := ⟨IN_STRBIAS n, 0, 32, 0⟩

/-- IN_STRSTAT (R143): the address in window n. -/
def IN_STRSTAT (n : Nat) : Nat := 0x42001018 + 0x80 * n
/-- FMT_ERR of IN_STRSTAT (R143). -/
def IN_STRSTAT_FMT_ERR (n : Nat) : Fld := ⟨IN_STRSTAT n, 48, 16, 0⟩
/-- DUP_PKT of IN_STRSTAT (R143). -/
def IN_STRSTAT_DUP_PKT (n : Nat) : Fld := ⟨IN_STRSTAT n, 32, 16, 0⟩
/-- LOST_PKT of IN_STRSTAT (R143). -/
def IN_STRSTAT_LOST_PKT (n : Nat) : Fld := ⟨IN_STRSTAT n, 16, 16, 0⟩
/-- BLK_ABANDON of IN_STRSTAT (R143). -/
def IN_STRSTAT_BLK_ABANDON (n : Nat) : Fld := ⟨IN_STRSTAT n, 0, 16, 0⟩

/-- IN_STRCTL (R144): the address in window n. -/
def IN_STRCTL (n : Nat) : Nat := 0x42001020 + 0x80 * n
/-- BUSY of IN_STRCTL (R144). -/
def IN_STRCTL_BUSY (n : Nat) : Fld := ⟨IN_STRCTL n, 31, 1, 0⟩
/-- SETUP_FAIL of IN_STRCTL (R144). -/
def IN_STRCTL_SETUP_FAIL (n : Nat) : Fld := ⟨IN_STRCTL n, 30, 1, 0⟩
/-- FAIL_STEP of IN_STRCTL (R144). -/
def IN_STRCTL_FAIL_STEP (n : Nat) : Fld := ⟨IN_STRCTL n, 27, 3, 0⟩
/-- SETUP of IN_STRCTL (R144). -/
def IN_STRCTL_SETUP (n : Nat) : Fld := ⟨IN_STRCTL n, 0, 1, 0⟩

/-- IN_VIEWCFG (R145): the address in window v. -/
def IN_VIEWCFG (v : Nat) : Nat := 0x42002000 + 0x40 * v
/-- EN of IN_VIEWCFG (R145). -/
def IN_VIEWCFG_EN (v : Nat) : Fld := ⟨IN_VIEWCFG v, 31, 1, 0⟩
/-- TAGMODE of IN_VIEWCFG (R145). -/
def IN_VIEWCFG_TAGMODE (v : Nat) : Fld := ⟨IN_VIEWCFG v, 30, 1, 0⟩
/-- TRG_OUT of IN_VIEWCFG (R145). -/
def IN_VIEWCFG_TRG_OUT (v : Nat) : Fld := ⟨IN_VIEWCFG v, 24, 3, 0⟩
/-- MAX_FILL of IN_VIEWCFG (R145). -/
def IN_VIEWCFG_MAX_FILL (v : Nat) : Fld := ⟨IN_VIEWCFG v, 16, 3, 0⟩
/-- LINE_TMO of IN_VIEWCFG (R145). -/
def IN_VIEWCFG_LINE_TMO (v : Nat) : Fld := ⟨IN_VIEWCFG v, 0, 16, 200⟩

/-- IN_VIEWYOFS (R146): the address in window v. -/
def IN_VIEWYOFS (v : Nat) : Nat := 0x42002004 + 0x40 * v
/-- Y_OFS of IN_VIEWYOFS (R146). -/
def IN_VIEWYOFS_Y_OFS (v : Nat) : Fld := ⟨IN_VIEWYOFS v, 0, 32, 0⟩

/-- IN_VIEWEXPO (R147): the address in window v. -/
def IN_VIEWEXPO (v : Nat) : Nat := 0x42002008 + 0x40 * v
/-- EXPO_OFS of IN_VIEWEXPO (R147). -/
def IN_VIEWEXPO_EXPO_OFS (v : Nat) : Fld := ⟨IN_VIEWEXPO v, 0, 32, 0⟩

/-- IN_VIEWSTAT (R148): the address in window v. -/
def IN_VIEWSTAT (v : Nat) : Nat := 0x42002010 + 0x40 * v
/-- MISSING of IN_VIEWSTAT (R148). -/
def IN_VIEWSTAT_MISSING (v : Nat) : Fld := ⟨IN_VIEWSTAT v, 48, 16, 0⟩
/-- FILLED of IN_VIEWSTAT (R148). -/
def IN_VIEWSTAT_FILLED (v : Nat) : Fld := ⟨IN_VIEWSTAT v, 32, 16, 0⟩
/-- TAG_INV of IN_VIEWSTAT (R148). -/
def IN_VIEWSTAT_TAG_INV (v : Nat) : Fld := ⟨IN_VIEWSTAT v, 16, 16, 0⟩
/-- LATE_LINE of IN_VIEWSTAT (R148). -/
def IN_VIEWSTAT_LATE_LINE (v : Nat) : Fld := ⟨IN_VIEWSTAT v, 0, 16, 0⟩

/-- IN_RPLCFG (R149): the address. -/
def IN_RPLCFG : Nat := 0x42003000
/-- EN of IN_RPLCFG (R149). -/
def IN_RPLCFG_EN : Fld := ⟨IN_RPLCFG, 63, 1, 0⟩
/-- RING of IN_RPLCFG (R149). -/
def IN_RPLCFG_RING : Fld := ⟨IN_RPLCFG, 32, 16, 0⟩

/-- IN_RPLCACHE (R150): the address. -/
def IN_RPLCACHE : Nat := 0x42003008
/-- SLOT_MIB of IN_RPLCACHE (R150). -/
def IN_RPLCACHE_SLOT_MIB : Fld := ⟨IN_RPLCACHE, 56, 8, 0⟩
/-- SLOTS of IN_RPLCACHE (R150). -/
def IN_RPLCACHE_SLOTS : Fld := ⟨IN_RPLCACHE, 40, 16, 0⟩
/-- BASE of IN_RPLCACHE (R150). -/
def IN_RPLCACHE_BASE : Fld := ⟨IN_RPLCACHE, 20, 15, 0⟩

/-- IN_RPLSTAT (R151): the address. -/
def IN_RPLSTAT : Nat := 0x42003010
/-- DONE of IN_RPLSTAT (R151). -/
def IN_RPLSTAT_DONE : Fld := ⟨IN_RPLSTAT, 40, 24, 0⟩
/-- NOTDEC of IN_RPLSTAT (R151). -/
def IN_RPLSTAT_NOTDEC : Fld := ⟨IN_RPLSTAT, 16, 24, 0⟩
/-- CACHE_SKIP of IN_RPLSTAT (R151). -/
def IN_RPLSTAT_CACHE_SKIP : Fld := ⟨IN_RPLSTAT, 0, 16, 0⟩

/-- IN_RPLCTL (R152): the address. -/
def IN_RPLCTL : Nat := 0x42003018
/-- CLR_STAT of IN_RPLCTL (R152). -/
def IN_RPLCTL_CLR_STAT : Fld := ⟨IN_RPLCTL, 0, 1, 0⟩

/-- PX_EPOCH (R177): the address. -/
def PX_EPOCH : Nat := 0x45000000
/-- STATE of PX_EPOCH (R177). -/
def PX_EPOCH_STATE : Fld := ⟨PX_EPOCH, 30, 2, 0⟩
/-- APPROVE_REQ of PX_EPOCH (R177). -/
def PX_EPOCH_APPROVE_REQ : Fld := ⟨PX_EPOCH, 16, 1, 0⟩
/-- EPOCH of PX_EPOCH (R177). -/
def PX_EPOCH_EPOCH : Fld := ⟨PX_EPOCH, 0, 16, 0⟩

/-- PX_EPOCHCTL (R178): the address. -/
def PX_EPOCHCTL : Nat := 0x45000004
/-- DISCARD of PX_EPOCHCTL (R178). -/
def PX_EPOCHCTL_DISCARD : Fld := ⟨PX_EPOCHCTL, 1, 1, 0⟩
/-- APPROVE of PX_EPOCHCTL (R178). -/
def PX_EPOCHCTL_APPROVE : Fld := ⟨PX_EPOCHCTL, 0, 1, 0⟩

/-- PX_DEFER (R179): the address. -/
def PX_DEFER : Nat := 0x45000008
/-- MAXDEFER of PX_DEFER (R179). -/
def PX_DEFER_MAXDEFER : Fld := ⟨PX_DEFER, 0, 24, 100000⟩

/-- PX_AUDCFG (R180): the address. -/
def PX_AUDCFG : Nat := 0x45000010
/-- RING of PX_AUDCFG (R180). -/
def PX_AUDCFG_RING : Fld := ⟨PX_AUDCFG, 48, 16, 0⟩
/-- BUF_MIB of PX_AUDCFG (R180). -/
def PX_AUDCFG_BUF_MIB : Fld := ⟨PX_AUDCFG, 40, 8, 0⟩
/-- BASE of PX_AUDCFG (R180). -/
def PX_AUDCFG_BASE : Fld := ⟨PX_AUDCFG, 20, 15, 0⟩

/-- PX_VCFG (R181): the address in window v. -/
def PX_VCFG (v : Nat) : Nat := 0x45001000 + 0x40 * v
/-- COR_EN of PX_VCFG (R181). -/
def PX_VCFG_COR_EN (v : Nat) : Fld := ⟨PX_VCFG v, 31, 1, 0⟩
/-- GZ_EN of PX_VCFG (R181). -/
def PX_VCFG_GZ_EN (v : Nat) : Fld := ⟨PX_VCFG v, 30, 1, 0⟩
/-- IL_EN of PX_VCFG (R181). -/
def PX_VCFG_IL_EN (v : Nat) : Fld := ⟨PX_VCFG v, 29, 1, 0⟩
/-- GZ_LOG2N of PX_VCFG (R181). -/
def PX_VCFG_GZ_LOG2N (v : Nat) : Fld := ⟨PX_VCFG v, 20, 4, 12⟩
/-- IL_K of PX_VCFG (R181). -/
def PX_VCFG_IL_K (v : Nat) : Fld := ⟨PX_VCFG v, 16, 4, 6⟩
/-- SLEW of PX_VCFG (R181). -/
def PX_VCFG_SLEW (v : Nat) : Fld := ⟨PX_VCFG v, 0, 16, 256⟩

/-- PX_VSTRIP (R182): the address in window v. -/
def PX_VSTRIP (v : Nat) : Nat := 0x45001004 + 0x40 * v
/-- SW_LOG2 of PX_VSTRIP (R182). -/
def PX_VSTRIP_SW_LOG2 (v : Nat) : Fld := ⟨PX_VSTRIP v, 28, 4, 8⟩
/-- SX0 of PX_VSTRIP (R182). -/
def PX_VSTRIP_SX0 (v : Nat) : Fld := ⟨PX_VSTRIP v, 0, 17, 0⟩

/-- PX_VSET (R183): the address in window v. -/
def PX_VSET (v : Nat) : Nat := 0x45001008 + 0x40 * v
/-- IL_TGT of PX_VSET (R183). -/
def PX_VSET_IL_TGT (v : Nat) : Fld := ⟨PX_VSET v, 16, 16, 230⟩
/-- BG_TGT of PX_VSET (R183). -/
def PX_VSET_BG_TGT (v : Nat) : Fld := ⟨PX_VSET v, 0, 16, 200⟩

/-- PX_VLS (R184): the address in window v. -/
def PX_VLS (v : Nat) : Nat := 0x4500100C + 0x40 * v
/-- LS_LINES of PX_VLS (R184). -/
def PX_VLS_LS_LINES (v : Nat) : Fld := ⟨PX_VLS v, 0, 12, 64⟩

/-- PX_VPITCH (R185): the address in window v. -/
def PX_VPITCH (v : Nat) : Nat := 0x45001014 + 0x40 * v
/-- PITCH of PX_VPITCH (R185). -/
def PX_VPITCH_PITCH (v : Nat) : Fld := ⟨PX_VPITCH v, 0, 32, 65536⟩

/-- PX_VSTAT (R186): the address in window v. -/
def PX_VSTAT (v : Nat) : Nat := 0x45001018 + 0x40 * v
/-- DEF_DYN of PX_VSTAT (R186). -/
def PX_VSTAT_DEF_DYN (v : Nat) : Fld := ⟨PX_VSTAT v, 48, 16, 0⟩
/-- H_CUR of PX_VSTAT (R186). -/
def PX_VSTAT_H_CUR (v : Nat) : Fld := ⟨PX_VSTAT v, 32, 16, 16384⟩
/-- STRIP_BAD of PX_VSTAT (R186). -/
def PX_VSTAT_STRIP_BAD (v : Nat) : Fld := ⟨PX_VSTAT v, 16, 16, 0⟩
/-- LS_HIWAT of PX_VSTAT (R186). -/
def PX_VSTAT_LS_HIWAT (v : Nat) : Fld := ⟨PX_VSTAT v, 0, 16, 0⟩

/-- PX_RCFG (R187): the address in window r. -/
def PX_RCFG (r : Nat) : Nat := 0x45002000 + 0x80 * r
/-- EN of PX_RCFG (R187). -/
def PX_RCFG_EN (r : Nat) : Fld := ⟨PX_RCFG r, 31, 1, 0⟩
/-- SEGMODE of PX_RCFG (R187). -/
def PX_RCFG_SEGMODE (r : Nat) : Fld := ⟨PX_RCFG r, 30, 1, 0⟩
/-- FEED of PX_RCFG (R187). -/
def PX_RCFG_FEED (r : Nat) : Fld := ⟨PX_RCFG r, 29, 1, 0⟩
/-- SEG_N of PX_RCFG (R187). -/
def PX_RCFG_SEG_N (r : Nat) : Fld := ⟨PX_RCFG r, 24, 2, 0⟩
/-- SENS_IN of PX_RCFG (R187). -/
def PX_RCFG_SENS_IN (r : Nat) : Fld := ⟨PX_RCFG r, 20, 4, 0⟩
/-- MARGIN_PRE of PX_RCFG (R187). -/
def PX_RCFG_MARGIN_PRE (r : Nat) : Fld := ⟨PX_RCFG r, 8, 8, 0⟩
/-- MARGIN_POST of PX_RCFG (R187). -/
def PX_RCFG_MARGIN_POST (r : Nat) : Fld := ⟨PX_RCFG r, 0, 8, 0⟩

/-- PX_RVIEW (R188): the address in window r i. -/
def PX_RVIEW (r i : Nat) : Nat := 0x45002004 + 0x80 * r + 0x4 * i
/-- VALID of PX_RVIEW (R188). -/
def PX_RVIEW_VALID (r i : Nat) : Fld := ⟨PX_RVIEW r i, 31, 1, 0⟩
/-- VIEW of PX_RVIEW (R188). -/
def PX_RVIEW_VIEW (r i : Nat) : Fld := ⟨PX_RVIEW r i, 17, 4, 0⟩
/-- X0 of PX_RVIEW (R188). -/
def PX_RVIEW_X0 (r i : Nat) : Fld := ⟨PX_RVIEW r i, 0, 17, 0⟩

/-- PX_RGEOM (R189): the address in window r. -/
def PX_RGEOM (r : Nat) : Nat := 0x45002014 + 0x80 * r
/-- W of PX_RGEOM (R189). -/
def PX_RGEOM_W (r : Nat) : Fld := ⟨PX_RGEOM r, 0, 18, 0⟩

/-- PX_RTHR (R190): the address in window r. -/
def PX_RTHR (r : Nat) : Nat := 0x4500201C + 0x80 * r
/-- T_HI of PX_RTHR (R190). -/
def PX_RTHR_T_HI (r : Nat) : Fld := ⟨PX_RTHR r, 16, 16, 65535⟩
/-- T_LO of PX_RTHR (R190). -/
def PX_RTHR_T_LO (r : Nat) : Fld := ⟨PX_RTHR r, 0, 16, 0⟩

/-- PX_RSEG (R191): the address in window r. -/
def PX_RSEG (r : Nat) : Nat := 0x45002020 + 0x80 * r
/-- SEG_GAP of PX_RSEG (R191). -/
def PX_RSEG_SEG_GAP (r : Nat) : Fld := ⟨PX_RSEG r, 24, 8, 4⟩
/-- MINPIX of PX_RSEG (R191). -/
def PX_RSEG_MINPIX (r : Nat) : Fld := ⟨PX_RSEG r, 0, 18, 64⟩

/-- PX_RSENS (R192): the address in window r. -/
def PX_RSENS (r : Nat) : Nat := 0x45002024 + 0x80 * r
/-- SENS_DIST of PX_RSENS (R192). -/
def PX_RSENS_SENS_DIST (r : Nat) : Fld := ⟨PX_RSENS r, 0, 32, 0⟩

/-- PX_RLEN (R193): the address in window r. -/
def PX_RLEN (r : Nat) : Nat := 0x45002028 + 0x80 * r
/-- LMAX of PX_RLEN (R193). -/
def PX_RLEN_LMAX (r : Nat) : Fld := ⟨PX_RLEN r, 32, 30, 0⟩
/-- LMIN of PX_RLEN (R193). -/
def PX_RLEN_LMIN (r : Nat) : Fld := ⟨PX_RLEN r, 0, 30, 0⟩

/-- PX_RTILE (R194): the address in window r. -/
def PX_RTILE (r : Nat) : Nat := 0x45002030 + 0x80 * r
/-- TSLOTS of PX_RTILE (R194). -/
def PX_RTILE_TSLOTS (r : Nat) : Fld := ⟨PX_RTILE r, 52, 12, 0⟩
/-- SLOT_64K of PX_RTILE (R194). -/
def PX_RTILE_SLOT_64K (r : Nat) : Fld := ⟨PX_RTILE r, 40, 12, 0⟩
/-- BASE of PX_RTILE (R194). -/
def PX_RTILE_BASE (r : Nat) : Fld := ⟨PX_RTILE r, 20, 15, 0⟩

/-- PX_RAUD (R195): the address in window r. -/
def PX_RAUD (r : Nat) : Nat := 0x45002038 + 0x80 * r
/-- AUD_REJ of PX_RAUD (R195). -/
def PX_RAUD_AUD_REJ (r : Nat) : Fld := ⟨PX_RAUD r, 31, 1, 1⟩
/-- AUD_UNJ of PX_RAUD (R195). -/
def PX_RAUD_AUD_UNJ (r : Nat) : Fld := ⟨PX_RAUD r, 30, 1, 1⟩
/-- AUD_EVERY of PX_RAUD (R195). -/
def PX_RAUD_AUD_EVERY (r : Nat) : Fld := ⟨PX_RAUD r, 0, 16, 0⟩

/-- PX_RSTAT (R196): the address in window r. -/
def PX_RSTAT (r : Nat) : Nat := 0x45002040 + 0x80 * r
/-- OVERLONG of PX_RSTAT (R196). -/
def PX_RSTAT_OVERLONG (r : Nat) : Fld := ⟨PX_RSTAT r, 48, 16, 0⟩
/-- SHORT of PX_RSTAT (R196). -/
def PX_RSTAT_SHORT (r : Nat) : Fld := ⟨PX_RSTAT r, 32, 16, 0⟩
/-- FORCED of PX_RSTAT (R196). -/
def PX_RSTAT_FORCED (r : Nat) : Fld := ⟨PX_RSTAT r, 16, 16, 0⟩
/-- AUD_SKIP of PX_RSTAT (R196). -/
def PX_RSTAT_AUD_SKIP (r : Nat) : Fld := ⟨PX_RSTAT r, 0, 16, 0⟩

/-- LB_STREAMCNT (R242): the address. -/
def LB_STREAMCNT : Nat := 0x47000000
/-- STREAMS of LB_STREAMCNT (R242). -/
def LB_STREAMCNT_STREAMS : Fld := ⟨LB_STREAMCNT, 48, 16, 0⟩
/-- WAITED of LB_STREAMCNT (R242). -/
def LB_STREAMCNT_WAITED : Fld := ⟨LB_STREAMCNT, 32, 16, 0⟩
/-- BEHIND of LB_STREAMCNT (R242). -/
def LB_STREAMCNT_BEHIND : Fld := ⟨LB_STREAMCNT, 16, 16, 0⟩
/-- ABANDONED of LB_STREAMCNT (R242). -/
def LB_STREAMCNT_ABANDONED : Fld := ⟨LB_STREAMCNT, 0, 16, 0⟩

/-- LB_SELFTEST (R243): the address. -/
def LB_SELFTEST : Nat := 0x47000008
/-- DONE of LB_SELFTEST (R243). -/
def LB_SELFTEST_DONE : Fld := ⟨LB_SELFTEST, 31, 1, 0⟩
/-- FAIL_MASK of LB_SELFTEST (R243). -/
def LB_SELFTEST_FAIL_MASK : Fld := ⟨LB_SELFTEST, 0, 4, 0⟩

/-- LB_USTAT (R244): the address in window u. -/
def LB_USTAT (u : Nat) : Nat := 0x47000100 + 0x10 * u
/-- BUSY of LB_USTAT (R244). -/
def LB_USTAT_BUSY (u : Nat) : Fld := ⟨LB_USTAT u, 63, 1, 0⟩
/-- IS_STREAM of LB_USTAT (R244). -/
def LB_USTAT_IS_STREAM (u : Nat) : Fld := ⟨LB_USTAT u, 62, 1, 0⟩
/-- RACE of LB_USTAT (R244). -/
def LB_USTAT_RACE (u : Nat) : Fld := ⟨LB_USTAT u, 48, 6, 0⟩
/-- BUSY_US of LB_USTAT (R244). -/
def LB_USTAT_BUSY_US (u : Nat) : Fld := ⟨LB_USTAT u, 0, 32, 0⟩

/-- LB_RSTEM (R245): the address in window r i. -/
def LB_RSTEM (r i : Nat) : Nat := 0x47002000 + 0x80 * r + 0x4 * i
/-- DESC of LB_RSTEM (R245). -/
def LB_RSTEM_DESC (r i : Nat) : Fld := ⟨LB_RSTEM r i, 0, 32, 0⟩

/-- LB_RSTEMOUT (R246): the address in window r. -/
def LB_RSTEMOUT (r : Nat) : Nat := 0x47002040 + 0x80 * r
/-- SLOT_64K of LB_RSTEMOUT (R246). -/
def LB_RSTEMOUT_SLOT_64K (r : Nat) : Fld := ⟨LB_RSTEMOUT r, 40, 12, 0⟩
/-- BASE of LB_RSTEMOUT (R246). -/
def LB_RSTEMOUT_BASE (r : Nat) : Fld := ⟨LB_RSTEMOUT r, 20, 15, 0⟩

/-- CR_STAT (R282): the address in window k. -/
def CR_STAT (k : Nat) : Nat := 0x46000000 + 0x10000 * k
/-- STATE of CR_STAT (R282). -/
def CR_STAT_STATE (k : Nat) : Fld := ⟨CR_STAT k, 29, 3, 0⟩
/-- QDEPTH of CR_STAT (R282). -/
def CR_STAT_QDEPTH (k : Nat) : Fld := ⟨CR_STAT k, 16, 6, 0⟩
/-- OPCODE of CR_STAT (R282). -/
def CR_STAT_OPCODE (k : Nat) : Fld := ⟨CR_STAT k, 8, 8, 0⟩
/-- CLIENT of CR_STAT (R282). -/
def CR_STAT_CLIENT (k : Nat) : Fld := ⟨CR_STAT k, 0, 8, 0⟩

/-- CR_FENCE (R283): the address in window k. -/
def CR_FENCE (k : Nat) : Nat := 0x46000004 + 0x10000 * k
/-- FENCED of CR_FENCE (R283). -/
def CR_FENCE_FENCED (k : Nat) : Fld := ⟨CR_FENCE k, 31, 1, 0⟩
/-- FACTORY of CR_FENCE (R283). -/
def CR_FENCE_FACTORY (k : Nat) : Fld := ⟨CR_FENCE k, 30, 1, 0⟩
/-- CAUSE of CR_FENCE (R283). -/
def CR_FENCE_CAUSE (k : Nat) : Fld := ⟨CR_FENCE k, 16, 8, 0⟩

/-- CR_PERF (R284): the address in window k. -/
def CR_PERF (k : Nat) : Nat := 0x46000008 + 0x10000 * k
/-- CMD_DONE of CR_PERF (R284). -/
def CR_PERF_CMD_DONE (k : Nat) : Fld := ⟨CR_PERF k, 32, 32, 0⟩
/-- BUSY_US of CR_PERF (R284). -/
def CR_PERF_BUSY_US (k : Nat) : Fld := ⟨CR_PERF k, 0, 32, 0⟩

/-- CR_SERR (R285): the address in window k. -/
def CR_SERR (k : Nat) : Nat := 0x46000010 + 0x10000 * k
/-- CORR of CR_SERR (R285). -/
def CR_SERR_CORR (k : Nat) : Fld := ⟨CR_SERR k, 16, 16, 0⟩
/-- UNCORR of CR_SERR (R285). -/
def CR_SERR_UNCORR (k : Nat) : Fld := ⟨CR_SERR k, 0, 16, 0⟩

/-- CR_LASTERR (R286): the address in window k. -/
def CR_LASTERR (k : Nat) : Nat := 0x46000018 + 0x10000 * k
/-- OPCODE of CR_LASTERR (R286). -/
def CR_LASTERR_OPCODE (k : Nat) : Fld := ⟨CR_LASTERR k, 56, 8, 0⟩
/-- CAUSE of CR_LASTERR (R286). -/
def CR_LASTERR_CAUSE (k : Nat) : Fld := ⟨CR_LASTERR k, 48, 8, 0⟩
/-- BYTE of CR_LASTERR (R286). -/
def CR_LASTERR_BYTE (k : Nat) : Fld := ⟨CR_LASTERR k, 40, 8, 0⟩
/-- CLIENT of CR_LASTERR (R286). -/
def CR_LASTERR_CLIENT (k : Nat) : Fld := ⟨CR_LASTERR k, 32, 8, 0⟩
/-- JOB_ID of CR_LASTERR (R286). -/
def CR_LASTERR_JOB_ID (k : Nat) : Fld := ⟨CR_LASTERR k, 0, 32, 0⟩

/-- CR_EMPTY (R301): the address in window k. -/
def CR_EMPTY (k : Nat) : Nat := 0x46000020 + 0x10000 * k
/-- MEAN_CNT of CR_EMPTY (R301). -/
def CR_EMPTY_MEAN_CNT (k : Nat) : Fld := ⟨CR_EMPTY k, 48, 16, 0⟩
/-- OUT_CNT of CR_EMPTY (R301). -/
def CR_EMPTY_OUT_CNT (k : Nat) : Fld := ⟨CR_EMPTY k, 32, 16, 0⟩
/-- JOB_ID of CR_EMPTY (R301). -/
def CR_EMPTY_JOB_ID (k : Nat) : Fld := ⟨CR_EMPTY k, 0, 32, 0⟩

/-- SH_CFG (R330): the address. -/
def SH_CFG : Nat := 0x48000000
/-- TSLICE_US of SH_CFG (R330). -/
def SH_CFG_TSLICE_US : Fld := ⟨SH_CFG, 16, 16, 500⟩
/-- QAHEAD of SH_CFG (R330). -/
def SH_CFG_QAHEAD : Fld := ⟨SH_CFG, 8, 5, 2⟩
/-- MIN_CORES of SH_CFG (R330). -/
def SH_CFG_MIN_CORES : Fld := ⟨SH_CFG, 0, 5, 1⟩

/-- SH_SAVE (R331): the address. -/
def SH_SAVE : Nat := 0x48000008
/-- SLOTS of SH_SAVE (R331). -/
def SH_SAVE_SLOTS : Fld := ⟨SH_SAVE, 40, 12, 0⟩
/-- BASE of SH_SAVE (R331). -/
def SH_SAVE_BASE : Fld := ⟨SH_SAVE, 20, 15, 0⟩

/-- SH_STAT (R332): the address. -/
def SH_STAT : Nat := 0x48000010
/-- CORES of SH_STAT (R332). -/
def SH_STAT_CORES : Fld := ⟨SH_STAT, 25, 5, 0⟩
/-- JOBS of SH_STAT (R332). -/
def SH_STAT_JOBS : Fld := ⟨SH_STAT, 16, 9, 0⟩
/-- SB_USED of SH_STAT (R332). -/
def SH_STAT_SB_USED : Fld := ⟨SH_STAT, 0, 10, 0⟩

/-- SH_FLUSH (R333): the address. -/
def SH_FLUSH : Nat := 0x48000018
/-- FLUSH_CNT of SH_FLUSH (R333). -/
def SH_FLUSH_FLUSH_CNT : Fld := ⟨SH_FLUSH, 48, 16, 0⟩
/-- CAUSE of SH_FLUSH (R333). -/
def SH_FLUSH_CAUSE : Fld := ⟨SH_FLUSH, 40, 8, 0⟩
/-- CLIENT of SH_FLUSH (R333). -/
def SH_FLUSH_CLIENT : Fld := ⟨SH_FLUSH, 32, 8, 0⟩
/-- JOB_ID of SH_FLUSH (R333). -/
def SH_FLUSH_JOB_ID : Fld := ⟨SH_FLUSH, 0, 32, 0⟩

/-- SH_CCFG (R334): the address in window c. -/
def SH_CCFG (c : Nat) : Nat := 0x48001000 + 0x40 * c
/-- EN of SH_CCFG (R334). -/
def SH_CCFG_EN (c : Nat) : Fld := ⟨SH_CCFG c, 63, 1, 0⟩
/-- CLASS of SH_CCFG (R334). -/
def SH_CCFG_CLASS (c : Nat) : Fld := ⟨SH_CCFG c, 61, 2, 0⟩
/-- RACE of SH_CCFG (R334). -/
def SH_CCFG_RACE (c : Nat) : Fld := ⟨SH_CCFG c, 48, 6, 0⟩
/-- SHARES of SH_CCFG (R334). -/
def SH_CCFG_SHARES (c : Nat) : Fld := ⟨SH_CCFG c, 38, 10, 0⟩
/-- SEM_LO of SH_CCFG (R334). -/
def SH_CCFG_SEM_LO (c : Nat) : Fld := ⟨SH_CCFG c, 24, 8, 0⟩
/-- SEM_HI of SH_CCFG (R334). -/
def SH_CCFG_SEM_HI (c : Nat) : Fld := ⟨SH_CCFG c, 16, 8, 0⟩
/-- TRIAL_EVERY of SH_CCFG (R334). -/
def SH_CCFG_TRIAL_EVERY (c : Nat) : Fld := ⟨SH_CCFG c, 0, 16, 0⟩

/-- SH_CPROG (R335): the address in window c. -/
def SH_CPROG (c : Nat) : Nat := 0x48001008 + 0x40 * c
/-- PROG of SH_CPROG (R335). -/
def SH_CPROG_PROG (c : Nat) : Fld := ⟨SH_CPROG c, 0, 38, 0⟩

/-- SH_CSCR (R336): the address in window c. -/
def SH_CSCR (c : Nat) : Nat := 0x48001010 + 0x40 * c
/-- SLOTS of SH_CSCR (R336). -/
def SH_CSCR_SLOTS (c : Nat) : Fld := ⟨SH_CSCR c, 40, 12, 0⟩
/-- BASE of SH_CSCR (R336). -/
def SH_CSCR_BASE (c : Nat) : Fld := ⟨SH_CSCR c, 20, 15, 0⟩

/-- SH_CRING (R337): the address in window c. -/
def SH_CRING (c : Nat) : Nat := 0x48001018 + 0x40 * c
/-- CPL_RING of SH_CRING (R337). -/
def SH_CRING_CPL_RING (c : Nat) : Fld := ⟨SH_CRING c, 16, 16, 0⟩
/-- SUB_RING of SH_CRING (R337). -/
def SH_CRING_SUB_RING (c : Nat) : Fld := ⟨SH_CRING c, 0, 16, 0⟩

/-- SH_CSTAT (R338): the address in window c. -/
def SH_CSTAT (c : Nat) : Nat := 0x48001020 + 0x40 * c
/-- SUSPECT of SH_CSTAT (R338). -/
def SH_CSTAT_SUSPECT (c : Nat) : Fld := ⟨SH_CSTAT c, 63, 1, 0⟩
/-- FLUSHES of SH_CSTAT (R338). -/
def SH_CSTAT_FLUSHES (c : Nat) : Fld := ⟨SH_CSTAT c, 32, 2, 0⟩
/-- JOBS_DONE of SH_CSTAT (R338). -/
def SH_CSTAT_JOBS_DONE (c : Nat) : Fld := ⟨SH_CSTAT c, 0, 32, 0⟩

/-- SH_CCTL (R339): the address in window c. -/
def SH_CCTL (c : Nat) : Nat := 0x48001028 + 0x40 * c
/-- READMIT of SH_CCTL (R339). -/
def SH_CCTL_READMIT (c : Nat) : Fld := ⟨SH_CCTL c, 0, 1, 0⟩

/-- SH_SEM (R340): the address in window i. -/
def SH_SEM (i : Nat) : Nat := 0x48006000 + 0x4 * i
/-- VALUE of SH_SEM (R340). -/
def SH_SEM_VALUE (i : Nat) : Fld := ⟨SH_SEM i, 0, 32, 0⟩

/-- FO_STAT (R377): the address. -/
def FO_STAT : Nat := 0x49000000
/-- USED of FO_STAT (R377). -/
def FO_STAT_USED : Fld := ⟨FO_STAT, 51, 13, 0⟩
/-- HIWAT of FO_STAT (R377). -/
def FO_STAT_HIWAT : Fld := ⟨FO_STAT, 38, 13, 0⟩
/-- WRAPS of FO_STAT (R377). -/
def FO_STAT_WRAPS : Fld := ⟨FO_STAT, 30, 8, 0⟩
/-- FULL_CNT of FO_STAT (R377). -/
def FO_STAT_FULL_CNT : Fld := ⟨FO_STAT, 0, 16, 0⟩

/-- FO_PSN (R378): the address. -/
def FO_PSN : Nat := 0x49000008
/-- NEXT_PSN of FO_PSN (R378). -/
def FO_PSN_NEXT_PSN : Fld := ⟨FO_PSN, 0, 32, 0⟩

/-- FO_RCFG (R379): the address in window r. -/
def FO_RCFG (r : Nat) : Nat := 0x49001000 + 0x40 * r
/-- ENC of FO_RCFG (R379). -/
def FO_RCFG_ENC (r : Nat) : Fld := ⟨FO_RCFG r, 29, 3, 0⟩
/-- DEFAULT of FO_RCFG (R379). -/
def FO_RCFG_DEFAULT (r : Nat) : Fld := ⟨FO_RCFG r, 26, 3, 1⟩
/-- SLIP_ACTION of FO_RCFG (R379). -/
def FO_RCFG_SLIP_ACTION (r : Nat) : Fld := ⟨FO_RCFG r, 25, 1, 0⟩
/-- PART_CHOICE of FO_RCFG (R379). -/
def FO_RCFG_PART_CHOICE (r : Nat) : Fld := ⟨FO_RCFG r, 24, 1, 0⟩

/-- FO_RGEOM (R380): the address in window r. -/
def FO_RGEOM (r : Nat) : Nat := 0x49001008 + 0x40 * r
/-- SPAN of FO_RGEOM (R380). -/
def FO_RGEOM_SPAN (r : Nat) : Fld := ⟨FO_RGEOM r, 32, 30, 0⟩
/-- EJECT_DIST of FO_RGEOM (R380). -/
def FO_RGEOM_EJECT_DIST (r : Nat) : Fld := ⟨FO_RGEOM r, 0, 30, 0⟩

/-- FO_RBIN (R381): the address in window r. -/
def FO_RBIN (r : Nat) : Nat := 0x49001010 + 0x40 * r
/-- BIN7 of FO_RBIN (R381). -/
def FO_RBIN_BIN7 (r : Nat) : Fld := ⟨FO_RBIN r, 30, 5, 31⟩
/-- BIN6 of FO_RBIN (R381). -/
def FO_RBIN_BIN6 (r : Nat) : Fld := ⟨FO_RBIN r, 25, 5, 31⟩
/-- BIN5 of FO_RBIN (R381). -/
def FO_RBIN_BIN5 (r : Nat) : Fld := ⟨FO_RBIN r, 20, 5, 31⟩
/-- BIN4 of FO_RBIN (R381). -/
def FO_RBIN_BIN4 (r : Nat) : Fld := ⟨FO_RBIN r, 15, 5, 31⟩
/-- BIN3 of FO_RBIN (R381). -/
def FO_RBIN_BIN3 (r : Nat) : Fld := ⟨FO_RBIN r, 10, 5, 31⟩
/-- BIN2 of FO_RBIN (R381). -/
def FO_RBIN_BIN2 (r : Nat) : Fld := ⟨FO_RBIN r, 5, 5, 31⟩
/-- BIN1 of FO_RBIN (R381). -/
def FO_RBIN_BIN1 (r : Nat) : Fld := ⟨FO_RBIN r, 0, 5, 31⟩

/-- FO_RRING (R382): the address in window r. -/
def FO_RRING (r : Nat) : Nat := 0x49001018 + 0x40 * r
/-- REPLAY_RING of FO_RRING (R382). -/
def FO_RRING_REPLAY_RING (r : Nat) : Fld := ⟨FO_RRING r, 32, 16, 0⟩
/-- TRIAL_RING of FO_RRING (R382). -/
def FO_RRING_TRIAL_RING (r : Nat) : Fld := ⟨FO_RRING r, 16, 16, 0⟩
/-- LIVE_RING of FO_RRING (R382). -/
def FO_RRING_LIVE_RING (r : Nat) : Fld := ⟨FO_RRING r, 0, 16, 0⟩

/-- FO_RSTAT (R383): the address in window r. -/
def FO_RSTAT (r : Nat) : Nat := 0x49001020 + 0x40 * r
/-- LATE_CNT of FO_RSTAT (R383). -/
def FO_RSTAT_LATE_CNT (r : Nat) : Fld := ⟨FO_RSTAT r, 48, 16, 0⟩
/-- UNJ_CNT of FO_RSTAT (R383). -/
def FO_RSTAT_UNJ_CNT (r : Nat) : Fld := ⟨FO_RSTAT r, 32, 16, 0⟩
/-- FIRED_CNT of FO_RSTAT (R383). -/
def FO_RSTAT_FIRED_CNT (r : Nat) : Fld := ⟨FO_RSTAT r, 16, 16, 0⟩
/-- REC_DROP of FO_RSTAT (R383). -/
def FO_RSTAT_REC_DROP (r : Nat) : Fld := ⟨FO_RSTAT r, 0, 16, 0⟩

/-- FO_OCFG (R384): the address in window o. -/
def FO_OCFG (o : Nat) : Nat := 0x49002000 + 0x40 * o
/-- MODE of FO_OCFG (R384). -/
def FO_OCFG_MODE (o : Nat) : Fld := ⟨FO_OCFG o, 62, 2, 0⟩
/-- LEVEL of FO_OCFG (R384). -/
def FO_OCFG_LEVEL (o : Nat) : Fld := ⟨FO_OCFG o, 61, 1, 0⟩
/-- PW_MODE of FO_OCFG (R384). -/
def FO_OCFG_PW_MODE (o : Nat) : Fld := ⟨FO_OCFG o, 60, 1, 0⟩
/-- TV16 of FO_OCFG (R384). -/
def FO_OCFG_TV16 (o : Nat) : Fld := ⟨FO_OCFG o, 32, 20, 0⟩
/-- C of FO_OCFG (R384). -/
def FO_OCFG_C (o : Nat) : Fld := ⟨FO_OCFG o, 16, 16, 0⟩
/-- PW of FO_OCFG (R384). -/
def FO_OCFG_PW (o : Nat) : Fld := ⟨FO_OCFG o, 0, 16, 0⟩

/-- FO_OPW (R386): the address in window o. -/
def FO_OPW (o : Nat) : Nat := 0x49002008 + 0x40 * o
/-- PW_MAX_MS of FO_OPW (R386). -/
def FO_OPW_PW_MAX_MS (o : Nat) : Fld := ⟨FO_OPW o, 0, 16, 100⟩

/-- FO_OSTAT (R387): the address in window o. -/
def FO_OSTAT (o : Nat) : Nat := 0x49002010 + 0x40 * o
/-- EDGES of FO_OSTAT (R387). -/
def FO_OSTAT_EDGES (o : Nat) : Fld := ⟨FO_OSTAT o, 48, 16, 0⟩
/-- MERGED of FO_OSTAT (R387). -/
def FO_OSTAT_MERGED (o : Nat) : Fld := ⟨FO_OSTAT o, 32, 16, 0⟩
/-- SLIPPED of FO_OSTAT (R387). -/
def FO_OSTAT_SLIPPED (o : Nat) : Fld := ⟨FO_OSTAT o, 16, 16, 0⟩
/-- LOST of FO_OSTAT (R387). -/
def FO_OSTAT_LOST (o : Nat) : Fld := ⟨FO_OSTAT o, 0, 16, 0⟩

/-- FO_CCFG (R388): the address in window c. -/
def FO_CCFG (c : Nat) : Nat := 0x49004000 + 0x200 * c
/-- REPORT_IDX of FO_CCFG (R388). -/
def FO_CCFG_REPORT_IDX (c : Nat) : Fld := ⟨FO_CCFG c, 0, 4, 0⟩

/-- FO_RULE (R389): the address in window c i. -/
def FO_RULE (c i : Nat) : Nat := 0x49004100 + 0x200 * c + 0x4 * i
/-- RULE of FO_RULE (R389). -/
def FO_RULE_RULE (c i : Nat) : Fld := ⟨FO_RULE c i, 0, 32, 0⟩

/-- TM_CFG (R411): the address. -/
def TM_CFG : Nat := 0x44000000
/-- PTP_EN of TM_CFG (R411). -/
def TM_CFG_PTP_EN : Fld := ⟨TM_CFG, 31, 1, 0⟩
/-- ROLE of TM_CFG (R411). -/
def TM_CFG_ROLE : Fld := ⟨TM_CFG, 30, 1, 0⟩
/-- TRANS of TM_CFG (R411). -/
def TM_CFG_TRANS : Fld := ⟨TM_CFG, 29, 1, 0⟩
/-- SLV_PORT of TM_CFG (R411). -/
def TM_CFG_SLV_PORT : Fld := ⟨TM_CFG, 20, 4, 0⟩
/-- DOMAIN of TM_CFG (R411). -/
def TM_CFG_DOMAIN : Fld := ⟨TM_CFG, 8, 8, 0⟩
/-- LOG_SYNC of TM_CFG (R411). -/
def TM_CFG_LOG_SYNC : Fld := ⟨TM_CFG, 4, 4, 13⟩
/-- LOG_ANN of TM_CFG (R411). -/
def TM_CFG_LOG_ANN : Fld := ⟨TM_CFG, 0, 4, 1⟩

/-- TM_PORTS (R412): the address. -/
def TM_PORTS : Nat := 0x44000004
/-- PORT_EN of TM_PORTS (R412). -/
def TM_PORTS_PORT_EN : Fld := ⟨TM_PORTS, 0, 16, 0⟩

/-- TM_STAT (R413): the address. -/
def TM_STAT : Nat := 0x44000008
/-- STATE of TM_STAT (R413). -/
def TM_STAT_STATE : Fld := ⟨TM_STAT, 29, 3, 0⟩
/-- STEP_SEEN of TM_STAT (R413). -/
def TM_STAT_STEP_SEEN : Fld := ⟨TM_STAT, 28, 1, 0⟩
/-- HOLDOVER_CNT of TM_STAT (R413). -/
def TM_STAT_HOLDOVER_CNT : Fld := ⟨TM_STAT, 0, 16, 0⟩

/-- TM_TIME (R414): the address. -/
def TM_TIME : Nat := 0x44000010
/-- DEVTIME of TM_TIME (R414). -/
def TM_TIME_DEVTIME : Fld := ⟨TM_TIME, 0, 64, 0⟩

/-- TM_PTPOFS (R415): the address. -/
def TM_PTPOFS : Nat := 0x44000018
/-- PTP_OFS of TM_PTPOFS (R415). -/
def TM_PTPOFS_PTP_OFS : Fld := ⟨TM_PTPOFS, 0, 64, 0⟩

/-- TM_RATE (R416): the address. -/
def TM_RATE : Nat := 0x44000020
/-- RATE of TM_RATE (R416). -/
def TM_RATE_RATE : Fld := ⟨TM_RATE, 0, 32, 0⟩

/-- TM_OFFSET (R417): the address. -/
def TM_OFFSET : Nat := 0x44000028
/-- OFFSET of TM_OFFSET (R417). -/
def TM_OFFSET_OFFSET : Fld := ⟨TM_OFFSET, 0, 32, 0⟩

/-- TM_BWCFG (R418): the address. -/
def TM_BWCFG : Nat := 0x44000100
/-- BW_ROLE of TM_BWCFG (R418). -/
def TM_BWCFG_BW_ROLE : Fld := ⟨TM_BWCFG, 30, 2, 0⟩
/-- PAIRED of TM_BWCFG (R418). -/
def TM_BWCFG_PAIRED : Fld := ⟨TM_BWCFG, 29, 1, 0⟩
/-- BAR_ID of TM_BWCFG (R418). -/
def TM_BWCFG_BAR_ID : Fld := ⟨TM_BWCFG, 0, 8, 0⟩

/-- TM_BWSTAT (R419): the address. -/
def TM_BWSTAT : Nat := 0x44000104
/-- TRACK of TM_BWSTAT (R419). -/
def TM_BWSTAT_TRACK : Fld := ⟨TM_BWSTAT, 30, 2, 0⟩
/-- LAUNCHED of TM_BWSTAT (R419). -/
def TM_BWSTAT_LAUNCHED : Fld := ⟨TM_BWSTAT, 29, 1, 0⟩
/-- MISSED of TM_BWSTAT (R419). -/
def TM_BWSTAT_MISSED : Fld := ⟨TM_BWSTAT, 28, 1, 0⟩
/-- BW_ERR of TM_BWSTAT (R419). -/
def TM_BWSTAT_BW_ERR : Fld := ⟨TM_BWSTAT, 0, 16, 0⟩

/-- TM_BW (R420): the address. -/
def TM_BW : Nat := 0x44000108
/-- COUNT of TM_BW (R420). -/
def TM_BW_COUNT : Fld := ⟨TM_BW, 0, 64, 0⟩

/-- TM_LAUNCH (R421): the address. -/
def TM_LAUNCH : Nat := 0x44000110
/-- L of TM_LAUNCH (R421). -/
def TM_LAUNCH_L : Fld := ⟨TM_LAUNCH, 0, 64, 0⟩

/-- TM_LAUNCHCFG (R422): the address. -/
def TM_LAUNCHCFG : Nat := 0x44000118
/-- ARM of TM_LAUNCHCFG (R422). -/
def TM_LAUNCHCFG_ARM : Fld := ⟨TM_LAUNCHCFG, 31, 1, 0⟩
/-- TRG_MASK of TM_LAUNCHCFG (R422). -/
def TM_LAUNCHCFG_TRG_MASK : Fld := ⟨TM_LAUNCHCFG, 16, 8, 0⟩
/-- RACE_MASK of TM_LAUNCHCFG (R422). -/
def TM_LAUNCHCFG_RACE_MASK : Fld := ⟨TM_LAUNCHCFG, 0, 16, 0⟩

/-- TM_LPOS (R423): the address in window e. -/
def TM_LPOS (e : Nat) : Nat := 0x44000120 + 0x8 * e
/-- VALID of TM_LPOS (R423). -/
def TM_LPOS_VALID (e : Nat) : Fld := ⟨TM_LPOS e, 63, 1, 0⟩
/-- POS of TM_LPOS (R423). -/
def TM_LPOS_POS (e : Nat) : Fld := ⟨TM_LPOS e, 0, 48, 0⟩

/-- TM_PAIROFS (R424): the address in window e. -/
def TM_PAIROFS (e : Nat) : Nat := 0x44000140 + 0x8 * e
/-- PAIR_VALID of TM_PAIROFS (R424). -/
def TM_PAIROFS_PAIR_VALID (e : Nat) : Fld := ⟨TM_PAIROFS e, 63, 1, 0⟩
/-- OFS of TM_PAIROFS (R424). -/
def TM_PAIROFS_OFS (e : Nat) : Fld := ⟨TM_PAIROFS e, 0, 48, 0⟩

/-- TM_RPAIR (R425): the address in window r. -/
def TM_RPAIR (r : Nat) : Nat := 0x44000200 + 0x10 * r
/-- ROLE of TM_RPAIR (R425). -/
def TM_RPAIR_ROLE (r : Nat) : Fld := ⟨TM_RPAIR r, 30, 2, 0⟩
/-- MATCH_TOL of TM_RPAIR (R425). -/
def TM_RPAIR_MATCH_TOL (r : Nat) : Fld := ⟨TM_RPAIR r, 0, 16, 16⟩

/-- TM_RPSTAT (R426): the address in window r. -/
def TM_RPSTAT (r : Nat) : Nat := 0x44000208 + 0x10 * r
/-- MATCHED of TM_RPSTAT (R426). -/
def TM_RPSTAT_MATCHED (r : Nat) : Fld := ⟨TM_RPSTAT r, 48, 16, 0⟩
/-- PARTITIONED of TM_RPSTAT (R426). -/
def TM_RPSTAT_PARTITIONED (r : Nat) : Fld := ⟨TM_RPSTAT r, 32, 16, 0⟩
/-- HALF_DISC of TM_RPSTAT (R426). -/
def TM_RPSTAT_HALF_DISC (r : Nat) : Fld := ⟨TM_RPSTAT r, 16, 16, 0⟩
/-- HALF_DROP of TM_RPSTAT (R426). -/
def TM_RPSTAT_HALF_DROP (r : Nat) : Fld := ⟨TM_RPSTAT r, 0, 16, 0⟩

/-- MM_CFG (R446): the address. -/
def MM_CFG : Nat := 0x4A000000
/-- SCRUB_H of MM_CFG (R446). -/
def MM_CFG_SCRUB_H : Fld := ⟨MM_CFG, 16, 16, 24⟩
/-- SCRUB_EN of MM_CFG (R446). -/
def MM_CFG_SCRUB_EN : Fld := ⟨MM_CFG, 0, 1, 1⟩

/-- MM_ECCSTAT (R447): the address. -/
def MM_ECCSTAT : Nat := 0x4A000008
/-- CORR of MM_ECCSTAT (R447). -/
def MM_ECCSTAT_CORR : Fld := ⟨MM_ECCSTAT, 32, 32, 0⟩
/-- UNCORR of MM_ECCSTAT (R447). -/
def MM_ECCSTAT_UNCORR : Fld := ⟨MM_ECCSTAT, 16, 16, 0⟩
/-- SWS_UNCORR of MM_ECCSTAT (R447). -/
def MM_ECCSTAT_SWS_UNCORR : Fld := ⟨MM_ECCSTAT, 0, 16, 0⟩

/-- MM_UEADDR (R448): the address. -/
def MM_UEADDR : Nat := 0x4A000010
/-- VALID of MM_UEADDR (R448). -/
def MM_UEADDR_VALID : Fld := ⟨MM_UEADDR, 63, 1, 0⟩
/-- SOURCE of MM_UEADDR (R448). -/
def MM_UEADDR_SOURCE : Fld := ⟨MM_UEADDR, 61, 2, 0⟩
/-- ADDR of MM_UEADDR (R448). -/
def MM_UEADDR_ADDR : Fld := ⟨MM_UEADDR, 0, 35, 0⟩

/-- MM_SCRUB (R449): the address. -/
def MM_SCRUB : Nat := 0x4A000018
/-- PASSES of MM_SCRUB (R449). -/
def MM_SCRUB_PASSES : Fld := ⟨MM_SCRUB, 32, 32, 0⟩
/-- NEXT_LINE of MM_SCRUB (R449). -/
def MM_SCRUB_NEXT_LINE : Fld := ⟨MM_SCRUB, 0, 29, 0⟩

/-- DM_CHCFG (R450): the address in window c. -/
def DM_CHCFG (c : Nat) : Nat := 0x4B001000 + 0x40 * c
/-- EN of DM_CHCFG (R450). -/
def DM_CHCFG_EN (c : Nat) : Fld := ⟨DM_CHCFG c, 63, 1, 0⟩
/-- PRIV of DM_CHCFG (R450). -/
def DM_CHCFG_PRIV (c : Nat) : Fld := ⟨DM_CHCFG c, 62, 1, 0⟩
/-- CPL_RING of DM_CHCFG (R450). -/
def DM_CHCFG_CPL_RING (c : Nat) : Fld := ⟨DM_CHCFG c, 32, 16, 0⟩
/-- DESC_RING of DM_CHCFG (R450). -/
def DM_CHCFG_DESC_RING (c : Nat) : Fld := ⟨DM_CHCFG c, 0, 16, 0⟩

/-- DM_CHSTAT (R451): the address in window c. -/
def DM_CHSTAT (c : Nat) : Nat := 0x4B001008 + 0x40 * c
/-- STATE of DM_CHSTAT (R451). -/
def DM_CHSTAT_STATE (c : Nat) : Fld := ⟨DM_CHSTAT c, 62, 2, 0⟩
/-- CAUSE of DM_CHSTAT (R451). -/
def DM_CHSTAT_CAUSE (c : Nat) : Fld := ⟨DM_CHSTAT c, 48, 8, 0⟩
/-- DONE of DM_CHSTAT (R451). -/
def DM_CHSTAT_DONE (c : Nat) : Fld := ⟨DM_CHSTAT c, 0, 32, 0⟩

/-- DM_CHCTL (R452): the address in window c. -/
def DM_CHCTL (c : Nat) : Nat := 0x4B001010 + 0x40 * c
/-- ABORT of DM_CHCTL (R452). -/
def DM_CHCTL_ABORT (c : Nat) : Fld := ⟨DM_CHCTL c, 1, 1, 0⟩
/-- RESUME of DM_CHCTL (R452). -/
def DM_CHCTL_RESUME (c : Nat) : Fld := ⟨DM_CHCTL c, 0, 1, 0⟩

/-- HP_STAT (R476): the address. -/
def HP_STAT : Nat := 0x4C000000
/-- LINK of HP_STAT (R476). -/
def HP_STAT_LINK : Fld := ⟨HP_STAT, 29, 3, 0⟩
/-- HOST_LOST of HP_STAT (R476). -/
def HP_STAT_HOST_LOST : Fld := ⟨HP_STAT, 28, 1, 0⟩
/-- LOST_CNT of HP_STAT (R476). -/
def HP_STAT_LOST_CNT : Fld := ⟨HP_STAT, 0, 16, 0⟩

/-- HP_ERRCNT (R477): the address. -/
def HP_ERRCNT : Nat := 0x4C000008
/-- MR_REJ of HP_ERRCNT (R477). -/
def HP_ERRCNT_MR_REJ : Fld := ⟨HP_ERRCNT, 48, 16, 0⟩
/-- CMD_REJ of HP_ERRCNT (R477). -/
def HP_ERRCNT_CMD_REJ : Fld := ⟨HP_ERRCNT, 32, 16, 0⟩
/-- OUTSIDE of HP_ERRCNT (R477). -/
def HP_ERRCNT_OUTSIDE : Fld := ⟨HP_ERRCNT, 16, 16, 0⟩
/-- OVERRUN of HP_ERRCNT (R477). -/
def HP_ERRCNT_OVERRUN : Fld := ⟨HP_ERRCNT, 0, 16, 0⟩

/-- HP_CLK (R478): the address. -/
def HP_CLK : Nat := 0x4C000010
/-- HCK_MHZ of HP_CLK (R478). -/
def HP_CLK_HCK_MHZ : Fld := ⟨HP_CLK, 0, 10, 0⟩

/-- HP_ATTNCFG (R479): the address. -/
def HP_ATTNCFG : Nat := 0x4C000018
/-- EN of HP_ATTNCFG (R479). -/
def HP_ATTNCFG_EN : Fld := ⟨HP_ATTNCFG, 31, 1, 1⟩
/-- MBOX of HP_ATTNCFG (R479). -/
def HP_ATTNCFG_MBOX : Fld := ⟨HP_ATTNCFG, 30, 1, 1⟩

/-- HP_HB (R480): the address. -/
def HP_HB : Nat := 0x4C000020
/-- HB_COUNT of HP_HB (R480). -/
def HP_HB_HB_COUNT : Fld := ⟨HP_HB, 0, 32, 0⟩

/-- FI_LINK (R507): the address. -/
def FI_LINK : Nat := 0x4D000000
/-- STATE of FI_LINK (R507). -/
def FI_LINK_STATE : Fld := ⟨FI_LINK, 30, 2, 0⟩
/-- FIELD_LOST of FI_LINK (R507). -/
def FI_LINK_FIELD_LOST : Fld := ⟨FI_LINK, 29, 1, 1⟩
/-- LOST_SEEN of FI_LINK (R507). -/
def FI_LINK_LOST_SEEN : Fld := ⟨FI_LINK, 28, 1, 0⟩
/-- CFGOK of FI_LINK (R507). -/
def FI_LINK_CFGOK : Fld := ⟨FI_LINK, 27, 1, 0⟩
/-- LOST_CNT of FI_LINK (R507). -/
def FI_LINK_LOST_CNT : Fld := ⟨FI_LINK, 0, 16, 0⟩

/-- FI_LINKERR (R508): the address. -/
def FI_LINKERR : Nat := 0x4D000008
/-- UP_BAD of FI_LINKERR (R508). -/
def FI_LINKERR_UP_BAD : Fld := ⟨FI_LINKERR, 32, 32, 0⟩
/-- DN_BAD of FI_LINKERR (R508). -/
def FI_LINKERR_DN_BAD : Fld := ⟨FI_LINKERR, 0, 32, 0⟩

/-- FI_SUPPLY (R509): the address. -/
def FI_SUPPLY : Nat := 0x4D000010
/-- STATE of FI_SUPPLY (R509). -/
def FI_SUPPLY_STATE : Fld := ⟨FI_SUPPLY, 30, 2, 2⟩
/-- SAG_SEEN of FI_SUPPLY (R509). -/
def FI_SUPPLY_SAG_SEEN : Fld := ⟨FI_SUPPLY, 29, 1, 0⟩
/-- LOW_SEEN of FI_SUPPLY (R509). -/
def FI_SUPPLY_LOW_SEEN : Fld := ⟨FI_SUPPLY, 28, 1, 0⟩
/-- SAG_CNT of FI_SUPPLY (R509). -/
def FI_SUPPLY_SAG_CNT : Fld := ⟨FI_SUPPLY, 8, 8, 0⟩
/-- LOW_CNT of FI_SUPPLY (R509). -/
def FI_SUPPLY_LOW_CNT : Fld := ⟨FI_SUPPLY, 0, 8, 0⟩

/-- FI_FAULT (R510): the address. -/
def FI_FAULT : Nat := 0x4D000018
/-- FAULT of FI_FAULT (R510). -/
def FI_FAULT_FAULT : Fld := ⟨FI_FAULT, 31, 1, 0⟩
/-- FAULT_SEEN of FI_FAULT (R510). -/
def FI_FAULT_FAULT_SEEN : Fld := ⟨FI_FAULT, 30, 1, 0⟩
/-- FAULT_CNT of FI_FAULT (R510). -/
def FI_FAULT_FAULT_CNT : Fld := ⟨FI_FAULT, 0, 16, 0⟩

/-- FI_IN (R511): the address. -/
def FI_IN : Nat := 0x4D000020
/-- VALID of FI_IN (R511). -/
def FI_IN_VALID : Fld := ⟨FI_IN, 31, 1, 0⟩
/-- LEVEL of FI_IN (R511). -/
def FI_IN_LEVEL : Fld := ⟨FI_IN, 0, 16, 0⟩

/-- FI_OUT (R512): the address. -/
def FI_OUT : Nat := 0x4D000028
/-- RDBK of FI_OUT (R512). -/
def FI_OUT_RDBK : Fld := ⟨FI_OUT, 16, 16, 0⟩
/-- CMD of FI_OUT (R512). -/
def FI_OUT_CMD : Fld := ⟨FI_OUT, 0, 16, 0⟩

/-- FI_INGRP (R513): the address. -/
def FI_INGRP : Nat := 0x4D000030
/-- TYPE_B of FI_INGRP (R513). -/
def FI_INGRP_TYPE_B : Fld := ⟨FI_INGRP, 1, 1, 0⟩
/-- TYPE_A of FI_INGRP (R513). -/
def FI_INGRP_TYPE_A : Fld := ⟨FI_INGRP, 0, 1, 0⟩

/-- FI_OUTCFG (R514): the address. -/
def FI_OUTCFG : Nat := 0x4D000038
/-- PAIR of FI_OUTCFG (R514). -/
def FI_OUTCFG_PAIR : Fld := ⟨FI_OUTCFG, 0, 8, 0⟩

/-- FI_INCFG (R515): the address in window i. -/
def FI_INCFG (i : Nat) : Nat := 0x4D000100 + 0x4 * i
/-- WB_EN of FI_INCFG (R515). -/
def FI_INCFG_WB_EN (i : Nat) : Fld := ⟨FI_INCFG i, 31, 1, 0⟩
/-- FILT_US of FI_INCFG (R515). -/
def FI_INCFG_FILT_US (i : Nat) : Fld := ⟨FI_INCFG i, 0, 14, 100⟩

/-- MG_CANDCFG (R532): the address. -/
def MG_CANDCFG : Nat := 0x4E002000
/-- SLOTS of MG_CANDCFG (R532). -/
def MG_CANDCFG_SLOTS : Fld := ⟨MG_CANDCFG, 56, 3, 0⟩
/-- SLOT_MIB of MG_CANDCFG (R532). -/
def MG_CANDCFG_SLOT_MIB : Fld := ⟨MG_CANDCFG, 48, 8, 0⟩
/-- BASE of MG_CANDCFG (R532). -/
def MG_CANDCFG_BASE : Fld := ⟨MG_CANDCFG, 20, 15, 0⟩

/-- MG_PKGREQ (R533): the address. -/
def MG_PKGREQ : Nat := 0x4E002008
/-- SEQ of MG_PKGREQ (R533). -/
def MG_PKGREQ_SEQ : Fld := ⟨MG_PKGREQ, 56, 8, 0⟩
/-- OP of MG_PKGREQ (R533). -/
def MG_PKGREQ_OP : Fld := ⟨MG_PKGREQ, 52, 4, 0⟩
/-- SLOT of MG_PKGREQ (R533). -/
def MG_PKGREQ_SLOT : Fld := ⟨MG_PKGREQ, 48, 2, 0⟩
/-- CLIENT of MG_PKGREQ (R533). -/
def MG_PKGREQ_CLIENT : Fld := ⟨MG_PKGREQ, 40, 8, 0⟩
/-- AUTO_START of MG_PKGREQ (R533). -/
def MG_PKGREQ_AUTO_START : Fld := ⟨MG_PKGREQ, 39, 1, 0⟩

/-- MG_PKGHB (R534): the address in window i. -/
def MG_PKGHB (i : Nat) : Nat := 0x4E002010 + 0x8 * i
/-- LEN of MG_PKGHB (R534). -/
def MG_PKGHB_LEN (i : Nat) : Fld := ⟨MG_PKGHB i, 44, 20, 0⟩
/-- ADDR of MG_PKGHB (R534). -/
def MG_PKGHB_ADDR (i : Nat) : Fld := ⟨MG_PKGHB i, 16, 22, 0⟩

/-- MG_PKGSTAT (R535): the address. -/
def MG_PKGSTAT : Nat := 0x4E002020
/-- DONE_SEQ of MG_PKGSTAT (R535). -/
def MG_PKGSTAT_DONE_SEQ : Fld := ⟨MG_PKGSTAT, 56, 8, 0⟩
/-- STATE of MG_PKGSTAT (R535). -/
def MG_PKGSTAT_STATE : Fld := ⟨MG_PKGSTAT, 53, 3, 0⟩
/-- RESULT of MG_PKGSTAT (R535). -/
def MG_PKGSTAT_RESULT : Fld := ⟨MG_PKGSTAT, 48, 5, 0⟩
/-- SLOTSTATE of MG_PKGSTAT (R535). -/
def MG_PKGSTAT_SLOTSTATE : Fld := ⟨MG_PKGSTAT, 40, 8, 0⟩
/-- PROGRESS of MG_PKGSTAT (R535). -/
def MG_PKGSTAT_PROGRESS : Fld := ⟨MG_PKGSTAT, 0, 32, 0⟩

/-- MG_CFGSTAT (R569): the address. -/
def MG_CFGSTAT : Nat := 0x4E001000
/-- LOADED of MG_CFGSTAT (R569). -/
def MG_CFGSTAT_LOADED : Fld := ⟨MG_CFGSTAT, 63, 1, 0⟩
/-- COLD_PENDING of MG_CFGSTAT (R569). -/
def MG_CFGSTAT_COLD_PENDING : Fld := ⟨MG_CFGSTAT, 62, 1, 0⟩
/-- SOURCE of MG_CFGSTAT (R569). -/
def MG_CFGSTAT_SOURCE : Fld := ⟨MG_CFGSTAT, 60, 2, 0⟩
/-- STAGE of MG_CFGSTAT (R569). -/
def MG_CFGSTAT_STAGE : Fld := ⟨MG_CFGSTAT, 57, 3, 0⟩
/-- CODE of MG_CFGSTAT (R569). -/
def MG_CFGSTAT_CODE : Fld := ⟨MG_CFGSTAT, 52, 5, 0⟩
/-- CHECK of MG_CFGSTAT (R569). -/
def MG_CFGSTAT_CHECK : Fld := ⟨MG_CFGSTAT, 49, 3, 0⟩
/-- REC_TYPE of MG_CFGSTAT (R569). -/
def MG_CFGSTAT_REC_TYPE : Fld := ⟨MG_CFGSTAT, 41, 8, 0⟩
/-- REC_INDEX of MG_CFGSTAT (R569). -/
def MG_CFGSTAT_REC_INDEX : Fld := ⟨MG_CFGSTAT, 25, 16, 0⟩
/-- OFFSET of MG_CFGSTAT (R569). -/
def MG_CFGSTAT_OFFSET : Fld := ⟨MG_CFGSTAT, 0, 25, 0⟩

/-- MG_LIFE (R570): the address. -/
def MG_LIFE : Nat := 0x4E001008
/-- LIFECYCLE of MG_LIFE (R570). -/
def MG_LIFE_LIFECYCLE : Fld := ⟨MG_LIFE, 28, 4, 0⟩
/-- LC_GEN of MG_LIFE (R570). -/
def MG_LIFE_LC_GEN : Fld := ⟨MG_LIFE, 26, 2, 0⟩
/-- CKEY_SET of MG_LIFE (R570). -/
def MG_LIFE_CKEY_SET : Fld := ⟨MG_LIFE, 25, 1, 0⟩
/-- CKEY_GEN of MG_LIFE (R570). -/
def MG_LIFE_CKEY_GEN : Fld := ⟨MG_LIFE, 23, 2, 0⟩
/-- FT_GEN of MG_LIFE (R570). -/
def MG_LIFE_FT_GEN : Fld := ⟨MG_LIFE, 21, 2, 0⟩
/-- REVOKED of MG_LIFE (R570). -/
def MG_LIFE_REVOKED : Fld := ⟨MG_LIFE, 8, 8, 0⟩
/-- VKEY of MG_LIFE (R570). -/
def MG_LIFE_VKEY : Fld := ⟨MG_LIFE, 0, 3, 0⟩

/-- MG_IDSTAT (R571): the address. -/
def MG_IDSTAT : Nat := 0x4E001010
/-- STATE of MG_IDSTAT (R571). -/
def MG_IDSTAT_STATE : Fld := ⟨MG_IDSTAT, 61, 3, 0⟩
/-- SIGS of MG_IDSTAT (R571). -/
def MG_IDSTAT_SIGS : Fld := ⟨MG_IDSTAT, 32, 14, 0⟩
/-- LEFT of MG_IDSTAT (R571). -/
def MG_IDSTAT_LEFT : Fld := ⟨MG_IDSTAT, 16, 13, 0⟩
/-- RESV_BIT of MG_IDSTAT (R571). -/
def MG_IDSTAT_RESV_BIT : Fld := ⟨MG_IDSTAT, 0, 12, 0⟩

/-- MG_IDREQ (R572): the address. -/
def MG_IDREQ : Nat := 0x4E001018
/-- SEQ of MG_IDREQ (R572). -/
def MG_IDREQ_SEQ : Fld := ⟨MG_IDREQ, 56, 8, 0⟩
/-- OP of MG_IDREQ (R572). -/
def MG_IDREQ_OP : Fld := ⟨MG_IDREQ, 52, 4, 0⟩
/-- DEST of MG_IDREQ (R572). -/
def MG_IDREQ_DEST : Fld := ⟨MG_IDREQ, 6, 14, 0⟩

/-- MG_IDDONE (R573): the address. -/
def MG_IDDONE : Nat := 0x4E001020
/-- DONE_SEQ of MG_IDDONE (R573). -/
def MG_IDDONE_DONE_SEQ : Fld := ⟨MG_IDDONE, 56, 8, 0⟩
/-- RESULT of MG_IDDONE (R573). -/
def MG_IDDONE_RESULT : Fld := ⟨MG_IDDONE, 52, 4, 0⟩
/-- LEN of MG_IDDONE (R573). -/
def MG_IDDONE_LEN : Fld := ⟨MG_IDDONE, 0, 16, 0⟩

/-- MG_PADREQ (R574): the address. -/
def MG_PADREQ : Nat := 0x4E001028
/-- SEQ of MG_PADREQ (R574). -/
def MG_PADREQ_SEQ : Fld := ⟨MG_PADREQ, 56, 8, 0⟩
/-- OP of MG_PADREQ (R574). -/
def MG_PADREQ_OP : Fld := ⟨MG_PADREQ, 52, 4, 0⟩
/-- LEN of MG_PADREQ (R574). -/
def MG_PADREQ_LEN : Fld := ⟨MG_PADREQ, 27, 21, 0⟩
/-- IMG_OFS64 of MG_PADREQ (R574). -/
def MG_PADREQ_IMG_OFS64 : Fld := ⟨MG_PADREQ, 4, 22, 0⟩

/-- MG_PADSTAT (R575): the address. -/
def MG_PADSTAT : Nat := 0x4E001030
/-- DONE_SEQ of MG_PADSTAT (R575). -/
def MG_PADSTAT_DONE_SEQ : Fld := ⟨MG_PADSTAT, 56, 8, 0⟩
/-- RESULT of MG_PADSTAT (R575). -/
def MG_PADSTAT_RESULT : Fld := ⟨MG_PADSTAT, 51, 5, 0⟩
/-- PHASE of MG_PADSTAT (R575). -/
def MG_PADSTAT_PHASE : Fld := ⟨MG_PADSTAT, 48, 3, 0⟩
/-- PROGRESS of MG_PADSTAT (R575). -/
def MG_PADSTAT_PROGRESS : Fld := ⟨MG_PADSTAT, 0, 32, 0⟩

/-- MG_RESETCTL (R589): the address. -/
def MG_RESETCTL : Nat := 0x4E000100
/-- KEY of MG_RESETCTL (R589). -/
def MG_RESETCTL_KEY : Fld := ⟨MG_RESETCTL, 24, 8, 0⟩
/-- COLD of MG_RESETCTL (R589). -/
def MG_RESETCTL_COLD : Fld := ⟨MG_RESETCTL, 1, 1, 0⟩
/-- WARM of MG_RESETCTL (R589). -/
def MG_RESETCTL_WARM : Fld := ⟨MG_RESETCTL, 0, 1, 0⟩

/-- MG_WARMCFG (R590): the address. -/
def MG_WARMCFG : Nat := 0x4E000104
/-- WARM_TMO_MS of MG_WARMCFG (R590). -/
def MG_WARMCFG_WARM_TMO_MS : Fld := ⟨MG_WARMCFG, 16, 16, 2000⟩
/-- DRAIN_MS of MG_WARMCFG (R590). -/
def MG_WARMCFG_DRAIN_MS : Fld := ⟨MG_WARMCFG, 0, 4, 5⟩

/-- MG_START (R591): the address. -/
def MG_START : Nat := 0x4E000108
/-- KIND of MG_START (R591). -/
def MG_START_KIND : Fld := ⟨MG_START, 62, 2, 0⟩
/-- CAUSE of MG_START (R591). -/
def MG_START_CAUSE : Fld := ⟨MG_START, 58, 4, 0⟩
/-- COLD_FAIL of MG_START (R591). -/
def MG_START_COLD_FAIL : Fld := ⟨MG_START, 56, 2, 0⟩
/-- WARM_FAIL of MG_START (R591). -/
def MG_START_WARM_FAIL : Fld := ⟨MG_START, 54, 2, 0⟩
/-- FAIL_STEP of MG_START (R591). -/
def MG_START_FAIL_STEP : Fld := ⟨MG_START, 48, 6, 0⟩
/-- IGNORED of MG_START (R591). -/
def MG_START_IGNORED : Fld := ⟨MG_START, 40, 8, 0⟩
/-- WARM_CNT of MG_START (R591). -/
def MG_START_WARM_CNT : Fld := ⟨MG_START, 24, 16, 0⟩
/-- DUR_US of MG_START (R591). -/
def MG_START_DUR_US : Fld := ⟨MG_START, 0, 24, 0⟩

/-- MG_PWRCFG (R614): the address. -/
def MG_PWRCFG : Nat := 0x4E000200
/-- PROFILE of MG_PWRCFG (R614). -/
def MG_PWRCFG_PROFILE : Fld := ⟨MG_PWRCFG, 0, 2, 0⟩

/-- MG_PWRSTAT (R615): the address. -/
def MG_PWRSTAT : Nat := 0x4E000208
/-- STRAP of MG_PWRSTAT (R615). -/
def MG_PWRSTAT_STRAP : Fld := ⟨MG_PWRSTAT, 62, 2, 0⟩
/-- PROFILE of MG_PWRSTAT (R615). -/
def MG_PWRSTAT_PROFILE : Fld := ⟨MG_PWRSTAT, 60, 2, 0⟩
/-- VIN of MG_PWRSTAT (R615). -/
def MG_PWRSTAT_VIN : Fld := ⟨MG_PWRSTAT, 32, 16, 0⟩
/-- PIN of MG_PWRSTAT (R615). -/
def MG_PWRSTAT_PIN : Fld := ⟨MG_PWRSTAT, 16, 16, 0⟩
/-- PIN_MAX of MG_PWRSTAT (R615). -/
def MG_PWRSTAT_PIN_MAX : Fld := ⟨MG_PWRSTAT, 0, 16, 0⟩

/-- MG_EVROUTE (R627): the address in window k. -/
def MG_EVROUTE (k : Nat) : Nat := 0x4E000300 + 0x8 * k
/-- EN of MG_EVROUTE (R627). -/
def MG_EVROUTE_EN (k : Nat) : Fld := ⟨MG_EVROUTE k, 63, 1, 0⟩
/-- MIN_SEV of MG_EVROUTE (R627). -/
def MG_EVROUTE_MIN_SEV (k : Nat) : Fld := ⟨MG_EVROUTE k, 56, 2, 0⟩
/-- RING of MG_EVROUTE (R627). -/
def MG_EVROUTE_RING (k : Nat) : Fld := ⟨MG_EVROUTE k, 32, 16, 0⟩
/-- SUBSYS of MG_EVROUTE (R627). -/
def MG_EVROUTE_SUBSYS (k : Nat) : Fld := ⟨MG_EVROUTE k, 0, 15, 0⟩

/-- MG_EVCNT (R628): the address. -/
def MG_EVCNT : Nat := 0x4E000320
/-- CRIT of MG_EVCNT (R628). -/
def MG_EVCNT_CRIT : Fld := ⟨MG_EVCNT, 48, 16, 0⟩
/-- ALARM of MG_EVCNT (R628). -/
def MG_EVCNT_ALARM : Fld := ⟨MG_EVCNT, 32, 16, 0⟩
/-- NOTICE of MG_EVCNT (R628). -/
def MG_EVCNT_NOTICE : Fld := ⟨MG_EVCNT, 16, 16, 0⟩
/-- EV_LOST of MG_EVCNT (R628). -/
def MG_EVCNT_EV_LOST : Fld := ⟨MG_EVCNT, 0, 16, 0⟩

/-- MG_HOLD (R629): the address. -/
def MG_HOLD : Nat := 0x4E000400
/-- CP of MG_HOLD (R629). -/
def MG_HOLD_CP : Fld := ⟨MG_HOLD, 6, 1, 0⟩
/-- START of MG_HOLD (R629). -/
def MG_HOLD_START : Fld := ⟨MG_HOLD, 5, 1, 1⟩
/-- SUPPLY of MG_HOLD (R629). -/
def MG_HOLD_SUPPLY : Fld := ⟨MG_HOLD, 4, 1, 0⟩
/-- FIELD of MG_HOLD (R629). -/
def MG_HOLD_FIELD : Fld := ⟨MG_HOLD, 3, 1, 0⟩
/-- GATE of MG_HOLD (R629). -/
def MG_HOLD_GATE : Fld := ⟨MG_HOLD, 2, 1, 0⟩
/-- CORES of MG_HOLD (R629). -/
def MG_HOLD_CORES : Fld := ⟨MG_HOLD, 1, 1, 0⟩
/-- ENC of MG_HOLD (R629). -/
def MG_HOLD_ENC : Fld := ⟨MG_HOLD, 0, 1, 0⟩

/-- MG_WDSTAT (R630): the address. -/
def MG_WDSTAT : Nat := 0x4E000410
/-- WD_CNT of MG_WDSTAT (R630). -/
def MG_WDSTAT_WD_CNT : Fld := ⟨MG_WDSTAT, 16, 16, 0⟩
/-- SEQ_CNT of MG_WDSTAT (R630). -/
def MG_WDSTAT_SEQ_CNT : Fld := ⟨MG_WDSTAT, 0, 16, 0⟩

/-- MG_THRSTAT (R631): the address. -/
def MG_THRSTAT : Nat := 0x4E000500
/-- STEP of MG_THRSTAT (R631). -/
def MG_THRSTAT_STEP : Fld := ⟨MG_THRSTAT, 62, 2, 0⟩
/-- CAUSE of MG_THRSTAT (R631). -/
def MG_THRSTAT_CAUSE : Fld := ⟨MG_THRSTAT, 60, 2, 0⟩
/-- DUTY of MG_THRSTAT (R631). -/
def MG_THRSTAT_DUTY : Fld := ⟨MG_THRSTAT, 57, 3, 0⟩
/-- T_D of MG_THRSTAT (R631). -/
def MG_THRSTAT_T_D : Fld := ⟨MG_THRSTAT, 40, 8, 0⟩
/-- THR_MS of MG_THRSTAT (R631). -/
def MG_THRSTAT_THR_MS : Fld := ⟨MG_THRSTAT, 0, 32, 0⟩

/-- MG_SERR (R632): the address. -/
def MG_SERR : Nat := 0x4E000510
/-- SWS_CORR of MG_SERR (R632). -/
def MG_SERR_SWS_CORR : Fld := ⟨MG_SERR, 56, 8, 0⟩
/-- LS_CORR of MG_SERR (R632). -/
def MG_SERR_LS_CORR : Fld := ⟨MG_SERR, 48, 8, 0⟩
/-- PEN_CORR of MG_SERR (R632). -/
def MG_SERR_PEN_CORR : Fld := ⟨MG_SERR, 40, 8, 0⟩
/-- CP_CORR of MG_SERR (R632). -/
def MG_SERR_CP_CORR : Fld := ⟨MG_SERR, 32, 8, 0⟩
/-- TD_CORR of MG_SERR (R632). -/
def MG_SERR_TD_CORR : Fld := ⟨MG_SERR, 24, 8, 0⟩
/-- LS_UNCORR of MG_SERR (R632). -/
def MG_SERR_LS_UNCORR : Fld := ⟨MG_SERR, 16, 8, 0⟩
/-- PEN_UNCORR of MG_SERR (R632). -/
def MG_SERR_PEN_UNCORR : Fld := ⟨MG_SERR, 12, 4, 0⟩
/-- CP_UNCORR of MG_SERR (R632). -/
def MG_SERR_CP_UNCORR : Fld := ⟨MG_SERR, 8, 4, 0⟩
/-- TD_UNCORR of MG_SERR (R632). -/
def MG_SERR_TD_UNCORR : Fld := ⟨MG_SERR, 0, 8, 0⟩

/-- The description rows of registers ID_PART to PS_ENCCTL. -/
def regDescs0 : List RegDesc :=
  [⟨"ID_PART", 0x40000000, (0, 1), (0, 1), 32, [⟨16, 16, .ro, 12896, false, .any⟩, ⟨8, 8, .ro, 1, false, .any⟩, ⟨0, 8, .ro, 0, false, .any⟩]⟩,
   ⟨"ID_ARCH", 0x40000004, (0, 1), (0, 1), 32, [⟨16, 16, .ro, 2, false, .any⟩, ⟨0, 8, .ro, 1, false, .any⟩]⟩,
   ⟨"ID_IMGGEN", 0x40000008, (0, 1), (0, 1), 32, [⟨8, 8, .ro, 0, true, .any⟩, ⟨0, 8, .ro, 0, true, .any⟩]⟩,
   ⟨"PS_ENCCFG", 0x43001000, (256, 4), (0, 1), 32, [⟨31, 1, .rw, 0, false, .any⟩, ⟨30, 1, .rw, 0, false, .any⟩, ⟨16, 7, .rw, 8, false, .range 2 64⟩]⟩,
   ⟨"PS_SPDCFG", 0x43001004, (256, 4), (0, 1), 32, [⟨12, 20, .rw, 1000, false, .range 10 100000⟩, ⟨0, 12, .rw, 100, false, .range 1 4095⟩]⟩,
   ⟨"PS_IDXCHK", 0x43001008, (256, 4), (0, 1), 32, [⟨28, 4, .rw, 0, false, .any⟩, ⟨27, 1, .rw, 0, false, .any⟩, ⟨26, 1, .rw, 0, false, .any⟩, ⟨0, 22, .rw, 0, false, .any⟩]⟩,
   ⟨"PS_POS", 0x43001010, (256, 4), (0, 1), 64, [⟨48, 16, .ro, 0, false, .any⟩, ⟨0, 48, .ro, 0, false, .any⟩]⟩,
   ⟨"PS_IDXPOS", 0x43001018, (256, 4), (0, 1), 64, [⟨63, 1, .ro, 0, false, .any⟩, ⟨0, 48, .ro, 0, false, .any⟩]⟩,
   ⟨"PS_SPEED", 0x43001020, (256, 4), (0, 1), 64, [⟨63, 1, .ro, 1, false, .any⟩, ⟨62, 1, .ro, 0, false, .any⟩, ⟨61, 1, .ro, 0, false, .any⟩, ⟨32, 20, .ro, 0, false, .any⟩, ⟨0, 32, .ro, 0, false, .any⟩]⟩,
   ⟨"PS_DRIFT", 0x43001028, (256, 4), (0, 1), 32, [⟨0, 32, .ro, 0, false, .any⟩]⟩,
   ⟨"PS_ENCSTAT", 0x4300102C, (256, 4), (0, 1), 32, [⟨31, 1, .ro, 0, false, .any⟩, ⟨30, 1, .w1c, 0, false, .any⟩, ⟨29, 1, .w1c, 0, false, .any⟩, ⟨28, 1, .w1c, 0, false, .any⟩, ⟨27, 1, .w1c, 0, false, .any⟩, ⟨0, 16, .ro, 0, false, .any⟩]⟩,
   ⟨"PS_ENCCTL", 0x43001030, (256, 4), (0, 1), 32, [⟨1, 1, .wo, 0, true, .any⟩, ⟨0, 1, .wo, 0, true, .any⟩]⟩]

/-- The description rows of registers PS_TRGCFG to LN_PORTADDR. -/
def regDescs1 : List RegDesc :=
  [⟨"PS_TRGCFG", 0x43002000, (64, 8), (0, 1), 32, [⟨31, 1, .rw, 0, false, .any⟩, ⟨24, 3, .rw, 0, false, .range 0 3⟩, ⟨0, 8, .rw, 20, false, .range 10 200⟩]⟩,
   ⟨"PS_TRGDIV", 0x43002008, (64, 8), (0, 1), 64, [⟨16, 24, .rw, 1, false, .range 1 16777215⟩, ⟨0, 16, .rw, 0, false, .any⟩]⟩,
   ⟨"PS_TRGSTART", 0x43002010, (64, 8), (0, 1), 64, [⟨0, 48, .rw, 0, false, .any⟩]⟩,
   ⟨"PS_TRGNUM", 0x43002018, (64, 8), (0, 1), 32, [⟨0, 32, .rw, 0, false, .any⟩]⟩,
   ⟨"PS_TRGSTAT", 0x4300201C, (64, 8), (0, 1), 32, [⟨31, 1, .w1c, 0, false, .any⟩, ⟨0, 16, .ro, 0, false, .any⟩]⟩,
   ⟨"PS_TRGLAST", 0x43002020, (64, 8), (0, 1), 64, [⟨0, 48, .ro, 0, false, .any⟩]⟩,
   ⟨"PS_THCFG", 0x43003000, (0, 1), (0, 1), 32, [⟨0, 4, .rw, 0, false, .any⟩]⟩,
   ⟨"PS_THBASE", 0x43003008, (0, 1), (0, 1), 64, [⟨20, 15, .rw, 0, false, .any⟩]⟩,
   ⟨"LN_LANECFG", 0x41001000, (256, 16), (0, 1), 32, [⟨31, 1, .rw, 0, false, .any⟩, ⟨30, 1, .rw, 0, false, .any⟩, ⟨29, 1, .rw, 1, false, .any⟩, ⟨28, 1, .rw, 0, false, .any⟩, ⟨27, 1, .rw, 0, false, .any⟩, ⟨24, 3, .rw, 0, false, .any⟩, ⟨22, 2, .rw, 0, false, .any⟩, ⟨0, 16, .rw, 100, false, .range 1 65535⟩]⟩,
   ⟨"LN_LANESTAT", 0x41001004, (256, 16), (0, 1), 32, [⟨29, 3, .ro, 0, false, .any⟩, ⟨28, 1, .ro, 0, false, .any⟩, ⟨27, 1, .ro, 0, false, .any⟩, ⟨26, 1, .ro, 0, false, .any⟩, ⟨25, 1, .w1c, 0, false, .any⟩, ⟨0, 16, .ro, 0, false, .any⟩]⟩,
   ⟨"LN_LANEERR", 0x41001008, (256, 16), (0, 1), 32, [⟨16, 16, .ro, 0, false, .any⟩, ⟨0, 16, .ro, 0, false, .any⟩]⟩,
   ⟨"LN_PORTADDR", 0x41001010, (256, 16), (0, 1), 64, [⟨48, 16, .rw, 0, false, .any⟩, ⟨0, 48, .rw, 0, false, .any⟩]⟩]

/-- The description rows of registers LN_PORTIP to IN_VIEWCFG. -/
def regDescs2 : List RegDesc :=
  [⟨"LN_PORTIP", 0x41001018, (256, 16), (0, 1), 64, [⟨32, 32, .rw, 0, false, .any⟩, ⟨0, 32, .rw, 0, false, .any⟩]⟩,
   ⟨"LN_PORTCNT", 0x41001020, (256, 16), (0, 1), 64, [⟨48, 16, .ro, 0, false, .any⟩, ⟨32, 16, .ro, 0, false, .any⟩, ⟨16, 16, .ro, 0, false, .any⟩, ⟨0, 16, .ro, 0, false, .any⟩]⟩,
   ⟨"LN_DRVCFG", 0x41003000, (0, 1), (0, 1), 32, [⟨31, 1, .rw, 0, false, .any⟩, ⟨16, 8, .rw, 16, false, .range 1 255⟩, ⟨0, 16, .rw, 2000, false, .range 100 65535⟩]⟩,
   ⟨"LN_DRVSTAT", 0x41003004, (0, 1), (0, 1), 32, [⟨29, 3, .ro, 0, false, .any⟩, ⟨28, 1, .ro, 0, false, .any⟩, ⟨27, 1, .w1c, 0, false, .any⟩, ⟨24, 3, .ro, 0, false, .any⟩, ⟨16, 8, .ro, 0, false, .any⟩, ⟨0, 16, .ro, 0, false, .any⟩]⟩,
   ⟨"LN_DRVCNT", 0x41003008, (0, 1), (0, 1), 64, [⟨32, 32, .ro, 0, false, .any⟩, ⟨0, 32, .ro, 0, false, .any⟩]⟩,
   ⟨"IN_STRCFG", 0x42001000, (128, 16), (0, 1), 32, [⟨31, 1, .rw, 0, false, .any⟩, ⟨24, 4, .rw, 0, false, .any⟩, ⟨20, 2, .rw, 0, false, .any⟩, ⟨8, 7, .rw, 1, false, .range 1 64⟩]⟩,
   ⟨"IN_STRGEOM", 0x42001008, (128, 16), (0, 1), 64, [⟨32, 17, .rw, 0, false, .any⟩, ⟨0, 17, .rw, 0, false, .range 1 65536⟩]⟩,
   ⟨"IN_STRCHUNK", 0x42001010, (128, 16), (0, 1), 32, [⟨0, 32, .rw, 0, false, .any⟩]⟩,
   ⟨"IN_STRBIAS", 0x42001014, (128, 16), (0, 1), 32, [⟨0, 32, .rw, 0, false, .any⟩]⟩,
   ⟨"IN_STRSTAT", 0x42001018, (128, 16), (0, 1), 64, [⟨48, 16, .ro, 0, false, .any⟩, ⟨32, 16, .ro, 0, false, .any⟩, ⟨16, 16, .ro, 0, false, .any⟩, ⟨0, 16, .ro, 0, false, .any⟩]⟩,
   ⟨"IN_STRCTL", 0x42001020, (128, 16), (0, 1), 32, [⟨31, 1, .ro, 0, true, .any⟩, ⟨30, 1, .ro, 0, false, .any⟩, ⟨27, 3, .ro, 0, false, .any⟩, ⟨0, 1, .wo, 0, true, .any⟩]⟩,
   ⟨"IN_VIEWCFG", 0x42002000, (64, 16), (0, 1), 32, [⟨31, 1, .rw, 0, false, .any⟩, ⟨30, 1, .rw, 0, false, .any⟩, ⟨24, 3, .rw, 0, false, .any⟩, ⟨16, 3, .rw, 0, false, .range 0 4⟩, ⟨0, 16, .rw, 200, false, .range 10 65535⟩]⟩]

/-- The description rows of registers IN_VIEWYOFS to PX_VCFG. -/
def regDescs3 : List RegDesc :=
  [⟨"IN_VIEWYOFS", 0x42002004, (64, 16), (0, 1), 32, [⟨0, 32, .rw, 0, false, .srange (-1073741823) (1073741823)⟩]⟩,
   ⟨"IN_VIEWEXPO", 0x42002008, (64, 16), (0, 1), 32, [⟨0, 32, .rw, 0, false, .any⟩]⟩,
   ⟨"IN_VIEWSTAT", 0x42002010, (64, 16), (0, 1), 64, [⟨48, 16, .ro, 0, false, .any⟩, ⟨32, 16, .ro, 0, false, .any⟩, ⟨16, 16, .ro, 0, false, .any⟩, ⟨0, 16, .ro, 0, false, .any⟩]⟩,
   ⟨"IN_RPLCFG", 0x42003000, (0, 1), (0, 1), 64, [⟨63, 1, .rw, 0, true, .any⟩, ⟨32, 16, .rw, 0, false, .range 0 8191⟩]⟩,
   ⟨"IN_RPLCACHE", 0x42003008, (0, 1), (0, 1), 64, [⟨56, 8, .rw, 0, false, .range 1 255⟩, ⟨40, 16, .rw, 0, false, .any⟩, ⟨20, 15, .rw, 0, false, .any⟩]⟩,
   ⟨"IN_RPLSTAT", 0x42003010, (0, 1), (0, 1), 64, [⟨40, 24, .ro, 0, false, .any⟩, ⟨16, 24, .ro, 0, false, .any⟩, ⟨0, 16, .ro, 0, false, .any⟩]⟩,
   ⟨"IN_RPLCTL", 0x42003018, (0, 1), (0, 1), 32, [⟨0, 1, .wo, 0, true, .any⟩]⟩,
   ⟨"PX_EPOCH", 0x45000000, (0, 1), (0, 1), 32, [⟨30, 2, .ro, 0, true, .any⟩, ⟨16, 1, .rw, 0, false, .any⟩, ⟨0, 16, .ro, 0, false, .any⟩]⟩,
   ⟨"PX_EPOCHCTL", 0x45000004, (0, 1), (0, 1), 32, [⟨1, 1, .wo, 0, true, .any⟩, ⟨0, 1, .wo, 0, true, .any⟩]⟩,
   ⟨"PX_DEFER", 0x45000008, (0, 1), (0, 1), 32, [⟨0, 24, .rw, 100000, false, .range 1 16777215⟩]⟩,
   ⟨"PX_AUDCFG", 0x45000010, (0, 1), (0, 1), 64, [⟨48, 16, .rw, 0, false, .range 0 8191⟩, ⟨40, 8, .rw, 0, false, .any⟩, ⟨20, 15, .rw, 0, false, .any⟩]⟩,
   ⟨"PX_VCFG", 0x45001000, (64, 16), (0, 1), 32, [⟨31, 1, .rw, 0, false, .any⟩, ⟨30, 1, .rw, 0, false, .any⟩, ⟨29, 1, .rw, 0, false, .any⟩, ⟨20, 4, .rw, 12, false, .range 8 16⟩, ⟨16, 4, .rw, 6, false, .any⟩, ⟨0, 16, .rw, 256, false, .range 1 65535⟩]⟩]

/-- The description rows of registers PX_VSTRIP to PX_RLEN. -/
def regDescs4 : List RegDesc :=
  [⟨"PX_VSTRIP", 0x45001004, (64, 16), (0, 1), 32, [⟨28, 4, .rw, 8, false, .range 4 10⟩, ⟨0, 17, .rw, 0, false, .any⟩]⟩,
   ⟨"PX_VSET", 0x45001008, (64, 16), (0, 1), 32, [⟨16, 16, .rw, 230, false, .any⟩, ⟨0, 16, .rw, 200, false, .any⟩]⟩,
   ⟨"PX_VLS", 0x4500100C, (64, 16), (0, 1), 32, [⟨0, 12, .rw, 64, false, .range 8 4095⟩]⟩,
   ⟨"PX_VPITCH", 0x45001014, (64, 16), (0, 1), 32, [⟨0, 32, .rw, 65536, false, .range 16384 4294967295⟩]⟩,
   ⟨"PX_VSTAT", 0x45001018, (64, 16), (0, 1), 64, [⟨48, 16, .ro, 0, false, .any⟩, ⟨32, 16, .ro, 16384, true, .any⟩, ⟨16, 16, .ro, 0, false, .any⟩, ⟨0, 16, .ro, 0, false, .any⟩]⟩,
   ⟨"PX_RCFG", 0x45002000, (128, 16), (0, 1), 32, [⟨31, 1, .rw, 0, false, .any⟩, ⟨30, 1, .rw, 0, false, .any⟩, ⟨29, 1, .rw, 0, false, .any⟩, ⟨24, 2, .rw, 0, false, .any⟩, ⟨20, 4, .rw, 0, false, .any⟩, ⟨8, 8, .rw, 0, false, .any⟩, ⟨0, 8, .rw, 0, false, .any⟩]⟩,
   ⟨"PX_RVIEW", 0x45002004, (128, 16), (4, 4), 32, [⟨31, 1, .rw, 0, false, .any⟩, ⟨17, 4, .rw, 0, false, .any⟩, ⟨0, 17, .rw, 0, false, .any⟩]⟩,
   ⟨"PX_RGEOM", 0x45002014, (128, 16), (0, 1), 32, [⟨0, 18, .rw, 0, false, .range 1 131072⟩]⟩,
   ⟨"PX_RTHR", 0x4500201C, (128, 16), (0, 1), 32, [⟨16, 16, .rw, 65535, false, .any⟩, ⟨0, 16, .rw, 0, false, .any⟩]⟩,
   ⟨"PX_RSEG", 0x45002020, (128, 16), (0, 1), 32, [⟨24, 8, .rw, 4, false, .range 1 255⟩, ⟨0, 18, .rw, 64, false, .range 1 131072⟩]⟩,
   ⟨"PX_RSENS", 0x45002024, (128, 16), (0, 1), 32, [⟨0, 32, .rw, 0, false, .any⟩]⟩,
   ⟨"PX_RLEN", 0x45002028, (128, 16), (0, 1), 64, [⟨32, 30, .rw, 0, false, .range 1 1073741823⟩, ⟨0, 30, .rw, 0, false, .range 1 1073741823⟩]⟩]

/-- The description rows of registers PX_RTILE to CR_SERR. -/
def regDescs5 : List RegDesc :=
  [⟨"PX_RTILE", 0x45002030, (128, 16), (0, 1), 64, [⟨52, 12, .rw, 0, false, .range 1 4095⟩, ⟨40, 12, .rw, 0, false, .range 1 4095⟩, ⟨20, 15, .rw, 0, false, .any⟩]⟩,
   ⟨"PX_RAUD", 0x45002038, (128, 16), (0, 1), 32, [⟨31, 1, .rw, 1, false, .any⟩, ⟨30, 1, .rw, 1, false, .any⟩, ⟨0, 16, .rw, 0, false, .any⟩]⟩,
   ⟨"PX_RSTAT", 0x45002040, (128, 16), (0, 1), 64, [⟨48, 16, .ro, 0, false, .any⟩, ⟨32, 16, .ro, 0, false, .any⟩, ⟨16, 16, .ro, 0, false, .any⟩, ⟨0, 16, .ro, 0, false, .any⟩]⟩,
   ⟨"LB_STREAMCNT", 0x47000000, (0, 1), (0, 1), 64, [⟨48, 16, .ro, 0, false, .any⟩, ⟨32, 16, .ro, 0, false, .any⟩, ⟨16, 16, .ro, 0, false, .any⟩, ⟨0, 16, .ro, 0, false, .any⟩]⟩,
   ⟨"LB_SELFTEST", 0x47000008, (0, 1), (0, 1), 32, [⟨31, 1, .ro, 0, false, .any⟩, ⟨0, 4, .ro, 0, false, .any⟩]⟩,
   ⟨"LB_USTAT", 0x47000100, (16, 4), (0, 1), 64, [⟨63, 1, .ro, 0, true, .any⟩, ⟨62, 1, .ro, 0, true, .any⟩, ⟨48, 6, .ro, 0, true, .any⟩, ⟨0, 32, .ro, 0, false, .any⟩]⟩,
   ⟨"LB_RSTEM", 0x47002000, (128, 16), (4, 16), 32, [⟨0, 32, .rw, 0, false, .any⟩]⟩,
   ⟨"LB_RSTEMOUT", 0x47002040, (128, 16), (0, 1), 64, [⟨40, 12, .rw, 0, false, .range 1 4095⟩, ⟨20, 15, .rw, 0, false, .any⟩]⟩,
   ⟨"CR_STAT", 0x46000000, (65536, 16), (0, 1), 32, [⟨29, 3, .ro, 0, true, .any⟩, ⟨16, 6, .ro, 0, true, .any⟩, ⟨8, 8, .ro, 0, true, .any⟩, ⟨0, 8, .ro, 0, true, .any⟩]⟩,
   ⟨"CR_FENCE", 0x46000004, (65536, 16), (0, 1), 32, [⟨31, 1, .ro, 0, false, .any⟩, ⟨30, 1, .ro, 0, false, .any⟩, ⟨16, 8, .ro, 0, false, .any⟩]⟩,
   ⟨"CR_PERF", 0x46000008, (65536, 16), (0, 1), 64, [⟨32, 32, .ro, 0, false, .any⟩, ⟨0, 32, .ro, 0, false, .any⟩]⟩,
   ⟨"CR_SERR", 0x46000010, (65536, 16), (0, 1), 32, [⟨16, 16, .ro, 0, false, .any⟩, ⟨0, 16, .ro, 0, false, .any⟩]⟩]

/-- The description rows of registers CR_LASTERR to SH_CCTL. -/
def regDescs6 : List RegDesc :=
  [⟨"CR_LASTERR", 0x46000018, (65536, 16), (0, 1), 64, [⟨56, 8, .ro, 0, false, .any⟩, ⟨48, 8, .ro, 0, false, .any⟩, ⟨40, 8, .ro, 0, false, .any⟩, ⟨32, 8, .ro, 0, false, .any⟩, ⟨0, 32, .ro, 0, false, .any⟩]⟩,
   ⟨"CR_EMPTY", 0x46000020, (65536, 16), (0, 1), 64, [⟨48, 16, .ro, 0, false, .any⟩, ⟨32, 16, .ro, 0, false, .any⟩, ⟨0, 32, .ro, 0, false, .any⟩]⟩,
   ⟨"SH_CFG", 0x48000000, (0, 1), (0, 1), 32, [⟨16, 16, .rw, 500, false, .range 100 10000⟩, ⟨8, 5, .rw, 2, false, .range 1 31⟩, ⟨0, 5, .rw, 1, false, .range 1 16⟩]⟩,
   ⟨"SH_SAVE", 0x48000008, (0, 1), (0, 1), 64, [⟨40, 12, .rw, 0, false, .range 16 256⟩, ⟨20, 15, .rw, 0, false, .any⟩]⟩,
   ⟨"SH_STAT", 0x48000010, (0, 1), (0, 1), 32, [⟨25, 5, .ro, 0, true, .any⟩, ⟨16, 9, .ro, 0, true, .any⟩, ⟨0, 10, .ro, 0, true, .any⟩]⟩,
   ⟨"SH_FLUSH", 0x48000018, (0, 1), (0, 1), 64, [⟨48, 16, .ro, 0, false, .any⟩, ⟨40, 8, .ro, 0, false, .any⟩, ⟨32, 8, .ro, 0, false, .any⟩, ⟨0, 32, .ro, 0, false, .any⟩]⟩,
   ⟨"SH_CCFG", 0x48001000, (64, 64), (0, 1), 64, [⟨63, 1, .rw, 0, false, .any⟩, ⟨61, 2, .rw, 0, false, .any⟩, ⟨48, 6, .rw, 0, false, .range 0 15⟩, ⟨38, 10, .rw, 0, false, .range 1 1000⟩, ⟨24, 8, .rw, 0, false, .any⟩, ⟨16, 8, .rw, 0, false, .any⟩, ⟨0, 16, .rw, 0, false, .any⟩]⟩,
   ⟨"SH_CPROG", 0x48001008, (64, 64), (0, 1), 64, [⟨0, 38, .rw, 0, false, .mult 64⟩]⟩,
   ⟨"SH_CSCR", 0x48001010, (64, 64), (0, 1), 64, [⟨40, 12, .rw, 0, false, .range 1 4095⟩, ⟨20, 15, .rw, 0, false, .any⟩]⟩,
   ⟨"SH_CRING", 0x48001018, (64, 64), (0, 1), 32, [⟨16, 16, .rw, 0, false, .range 0 8191⟩, ⟨0, 16, .rw, 0, false, .range 0 8191⟩]⟩,
   ⟨"SH_CSTAT", 0x48001020, (64, 64), (0, 1), 64, [⟨63, 1, .ro, 0, false, .any⟩, ⟨32, 2, .ro, 0, false, .any⟩, ⟨0, 32, .ro, 0, false, .any⟩]⟩,
   ⟨"SH_CCTL", 0x48001028, (64, 64), (0, 1), 32, [⟨0, 1, .wo, 0, true, .any⟩]⟩]

/-- The description rows of registers SH_SEM to FO_CCFG. -/
def regDescs7 : List RegDesc :=
  [⟨"SH_SEM", 0x48006000, (4, 256), (0, 1), 32, [⟨0, 32, .rw, 0, true, .any⟩]⟩,
   ⟨"FO_STAT", 0x49000000, (0, 1), (0, 1), 64, [⟨51, 13, .ro, 0, false, .any⟩, ⟨38, 13, .ro, 0, false, .any⟩, ⟨30, 8, .ro, 0, false, .any⟩, ⟨0, 16, .ro, 0, false, .any⟩]⟩,
   ⟨"FO_PSN", 0x49000008, (0, 1), (0, 1), 32, [⟨0, 32, .ro, 0, false, .any⟩]⟩,
   ⟨"FO_RCFG", 0x49001000, (64, 16), (0, 1), 32, [⟨29, 3, .rw, 0, false, .range 0 3⟩, ⟨26, 3, .rw, 1, false, .any⟩, ⟨25, 1, .rw, 0, false, .any⟩, ⟨24, 1, .rw, 0, false, .any⟩]⟩,
   ⟨"FO_RGEOM", 0x49001008, (64, 16), (0, 1), 64, [⟨32, 30, .rw, 0, false, .range 1 1073741823⟩, ⟨0, 30, .rw, 0, false, .range 1 1073741823⟩]⟩,
   ⟨"FO_RBIN", 0x49001010, (64, 16), (0, 1), 64, [⟨30, 5, .rw, 31, false, .binOut⟩, ⟨25, 5, .rw, 31, false, .binOut⟩, ⟨20, 5, .rw, 31, false, .binOut⟩, ⟨15, 5, .rw, 31, false, .binOut⟩, ⟨10, 5, .rw, 31, false, .binOut⟩, ⟨5, 5, .rw, 31, false, .binOut⟩, ⟨0, 5, .rw, 31, false, .binOut⟩]⟩,
   ⟨"FO_RRING", 0x49001018, (64, 16), (0, 1), 64, [⟨32, 16, .rw, 0, false, .range 0 8191⟩, ⟨16, 16, .rw, 0, false, .range 0 8191⟩, ⟨0, 16, .rw, 0, false, .range 0 8191⟩]⟩,
   ⟨"FO_RSTAT", 0x49001020, (64, 16), (0, 1), 64, [⟨48, 16, .ro, 0, false, .any⟩, ⟨32, 16, .ro, 0, false, .any⟩, ⟨16, 16, .ro, 0, false, .any⟩, ⟨0, 16, .ro, 0, false, .any⟩]⟩,
   ⟨"FO_OCFG", 0x49002000, (64, 16), (0, 1), 64, [⟨62, 2, .rw, 0, false, .range 0 2⟩, ⟨61, 1, .rw, 0, false, .any⟩, ⟨60, 1, .rw, 0, false, .any⟩, ⟨32, 20, .rw, 0, false, .any⟩, ⟨16, 16, .rw, 0, false, .any⟩, ⟨0, 16, .rw, 0, false, .any⟩]⟩,
   ⟨"FO_OPW", 0x49002008, (64, 16), (0, 1), 32, [⟨0, 16, .rw, 100, false, .range 1 65535⟩]⟩,
   ⟨"FO_OSTAT", 0x49002010, (64, 16), (0, 1), 64, [⟨48, 16, .ro, 0, false, .any⟩, ⟨32, 16, .ro, 0, false, .any⟩, ⟨16, 16, .ro, 0, false, .any⟩, ⟨0, 16, .ro, 0, false, .any⟩]⟩,
   ⟨"FO_CCFG", 0x49004000, (512, 64), (0, 1), 32, [⟨0, 4, .rw, 0, false, .any⟩]⟩]

/-- The description rows of registers FO_RULE to TM_LAUNCH. -/
def regDescs8 : List RegDesc :=
  [⟨"FO_RULE", 0x49004100, (512, 64), (4, 64), 32, [⟨0, 32, .rw, 0, false, .any⟩]⟩,
   ⟨"TM_CFG", 0x44000000, (0, 1), (0, 1), 32, [⟨31, 1, .rw, 0, false, .any⟩, ⟨30, 1, .rw, 0, false, .any⟩, ⟨29, 1, .rw, 0, false, .any⟩, ⟨20, 4, .rw, 0, false, .any⟩, ⟨8, 8, .rw, 0, false, .range 0 127⟩, ⟨4, 4, .rw, 13, false, .srange (-7) (1)⟩, ⟨0, 4, .rw, 1, false, .srange (-3) (4)⟩]⟩,
   ⟨"TM_PORTS", 0x44000004, (0, 1), (0, 1), 32, [⟨0, 16, .rw, 0, false, .any⟩]⟩,
   ⟨"TM_STAT", 0x44000008, (0, 1), (0, 1), 32, [⟨29, 3, .ro, 0, false, .any⟩, ⟨28, 1, .w1c, 0, false, .any⟩, ⟨0, 16, .ro, 0, false, .any⟩]⟩,
   ⟨"TM_TIME", 0x44000010, (0, 1), (0, 1), 64, [⟨0, 64, .ro, 0, false, .any⟩]⟩,
   ⟨"TM_PTPOFS", 0x44000018, (0, 1), (0, 1), 64, [⟨0, 64, .rw, 0, false, .any⟩]⟩,
   ⟨"TM_RATE", 0x44000020, (0, 1), (0, 1), 32, [⟨0, 32, .rw, 0, false, .srange (-200000) (200000)⟩]⟩,
   ⟨"TM_OFFSET", 0x44000028, (0, 1), (0, 1), 32, [⟨0, 32, .ro, 0, false, .any⟩]⟩,
   ⟨"TM_BWCFG", 0x44000100, (0, 1), (0, 1), 32, [⟨30, 2, .rw, 0, false, .any⟩, ⟨29, 1, .rw, 0, false, .any⟩, ⟨0, 8, .rw, 0, false, .any⟩]⟩,
   ⟨"TM_BWSTAT", 0x44000104, (0, 1), (0, 1), 32, [⟨30, 2, .ro, 0, false, .any⟩, ⟨29, 1, .ro, 0, false, .any⟩, ⟨28, 1, .w1c, 0, false, .any⟩, ⟨0, 16, .ro, 0, false, .any⟩]⟩,
   ⟨"TM_BW", 0x44000108, (0, 1), (0, 1), 64, [⟨0, 64, .ro, 0, false, .any⟩]⟩,
   ⟨"TM_LAUNCH", 0x44000110, (0, 1), (0, 1), 64, [⟨0, 64, .rw, 0, false, .any⟩]⟩]

/-- The description rows of registers TM_LAUNCHCFG to DM_CHCTL. -/
def regDescs9 : List RegDesc :=
  [⟨"TM_LAUNCHCFG", 0x44000118, (0, 1), (0, 1), 32, [⟨31, 1, .rw, 0, false, .any⟩, ⟨16, 8, .rw, 0, false, .any⟩, ⟨0, 16, .rw, 0, false, .any⟩]⟩,
   ⟨"TM_LPOS", 0x44000120, (8, 4), (0, 1), 64, [⟨63, 1, .ro, 0, false, .any⟩, ⟨0, 48, .ro, 0, false, .any⟩]⟩,
   ⟨"TM_PAIROFS", 0x44000140, (8, 4), (0, 1), 64, [⟨63, 1, .ro, 0, false, .any⟩, ⟨0, 48, .ro, 0, false, .any⟩]⟩,
   ⟨"TM_RPAIR", 0x44000200, (16, 16), (0, 1), 32, [⟨30, 2, .rw, 0, false, .range 0 2⟩, ⟨0, 16, .rw, 16, false, .any⟩]⟩,
   ⟨"TM_RPSTAT", 0x44000208, (16, 16), (0, 1), 64, [⟨48, 16, .ro, 0, false, .any⟩, ⟨32, 16, .ro, 0, false, .any⟩, ⟨16, 16, .ro, 0, false, .any⟩, ⟨0, 16, .ro, 0, false, .any⟩]⟩,
   ⟨"MM_CFG", 0x4A000000, (0, 1), (0, 1), 32, [⟨16, 16, .rw, 24, false, .range 1 168⟩, ⟨0, 1, .rw, 1, false, .any⟩]⟩,
   ⟨"MM_ECCSTAT", 0x4A000008, (0, 1), (0, 1), 64, [⟨32, 32, .ro, 0, false, .any⟩, ⟨16, 16, .ro, 0, false, .any⟩, ⟨0, 16, .ro, 0, false, .any⟩]⟩,
   ⟨"MM_UEADDR", 0x4A000010, (0, 1), (0, 1), 64, [⟨63, 1, .w1c, 0, false, .any⟩, ⟨61, 2, .ro, 0, false, .any⟩, ⟨0, 35, .ro, 0, false, .any⟩]⟩,
   ⟨"MM_SCRUB", 0x4A000018, (0, 1), (0, 1), 64, [⟨32, 32, .ro, 0, false, .any⟩, ⟨0, 29, .ro, 0, false, .any⟩]⟩,
   ⟨"DM_CHCFG", 0x4B001000, (64, 64), (0, 1), 64, [⟨63, 1, .rw, 0, false, .any⟩, ⟨62, 1, .rw, 0, false, .any⟩, ⟨32, 16, .rw, 0, false, .range 0 8191⟩, ⟨0, 16, .rw, 0, false, .range 0 8191⟩]⟩,
   ⟨"DM_CHSTAT", 0x4B001008, (64, 64), (0, 1), 64, [⟨62, 2, .ro, 0, false, .any⟩, ⟨48, 8, .ro, 0, false, .any⟩, ⟨0, 32, .ro, 0, false, .any⟩]⟩,
   ⟨"DM_CHCTL", 0x4B001010, (64, 64), (0, 1), 32, [⟨1, 1, .wo, 0, true, .any⟩, ⟨0, 1, .wo, 0, true, .any⟩]⟩]

/-- The description rows of registers HP_STAT to FI_INGRP. -/
def regDescs10 : List RegDesc :=
  [⟨"HP_STAT", 0x4C000000, (0, 1), (0, 1), 32, [⟨29, 3, .ro, 0, false, .any⟩, ⟨28, 1, .w1c, 0, false, .any⟩, ⟨0, 16, .ro, 0, false, .any⟩]⟩,
   ⟨"HP_ERRCNT", 0x4C000008, (0, 1), (0, 1), 64, [⟨48, 16, .ro, 0, false, .any⟩, ⟨32, 16, .ro, 0, false, .any⟩, ⟨16, 16, .ro, 0, false, .any⟩, ⟨0, 16, .ro, 0, false, .any⟩]⟩,
   ⟨"HP_CLK", 0x4C000010, (0, 1), (0, 1), 32, [⟨0, 10, .ro, 0, false, .any⟩]⟩,
   ⟨"HP_ATTNCFG", 0x4C000018, (0, 1), (0, 1), 32, [⟨31, 1, .rw, 1, false, .any⟩, ⟨30, 1, .rw, 1, false, .any⟩]⟩,
   ⟨"HP_HB", 0x4C000020, (0, 1), (0, 1), 32, [⟨0, 32, .ro, 0, false, .any⟩]⟩,
   ⟨"FI_LINK", 0x4D000000, (0, 1), (0, 1), 32, [⟨30, 2, .ro, 0, false, .any⟩, ⟨29, 1, .ro, 1, false, .any⟩, ⟨28, 1, .w1c, 0, false, .any⟩, ⟨27, 1, .ro, 0, false, .any⟩, ⟨0, 16, .ro, 0, false, .any⟩]⟩,
   ⟨"FI_LINKERR", 0x4D000008, (0, 1), (0, 1), 64, [⟨32, 32, .ro, 0, false, .any⟩, ⟨0, 32, .ro, 0, false, .any⟩]⟩,
   ⟨"FI_SUPPLY", 0x4D000010, (0, 1), (0, 1), 32, [⟨30, 2, .ro, 2, false, .any⟩, ⟨29, 1, .w1c, 0, false, .any⟩, ⟨28, 1, .w1c, 0, false, .any⟩, ⟨8, 8, .ro, 0, false, .any⟩, ⟨0, 8, .ro, 0, false, .any⟩]⟩,
   ⟨"FI_FAULT", 0x4D000018, (0, 1), (0, 1), 32, [⟨31, 1, .ro, 0, false, .any⟩, ⟨30, 1, .w1c, 0, false, .any⟩, ⟨0, 16, .ro, 0, false, .any⟩]⟩,
   ⟨"FI_IN", 0x4D000020, (0, 1), (0, 1), 32, [⟨31, 1, .ro, 0, false, .any⟩, ⟨0, 16, .ro, 0, false, .any⟩]⟩,
   ⟨"FI_OUT", 0x4D000028, (0, 1), (0, 1), 32, [⟨16, 16, .ro, 0, false, .any⟩, ⟨0, 16, .ro, 0, false, .any⟩]⟩,
   ⟨"FI_INGRP", 0x4D000030, (0, 1), (0, 1), 32, [⟨1, 1, .rw, 0, false, .any⟩, ⟨0, 1, .rw, 0, false, .any⟩]⟩]

/-- The description rows of registers FI_OUTCFG to MG_PADREQ. -/
def regDescs11 : List RegDesc :=
  [⟨"FI_OUTCFG", 0x4D000038, (0, 1), (0, 1), 32, [⟨0, 8, .rw, 0, false, .any⟩]⟩,
   ⟨"FI_INCFG", 0x4D000100, (4, 16), (0, 1), 32, [⟨31, 1, .rw, 0, false, .any⟩, ⟨0, 14, .rw, 100, false, .range 2 10000⟩]⟩,
   ⟨"MG_CANDCFG", 0x4E002000, (0, 1), (0, 1), 64, [⟨56, 3, .rw, 0, false, .range 0 4⟩, ⟨48, 8, .rw, 0, false, .range 1 255⟩, ⟨20, 15, .rw, 0, false, .any⟩]⟩,
   ⟨"MG_PKGREQ", 0x4E002008, (0, 1), (0, 1), 64, [⟨56, 8, .rw, 0, false, .any⟩, ⟨52, 4, .rw, 0, false, .any⟩, ⟨48, 2, .rw, 0, false, .any⟩, ⟨40, 8, .rw, 0, false, .range 0 63⟩, ⟨39, 1, .rw, 0, false, .any⟩]⟩,
   ⟨"MG_PKGHB", 0x4E002010, (8, 2), (0, 1), 64, [⟨44, 20, .rw, 0, false, .any⟩, ⟨16, 22, .rw, 0, false, .any⟩]⟩,
   ⟨"MG_PKGSTAT", 0x4E002020, (0, 1), (0, 1), 64, [⟨56, 8, .ro, 0, false, .any⟩, ⟨53, 3, .ro, 0, true, .any⟩, ⟨48, 5, .ro, 0, false, .any⟩, ⟨40, 8, .ro, 0, false, .any⟩, ⟨0, 32, .ro, 0, false, .any⟩]⟩,
   ⟨"MG_CFGSTAT", 0x4E001000, (0, 1), (0, 1), 64, [⟨63, 1, .ro, 0, false, .any⟩, ⟨62, 1, .ro, 0, true, .any⟩, ⟨60, 2, .ro, 0, true, .any⟩, ⟨57, 3, .ro, 0, true, .any⟩, ⟨52, 5, .ro, 0, true, .any⟩, ⟨49, 3, .ro, 0, true, .any⟩, ⟨41, 8, .ro, 0, true, .any⟩, ⟨25, 16, .ro, 0, true, .any⟩, ⟨0, 25, .ro, 0, true, .any⟩]⟩,
   ⟨"MG_LIFE", 0x4E001008, (0, 1), (0, 1), 32, [⟨28, 4, .ro, 0, false, .any⟩, ⟨26, 2, .ro, 0, false, .any⟩, ⟨25, 1, .ro, 0, false, .any⟩, ⟨23, 2, .ro, 0, false, .any⟩, ⟨21, 2, .ro, 0, false, .any⟩, ⟨8, 8, .ro, 0, false, .any⟩, ⟨0, 3, .ro, 0, false, .any⟩]⟩,
   ⟨"MG_IDSTAT", 0x4E001010, (0, 1), (0, 1), 64, [⟨61, 3, .ro, 0, false, .any⟩, ⟨32, 14, .ro, 0, false, .any⟩, ⟨16, 13, .ro, 0, false, .any⟩, ⟨0, 12, .ro, 0, false, .any⟩]⟩,
   ⟨"MG_IDREQ", 0x4E001018, (0, 1), (0, 1), 64, [⟨56, 8, .rw, 0, false, .any⟩, ⟨52, 4, .rw, 0, false, .any⟩, ⟨6, 14, .rw, 0, false, .any⟩]⟩,
   ⟨"MG_IDDONE", 0x4E001020, (0, 1), (0, 1), 64, [⟨56, 8, .ro, 0, false, .any⟩, ⟨52, 4, .ro, 0, false, .any⟩, ⟨0, 16, .ro, 0, false, .any⟩]⟩,
   ⟨"MG_PADREQ", 0x4E001028, (0, 1), (0, 1), 64, [⟨56, 8, .rw, 0, false, .any⟩, ⟨52, 4, .rw, 0, false, .any⟩, ⟨27, 21, .rw, 0, false, .range 1 1048576⟩, ⟨4, 22, .rw, 0, false, .any⟩]⟩]

/-- The description rows of registers MG_PADSTAT to MG_SERR. -/
def regDescs12 : List RegDesc :=
  [⟨"MG_PADSTAT", 0x4E001030, (0, 1), (0, 1), 64, [⟨56, 8, .ro, 0, false, .any⟩, ⟨51, 5, .ro, 0, false, .any⟩, ⟨48, 3, .ro, 0, true, .any⟩, ⟨0, 32, .ro, 0, false, .any⟩]⟩,
   ⟨"MG_RESETCTL", 0x4E000100, (0, 1), (0, 1), 32, [⟨24, 8, .wo, 0, true, .any⟩, ⟨1, 1, .wo, 0, true, .any⟩, ⟨0, 1, .wo, 0, true, .any⟩]⟩,
   ⟨"MG_WARMCFG", 0x4E000104, (0, 1), (0, 1), 32, [⟨16, 16, .rw, 2000, false, .range 100 10000⟩, ⟨0, 4, .rw, 5, false, .range 1 10⟩]⟩,
   ⟨"MG_START", 0x4E000108, (0, 1), (0, 1), 64, [⟨62, 2, .ro, 0, false, .any⟩, ⟨58, 4, .ro, 0, false, .any⟩, ⟨56, 2, .ro, 0, false, .any⟩, ⟨54, 2, .ro, 0, false, .any⟩, ⟨48, 6, .ro, 0, false, .any⟩, ⟨40, 8, .ro, 0, false, .any⟩, ⟨24, 16, .ro, 0, false, .any⟩, ⟨0, 24, .ro, 0, false, .any⟩]⟩,
   ⟨"MG_PWRCFG", 0x4E000200, (0, 1), (0, 1), 32, [⟨0, 2, .rw, 0, false, .range 0 2⟩]⟩,
   ⟨"MG_PWRSTAT", 0x4E000208, (0, 1), (0, 1), 64, [⟨62, 2, .ro, 0, false, .any⟩, ⟨60, 2, .ro, 0, false, .any⟩, ⟨32, 16, .ro, 0, false, .any⟩, ⟨16, 16, .ro, 0, false, .any⟩, ⟨0, 16, .ro, 0, false, .any⟩]⟩,
   ⟨"MG_EVROUTE", 0x4E000300, (8, 4), (0, 1), 64, [⟨63, 1, .rw, 0, false, .any⟩, ⟨56, 2, .rw, 0, false, .any⟩, ⟨32, 16, .rw, 0, false, .range 0 8191⟩, ⟨0, 15, .rw, 0, false, .any⟩]⟩,
   ⟨"MG_EVCNT", 0x4E000320, (0, 1), (0, 1), 64, [⟨48, 16, .ro, 0, false, .any⟩, ⟨32, 16, .ro, 0, false, .any⟩, ⟨16, 16, .ro, 0, false, .any⟩, ⟨0, 16, .ro, 0, false, .any⟩]⟩,
   ⟨"MG_HOLD", 0x4E000400, (0, 1), (0, 1), 32, [⟨6, 1, .ro, 0, false, .any⟩, ⟨5, 1, .ro, 1, false, .any⟩, ⟨4, 1, .ro, 0, false, .any⟩, ⟨3, 1, .ro, 0, false, .any⟩, ⟨2, 1, .ro, 0, false, .any⟩, ⟨1, 1, .ro, 0, false, .any⟩, ⟨0, 1, .ro, 0, false, .any⟩]⟩,
   ⟨"MG_WDSTAT", 0x4E000410, (0, 1), (0, 1), 32, [⟨16, 16, .ro, 0, false, .any⟩, ⟨0, 16, .ro, 0, false, .any⟩]⟩,
   ⟨"MG_THRSTAT", 0x4E000500, (0, 1), (0, 1), 64, [⟨62, 2, .ro, 0, false, .any⟩, ⟨60, 2, .ro, 0, false, .any⟩, ⟨57, 3, .ro, 0, false, .any⟩, ⟨40, 8, .ro, 0, false, .any⟩, ⟨0, 32, .ro, 0, false, .any⟩]⟩,
   ⟨"MG_SERR", 0x4E000510, (0, 1), (0, 1), 64, [⟨56, 8, .ro, 0, false, .any⟩, ⟨48, 8, .ro, 0, false, .any⟩, ⟨40, 8, .ro, 0, false, .any⟩, ⟨32, 8, .ro, 0, false, .any⟩, ⟨24, 8, .ro, 0, false, .any⟩, ⟨16, 8, .ro, 0, false, .any⟩, ⟨12, 4, .ro, 0, false, .any⟩, ⟨8, 4, .ro, 0, false, .any⟩, ⟨0, 8, .ro, 0, false, .any⟩]⟩]

/-- Every register of the spec. -/
def regDescs : List RegDesc :=
  regDescs0 ++ regDescs1 ++ regDescs2 ++ regDescs3 ++ regDescs4 ++ regDescs5 ++ regDescs6 ++ regDescs7 ++ regDescs8 ++ regDescs9 ++ regDescs10 ++ regDescs11 ++ regDescs12

end Sys2Proof.Machine
end

