-- ==== Sys2Proof/Machine/Tab.lean ====
section
/-! DEFINITION. Sparse tables in one canonical form: the shape of the register file, of the memory and of every file of
like units. Keys rise strictly, and an entry equal to what an unlisted key reads as is not listed. -/

namespace Sys2Proof

/-- A sparse table: pairs of a key and a value. -/
abbrev Tab (α : Type) := List (Nat × α)

/-- The value at key `k`; `d` is what an unlisted key reads as. -/
def Tab.get {α : Type} (d : α) : Tab α → Nat → α
  | [], _ => d
  | (k', v) :: t, k => if k = k' then v else Tab.get d t k

/-- The table without any entry at key `k`. -/
def Tab.del {α : Type} : Tab α → Nat → Tab α
  | [], _ => []
  | (k', v) :: t, k => if k = k' then Tab.del t k else (k', v) :: Tab.del t k

/-- The table with the entry `v` at key `k`, in its place among rising keys. -/
def Tab.put {α : Type} : Tab α → Nat → α → Tab α
  | [], k, v => [(k, v)]
  | (k', v') :: t, k, v =>
    if k < k' then (k, v) :: (k', v') :: t
    else if k = k' then (k, v) :: t
    else (k', v') :: Tab.put t k v

/-- Writing `v` at key `k`: the entry is removed where `v` is what an unlisted key reads as. -/
def Tab.set {α : Type} [DecidableEq α] (d : α) (t : Tab α) (k : Nat) (v : α) : Tab α :=
  if v = d then Tab.del t k else Tab.put t k v

/-- The canonical form's first half, for a table whose keys lie above `lo`. -/
def Tab.risesFrom {α : Type} : Nat → Tab α → Bool
  | _, [] => true
  | lo, (k, _) :: t => decide (lo ≤ k) && Tab.risesFrom (k + 1) t

/-- The canonical form: keys rise strictly, and no entry equals what an unlisted key reads as. -/
def Tab.wf {α : Type} [DecidableEq α] (d : α) (t : Tab α) : Bool :=
  Tab.risesFrom 0 t && t.all (fun p => decide (p.2 ≠ d))

/-- A table of optional values: an absent key holds nothing. -/
def Tab.find? {α : Type} : Tab α → Nat → Option α
  | [], _ => none
  | (k', v) :: t, k => if k = k' then some v else Tab.find? t k

/-- A function applied to every value; entries that come to equal what an unlisted key reads as are dropped. -/
def Tab.mapVals {α β : Type} [DecidableEq β] (d : β) (f : Nat → α → β) (t : Tab α) : Tab β :=
  (t.map fun p => (p.1, f p.1 p.2)).filter fun p => decide (p.2 ≠ d)

/-- The entries whose key and value meet a test. -/
def Tab.keep {α : Type} (f : Nat → α → Bool) (t : Tab α) : Tab α := t.filter fun p => f p.1 p.2

end Sys2Proof
end

