-- ==== Sys2Proof/Machine/State.lean ====
section
/-! DEFINITION. The state of the module as plain data: every register, memory, queue, counter and mode that the spec gives it,
and the queue of the commands that wait. -/

namespace Sys2Proof.Machine

/-! ## The Position unit -/

/-- One encoder channel beside its registers (R41 to R54). -/
structure Enc where
  /-- the two-stage synchronisers of A, B and Z: bit 0 the first stage, bit 1 the synchronised level (R41); unused on ENC2 and ENC3 -/
  syA : BitVec 2 := 0
  syB : BitVec 2 := 0
  syZ : BitVec 2 := 0
  /-- the last 64 samples that the filters of A, B and Z hold, bit 0 the newest (R41, R50) -/
  winA : BitVec 64 := 0
  winB : BitVec 64 := 0
  winZ : BitVec 64 := 0
  /-- the ENC cycle up to which the inputs have been sampled -/
  seen : Nat := 0
  /-- filter outputs: (A, B) is the counter's previous pair -/
  fA : Bool := false
  fB : Bool := false
  fZ : Bool := false
  /-- DIR: true is reverse (R44) -/
  dir : Bool := false
  pend : Bool := false
  /-- the ENC cycles since which the differential inputs A, B and Z stand below 200 mV (R45) -/
  flA : Option Nat := none
  flB : Option Nat := none
  flZ : Option Nat := none
  /-- the ENC cycles at which EN and CHK_EN were last set (R45) -/
  onSince : Nat := 0
  chkSince : Nat := 0
  /-- ENC2 and ENC3: CNT and ZEV of the last good frame counted from (R50) -/
  ref : Option (Nat × Bool) := none
  /-- an index event serves as baseline (R47); DIR at it; DIR has changed since -/
  base : Bool := false
  baseDir : Bool := false
  dirMoved : Bool := false
  /-- the speed window: opening cycle, its length in µs and standstill time in ms as taken at its opening, net count,
  whether it counted, whether DIR changed in it, whether the reading published at its opening had STILL -/
  wOpen : Nat := 0
  wLen : Nat := 1000
  wStill : Nat := 100
  wNet : Int := 0
  wAny : Bool := false
  wDir : Bool := false
  wAfterStill : Bool := true
  lastCount : Option Nat := none
deriving DecidableEq, Repr

/-- An entry of a trigger log (R58): the trigger number, the position at which it was issued, the ENC cycle of its start, and how many
triggers the output had issued before it. -/
structure TrigLog where
  num : Nat
  pos : Int
  at_ : Nat
  ord : Nat
deriving DecidableEq, Repr

/-- One line-trigger output beside its registers (R55 to R59). -/
structure Trig where
  /-- the target in 48.16, while enabled -/
  target : Option Int := none
  /-- furthest position since EN was set (R56) -/
  far : Int := 0
  /-- ENC cycle at which the running pulse ends -/
  pulseEnd : Option Nat := none
  lastStart : Option Nat := none
  pend : Bool := false
  log : Tab (Option TrigLog) := []
  /-- triggers issued so far (R58) -/
  issued : Nat := 0
deriving DecidableEq, Repr

/-- The Position unit beside its registers. -/
structure Pos where
  encs : Tab Enc := []
  trigs : Tab Trig := []
  /-- track history per encoder: index of the oldest and of the newest valid sample (R61 to R63) -/
  track : Tab (Option (Nat × Nat)) := []
  /-- the write-combining buffer of each encoder's track history (R61): sample indices of the line being gathered, oldest first, with their entries -/
  combine : Tab (List (Nat × Nat)) := []
deriving DecidableEq, Repr

/-! ## Time, memory marks, rings and events -/

/-- The clocks that no throttle touches (R576, R390, R399): ENC cycles of 5 ns, device time with its part below one
nanosecond, and the Bellwether counter with its part below one tick. -/
structure Clock where
  /-- ENC cycles since the cold start began -/
  enc : Nat := 0
  /-- device time in ns (R390) -/
  dev : Nat := 0
  /-- the part of device time below one ns, in units of 10^-9 ns (TM_RATE is in parts per billion) -/
  devFrac : Nat := 0
  /-- Bellwether count, 10 ns ticks (R399) -/
  bw : Nat := 0
  /-- the part of the Bellwether count below one tick, in units of 1 / (2 × 10^9) tick -/
  bwFrac : Nat := 0
  /-- the trim of the Bellwether counter in parts per billion (R400) -/
  bwTrim : Int := 0
deriving DecidableEq, Repr

/-- The ECC state of one protected line or word (R429, R435, R625). -/
inductive Mark
  /-- no error -/
  | clean
  /-- an error that every read corrects -/
  | corrected
  /-- an error that every read reports as uncorrectable -/
  | uncorrectable
deriving DecidableEq, Repr

/-- The on-chip stores whose errors MG_SERR counts (R625), by their store codes, and the core stores. -/
inductive Store
  | sws | lineStore | pen | cpSram | tally | ringDesc
deriving DecidableEq, Repr

/-- A ring descriptor (R440). -/
structure Ring where
  ver : Nat := 0
  kind : Nat := 0
  attn : Bool := false
  pen : Bool := false
  esize : Nat := 0
  size : Nat := 0
  base : Nat := 0
  prod : Nat := 0
  cons : Nat := 0
  idxAddr : Nat := 0
  ovf : Nat := 0
  /-- out of service after an uncorrectable descriptor word (R625) -/
  out : Bool := false
  /-- the index last sampled from the host and refused (R443): the same word is not reported twice -/
  bad : Option Nat := none
deriving DecidableEq, Repr

/-- An event with its parameter words and PSN (R4, R616). -/
structure Event where
  code : Nat
  p0 : Nat
  p1 : Nat
  psn : Nat
  time : Nat
deriving DecidableEq, Repr

/-- The event unit (R617, R625): the buffer used while a warm start holds the rings out of service, and what the periodic
reports last reported. -/
structure Events where
  buffer : List Event := []
  /-- CORR at the last MM_CE, and the device time of that report (R432) -/
  ceCorr : Nat := 0
  ceTime : Option Nat := none
  /-- the corrected counts at the last MG_SRAM_CE, by store code 1 to 5, and the device times (R625) -/
  sramCorr : List (Nat × Nat) := []
  sramTime : List (Nat × Nat) := []
deriving DecidableEq, Repr

/-! ## The Fold: Tally slots, results and the Gate -/

/-- The states of a part (R22), and FREE for an empty slot. -/
inductive PartState
  | free | opened | closed | queued | judging | judged | armed | fired | passed | retired
deriving DecidableEq, Repr

/-- The outcome of a part (R373): ACCEPT, BIN1 to BIN7, or UNJUDGED. -/
inductive Verdict
  | accept
  | bin (n : Nat)
  | unjudged
deriving DecidableEq, Repr

/-- The reasons for UNJUDGED (R36). -/
inductive Reason
  | none | late | dataError | jobLost | positionDoubt | tooShort | truncated | overlong | partition | notDecoded
deriving DecidableEq, Repr

/-- The computed content of a job (R358 to R360): COMPUTED (`none` is code 15), score, class, SCORED, WIDENED, model id. -/
structure Content where
  computed : Option Verdict := none
  score : Nat := 0
  cls : Nat := 0
  scored : Bool := false
  widened : Bool := false
  model : Nat := 0
deriving DecidableEq, Repr

/-- A trial job's content with the outcome and reason of R361 and the device time of its end. -/
structure TrialEnd where
  content : Content
  verdict : Verdict
  reason : Reason
  time : Nat
deriving DecidableEq, Repr

/-- How an ARMED part is held: nothing yet, an entry in its output's fire queue, an aim-point watch, or neither because the
queue was full (R365). -/
inductive Arming
  | none | queue | watch | full
deriving DecidableEq, Repr

/-- A Tally slot (R353) with what the Fold keeps for its part beside the slot's readable bytes. -/
structure Slot where
  st : PartState := .free
  race : Nat := 0
  /-- the fixed outcome, once JUDGED; a reason may stand earlier (R24) -/
  verdict : Option Verdict := none
  reason : Reason := .none
  out : Option Nat := none
  committed : Bool := false
  psn : Nat := 0
  epoch : Nat := 0
  widened : Bool := false
  mixedEpoch : Bool := false
  late : Bool := false
  doubt : Bool := false
  sag : Bool := false
  halfOnly : Bool := false
  suppressed : Bool := false
  scored : Bool := false
  subcause : Nat := 0
  score : Nat := 0
  cls : Nat := 0
  computed : Option Verdict := none
  /-- COMPUTED has been written: until then the field reads zero (R353) -/
  hasContent : Bool := false
  pStart : Int := 0
  pEnd : Int := 0
  firePos : Int := 0
  model : Nat := 0
  d : Int := 0
  a : Int := 0
  rtJob : Option Nat := none
  trJob : Option Nat := none
  time : Nat := 0
  arming : Arming := .none
  /-- drawn from the pool rather than from the race's quota (R26) -/
  fromPool : Bool := false
  tile : Option Nat := none
  /-- rows of the tile, the row of P_start, the rows of the part, once the run has ended (R171, R172) -/
  tileH : Nat := 0
  partRow0 : Nat := 0
  partRows : Nat := 0
  hasFilled : Bool := false
  /-- the tile has been written in full (R172) -/
  tileDone : Bool := false
  /-- jobs of the part that have not ended, waiting ones included -/
  rtOpen : Bool := false
  trOpen : Bool := false
  trial : Option TrialEnd := none
  /-- the fate of the start edge is known (R486); the pulse or pass has ended (R372) -/
  fateKnown : Bool := false
  pulseOver : Bool := false
  /-- own half formed and waiting for the partner's (R408) -/
  waitHalf : Bool := false
  /-- the part opened before the last drove link DOWN (R409) -/
  beforeDown : Bool := false
deriving DecidableEq, Repr

/-- A result as the collector holds it (R355). -/
structure Result where
  jobId : Nat
  client : Nat
  idx : Nat
  last : Bool
  fp : Bool
  cls : Nat
  score : Nat
  /-- the job-table entry it belongs to, for a core or Lamb engine result -/
  job : Option Nat := none
  /-- the EMIT command that completes on acceptance -/
  cmd : Option Nat := none
deriving DecidableEq, Repr

/-- An entry of a fire queue (R365): ordered by F, then PSN. -/
structure FireEntry where
  slot : Nat
  f : Int
  psn : Nat
deriving DecidableEq, Repr

/-- The end of a pulse (R368): at a step of 12.5 ns, or at a position (48.16) with a latest step. -/
inductive PulseEnd
  | step (n : Nat)
  | pos (a : Int) (limit : Nat)
deriving DecidableEq, Repr

/-- A pulse of a Gate output: its part's slot, its start step, its end. Steps of 12.5 ns are numbered 80 × frame + n. -/
structure Pulse where
  slot : Nat
  start : Nat
  stop : PulseEnd
  /-- device time of the start (R374) -/
  time : Nat
  /-- the part's aim point (R368) -/
  a : Int := 0
  /-- merged into a pulse already on: no start edge was sent (R368) -/
  merged : Bool := false
  /-- the part has become FIRED at this pulse's start -/
  begun : Bool := false
  /-- the end edge has been committed -/
  ending : Bool := false
deriving DecidableEq, Repr

/-- An edge of the fire command (R369): START with its part, or END, at a step. -/
structure Edge where
  out : Nat
  start : Bool
  step : Nat
  slot : Option Nat := none
deriving DecidableEq, Repr

/-- One Gate output: its fire queue, the lead and pulse settings in force (R376), the mode and level in force, and its
pulses. -/
structure GateOut where
  queue : List FireEntry := []
  tv16 : Nat := 0
  c : Int := 0
  pw : Nat := 0
  pwCount : Bool := false
  pwMaxMs : Nat := 100
  mode : Nat := 0
  level : Bool := false
  pulses : List Pulse := []
  /-- the output is on at the frame's end (OUT_STATE, R369) -/
  on : Bool := false
deriving DecidableEq, Repr

/-- The last downlink frame start as the Gate's commit test sees it (R366, R578): its ENC cycle, its step, its device time, and of each encoder the
position and whether DIR read reverse. -/
structure FrameStart where
  cyc : Nat
  base : Nat
  dev : Nat
  pos : Tab Int := []
  back : Tab Bool := []
deriving DecidableEq, Repr

/-- The Fold beside its registers. -/
structure Fold where
  slots : Tab Slot := []
  /-- device time of each race's last FO_RING_FULL, plus one (R372) -/
  fullTime : Tab Nat := []
  /-- slots withdrawn after both copies were uncorrectable (R625) -/
  withdrawn : List Nat := []
  outs : Tab GateOut := []
  /-- edges that wait for a frame with room (R369) -/
  edges : List Edge := []
  /-- the last frame start; the start edges committed to that frame after it, within the 32 ns of R578, that its edge word has yet to take, and the
  starts merged into a running pulse among them -/
  frame : Option FrameStart := none
  late : List Edge := []
  lateMerged : List (Nat × Nat) := []
  /-- the eighteen collector FIFOs (R355) -/
  fifos : Tab (List Result) := []
  fifoPtr : Nat := 0
  /-- the result table: key 16 × job-table entry + RESULT_IDX (R357) -/
  results : Tab (Option Result) := []
  /-- quotas N_r computed by the configuration loader (R26) -/
  quota : Tab Nat := []
  /-- COUNT and WIN_US that define v_g per encoder, `(0, 1)` for v_g = 0 (R28, R364) -/
  speed : Tab (Int × Nat) := []
deriving DecidableEq, Repr

/-! ## The drove link -/

/-- A DATA flit of the send window (R103): its SEQ, its class, its payload as first transmitted. -/
structure SentFlit where
  seq : Nat
  cls : Nat
  data : List Byte
deriving DecidableEq, Repr

/-- The drove link beside its registers (R97 to R106). -/
structure Drove where
  /-- payloads that wait to be transmitted, by class, oldest first -/
  queue : Tab (List (List Byte)) := []
  /-- transmitted DATA flits not yet acknowledged, oldest first (at most 128) -/
  window : List SentFlit := []
  nextSeq : Nat := 0
  /-- next SEQ expected from the partner -/
  expSeq : Nat := 0
  /-- a NAK has been sent since the last flit accepted in order; a NAK is due -/
  nakSent : Bool := false
  nakDue : Bool := false
  /-- the SEQ from which a running replay goes on -/
  replay : Option Nat := none
  /-- consecutive replays without ACK advance -/
  retries : Nat := 0
  /-- device time of the last ACK advance or first outstanding transmission -/
  ackTime : Nat := 0
  /-- credits held to send, by class; CRD_CNT last received, by class -/
  credits : Tab Nat := []
  seen : Tab Nat := []
  /-- cumulative credits freed to the partner, by class; those last reported; the reporting order's pointer -/
  freed : Tab Nat := []
  told : Tab Nat := []
  tellPtr : Nat := 0
  /-- initial credits of the drove-link record (R104), by class -/
  initial : Tab Nat := [(0, 8), (1, 8), (2, 28), (3, 28), (4, 28), (5, 28), (6, 28), (7, 28), (8, 28), (9, 28), (10, 28),
    (11, 28), (12, 28), (13, 28), (14, 28), (15, 28), (16, 28), (17, 28)]
  partnerInit : Bool := false
  /-- device time at which INIT was entered; whether the next flit due is an INIT -/
  initTime : Nat := 0
  classPtr : Nat := 2
  /-- per physical lane 12 to 15: the data blocks received since its marker and not yet part of a whole flit, oldest first (R97, R99) -/
  fifo : Tab (List (BitVec 64)) := []
  /-- per physical lane 12 to 15: logical lane, sequence and block time of the last valid marker (R99) -/
  markers : Tab (Option (Nat × Nat × Nat)) := []
  /-- flits transmitted and not yet taken by the outside: the last one -/
  lastFlit : List Byte := []
deriving DecidableEq, Repr

/-! ## The Shepherd, the cores and the Lamb engine -/

/-- The classes of clients (R306). -/
inductive JobClass
  | realtime | trial | replay | housekeeping
deriving DecidableEq, Repr

/-- Where a job comes from: a part in a Tally slot, a replay sample in a tile slot, or a host request. -/
inductive Origin
  | part (slot : Nat)
  | sample (tile : Nat) (start : Int) (epoch : Nat)
  | host
deriving DecidableEq, Repr

/-- A job that waits at its source (R307). -/
structure JobReq where
  client : Nat
  cls : JobClass
  jobId : Nat
  origin : Origin
  /-- the program header named in the submission entry, or 0 for the client's own (R308) -/
  prog : Nat
deriving DecidableEq, Repr

/-- The status codes of a completion entry (R308). -/
inductive JobStatus
  | done | flushed | dataError | tooShort | cancelled | refused
deriving DecidableEq, Repr

/-- An entry of a job's base table (R304): LEN in 64-byte lines. -/
structure Base where
  addr : Nat := 0
  len : Nat := 0
  write : Bool := false
deriving DecidableEq, Repr

/-- The engine a command stands on. -/
inductive Engine
  | core (k : Nat)
  | lamb (u : Nat)
deriving DecidableEq, Repr

/-- The progress of an admitted command. -/
inductive CmdState
  /-- in the scoreboard, not placed -/
  | waiting
  /-- in the queue of a core, or in the Lamb engine's queue -/
  | queued
  /-- its effect has taken place; its writes are not yet acknowledged -/
  | executed
  /-- an EMIT whose result waits in a collector FIFO (R309) -/
  | emitting
  /-- a WAIT that has become eligible and pends (R279) -/
  | pending
deriving DecidableEq, Repr

/-- An admitted command: its index in the job, its placement byte, its 64-byte descriptor. -/
structure Cmd where
  idx : Nat
  place : Nat
  desc : List Byte
  st : CmdState := .waiting
  /-- index of the first command of the run it belongs to (R303) -/
  run : Nat := 0
  /-- cores in service when the command was admitted; 0 once a fence makes its parts be counted again (R346, R347) -/
  cores : Nat := 0
  /-- the save slot of a command outside a run, held while it runs, and whether its context stands saved there (R317) -/
  slot : Option Nat := none
  saved : Bool := false
deriving DecidableEq, Repr

/-- An open run that has been placed (R303, R317, R320): its first command, its run core while it stands on one, its commands that have
completed (a fence runs them again, R327), its save slot and whether its context stands saved there. -/
structure Run where
  first : Nat
  core : Option Nat := none
  done : List Cmd := []
  slot : Option Nat := none
  saved : Bool := false
deriving DecidableEq, Repr

/-- A program header (R302). -/
structure ProgHdr where
  openMode : Bool := false
  foot : Nat := 0
  ncmd : Nat := 1
  cmds : Nat := 0
  place : Nat := 0
  bases : Nat := 0
  scratch : Nat := 0
  linkClass : Nat := 0
  linkCred : Nat := 0
deriving DecidableEq, Repr

/-- A job of the job table with the state that R320 lists. -/
structure Job where
  client : Nat
  cls : JobClass
  jobId : Nat
  origin : Origin
  hdr : ProgHdr
  bases : List Base
  /-- index of the next command to admit -/
  next : Nat := 0
  /-- admitted commands that have not completed, by index -/
  cmds : List Cmd := []
  emptyMark : Bool := false
  wideMark : Bool := false
  /-- semaphores held (R322) -/
  holds : List Nat := []
  /-- link credits reserved and not spent (R323) -/
  credits : Nat := 0
  credited : Bool := false
  /-- the run that admission has begun and not ended, by its first command (R303) -/
  openRun : Option Nat := none
  /-- the open runs that have been placed (R310, R320) -/
  runs : List Run := []
  scratchSlot : Option Nat := none
  /-- the first command has been placed or executed -/
  begun : Bool := false
  /-- the job has ended and waits to post its completion (R441) -/
  ended : Option JobStatus := none
  endTime : Nat := 0
  /-- order of entry into the job table, for the oldest job of a client (R314) -/
  seq : Nat := 0
deriving DecidableEq, Repr

/-- An entry of a core's queue or of the Lamb engine's: a command, the part of it that the core computes where it is split (R346), and the
client whose slices pay for it, none for REALTIME standing (R313, R322). -/
structure QEnt where
  job : Nat
  cmd : Nat
  part : Nat := 0
  payer : Option Nat := none
deriving DecidableEq, Repr

/-- A save or restore in progress on a core (R317). -/
inductive Transfer
  | none
  | save (e : QEnt)
  | restore (e : QEnt)
deriving DecidableEq, Repr

/-- Where the command at a core's head goes on after a restore (R251, R318, R345): its next instruction and step, the groups of R204 that the
steps done have summed, and their sums as 32-bit words, by channel, row and column of the output tile. -/
structure Progress where
  instr : Nat := 0
  step : Nat := 0
  groups : Nat := 0
  acc : List Nat := []
deriving DecidableEq, Repr

/-- What a save slot's control state and codebook memory stand for beside their bytes: groups summed, and the core addresses, plus one, from
which the job's codebooks were loaded, by entry (R274, R318). -/
structure SavedCtl where
  groups : Nat := 0
  books : Tab Nat := []
deriving DecidableEq, Repr

/-- One inspection core beside its registers and its store. -/
structure CoreSt where
  queue : List QEnt := []
  xfer : Transfer := .none
  /-- the slice's owner and its end in ENC cycles (R314) -/
  slice : Option (Nat × Nat) := none
  /-- ENC cycle at which the present slice began -/
  sliceStart : Nat := 0
  /-- the client charged for the save in progress, from this ENC cycle (R313) -/
  owed : Option (Nat × Nat) := none
  /-- where the head command goes on after a restore -/
  prog : Progress := {}
  /-- the codebook memory (R274), byte by byte -/
  codebook : Tab Byte := []
  /-- the job-table entry whose TABLE loaded it: the end of that job empties it -/
  book : Option Nat := none
  /-- the core addresses, plus one, of the codebooks loaded, by entry -/
  books : Tab Nat := []
  /-- ENC cycles in RUN up to ENC cycle `since` (R284) -/
  busy : Nat := 0
  since : Nat := 0
deriving DecidableEq, Repr

/-- What a Lamb engine unit is doing (R230, R315). -/
inductive LambWork
  | idle
  | stream (slot : Nat)
  | command (e : QEnt)
deriving DecidableEq, Repr

/-- A running stream (R231): the input rows read and not yet out of reach, by row number, with their corrected pixels; how many rows have been
read; the next output row of the convolution, and the nanosecond at which the unit is free for it; the rows computed, as values by column and
channel, oldest first, and how many of the written rows lie in plane 0 of the output slot. -/
structure StreamRun where
  rows : List (Nat × List Nat) := []
  top : Nat := 0
  next : Nat := 0
  free : Nat := 0
  out : List (List (List Int)) := []
  put : Nat := 0
deriving DecidableEq, Repr

/-- The Lamb engine beside its registers. -/
structure Lamb where
  units : Tab LambWork := []
  /-- busy time of each unit in ENC cycles, up to the ENC cycle at which its present work began (R244) -/
  busy : Tab Nat := []
  since : Tab Nat := []
  unitPtr : Nat := 0
  /-- rotating pointers over the jobs whose commands are queued, and over clients of equal pass (R316) -/
  jobPtr : Nat := 0
  passPtr : Nat := 0
  /-- streams that wait for a unit, oldest first: Tally slots (R315) -/
  streams : List Nat := []
  /-- streams that have raised LB_STREAM_BEHIND (R232) -/
  behind : List Nat := []
  /-- the running streams, by Tally slot (R231) -/
  runs : Tab (Option StreamRun) := []
  /-- commands placed on the engine's queue -/
  queue : List QEnt := []
  /-- streams that have ended with their outputs acknowledged: Tally slots; those whose output was empty (R299) -/
  ended : List Nat := []
  empties : List Nat := []
  /-- the result that the command on a unit sends when it completes (R236) -/
  emits : Tab (Option Result) := []
deriving DecidableEq, Repr

/-- The Shepherd beside its registers. -/
structure Shep where
  waiting : List JobReq := []
  jobs : Tab (Option Job) := []
  /-- pass of each client, modulo 2^64 (R313) -/
  pass : Tab Nat := []
  /-- flush history of each client: device times (R326) -/
  history : Tab (List Nat) := []
  /-- placement and admission stopped by a flush, until this ENC cycle (R324) -/
  flush : Option Nat := none
  /-- what stood at the cores' heads at the last flush: core, job-table entry, job, command (R325) -/
  flushed : List (Nat × Nat × Job × Cmd) := []
  /-- slots whose parts ended with DATA_ERROR, and the ENC cycle of the last (R325) -/
  struck : List Nat := []
  struckAt : Nat := 0
  /-- what the save slots hold beside their bytes: 16 parts to a slot (R318, R347) -/
  saves : Tab SavedCtl := []
  /-- completions of refused submissions that wait for room: ring, entry (R308, R441) -/
  refused : List (Nat × List Byte) := []
  corePtr : Nat := 0
  slicePtr : Nat := 0
  rankPtr : Nat := 0
  waitPtr : Nat := 0
  entryPtr : Nat := 0
  nextSeq : Nat := 0
  /-- initial values of the semaphores, written by the configuration loader (R321) -/
  semInit : Tab Nat := []
  /-- model id of each client's package (R353, R373) -/
  model : Tab Nat := []
deriving DecidableEq, Repr

/-! ## The isolation link and the field die -/

/-- An edge of a downlink frame (R483): the offset N, START or END, the output. -/
structure WireEdge where
  n : Nat
  stop : Bool
  out : Nat
deriving DecidableEq, Repr

/-- A good downlink frame as the field die reads it (R483). -/
structure DownFrame where
  seq : Nat
  outState : Nat
  edges : List WireEdge
  cfg : Nat
  sof : Bool
deriving DecidableEq, Repr

/-- The Gate's account of one downlink frame until its fate is known (R486). -/
structure SentFrame where
  k : Nat
  seq : Nat
  /-- device time at the frame's start -/
  dev : Nat
  edges : List Edge
  /-- starts merged into a running pulse (R368): output and slot -/
  merged : List (Nat × Nat)
  outState : Nat
  cfg : Nat
deriving DecidableEq, Repr

/-- The compute side of the isolation link beside the FI registers (R481 to R490). -/
structure FieldLink where
  seq : Nat := 0
  /-- frame number of the last Gate frame start, plus one (0: none yet) -/
  frame : Nat := 0
  good : Nat := 0
  bad : Nat := 0
  lost : Nat := 0
  back : Nat := 0
  /-- frames whose fate is open, oldest first -/
  sent : List SentFrame := []
  /-- the previous uplink period was lost, so PREV_OK decides its frame (R486) -/
  prevLost : Bool := false
  /-- levels of the last valid frame (R494) -/
  levels : Option Nat := none
  /-- configuration sender: message 0 to 21 and its byte 0 to 3, and the message being sent -/
  cfgMsg : Nat := 0
  cfgByte : Nat := 0
  cfgData : Nat := 0
  /-- the downlink frame sent last, as its 12 bytes -/
  lastDown : List Byte := []
deriving DecidableEq, Repr

/-- The field die (R484 to R503). -/
structure Die where
  /-- aligned to the downlink; good frames while aligning; consecutive periods without a good frame (R481) -/
  aligned : Bool := false
  good : Nat := 0
  bad : Nat := 0
  /-- the frame of the open window: SEQ, whether it was good, OUT_STATE, edges not yet executed, CFG -/
  cur : Option DownFrame := none
  prevOk : Bool := false
  /-- the good frame received for the next window -/
  next : Option DownFrame := none
  /-- SEQ of the last good frame -/
  seq : Nat := 0
  /-- windows since the last good frame, and the safe state (R489) -/
  miss : Nat := 0
  safe : Bool := false
  /-- message being received: address, bytes so far, all frames good (R488) -/
  msg : Option (Nat × List Nat × Bool) := none
  /-- message complete, applied at the next window opening -/
  ready : Option (Nat × Nat) := none
  received : List Nat := []
  cfgok : Bool := false
  /-- the applied configuration image (R487): address to 24 bits -/
  conf : Tab Nat := []
  /-- drive states of the outputs -/
  drive : Nat := 0
  supply : Nat := 2
  prevSupply : Nat := 2
  /-- supply state of a crossing that has held for 10 µs, applied at the next opening (R499) -/
  nextSupply : Nat := 2
  /-- filtered inputs, wire breaks, overloads, tripped outputs, readback mismatches, readback: bit masks -/
  inputs : Nat := 0
  wireBreak : Nat := 0
  overload : Nat := 0
  tripped : Nat := 0
  mismatch : Nat := 0
  readback : Nat := 0
  /-- ENC cycle of the last thermal trip, by output (R498) -/
  tripTime : Tab Nat := []
  /-- running counts and index latches of ENC2 and ENC3 -/
  cnt2 : Nat := 0
  cnt3 : Nat := 0
  zcnt2 : Nat := 0
  zcnt3 : Nat := 0
  zev2 : Bool := false
  zev3 : Bool := false
  /-- the uplink frame started at the last window opening (R485), as its 12 bytes -/
  uplink : List Byte := []
deriving DecidableEq, Repr

/-- The Fleece encoder's queue entry (R174): what the audit image needs of the part. -/
structure AuditReq where
  psn : Nat
  race : Nat
  tile : Nat
  epoch : Nat
  reject : Bool
  unjudged : Bool
  sampled : Bool
  mixed : Bool
deriving DecidableEq, Repr

/-- Tile slots and audit (R172, R174): how many hold each tile slot (key 4096 × race + slot), the encoder's queue, and the
audit buffer: write offset and the images not yet consumed (ring index, bytes taken with those skipped before it). -/
structure Audit where
  tiles : Tab Nat := []
  queue : List AuditReq := []
  wr : Nat := 0
  images : List (Nat × Nat) := []
deriving DecidableEq, Repr

/-- A half-verdict held by an owner (R406, R407), in order of arrival. -/
structure Half where
  psn : Nat
  race : Nat
  computed : Option Verdict
  reason : Reason
  widened : Bool
  mixedEpoch : Bool
  doubt : Bool
  scored : Bool
  score : Nat
  cls : Nat
  model : Nat
  pStart : Int
  bw : Nat
deriving DecidableEq, Repr

/-- Paired races (R405 to R409): half-verdicts held by an owner, half-verdicts of this module waiting for a credit, whether
the partition of the present DOWN has been reported. -/
structure Pair where
  held : List Half := []
  toSend : List Half := []
  reported : Bool := true
deriving DecidableEq, Repr

/-! ## The camera ports, the Intake and the pixel pipeline -/

/-- A GVSP block in assembly (R121). -/
structure Block where
  id : Nat
  /-- leader payload -/
  leader : Option (List Byte) := none
  /-- payload packets by packet ID -/
  pkts : Tab (List Byte) := []
  /-- packet ID of the trailer -/
  trailer : Option Nat := none
  /-- highest packet ID received -/
  top : Nat := 0
  /-- outside the subset of R120 -/
  bad : Bool := false
deriving DecidableEq, Repr

/-- A line trigger that a stream is expected to answer (R129): its number, its logged position, its issue in device time. -/
structure Expect where
  num : Nat
  pos : Int
  time : Nat
deriving DecidableEq, Repr

/-- What a stream gives a view line (R132): pixel codes with the FILLED mark, or a gap. -/
inductive LinePart
  | pixels (px : List Nat) (filled : Bool)
  | gap
deriving DecidableEq, Repr

/-- A line of a stream in PTP mode whose position is not yet known: its exposure in device time and its pixels (R62, R126); without pixels a
missing line whose turn has not come. -/
structure HeldLine where
  time : Nat
  px : Option (List Nat)
deriving DecidableEq, Repr

/-- One stream of the Intake beside its registers (R120 to R132). -/
structure Stream where
  /-- blocks in assembly, the older first -/
  blocks : List Block := []
  /-- block IDs lately completed, discarded or abandoned, newest first; whether every packet had arrived -/
  closed : List (Nat × Bool) := []
  expect : List Expect := []
  /-- the last delivered line, for filling (R130) -/
  last : Option (List Nat) := none
  /-- length of the run of missing lines, position of its first line in 48.16, IN_LINE_MISSING raised for it -/
  run : Nat := 0
  runPos : Int := 0
  runTold : Bool := false
  /-- PTP mode: the number of its next view line, once it has delivered one (R634); last block ID, and how many lines after it have become
  missing by silence; device time, tag and period of the last line; tag difference of the last two lines; multiples of the period already
  counted as missing -/
  seq : Option Nat := none
  lastBlock : Option Nat := none
  missed : Nat := 0
  lastTime : Option Nat := none
  lastTag : Int := 0
  period : Nat := 0
  pitch : Int := 0
  silent : Nat := 0
  held : List HeldLine := []
deriving DecidableEq, Repr

/-- A view line before its release (R132): its number, its tag in 48.16, what each stream gave. -/
structure ViewLine where
  num : Nat
  tag : Int
  parts : Tab (Option LinePart) := []
deriving DecidableEq, Repr

/-- A line of the line store (R154): number, reference-frame position in 48.16, illumination gain, FILLED and gap bits by stream,
raw codes; the races for which Graze has decided on it (R161). -/
structure Line where
  num : Int
  pos : Int
  gain : Nat
  filled : Nat
  gap : Nat
  px : List Nat
  grazed : Nat := 0
  /-- the line found no slot: it holds no pixels (R132) -/
  full : Bool := false
  /-- the slot of its view's ring (R154) -/
  slot : Nat := 0
deriving DecidableEq, Repr

/-- One view beside its registers. -/
structure View where
  pendingLines : List ViewLine := []
  /-- number of the last view line released -/
  released : Option Nat := none
  /-- PTP mode: number and tag of the newest view line that a stream has given, and the tag difference from line to line -/
  ptpLast : Option (Nat × Int) := none
  ptpPitch : Int := 0
  /-- device time of the last IN_TAG_INVALID, plus one (R127) -/
  tagTime : Nat := 0
  /-- a run of LS_FULL lines stands (R132) -/
  fullRun : Bool := false
  /-- the last view line accepted before resampling (R170), its position carried on across the wrap of R18 -/
  prev : Option Line := none
  /-- the slot that the next line of the ring takes (R154) -/
  nextSlot : Nat := 0
  /-- the ring of the line store, oldest first (R154, R156) -/
  ring : List Line := []
  /-- number and position of the newest line; position of the last line freed -/
  newest : Option (Int × Int) := none
  freed : Option Int := none
  /-- the smoothed strip level (R160) -/
  sm : Option Int := none
deriving DecidableEq, Repr

/-- The row span of a run in reference positions, 48.16 (R161): row 0; the number of the last row once the run has ended; its position once
its line has arrived. -/
structure Span where
  lo : Int
  last : Option Int := none
  hi : Option Int := none
deriving DecidableEq, Repr

/-- What segmentation is doing in a race (R167, R169). -/
inductive SegMode
  | idle
  /-- the run of the part in a Tally slot -/
  | run (slot : Nat)
  /-- a run that belongs to no part -/
  | blocked
deriving DecidableEq, Repr

/-- One race of the pixel pipeline beside its registers. -/
structure RaceSt where
  mode : SegMode := .idle
  /-- consecutive lines not present -/
  absent : Nat := 0
  /-- part sensor: targets of the rising and falling edges not yet met, oldest first (R168) -/
  edges : List (Bool × Int) := []
  /-- adopted epoch; lines of the segmentation view since publication (R165, R166) -/
  epoch : Nat := 0
  defer : Nat := 0
  spans : List Span := []
  /-- positions, in 48.16, at which a stream over the race's range carried a gap marker, the newest last (R131) -/
  gaps : List Int := []
  /-- the next line is the first after a warm start (R584) -/
  fresh : Bool := false
  /-- reference position, in counts, of the last line segmented (R585) -/
  lastPos : Option Int := none
deriving DecidableEq, Repr

/-- The part of a Tally slot as tiling sees it (R166, R171). -/
structure Tile where
  /-- number of the line of P_start and of P_end in the segmentation view -/
  n0 : Int
  n1 : Int
  /-- their positions in 48.16 -/
  p0 : Int
  p1 : Int
  /-- Y0 in 48.16 -/
  y0 : Int
  /-- P_end is final -/
  ended : Bool := false
  /-- rows of plane 0 written so far -/
  rows0 : List Nat := []
  /-- forced swap: first position, in 48.16, of the new epoch, and the old epoch -/
  swap : Option (Int × Nat) := none
deriving DecidableEq, Repr

/-- The pixel pipeline beside its registers. Keys of the pixel tables: bank × 2^21 + view × 2^17 + x. -/
structure Pixels where
  views : Tab View := []
  races : Tab RaceSt := []
  tiles : Tab (Option Tile) := []
  /-- gains, 16384 where unlisted, and dark offsets of both banks -/
  gain : Tab Nat := []
  dark : Tab Int := []
  /-- defect bits: static (bank 0's keys), dynamic per bank -/
  static_ : Tab Bool := []
  dyn : Tab Bool := []
  acc : Tab Nat := []
  /-- gap lines per race segment: key 4 × race + view-list entry -/
  gapLines : Tab Nat := []
  /-- the current bank, and the epochs that the banks hold -/
  cur : Nat := 0
  epochs : Tab Nat := []
  /-- the build cycle of R163 by STATE's codes: 1 BUILDING, 2 READY, 3 SWAPPING -/
  cycle : Nat := 1
deriving DecidableEq, Repr

/-- A replay entry (R133). -/
structure ReplayEnt where
  flags : Nat
  cacheSlot : Nat
  sample : Nat
  src : Nat
  srcLen : Nat
  budget : Nat
  gain : Nat
  offset : Int
  shiftX : Int
  shiftY : Int
  race : Nat
deriving DecidableEq, Repr

/-- A decode lane at work (R133): its entry, the ENC cycle at which the decode began, whether the sample is loaded from the
cache. -/
structure DecodeLane where
  ent : ReplayEnt
  start : Nat
  load : Bool
  /-- decoded or loaded, and waiting for a tile slot (R173) -/
  ready : Bool := false
deriving DecidableEq, Repr

/-- The replay decoder beside its registers. -/
structure Replay where
  lanes : Tab (Option DecodeLane) := []
  lanePtr : Nat := 0
deriving DecidableEq, Repr

/-- A frame that the control processors have composed for a camera port (R95). -/
inductive TxFrame
  | arpReply (mac ip : Nat)
  | icmpReply (mac ip : Nat) (body : List Byte)
  | gvcp (req : Nat) (body : List Byte)
  | ptp (kind seq : Nat) (udp : Bool) (stamp : Nat) (body : List Byte)
deriving DecidableEq, Repr

/-- The purpose of a GVCP command in flight (R123 to R125, R471). -/
inductive GvcpUse
  /-- step 1 to 4 of camera setup, with the index of the register write in step 3 -/
  | setup (step idx : Nat)
  | heartbeat
  /-- the check of the control channel on return from a warm start (R125) -/
  | probe
  | mailbox (slot : Nat)
deriving DecidableEq, Repr

/-- A GVCP command in flight: request ID, transmissions so far, ENC cycle of the last one, the command's bytes. -/
structure Gvcp where
  use : GvcpUse
  req : Nat
  tries : Nat
  sent : Nat
  body : List Byte
deriving DecidableEq, Repr

/-- A 66-bit block: sync header and payload (R84). -/
structure Coded where
  hdr : BitVec 2
  data : BitVec 64
deriving DecidableEq, Repr

/-- One lane beside its registers (R84 to R99, R123 to R125). -/
structure Lane where
  /-- firmware queue and frames composed for transmission, oldest first -/
  fwq : List (List Byte) := []
  txq : List TxFrame := []
  /-- the frame transmitted last -/
  sent : Option TxFrame := none
  /-- GVCP commands in flight, oldest first -/
  gvcp : List Gvcp := []
  nextReq : Nat := 1
  /-- the camera's setup record (R123): register writes and heartbeat timeout in ms -/
  writes : List (Nat × Nat) := []
  hbTimeout : Nat := 3000
  /-- the control channel stands open; ENC cycle of the last heartbeat write -/
  control : Bool := false
  hbTime : Nat := 0
  /-- receive state: consecutive valid headers in HUNT; which of the last 64 headers were invalid, bit 0 the newest; blocks since a
  local fault (R85, R86) -/
  goodRun : Nat := 0
  badHdrs : Nat := 0
  sinceFault : Nat := 0
  /-- consecutive inverted idle or marker blocks (R87) -/
  inverted : Nat := 0
  /-- transmit direction: 0 active, 1 sleeping, 2 waking; ENC cycle at which the last frame ended or the wake began -/
  lpi : Nat := 0
  lpiTime : Nat := 0
  /-- received bits that belong to no block yet: their number, the bits with the oldest in bit 0; the next bit is to be skipped (R86) -/
  rxLen : Nat := 0
  rx : Nat := 0
  rxSkip : Bool := false
  /-- the last 58 scrambled payload bits received and sent, oldest in bit 0 (R84) -/
  rxScr : BitVec 58 := 0
  txScr : BitVec 58 := 0
  /-- the PRBS31 generator (R89) -/
  prbs : BitVec 31 := 0x7FFFFFFF
  /-- the blocks put on the line last, as the pins carry them -/
  wire : List Coded := []
  /-- drove lanes: blocks sent since the last marker, its sequence, flits sent since the last idle column (R97, R98) -/
  sinceMark : Nat := 0
  markSeq : Nat := 0
  sinceIdle : Nat := 0
  /-- device time at the start-of-frame delimiter of the last frame received and of the last one sent (R93) -/
  rxStamp : Nat := 0
  txStamp : Nat := 0
deriving DecidableEq, Repr


/-! ## Time, launches -/

/-- The Time unit's protocol state beside its registers (R392 to R397). -/
structure Ptp where
  /-- best master (SLAVE role) -/
  best : Option PtpMaster := none
  /-- sender of the last Sync received while no master was known -/
  early : Option Nat := none
  /-- device time of the last Sync and Announce of the best master -/
  lastSync : Nat := 0
  lastAnn : Nat := 0
  /-- a two-step Sync that waits for its Follow_Up: sequence, receive stamp, correction -/
  pend : Option (Nat × Nat × Int) := none
  /-- master time and receive stamp of the last measured Sync -/
  sync : Option (Int × Nat) := none
  /-- mean path delay in ns -/
  delay : Int := 0
  /-- the Delay_Req in flight: sequence and transmit stamp -/
  req : Option (Nat × Nat) := none
  /-- consecutive Syncs with an offset below 1 µs -/
  good : Nat := 0
  syncSeq : Nat := 0
  annSeq : Nat := 0
  delaySeq : Nat := 0
  /-- device time of the last Sync and Announce sent (MASTER role) -/
  sentSync : Nat := 0
  sentAnn : Nat := 0
deriving DecidableEq, Repr

/-- The Bellwether unit beside its registers (R399 to R404). -/
structure Bell where
  /-- exchanges of the alignment in progress: round trip, twice the error -/
  exch : List (Int × Int) := []
  /-- smallest round trip since alignment -/
  minTrip : Option Int := none
  /-- device time of the last ALIGN_REQ -/
  lastReq : Nat := 0
  /-- L of the partner's LAUNCH held (R402); outcome of the check at L − 100,000 -/
  partnerL : Option Nat := none
  check : Option Bool := none
  /-- LAUNCH is to be sent once the alignment is complete -/
  sendAfter : Bool := false
  /-- L of a paired launch whose LAUNCH_POS is awaited; a LAUNCH_POS that has arrived: L and four latches -/
  posDue : Option Nat := none
  partnerPos : Option (Nat × List Nat) := none
  /-- barrier mode: the count at which the launch actions fall due (R404) -/
  go : Option Nat := none
deriving DecidableEq, Repr

/-! ## DMA, host port -/

/-- The DMA channels and the scrubber beside their registers (R431, R437 to R439): completion entries that wait for a full ring. -/
structure Dma where
  wait : Tab (List Byte) := []
deriving DecidableEq, Repr

/-- Training modes of the host port (R457). -/
inductive Training
  | none | bus | levelling | readCal | fifo
deriving DecidableEq, Repr

/-- A portal request taken from a burst: slot and its bytes 0 to 31 (R469). -/
structure PortalReq where
  slot : Nat
  body : List Byte
deriving DecidableEq, Repr

/-- The host port beside its registers (R453 to R476). -/
structure HostPort where
  /-- mode registers in force: unlisted ones hold the value that the standard gives at reset, written here as 0 -/
  modes : Tab Nat := []
  /-- row recorded for each of the 16 banks (R456) -/
  rows : Tab Nat := []
  train : Training := .none
  /-- write FIFO data, oldest first (R457) -/
  wff : List (List Byte) := []
  /-- data last driven on DQ -/
  dq : List Byte := []
  /-- HP_RESET_N is asserted -/
  held : Bool := false
  asleep : Bool := false
  down : Bool := false
  /-- ENC cycle of the last command; a loss of the host stands (R467) -/
  lastCmd : Nat := 0
  lost : Bool := false
  /-- FLAGS bit 2 of the heartbeat block -/
  flag2 : Bool := false
  /-- device time of the last heartbeat write; the first write counts from 0 (R464) -/
  beat : Nat := 0
  beaten : Bool := false
  /-- portal requests in order of arrival (R469) -/
  portal : List PortalReq := []
deriving DecidableEq, Repr

/-- The words that the 64-bit register rule keeps (R64), by agent and register: key agent × 2^32 + address of the low word. Agent 0 is
the register portal, 1 to 4 the control processors. -/
structure Halves where
  staged : Tab (Option Nat) := []
  captured : Tab (Option Nat) := []
  /-- the word that each agent's last read of a low word returned -/
  data : Tab Nat := []
deriving DecidableEq, Repr

/-! ## Packages, image, identity -/

/-- What a candidate slot holds once verified (R519, R520): a package or a customer section, its hash. -/
inductive SlotContent
  | none
  | package (hash : List Byte)
  | section_ (hash : List Byte) (len : Nat)
deriving DecidableEq, Repr

/-- A package request (R533). -/
structure PkgReq where
  op : Nat
  slot : Nat
  client : Nat
  auto : Bool
  seq : Nat
deriving DecidableEq, Repr

/-- The package firmware beside its registers (R519 to R530). -/
structure Pkg where
  queue : List PkgReq := []
  slots : Tab SlotContent := []
  /-- client of an ADMITTED slot -/
  client : Tab Nat := []
  /-- VERIFY in progress; PROMOTE in progress -/
  verify : Option PkgReq := none
  flash : Option PkgReq := none
  /-- the promoted slot that awaits START -/
  ready : Option Nat := none
deriving DecidableEq, Repr

/-- A recovery request (R574). -/
structure PadReq where
  op : Nat
  len : Nat
  ofs : Nat
  seq : Nat
deriving DecidableEq, Repr

/-- The flash, the OTP, the ID EEPROM, and the image (R536 to R571). -/
structure Image where
  /-- configuration flash: an unlisted byte is erased (0xFF) -/
  flash : Tab Byte := []
  otp : Tab Byte := []
  eeprom : Tab Byte := []
  /-- a flash device whose SFDP table names 8D-8D-8D read is attached (R536) -/
  fitted : Bool := true
  /-- the image copy of R428 is valid, with its recorded hashes -/
  copyOk : Bool := false
  fwHash : List Byte := []
  custHash : List Byte := []
  /-- SEQ of the header copy in force and its copy number -/
  hdrSeq : Nat := 0
  hdrCopy : Nat := 0
  /-- FW_HASH and CUST_HASH of the running image; HASH of the package bound to each client -/
  runFw : List Byte := []
  runCust : List Byte := []
  pkgHash : Tab (List Byte) := []
  /-- recovery requests in order; a CHECK or a WRITE in progress (R557) -/
  recovery : List PadReq := []
  check : Option PadReq := none
  write : Option PadReq := none
  /-- DDR5 training has succeeded (R556) -/
  ddrUp : Bool := false
  /-- type and index of every record of the image in force; the bodies of its camera setup and correction records, by type and index -/
  recs : List (Nat × Nat) := []
  bodies : Tab (List Byte) := []
deriving DecidableEq, Repr

/-- An identity request (R572). -/
structure IdReq where
  op : Nat
  dest : Nat
  seq : Nat
deriving DecidableEq, Repr

/-- The identity key beside its registers (R561 to R567). -/
structure Ident where
  /-- reservation bit of this cold start, bottom tree in use, leaves of it spent -/
  bit_ : Option Nat := none
  tree : Nat := 0
  spent : Nat := 0
  /-- the attestation that waits for a new bottom tree -/
  waiting : Option IdReq := none
  queue : List IdReq := []
  fault : Bool := false
deriving DecidableEq, Repr

/-! ## Starting, health, pins -/

/-- The start sequencer beside MG_START (R579 to R587). -/
structure Starter where
  /-- ENC cycle at which the present start and its present step began -/
  t0 : Nat := 0
  tStep : Nat := 0
  /-- device time from which 60 s in RUNNING without a failed start count (R587) -/
  since : Nat := 0
  /-- reference position, in counts, of each race's last line before step 1 (R585) -/
  gapFrom : Tab (Option Int) := []
  /-- the warm start reads the flash instead of reusing the copy (R555) -/
  fromFlash : Bool := false
  /-- the image of this warm start changes a camera setup record, a correction record (R123, R175) -/
  cams : Bool := false
  tables : Bool := false
  /-- PWR_GOOD stands (R600) -/
  powered : Bool := false
  /-- the profile straps PROF1 and PROF0 (R608) -/
  strap : Nat := 0
deriving DecidableEq, Repr

/-- Watchdogs, the sequence checker and the throttle (R622 to R624). -/
structure Health where
  /-- pass number and processor that the sequence checker expects, ENC cycle at which the last pass completed -/
  pass : Nat := 0
  cpu : Nat := 0
  passTime : Nat := 0
  /-- complete passes since the last failure; CP held until the next cold start (R623) -/
  passes : Nat := 2
  cpUntilCold : Bool := false
  /-- ENC cycle of the last throttle change, from which power and temperature have stayed low, and of the last evaluation (R624) -/
  thrChange : Nat := 0
  coolFrom : Option Nat := none
  thrTime : Nat := 0
  /-- evaluations of 100 µs spent below the profile's cap -/
  thrBelow : Nat := 0
  /-- the die has passed its trip point and has not cooled (R610) -/
  tripped : Bool := false
deriving DecidableEq, Repr

/-- The pins that are not a register's (R504, R581, R604, R605): HEALTHY with the ENC cycle of its last change, and the
timing outputs of FF-3260-N. -/
structure Pins where
  healthy : Bool := false
  healthyTime : Nat := 0
  ejt : Nat := 0
  /-- FF-3260-N: edges of committed frames not yet executed -/
  ejtEdges : List Edge := []
deriving DecidableEq, Repr


/-! ## Starting, and the state of the whole module -/

/-- The ordering codes (R1). -/
inductive Variant
  | f | n
deriving DecidableEq, Repr

/-- The phases of the module (R581 to R587). -/
inductive Phase
  /-- unpowered or held in reset -/
  | off
  /-- a cold start, at a step of R582 -/
  | cold (step : Nat)
  /-- verdict-ready -/
  | running
  /-- a warm start, at a step of R583 -/
  | warm (step : Nat)
  /-- Paddock mode -/
  | paddock
deriving DecidableEq, Repr

/-- Why a command stops the machine. -/
inductive Fault
  /-- Raised by no command: the spec gives every command of the table an effect in every state, and an event that cannot
  arise in a state leaves that state as it is. Safe. -/
  | unreachable
deriving DecidableEq, Repr

/-- Why a command has no meaning. -/
inductive Refusal
  /-- Raised by the dispatch for a command whose meaning is not written. Safe: nothing is proved of such a command. -/
  | notModelled (mnemonic : String)
deriving DecidableEq, Repr

/-- The state of the module. -/
structure State where
  /-- the commands that wait, first in, first out -/
  pending : List Instr := []
  variant : Variant := .f
  phase : Phase := .off
  /-- the register file: one entry per register field (address × 64 + lowest bit); an unlisted field holds its reset value -/
  regs : Tab Nat := []
  /-- one byte space laid out as the DMA address map of R437: DDR5, shared weight store, Pen window, core stores -/
  mem : List Host.Cell := []
  /-- ECC marks: DDR5 by line address, other stores by 8-byte word address -/
  marks : Tab Mark := []
  rings : Tab Ring := []
  clk : Clock := {}
  ev : Events := {}
  pos : Pos := {}
  fold : Fold := {}
  shep : Shep := {}
  cores : Tab CoreSt := []
  lamb : Lamb := {}
  drove : Drove := {}
  link : FieldLink := {}
  die : Die := {}
  audit : Audit := {}
  lanes : Tab Lane := []
  streams : Tab Stream := []
  px : Pixels := {}
  replay : Replay := {}
  /-- device time until which PTP lines are invalid after a step (R397) -/
  ptpHold : Nat := 0
  pair : Pair := {}
  ptp : Ptp := {}
  bell : Bell := {}
  dma : Dma := {}
  host : HostPort := {}
  halves : Halves := {}
  pkg : Pkg := {}
  image : Image := {}
  ident : Ident := {}
  start : Starter := {}
  health : Health := {}
  pins : Pins := {}
  /-- the model's own counter of free values drawn so far: nothing may depend on its start -/
  free : Nat := 0
deriving DecidableEq, Repr

/-- The machine right after reset: power has not yet come up, every register holds its reset value, every memory reads zero,
nothing waits. -/
def State.reset : State := {}

/-- What a command answers. -/
abbrev Out := Host.Outcome State Fault Refusal

/-- A command's effect on a module that is out of reset: unpowered or held in reset, the module does nothing (R581). -/
def State.whenOn (s : State) (f : State → State) : Out := .next (if s.phase = .off then s else f s)

end Sys2Proof.Machine
end

