-- ==== Sys2Proof/Machine/Ops.lean ====
section
/-! DEFINITION. The named operations over the state that every unit shares: register fields, memory with its error marks,
rings, events and holds. -/

namespace Sys2Proof.Machine

/-! ## Register fields -/

/-- The key of a field in the register file. -/
def Fld.key (f : Fld) : Nat := f.reg * 64 + f.lo

/-- The value of a register field. -/
def State.fld (s : State) (f : Fld) : Nat := Tab.get f.rst s.regs f.key

/-- The state with a register field set; the value is taken modulo the field's width. -/
def State.setFld (s : State) (f : Fld) (v : Nat) : State :=
  { s with regs := Tab.set f.rst s.regs f.key (v % 2 ^ f.w) }

/-- Whether a flag field is set. -/
def State.isOn (s : State) (f : Fld) : Bool := s.fld f != 0

/-- A field read as signed. -/
def State.sfld (s : State) (f : Fld) : Int := sx f.w (s.fld f)

/-- A field set to a signed value, wrapped to its width. -/
def State.setSFld (s : State) (f : Fld) (v : Int) : State := s.setFld f (toU f.w v)

/-- A counter field advanced by 1, modulo its width. -/
def State.bump (s : State) (f : Fld) : State := s.setFld f (s.fld f + 1)

/-- A counter field advanced by `n`, saturating. -/
def State.bumpSat (s : State) (f : Fld) (n : Nat := 1) : State := s.setFld f (min (s.fld f + n) (2 ^ f.w - 1))

/-- A flag field set or cleared. -/
def State.setFlag (s : State) (f : Fld) (b : Bool) : State := s.setFld f (b2n b)

/-! ## Memory -/

/-- The byte at an address of the module's byte space. -/
def State.peek (s : State) (a : Nat) : Byte := Tab.get 0 s.mem a

/-- The state with one byte written, without regard to error marks. -/
def State.poke (s : State) (a : Nat) (b : Byte) : State := { s with mem := Tab.set 0 s.mem a b }

/-- `n` bytes from an address, without regard to error marks. -/
def State.peekN (s : State) (a n : Nat) : List Byte := (List.range n).map fun i => s.peek (a + i)

/-- Bytes written from an address, without regard to error marks. -/
def State.pokeL (s : State) : Nat → List Byte → State
  | _, [] => s
  | a, b :: t => (s.poke a b).pokeL (a + 1) t

/-- A little-endian number of `n` bytes. -/
def State.peekLe (s : State) (a n : Nat) : Nat := ofLe (s.peekN a n)

/-- The Pen window, the shared weight store and the core stores in the byte space (R437). -/
def penBase : Nat := 0x2200000000
def swsBase : Nat := 0x2100000000
def coreBase (k : Nat) : Nat := 0x2400000000 + 0x01000000 * k

/-- Size of DDR5 (R427). -/
def ddrSize : Nat := 0x800000000

/-- Whether an address lies in DDR5. -/
def inDdr (a : Nat) : Bool := decide (a < ddrSize)

/-- Whether an address lies in the shared weight store. -/
def inSws (a : Nat) : Bool := decide (swsBase ≤ a ∧ a < swsBase + 0x800000)

/-- Whether an address lies in the Pen window. -/
def inPen (a : Nat) : Bool := decide (penBase ≤ a ∧ a < penBase + 0x200000)

/-- The core whose store an address lies in. -/
def inCore (a : Nat) : Option Nat :=
  if 0x2400000000 ≤ a ∧ a < 0x2410000000 then some ((a - 0x2400000000) / 0x1000000) else none

/-- The protected unit that holds a byte: the 64-byte line in DDR5, the 8-byte word elsewhere (R429, R435). -/
def granule (a : Nat) : Nat := if inDdr a then a / 64 * 64 else a / 8 * 8

/-- The size of the protected unit. -/
def granSize (a : Nat) : Nat := if inDdr a then 64 else 8

/-- The error mark of the unit that holds a byte. -/
def State.mark (s : State) (a : Nat) : Mark := Tab.get .clean s.marks (granule a)

/-- The error mark of the unit that holds a byte, set. -/
def State.setMark (s : State) (a : Nat) (m : Mark) : State := { s with marks := Tab.set .clean s.marks (granule a) m }

/-- A corrected error is counted in the counter of its store (R432, R625). -/
def State.noteCorrected (s : State) (a : Nat) : State :=
  if inDdr a then s.bumpSat MM_ECCSTAT_CORR
  else if inSws a then s.bumpSat MG_SERR_SWS_CORR
  else if inPen a then s.bumpSat MG_SERR_PEN_CORR
  else match inCore a with
    | some k => s.bumpSat (CR_SERR_CORR k)
    | none => s

/-- A write of bytes that all lie in one protected unit: a whole unit clears its mark; part of a corrected unit is a
read-modify-write that corrects it; part of an uncorrectable DDR5 line is not performed (R430, R434). The second
component tells whether the write was performed. -/
def State.writeUnit (s : State) (a : Nat) (bs : List Byte) : State × Bool :=
  if bs.length = granSize a then ((s.setMark a .clean).pokeL a bs, true)
  else match s.mark a with
    | .clean => (s.pokeL a bs, true)
    | .corrected => (((s.noteCorrected a).setMark a .clean).pokeL a bs, true)
    | .uncorrectable => if inDdr a then (s, false) else (s.pokeL a bs, true)

/-- The bytes of a write cut at the borders of the protected units. -/
def cutUnits : Nat → Nat → List Byte → List (Nat × List Byte)
  | 0, _, _ => []
  | _, _, [] => []
  | fuel + 1, a, b :: t =>
    let n := granSize a - a % granSize a
    (a, (b :: t).take n) :: cutUnits fuel (a + n) ((b :: t).drop n)

/-- A write of bytes, unit by unit, with the addresses of the lines whose part-write was refused. -/
def State.writeBytes (s : State) (a : Nat) (bs : List Byte) : State × List Nat :=
  (cutUnits (bs.length + 1) a bs).foldl (fun (p : State × List Nat) u =>
    let (s', ok) := p.1.writeUnit u.1 u.2
    (s', if ok then p.2 else p.2 ++ [granule u.1])) (s, [])

/-- The protected units that an extent touches. -/
def unitsOf (a n : Nat) : List Nat :=
  if n = 0 then []
  else (List.range ((a + n - 1) / granSize a - a / granSize a + 1)).map fun i => (a / granSize a + i) * granSize a

/-! ## Rings and events -/

/-- Whether the rings are in service: a warm start holds them from the restart of the control processors to its end
(R444, R617). -/
def State.ringsUp (s : State) : Bool :=
  match s.phase with
  | .warm k => decide (k < 3)
  | _ => true

/-- Whether the module is in a warm start. -/
def State.inWarm (s : State) : Bool := match s.phase with
  | .warm _ => true
  | _ => false

/-- Ring `r`. -/
def State.ring (s : State) (r : Nat) : Ring := Tab.get {} s.rings r

/-- Ring `r`, set. -/
def State.setRing (s : State) (r : Nat) (x : Ring) : State := { s with rings := Tab.set {} s.rings r x }

/-- Entries between CONS and PROD. -/
def Ring.used (x : Ring) : Nat := idxDiff x.prod x.cons

/-- A ring is full when it holds 2^SIZE entries; one out of service is full to its producer (R442, R625). -/
def Ring.full (x : Ring) : Bool := x.out || decide (x.used ≥ 2 ^ x.size)

/-- A ring is empty when PROD = CONS; one out of service is empty to its consumer. -/
def Ring.empty (x : Ring) : Bool := x.out || decide (x.used = 0)

/-- The address of entry `i` (R442). -/
def Ring.entryAddr (x : Ring) (i : Nat) : Nat := x.base + (i % 2 ^ x.size) * 2 ^ x.esize

/-- The address of the parameter slot of entry `i` of an EVENT ring (R616). -/
def Ring.paramAddr (x : Ring) (i : Nat) : Nat := x.base + 2 ^ (x.size + 4) + 8 * (i % 2 ^ x.size)

/-- Whether the module produces into rings of a kind (R441). -/
def Ring.modProduces (x : Ring) : Bool := [2, 3, 4, 6, 7].contains x.kind

/-- The address of ring `r`'s bit in RING_ATTN (R463). -/
def attnAddr (r : Nat) : Nat := penBase + 0x400 + r / 8

/-- The RING_ATTN bit of a ring follows its indices (R473). -/
def State.attnUpdate (s : State) (r : Nat) : State :=
  let x := s.ring r
  let b := (s.peek (attnAddr r)).toNat
  let on := x.attn && x.modProduces && !x.empty
  let b' := if on then b ||| 2 ^ (r % 8) else b - (if b.testBit (r % 8) then 2 ^ (r % 8) else 0)
  s.poke (attnAddr r) (BitVec.ofNat 8 b')

/-- The module's own index of a host-facing ring, with OVF, written into its index block (R442). -/
def State.writeIndex (s : State) (r : Nat) : State :=
  let x := s.ring r
  if x.idxAddr = 0 then s
  else
    let s := if x.modProduces then s.pokeL x.idxAddr (leBytes 4 x.prod) else s.pokeL (x.idxAddr + 4) (leBytes 4 x.cons)
    s.pokeL (x.idxAddr + 8) (leBytes 4 x.ovf)

/-- The module's index of a ring changes: the ring, its index block and its RING_ATTN bit. -/
def State.putRing (s : State) (r : Nat) (x : Ring) : State := ((s.setRing r x).writeIndex r).attnUpdate r

/-- What became of an entry posted to a ring. -/
inductive Post
  | posted
  | full
  | lost (lines : List Nat)
deriving DecidableEq, Repr

/-- An entry is posted to ring `r`: a parameter slot first, then the entry, then PROD (R442, R616). A full ring drops it, and
OVF increments where the kind says so (R441); an entry lost to an uncorrectable line still advances PROD (R633). -/
def State.ringPost (s : State) (r : Nat) (entry : List Byte) (slot : List Byte := []) : State × Post :=
  let x := s.ring r
  if x.full then
    (if x.kind = 3 ∨ x.kind = 4 then s.putRing r { x with ovf := (x.ovf + 1) % 2 ^ 32 } else s, .full)
  else
    let (s, bad1) := s.writeBytes (x.paramAddr x.prod) slot
    let (s, bad2) := s.writeBytes (x.entryAddr x.prod) (entry.take (2 ^ x.esize))
    let s := s.putRing r { x with prod := (x.prod + 1) % 2 ^ 32 }
    (s, if bad1 ++ bad2 = [] then .posted else .lost (bad1 ++ bad2))

/-- The 16-byte entry of an event (R4). -/
def Event.bytes (e : Event) : List Byte := leBytes 2 e.code ++ leBytes 2 0 ++ leBytes 4 e.psn ++ leBytes 8 e.time

/-- The 8-byte parameter slot of an event (R616). -/
def Event.params (e : Event) : List Byte := leBytes 4 e.p0 ++ leBytes 4 e.p1

/-- Whether event route `k` takes an event (R617). -/
def State.routes (s : State) (k : Nat) (e : Event) : Bool :=
  s.isOn (MG_EVROUTE_EN k) && (s.fld (MG_EVROUTE_SUBSYS k)).testBit (e.code / 256) &&
    decide (s.fld (MG_EVROUTE_MIN_SEV k) ≤ severity e.code)

/-- An event is delivered to one route. -/
def State.deliverTo (s : State) (e : Event) (k : Nat) : State × List Nat :=
  if s.routes k e then
    match s.ringPost (s.fld (MG_EVROUTE_RING k)) e.bytes e.params with
    | (s', .lost l) => (s', l)
    | (s', _) => (s', [])
  else (s, [])

/-- An event is delivered to every route that takes it, with the lines in which an entry or slot was lost. -/
def State.deliver (s : State) (e : Event) : State × List Nat :=
  [0, 1, 2, 3].foldl (fun (p : State × List Nat) k =>
    let (s', l) := p.1.deliverTo e k
    (s', p.2 ++ l)) (s, [])

/-- The counter of an event's severity advances (R617). -/
def State.countEvent (s : State) (code : Nat) : State :=
  match severity code with
  | 1 => s.bump MG_EVCNT_NOTICE
  | 2 => s.bump MG_EVCNT_ALARM
  | 3 => s.bump MG_EVCNT_CRIT
  | _ => s

/-- An uncorrectable DDR5 line is recorded (R433, R448): source 0 read, 1 scrubber, 2 partial write. -/
def State.recordUe (s : State) (a source : Nat) : State :=
  (((s.bumpSat MM_ECCSTAT_UNCORR).setFld MM_UEADDR_VALID 1).setFld MM_UEADDR_SOURCE source).setFld MM_UEADDR_ADDR (a / 64 * 64)

/-- The event MM_UE (R433). -/
def ueEvent (s : State) (a source : Nat) : Event := ⟨0x0A02, a % 2 ^ 32, source, 0, s.clk.dev⟩

/-- The MM_UE of a lost event follows it; when the entry of that MM_UE is itself lost no further one is raised (R633). -/
def State.lostEvent (s : State) (a : Nat) : State :=
  let s := (s.recordUe a 2).countEvent 0x0A02
  let (s, l) := s.deliver (ueEvent s a 2)
  l.foldl (fun s a => s.recordUe a 2) s

/-- An event is raised (R617): counted by severity, then written to its routes, or buffered while a warm start holds the
rings out of service. -/
def State.raise (s : State) (code : Nat) (p0 : Nat := 0) (p1 : Nat := 0) (psn : Nat := 0) : State :=
  let e : Event := ⟨code, p0 % 2 ^ 32, p1 % 2 ^ 32, psn, s.clk.dev⟩
  let s := s.countEvent code
  if s.ringsUp then
    let (s, l) := s.deliver e
    l.foldl State.lostEvent s
  else if s.ev.buffer.length < 256 then { s with ev := { s.ev with buffer := s.ev.buffer ++ [e] } }
  else s.bump MG_EVCNT_EV_LOST

/-- The events buffered during a warm start are delivered, in order, when the rings return to service. -/
def State.flushEvents (s : State) : State :=
  let l := s.ev.buffer
  l.foldl (fun s e => let (s, l) := s.deliver e; l.foldl State.lostEvent s) { s with ev := { s.ev with buffer := [] } }

/-- An uncorrectable error is reported at the unit that met it (R252, R433, R435, R625). -/
def State.noteUncorrectable (s : State) (a source : Nat) : State :=
  if inDdr a then (s.recordUe a source).raise 0x0A02 (a % 2 ^ 32) source
  else if inSws a then
    ((s.bumpSat MM_ECCSTAT_SWS_UNCORR).raise 0x0A03 (granule a - swsBase)).raise 0x0E0D 1 (granule a - swsBase)
  else if inPen a then (s.bumpSat MG_SERR_PEN_UNCORR).raise 0x0E0D 3 (granule a - penBase)
  else match inCore a with
    | some k => (s.bumpSat (CR_SERR_UNCORR k)).raise 0x0602 k
    | none => s

/-- The refused part-writes of a write are reported (R434). -/
def State.reportRefused (s : State) (l : List Nat) : State := l.foldl (fun s a => s.noteUncorrectable a 2) s

/-- A write of bytes by a unit: performed unit by unit, refused part-writes reported; the second component tells whether all
of it was performed. -/
def State.write (s : State) (a : Nat) (bs : List Byte) : State × Bool :=
  let (s, bad) := s.writeBytes a bs
  (s.reportRefused bad, bad.isEmpty)

/-- A read of one protected unit: a corrected error is counted, an uncorrectable one reported; the second component tells
whether the unit could be read. -/
def State.readUnit (source : Nat) (s : State) (a : Nat) : State × Bool :=
  match s.mark a with
  | .clean => (s, true)
  | .corrected => (s.noteCorrected a, true)
  | .uncorrectable => (s.noteUncorrectable a source, false)

/-- A read of an extent: every unit it touches is read; `none` where one is uncorrectable. -/
def State.read (s : State) (a n : Nat) (source : Nat := 0) : State × Option (List Byte) :=
  let (s, ok) := (unitsOf a n).foldl (fun (p : State × Bool) u =>
    if p.2 then p.1.readUnit source u else p) (s, true)
  (s, if ok then some (s.peekN a n) else none)

/-- New errors that the environment brings about: an address and whether the error is beyond correction. -/
abbrev Upsets := List (Nat × Bool)

/-- Errors arise in the units that hold the addresses. -/
def State.upset (s : State) (u : Upsets) : State :=
  u.foldl (fun s p => s.setMark p.1 (if p.2 then .uncorrectable
    else match s.mark p.1 with | .uncorrectable => .uncorrectable | _ => .corrected)) s

/-! ## Holds -/

/-- The hold mask of MG_HOLD. -/
def State.holdMask (s : State) : Nat :=
  s.fld MG_HOLD_ENC + 2 * s.fld MG_HOLD_CORES + 4 * s.fld MG_HOLD_GATE + 8 * s.fld MG_HOLD_FIELD +
    16 * s.fld MG_HOLD_SUPPLY + 32 * s.fld MG_HOLD_START + 64 * s.fld MG_HOLD_CP

/-- A hold condition begins or ends (R621): HEALTHY goes low and MG_HOLD_ON is raised when a bit rises, MG_HOLD_OFF when the mask returns to zero. -/
def State.hold (s : State) (f : Fld) (b : Bool) : State :=
  if s.isOn f = b then s
  else
    let s := s.setFlag f b
    if b then State.raise { s with pins := { s.pins with healthy := false } } 0x0E09 s.holdMask
    else if s.holdMask = 0 then s.raise 0x0E0A 0 else s

/-! ## Free values -/

/-- The next free value of `w` bits: what the spec leaves open takes it, and the counter moves on. -/
def State.drawFree (s : State) (w : Nat) : State × Nat :=
  ({ s with free := s.free + 1 }, (Config.freeValue s.free).toNat % 2 ^ w)

/-- A block of `n` free bytes. -/
def State.drawBlock (s : State) (n : Nat) : State × List Byte :=
  ({ s with free := s.free + 1 }, (List.range n).map (Config.freeByte s.free))

end Sys2Proof.Machine
end

