-- ==== Sys2Proof/Machine/Clocks.lean ====
section
/-! DEFINITION. The passing of time: ENC cycles, device time with its trim, and the Bellwether counter (R390, R399, R576). -/

namespace Sys2Proof.Machine

/-- TIME cycles of 2 ns that have begun by ENC cycle `e` (R576). -/
def timeCycles (e : Nat) : Nat := 5 * e / 2

/-- Time passes by `n` ENC cycles of 5 ns: on every TIME cycle of 2 ns among them device time advances by 2 ns plus the trim of TM_RATE, the
Bellwether counter by half a tick for each ENC cycle plus its own trim. -/
def State.advance (s : State) (n : Nat) : State :=
  let c := s.clk
  let d := c.devFrac + 2 * (timeCycles (c.enc + n) - timeCycles c.enc) * (1000000000 + s.sfld TM_RATE_RATE).toNat
  let b := c.bwFrac + n * (1000000000 + c.bwTrim).toNat
  { s with clk := { c with
      enc := c.enc + n
      dev := (c.dev + d / 1000000000) % 2 ^ 64
      devFrac := d % 1000000000
      bw := (c.bw + b / 2000000000) % 2 ^ 64
      bwFrac := b % 2000000000 } }

/-- Time passes to ENC cycle `e`; nothing changes where that cycle is past. -/
def State.advanceTo (s : State) (e : Nat) : State := s.advance (e - s.clk.enc)

/-- The ENC cycle by which the TIME cycle has come on which device time first reaches `t` ns, at the present trim. -/
def State.encAtDev (s : State) (t : Nat) : Nat :=
  let per := 2 * (1000000000 + s.sfld TM_RATE_RATE).toNat
  let need := 1000000000 * (t - s.clk.dev) - s.clk.devFrac
  if t ≤ s.clk.dev then s.clk.enc else max s.clk.enc ((2 * (timeCycles s.clk.enc + (need + per - 1) / per) + 4) / 5)

/-- Time passes until device time reaches `t` ns. -/
def State.advanceDev (s : State) (t : Nat) : State := s.advanceTo (s.encAtDev t)

/-- The ENC cycle at or after which the Bellwether counter first reaches `t` ticks, at the present trim. -/
def State.encAtBw (s : State) (t : Nat) : Nat :=
  let per := (1000000000 + s.clk.bwTrim).toNat
  let need := 2000000000 * (t - s.clk.bw) - s.clk.bwFrac
  s.clk.enc + (if t ≤ s.clk.bw then 0 else (need + per - 1) / per)

/-- Time passes until the Bellwether counter reaches `t` ticks. -/
def State.advanceBw (s : State) (t : Nat) : State := s.advanceTo (s.encAtBw t)

end Sys2Proof.Machine
end

