-- ==== Sys2Proof/Machine/Coding.lean ====
section
/-! DEFINITION. The coding of the serial lanes: 66-bit blocks, the scrambler, PRBS31, what a lane puts on its line, and the block boundary of its
receiver (R84 to R89, R97, R98). -/

namespace Sys2Proof.Machine

/-! ## Access -/

/-- Lane `l` beside its registers. -/
def State.lane (s : State) (l : Nat) : Lane := Tab.get {} s.lanes l

/-- Lane `l`, set. -/
def State.setLane (s : State) (l : Nat) (x : Lane) : State := { s with lanes := Tab.set {} s.lanes l x }

/-- STATE of a lane: 0 OFF, 1 ADAPT, 2 HUNT, 3 LOCKED, 4 UP (R85). -/
def State.laneState (s : State) (l : Nat) : Nat := s.fld (LN_LANESTAT_STATE l)

/-- Whether a lane belongs to the enabled drove link (R82). -/
def State.droveLane (s : State) (l : Nat) : Bool := decide (12 ≤ l ∧ l < 16) && s.isOn LN_DRVCFG_EN

/-- LOOP and TESTPAT in force, reserved values treated as 0 (R88, R89). -/
def State.laneLoop (s : State) (l : Nat) : Nat := let n := s.fld (LN_LANECFG_LOOP l); if n ≤ 3 then n else 0
def State.lanePat (s : State) (l : Nat) : Bool := decide (s.fld (LN_LANECFG_TESTPAT l) = 1)

/-- Whether a test setting is active on a lane. -/
def State.laneTest (s : State) (l : Nat) : Bool := decide (s.laneLoop l ≠ 0) || s.lanePat l

/-! ## Blocks -/

/-- The complement of a block. -/
def Coded.inv (b : Coded) : Coded := ⟨~~~ b.hdr, ~~~ b.data⟩

/-- Whether a sync header is valid (R84). -/
def Coded.valid (b : Coded) : Bool := decide (b.hdr = 1#2) || decide (b.hdr = 2#2)

/-- Byte `i` of a block's payload. -/
def Coded.byte (b : Coded) (i : Nat) : Nat := bits b.data.toNat (8 * i) 8

/-- The 66 bits of a block in the order of the line, the first in bit 0: the header's upper bit, its lower bit, the payload from its lowest bit on
(PRESUMED: Clause 49). -/
def Coded.line (b : Coded) : Nat := b.hdr.toNat / 2 + 2 * (b.hdr.toNat % 2) + 4 * b.data.toNat

/-- The block that 66 bits of the line spell. -/
def ofLine (n : Nat) : Coded := ⟨BitVec.ofNat 2 (2 * (n % 2) + n / 2 % 2), BitVec.ofNat 64 (n / 4)⟩

/-- The self-synchronising scrambler 1 + x^39 + x^58 over a payload, from the 58 scrambled bits before it (R84). -/
def scramble (prev : BitVec 58) (d : BitVec 64) : BitVec 64 × BitVec 58 :=
  let n := (List.range 64).foldl (fun n i => n + 2 ^ (58 + i) * b2n ((d.getLsbD i ^^ n.testBit (19 + i)) ^^ n.testBit i)) prev.toNat
  (BitVec.ofNat 64 (n / 2 ^ 58), BitVec.ofNat 58 (n / 2 ^ 64))

/-- The descrambler of the same polynomial. -/
def descramble (prev : BitVec 58) (d : BitVec 64) : BitVec 64 × BitVec 58 :=
  let n := prev.toNat + 2 ^ 58 * d.toNat
  (BitVec.ofNat 64 ((n / 2 ^ 58) ^^^ (n / 2 ^ 19) ^^^ n), BitVec.ofNat 58 (n / 2 ^ 64))

/-- The next 66 bits of PRBS31 (PRESUMED: x^31 + x^28 + 1, inverted, as IEEE 802.3 has it). -/
def prbsBlock (st : BitVec 31) : Coded × BitVec 31 :=
  let p := (List.range 66).foldl (fun (p : Nat × Nat) i =>
    let b := b2n (p.2.testBit 30 ^^ p.2.testBit 27)
    (p.1 + 2 ^ i * (1 - b), (2 * p.2 + b) % 2 ^ 31)) (0, st.toNat)
  (ofLine p.1, BitVec.ofNat 31 p.2)

/-- A data block and a control block of eight payload bytes. -/
def dataBlock (b : List Byte) : Coded := ⟨1#2, BitVec.ofNat 64 (ofLe b)⟩
def ctlBlock (b : List Byte) : Coded := ⟨2#2, BitVec.ofNat 64 (ofLe b)⟩

/-- Idle, low-power idle, and remote fault in both ordered sets of a block (Clauses 46 and 49). -/
def idleBlock : Coded := ctlBlock [0x1E, 0, 0, 0, 0, 0, 0, 0]
def lpiBlock : Coded := ⟨2#2, BitVec.ofNat 64 (0x1E + ((List.range 8).map fun i => 6 * 2 ^ (8 + 7 * i)).sum)⟩
def remoteFaultBlock : Coded := ctlBlock [0x55, 0, 0, 2, 0, 0, 0, 2]

/-- The lane marker of a logical lane and a sequence (R98). -/
def markerBlock (n q : Nat) : Coded := ctlBlock ([0x4B, 0xD7, n, q, 0xB4, 0x28, 255 - n, 255 - q].map (BitVec.ofNat 8))

/-- The blocks of an Ethernet frame: preamble with the start-of-frame delimiter, the octets, the terminate block (Clause 49). -/
def frameBlocks (b : List Byte) : List Coded :=
  let k := b.length % 8
  [ctlBlock [0x78, 0x55, 0x55, 0x55, 0x55, 0x55, 0x55, 0xD5]] ++
    ((List.range (b.length / 8)).map fun i => dataBlock ((b.drop (8 * i)).take 8)) ++
    [ctlBlock ([([0x87, 0x99, 0xAA, 0xB4, 0xCC, 0xD2, 0xE1, 0xFF][k]?).getD 0] ++ b.drop (b.length - k))]

/-! ## Transmission -/

/-- Blocks as the transmit PCS codes them, one after another. -/
def State.codeBlocks (s : State) (l : Nat) (bs : List Coded) : State × List Coded :=
  let p := bs.foldl (fun (p : List Coded × BitVec 58) b =>
    let q := scramble p.2 b.data
    (p.1 ++ [⟨b.hdr, q.1⟩], q.2)) ([], (s.lane l).txScr)
  (s.setLane l { s.lane l with txScr := p.2 }, p.1)

/-- A block as the transmit pins carry it: POL_INV_TX inverts the polarity (R87). -/
def State.txPol (s : State) (l : Nat) (b : Coded) : Coded := if s.isOn (LN_LANECFG_POL_INV_TX l) then b.inv else b

/-- Coded blocks are put on the line. -/
def State.putLine (s : State) (l : Nat) (bs : List Coded) : State := s.setLane l { s.lane l with wire := bs.map (s.txPol l) }

/-- Blocks are coded and put on the line. -/
def State.sendBlocks (s : State) (l : Nat) (bs : List Coded) : State :=
  let (s, cs) := s.codeBlocks l bs
  s.putLine l cs

/-- The marker that a drove lane owes at a flit boundary, 16,384 blocks or more after the last (R98). -/
def State.laneMarker (s : State) (l : Nat) : State × List Coded :=
  let x := s.lane l
  if x.sinceMark < 16384 then (s, [])
  else (s.setLane l { x with sinceMark := 0, markSeq := (x.markSeq + 1) % 256 }, [markerBlock (l % 4) x.markSeq])

/-- The idle block that a drove lane places between flits, once every 256 flits (R97). -/
def State.laneIdle (s : State) (l : Nat) : State × List Coded :=
  let x := s.lane l
  if x.sinceIdle < 256 then (s, []) else (s.setLane l { x with sinceIdle := 0, sinceMark := x.sinceMark + 1 }, [idleBlock])

/-- A lane's eight blocks of a flit: block j carries bytes 8j to 8j + 7 on logical lane j mod 4 (R97). -/
def flitBlocks (n : Nat) (b : List Byte) : List Coded := (List.range 8).map fun i => dataBlock ((b.drop (8 * (4 * i + n))).take 8)

/-- A flit's blocks go out on drove lane `l`, after the columns that are due at its boundary (R97, R98). -/
def State.sendStripe (s : State) (b : List Byte) (l : Nat) : State :=
  let (s, m) := s.laneMarker l
  let (s, i) := s.laneIdle l
  let x := s.lane l
  (s.setLane l { x with sinceMark := x.sinceMark + 8, sinceIdle := x.sinceIdle + 1 }).sendBlocks l (m ++ i ++ flitBlocks (l % 4) b)

/-- The block that a lane sends where no frame or flit is being sent: on a drove lane a marker that is due or idle; on a camera port remote fault
while the port is not UP (R85), low-power idle while it sleeps (R91), idle. -/
def State.fillBlock (s : State) (l : Nat) : State × Coded :=
  if s.droveLane l then
    match s.laneMarker l with
    | (s, m :: _) => (s, m)
    | (s, []) =>
      let x := s.lane l
      (s.setLane l { x with sinceMark := x.sinceMark + 1, sinceIdle := 0 }, idleBlock)
  else if s.laneState l ≠ 4 then (s, remoteFaultBlock)
  else (s, if (s.lane l).lpi = 1 then lpiBlock else idleBlock)

/-- What the transmit direction sends in one block time, as the PCS hands it over: PRBS31 (R89), or a coded block; in far-end loop the lane's own
source is disconnected (R88, R89). -/
def State.blockTime (s : State) (l : Nat) : State × List Coded :=
  if s.lanePat l then
    let p := prbsBlock (s.lane l).prbs
    ((s.setLane l { s.lane l with prbs := p.2 }).putLine l [p.1], [p.1])
  else if s.laneLoop l = 3 then (s.putLine l [], [])
  else
    let (s, b) := s.fillBlock l
    let (s, cs) := s.codeBlocks l [b]
    (s.putLine l cs, cs)

/-! ## The receiver's block boundary -/

/-- The bits of one block time join those that wait, and the block at the candidate boundary is cut off (R86). -/
def State.takeBlock (s : State) (l : Nat) (b : Coded) : State × Option Coded :=
  let x := s.lane l
  let n := x.rx + 2 ^ x.rxLen * b.line
  let k := b2n x.rxSkip
  if x.rxLen + 66 - k < 66 then (s.setLane l { x with rx := n / 2, rxLen := x.rxLen + 65, rxSkip := false }, none)
  else (s.setLane l { x with rx := n / 2 ^ (66 + k), rxLen := x.rxLen - k, rxSkip := false }, some (ofLine (n / 2 ^ k % 2 ^ 66)))

/-- The candidate boundary moves by one bit, to the later one (R86). -/
def State.slipBit (s : State) (l : Nat) : State :=
  let x := s.lane l
  if x.rxLen = 0 then s.setLane l { x with rxSkip := true } else s.setLane l { x with rx := x.rx / 2, rxLen := x.rxLen - 1 }

/-- A received block after the receive polarity and the descrambler (R84, R87); the parallel loop bypasses the pins' polarity (R88). -/
def State.rxBlock (s : State) (l : Nat) (b : Coded) : State × Coded :=
  let b := if s.isOn (LN_LANESTAT_RX_POL_INV l) && decide (s.laneLoop l ≠ 2) then b.inv else b
  let p := descramble (s.lane l).rxScr b.data
  (s.setLane l { s.lane l with rxScr := p.2 }, ⟨b.hdr, p.1⟩)

end Sys2Proof.Machine
end

