-- ==== Sys2Proof/Machine/Tally.lean ====
section
/-! DEFINITION. The Tally: slots and their quotas, leads, aim points and deadlines, the fixing of outcomes, arming, records and
retirement (R17 to R39, R353 to R375). -/

namespace Sys2Proof.Machine

/-! ## Slots, encoders and leads -/

/-- Tally slot `i`. -/
def State.slot (s : State) (i : Nat) : Slot := Tab.get {} s.fold.slots i

/-- Tally slot `i`, set. -/
def State.setSlot (s : State) (i : Nat) (x : Slot) : State :=
  { s with fold := { s.fold with slots := Tab.set {} s.fold.slots i x } }

/-- The slots that hold a part. -/
def State.slotsInUse (s : State) : List Nat := s.fold.slots.map Prod.fst

/-- Encoder channel `e` beside its registers. -/
def State.enc (s : State) (e : Nat) : Enc := Tab.get {} s.pos.encs e

/-- Encoder channel `e`, set. -/
def State.setEnc (s : State) (e : Nat) (x : Enc) : State := { s with pos := { s.pos with encs := Tab.set {} s.pos.encs e x } }

/-- The position of encoder `e` (R17). -/
def State.posOf (s : State) (e : Nat) : Int := s.sfld (PS_POS_POS e)

/-- Whether DIR of encoder `e` reads forward (R44). -/
def State.forward (s : State) (e : Nat) : Bool := !(s.enc e).dir

/-- The encoder to which a race is bound (R19). -/
def State.raceEnc (s : State) (r : Nat) : Nat := s.fld (FO_RCFG_ENC r)

/-- Whether a race is enabled. -/
def State.raceOn (s : State) (r : Nat) : Bool := s.isOn (PX_RCFG_EN r)

/-- The field of FO_RBIN that maps bin `b`. -/
def binFld (r b : Nat) : Fld :=
  if b = 1 then FO_RBIN_BIN1 r else if b = 2 then FO_RBIN_BIN2 r else if b = 3 then FO_RBIN_BIN3 r
  else if b = 4 then FO_RBIN_BIN4 r else if b = 5 then FO_RBIN_BIN5 r else if b = 6 then FO_RBIN_BIN6 r else FO_RBIN_BIN7 r

/-- The output to which a race maps bin `b`, or none (R362). -/
def State.binOut (s : State) (r b : Nat) : Option Nat :=
  let o := s.fld (binFld r b)
  if o < 16 then some o else none

/-- The outputs that a race names (R363). -/
def State.raceOuts (s : State) (r : Nat) : List Nat := [1, 2, 3, 4, 5, 6, 7].filterMap (s.binOut r)

/-- Gate output `o` beside its registers. -/
def State.gout (s : State) (o : Nat) : GateOut := Tab.get {} s.fold.outs o

/-- Gate output `o`, set. -/
def State.setGout (s : State) (o : Nat) (x : GateOut) : State :=
  { s with fold := { s.fold with outs := Tab.set {} s.fold.outs o x } }

/-- COUNT and WIN_US that define v_g of encoder `e`; a count of 0 stands for v_g = 0 (R28). -/
def State.speedOf (s : State) (e : Nat) : Int × Nat := Tab.get (0, 1) s.fold.speed e

/-- The lookahead of encoder `e` in 48.16 counts, t_g = 2 µs (R364). -/
def State.lookahead (s : State) (e : Nat) : Int :=
  let v := s.speedOf e
  if v.1 > 0 then rneDiv (2 * v.1 * 65536) v.2 else 0

/-- The lead of output `o` on encoder `e` in 48.16 counts (R364). -/
def State.lead (s : State) (o e : Nat) : Int :=
  let v := s.speedOf e
  let x := s.gout o
  if v.1 > 0 then rneDiv ((x.tv16 : Int) * v.1 * 65536) (16 * v.2) + x.c * 65536 else x.c * 65536

/-- The largest of a list of leads, 0 for an empty list (R27, R363). -/
def maxLead : List Int → Int
  | [] => 0
  | [a] => a
  | a :: t => max a (maxLead t)

/-- The lead of a race's parts before they are JUDGED (R27). -/
def State.planLead (s : State) (r : Nat) : Int := maxLead ((s.raceOuts r).map fun o => s.lead o (s.raceEnc r))

/-- Whether a position has reached a 48.16 value of the same encoder (R18, R366). -/
def reached (p a : Int) : Bool := decide (0 ≤ sx 64 (toU 64 (p * 65536 - a)))

/-- Aim point and deadline of a part under the present speed (R29, R364): by the planning lead before JUDGED, by its own
output's lead afterwards, F itself for a part that passes; a committed or fired part keeps its own. -/
def State.aim (s : State) (x : Slot) : Int × Int :=
  let e := s.raceEnc x.race
  let f := x.firePos * 65536
  match x.st with
  | .closed | .queued | .judging => (f - s.planLead x.race, f - s.planLead x.race - s.lookahead e)
  | .judged | .armed =>
    if x.committed then (x.a, x.d)
    else match x.out with
      | some o => (f - s.lead o e, f - s.lead o e - s.lookahead e)
      | none => (f, f)
  | _ => (x.a, x.d)

/-- Aim point and deadline of slot `i` recomputed. -/
def State.reAim (s : State) (i : Nat) : State :=
  let x := s.slot i
  s.setSlot i { x with a := (s.aim x).1, d := (s.aim x).2 }

/-- The states of a part whose outcome is not fixed but whose deadline stands (R30). -/
def PartState.judgeable : PartState → Bool
  | .closed | .queued | .judging => true
  | _ => false

/-! ## Quotas -/

/-- Slots of a race drawn from its own quota. -/
def State.quotaUsed (s : State) (r : Nat) : Nat :=
  (s.fold.slots.filter fun p => p.2.race = r ∧ p.2.fromPool = false ∧ p.2.st ≠ .free).length

/-- Slots drawn from the pool. -/
def State.poolUsed (s : State) : Nat := (s.fold.slots.filter fun p => p.2.fromPool ∧ p.2.st ≠ .free).length

/-- The pool: the slots left over from the races' quotas (R26). -/
def State.poolSize (s : State) : Nat := 4096 - (s.fold.quota.map Prod.snd).sum

/-- The lowest slot that is free and not withdrawn. -/
def State.freeSlot (s : State) : Option Nat :=
  (List.range 4096).find? fun i => !(s.slotsInUse.contains i) && !(s.fold.withdrawn.contains i)

/-- The slot a new run takes, and whether it comes from the pool: first the race's own quota, then the pool (R26). -/
def State.allocSlot (s : State) (r : Nat) : Option (Nat × Bool) :=
  match s.freeSlot with
  | none => none
  | some i =>
    if s.quotaUsed r < Tab.get 0 s.fold.quota r then some (i, false)
    else if s.poolUsed < s.poolSize then some (i, true)
    else none

/-- FO_STAT follows the number of slots in use. -/
def State.noteUsed (s : State) : State :=
  let n := s.fold.slots.length
  (s.setFld FO_STAT_USED n).setFld FO_STAT_HIWAT (max n (s.fld FO_STAT_HIWAT))

/-! ## Audit selection and tile slots -/

/-- The key of a tile slot. -/
def tileKey (r t : Nat) : Nat := 4096 * r + t

/-- How many hold tile slot `t` of race `r` (R172). -/
def State.tileHolds (s : State) (r t : Nat) : Nat := Tab.get 0 s.audit.tiles (tileKey r t)

/-- One more holder of a tile slot. -/
def State.holdTile (s : State) (r t : Nat) : State :=
  { s with audit := { s.audit with tiles := Tab.set 0 s.audit.tiles (tileKey r t) (s.tileHolds r t + 1) } }

/-- One holder fewer. -/
def State.dropTile (s : State) (r t : Nat) : State :=
  { s with audit := { s.audit with tiles := Tab.set 0 s.audit.tiles (tileKey r t) (s.tileHolds r t - 1) } }

/-- The free tile slots of a race (R172). -/
def State.freeTiles (s : State) (r : Nat) : List Nat :=
  (List.range (s.fld (PX_RTILE_TSLOTS r))).filter fun t => s.tileHolds r t = 0

/-- The pixel format of a race: that of the first stream of its segmentation view (R120, R171). -/
def State.raceFmt (s : State) (r : Nat) : Nat :=
  let v := s.fld (PX_RVIEW_VIEW r (s.fld (PX_RCFG_SEG_N r)))
  match (List.range 16).find? fun n => s.fld (IN_STRCFG_VIEW n) = v && decide (s.fld (IN_STRGEOM_WIDTH n) ≠ 0) with
  | some n => s.fld (IN_STRCFG_PIXFMT n)
  | none => 0

/-- Bytes per pixel of a race's tiles: U8 for Mono8, U16 otherwise (R171). -/
def State.raceBytes (s : State) (r : Nat) : Nat := if s.raceFmt r = 0 then 1 else 2

/-- The views of a race: the valid entries of its view list, in order. -/
def State.raceViews (s : State) (r : Nat) : List Nat := [0, 1, 2, 3].filter fun i => s.isOn (PX_RVIEW_VALID r i)

/-- Whether a race writes its tiles to DDR5 (R173): always with FEED = DDR5, and with FEED = LAMB only where its parts may be
audited. -/
def State.writesTile (s : State) (r : Nat) : Bool :=
  !s.isOn (PX_RCFG_FEED r) || (decide (s.fld PX_AUDCFG_BUF_MIB ≠ 0) &&
    (s.isOn (PX_RAUD_AUD_REJ r) || s.isOn (PX_RAUD_AUD_UNJ r) || s.isOn (PX_RAUD_AUD_EVERY r)))

/-- The worst-case size of a Fleece image (R527). -/
def fleeceWorst (planes h w bytes : Nat) : Nat := 64 + 8 * (planes * ((h + 15) / 16)) + planes * h * w * bytes

/-- Size of the audit buffer in bytes. -/
def State.audSize (s : State) : Nat := 0x100000 * s.fld PX_AUDCFG_BUF_MIB

/-- Bytes of the audit buffer in use: from the oldest image whose ring entry has not been consumed to the write offset. -/
def State.audUsed (s : State) : Nat := (s.audit.images.map Prod.snd).sum

/-- Whether the audit buffer can hold an image of a size (R174). -/
def State.audRoom (s : State) (n : Nat) : Bool := decide (s.audUsed + (n + 63) / 64 * 64 ≤ s.audSize)

/-- A part that reaches JUDGED is selected for audit, or skipped when the queue or the buffer is full (R174). -/
def State.auditSelect (s : State) (i : Nat) : State :=
  let x := s.slot i
  let r := x.race
  let rej := match x.verdict with | some (.bin _) => s.isOn (PX_RAUD_AUD_REJ r) | _ => false
  let unj := x.verdict = some .unjudged && s.isOn (PX_RAUD_AUD_UNJ r)
  let n := s.fld (PX_RAUD_AUD_EVERY r)
  let smp := x.verdict = some .accept && decide (n ≠ 0 ∧ x.psn % n = 0)
  if s.fld PX_AUDCFG_BUF_MIB = 0 then s
  else if !(rej || unj || smp) then s
  else match x.tile with
    | none => s
    | some t =>
      if s.audit.queue.length < 64 ∧
          s.audRoom (fleeceWorst (s.raceViews r).length x.tileH (s.fld (PX_RGEOM_W r)) (s.raceBytes r)) then
        let s := s.holdTile r t
        { s with audit := { s.audit with queue := s.audit.queue ++ [⟨x.psn, r, t, x.epoch, rej, unj, smp, x.mixedEpoch⟩] } }
      else s.bump (PX_RSTAT_AUD_SKIP r)

/-! ## Codes and records -/

/-- The code of an outcome (R373). -/
def Verdict.code : Verdict → Nat
  | .accept => 0
  | .bin n => n
  | .unjudged => 8

/-- The code of COMPUTED: 15 for none (R373). -/
def computedCode : Option Verdict → Nat
  | none => 15
  | some v => v.code

/-- The code of a reason (R373). -/
def Reason.code : Reason → Nat
  | .none => 0 | .late => 1 | .dataError => 2 | .jobLost => 3 | .positionDoubt => 4 | .tooShort => 5 | .truncated => 6
  | .overlong => 7 | .partition => 8 | .notDecoded => 9

/-- The code of a part's state (R353). -/
def PartState.code : PartState → Nat
  | .free => 0 | .opened => 1 | .closed => 2 | .queued => 3 | .judging => 4 | .judged => 5 | .armed => 6 | .fired => 7
  | .passed => 8 | .retired => 9

/-- The FLAGS word of a part (R373). -/
def Slot.flags (x : Slot) : Nat :=
  b2n x.widened + 2 * b2n x.mixedEpoch + 4 * b2n x.late + 8 * b2n x.doubt + 16 * b2n x.sag + 32 * b2n x.halfOnly +
    64 * b2n x.suppressed + 128 * b2n x.scored + 256 * x.subcause

/-- The 32 bytes of a verdict record from its fields, CRC included (R373). -/
def recordBytes (psn raceByte outByte model epoch flags score clsWord : Nat) (fire : Int) (time : Nat) : List Byte :=
  let b := leBytes 4 psn ++ leBytes 1 raceByte ++ leBytes 1 outByte ++ leBytes 2 model ++ leBytes 2 epoch ++ leBytes 2 flags ++
    leBytes 4 score ++ leBytes 2 clsWord ++ leBytes 6 (toU 48 fire) ++ leBytes 4 time
  b ++ leBytes 4 (crc32 b)

/-- The live record of a part (R372, R373). -/
def Slot.liveRecord (x : Slot) : List Byte :=
  recordBytes x.psn x.race ((match x.verdict with | some v => v.code | none => 0) + 16 * x.reason.code) x.model x.epoch x.flags
    x.score (x.cls % 4096 + 4096 * computedCode x.computed) x.firePos x.time

/-- The trial record of a part: TRIAL set, its actuation fields zero (R361). -/
def Slot.trialRecord (x : Slot) (t : TrialEnd) : List Byte :=
  recordBytes x.psn (x.race + 128) (t.verdict.code + 16 * t.reason.code) t.content.model x.epoch
    (b2n t.content.widened + 2 * b2n x.mixedEpoch + 128 * b2n t.content.scored) t.content.score
    (t.content.cls % 4096 + 4096 * computedCode t.content.computed) 0 t.time

/-- The 64 bytes of a Tally slot as the portal reads them (R353). -/
def Slot.bytes (x : Slot) : List Byte :=
  leBytes 1 x.st.code ++ leBytes 1 x.race ++
  leBytes 1 ((match x.verdict with | some v => v.code | none => 0) + 16 * x.reason.code) ++
  leBytes 1 ((match x.out with | some o => o | none => 0) +
    (match x.verdict, x.out with | some _, none => 16 | _, _ => 0) + 32 * b2n x.committed) ++
  leBytes 4 x.psn ++ leBytes 2 x.epoch ++ leBytes 2 x.flags ++ leBytes 4 x.score ++
  leBytes 2 (x.cls % 4096 + (if x.hasContent then 4096 * computedCode x.computed else 0)) ++
  leBytes 6 (toU 48 x.pStart) ++ leBytes 6 (toU 48 x.firePos) ++ leBytes 2 x.model ++ leBytes 8 (toU 64 x.d) ++
  leBytes 8 (toU 64 x.a) ++ leBytes 1 (x.rtJob.getD 255) ++ leBytes 1 (x.trJob.getD 255) ++ leBytes 2 0 ++ leBytes 4 x.time ++
  leBytes 8 0

/-- The 64 bytes of a ring descriptor as the portal reads them (R440, R445). -/
def Ring.bytes (x : Ring) : List Byte :=
  leBytes 1 x.ver ++ leBytes 1 (x.kind + 16 * b2n x.attn + 32 * b2n x.pen) ++ leBytes 1 x.esize ++ leBytes 1 x.size ++ leBytes 4 0 ++
  leBytes 8 x.base ++ leBytes 4 x.prod ++ leBytes 4 x.cons ++ leBytes 8 x.idxAddr ++ leBytes 4 x.ovf ++ leBytes 28 0

/-- A record is posted to a ring of a race; a record dropped at a full ring or lost counts in REC_DROP, and FO_RING_FULL is
raised at most once per race per millisecond (R372). -/
def State.postRecord (s : State) (r ring : Nat) (rec : List Byte) : State :=
  match s.ringPost ring rec with
  | (s, .posted) => s
  | (s, .lost l) => (s.reportRefused l).bump (FO_RSTAT_REC_DROP r)
  | (s, .full) =>
    let s := s.bump (FO_RSTAT_REC_DROP r)
    let last := Tab.get 0 s.fold.fullTime r
    if last = 0 ∨ 1000000 + last ≤ s.clk.dev + 1 then
      ({ s with fold := { s.fold with fullTime := Tab.set 0 s.fold.fullTime r (s.clk.dev + 1) } }).raise 0x0904 r ring
    else s

/-! ## Outputs -/

/-- The race that names an output, an enabled one first (R376, R385). -/
def State.namer (s : State) (o : Nat) : Option Nat :=
  let l := (List.range 16).filter fun r => (s.raceOuts r).contains o
  match l.find? s.raceOn with
  | some r => some r
  | none => l.head?

/-- Whether an enabled race names an output. -/
def State.namedOn (s : State) (o : Nat) : Bool := (List.range 16).any fun r => s.raceOn r && (s.raceOuts r).contains o

/-- The encoder of an output: that of the races that name it (R362). -/
def State.outEnc (s : State) (o : Nat) : Nat := match s.namer o with | some r => s.raceEnc r | none => 0

/-! ## Becoming FIRED -/

/-- Device time `n` steps of 12.5 ns after device time `t`. -/
def stepTime (t n : Nat) : Nat := (t + n * 25 / 2) % 2 ^ 32

/-- A part becomes FIRED at a time (R366, R374): an ARMED one, or one that its full queue kept from arming (R365). -/
def State.fireSlot (s : State) (i time : Nat) : State :=
  let x := s.slot i
  if x.st = .armed ∨ x.st = .judged ∧ x.arming = .full then s.setSlot i { x with st := .fired, time := time } else s

/-- A part whose pulse is not delivered: FIRED with SUPPRESSED and a sub-cause (R369). -/
def State.suppressSlot (s : State) (i sub time : Nat) : State :=
  let s := s.fireSlot i time
  let x := s.slot i
  s.setSlot i { x with suppressed := true, subcause := if x.suppressed then x.subcause else sub,
                       fateKnown := true, pulseOver := true, arming := .none }

/-! ## Commitment -/

/-- The position of an encoder at the last frame start (R366). -/
def State.framePos (s : State) (e : Nat) : Int := match s.fold.frame with | some f => Tab.get 0 f.pos e | none => s.posOf e

/-- Whether DIR of an encoder read forward at the last frame start. -/
def State.frameForward (s : State) (e : Nat) : Bool := match s.fold.frame with | some f => !(Tab.get false f.back e) | none => s.forward e

/-- Device time at the last frame start. -/
def State.frameDev (s : State) : Nat := match s.fold.frame with | some f => f.dev | none => s.clk.dev

/-- The offset of a start edge from its frame start, in steps (R366). -/
def State.startOffset (s : State) (e : Nat) (a : Int) : Nat :=
  let v := s.speedOf e
  if v.1 > 0 then
    (clampI 81 160 (rneDiv (sx 64 (toU 64 (a - s.framePos e * 65536)) * 80 * v.2) (v.1 * 65536).toNat)).toNat
  else 81

/-- Whether a pulse is on at a step. -/
def Pulse.onAt (p : Pulse) (n : Nat) : Bool :=
  decide (p.start ≤ n) && match p.stop with
    | .step m => decide (n < m)
    | .pos _ m => decide (n < m)

/-- A pulse's end from its start under the settings in force (R368). -/
def GateOut.pulseEnd (g : GateOut) (start : Nat) (a : Int) : PulseEnd :=
  if g.pwCount then .pos (a + (g.pw : Int) * 65536) (start + g.pwMaxMs * 80000) else .step (start + g.pw * 80)

/-- The step at which a pulse's end falls due in the frame at `base`: a step set by time, or a position reached or at its limit
(R368). -/
def State.endDue (s : State) (o base : Nat) (p : Pulse) : Option Nat :=
  match p.stop with
  | .step m => if m ≤ base + 160 then some m else none
  | .pos a lim =>
    let e := s.outEnc o
    if s.frameForward e && reached (s.framePos e) a then some (base + s.startOffset e a)
    else if lim ≤ base + 160 then some lim else none

/-- Whether a start at a step of the frame at `base` falls within a pulse (R368): one on from before that has not ended by then. -/
def State.covers (s : State) (o base n : Nat) (p : Pulse) : Bool :=
  decide (p.start ≤ n) && (match s.endDue o base p with
    | some m => decide (n < m)
    | none => true)

/-- One entry is committed on output `o` at the frame that starts at step `base` (R366): a start edge, or none where the pulse is merged (R368), its
output's PW is 0, or FIELD_LOST stands (R369). An output that is not in MODE GATE is held off (R384): no edge is sent, and the part is FIRED with
SUPPRESSED; sub-cause 0 there is the model's choice (log entry 167). The edge goes to the frame's edge word, `late` where the frame has started. -/
def State.commitEntry (s : State) (o base : Nat) (i : Nat) (late : Bool := false) : State :=
  let x := s.slot i
  let g := s.gout o
  let n := s.startOffset (s.raceEnc x.race) x.a
  let t := stepTime s.frameDev n
  let st := base + n
  let s := s.setGout o { g with queue := g.queue.filter fun q => decide (q.slot ≠ i) }
  if g.mode ≠ 1 then s.suppressSlot i 0 t
  else if g.pw = 0 then s.suppressSlot i 5 t
  else if s.variant = .f ∧ s.isOn FI_LINK_FIELD_LOST then s.suppressSlot i 4 t
  else
    let merged := g.pulses.any fun p => s.covers o base st p
    let s := s.setSlot i { x with committed := true, arming := .none, fateKnown := decide (s.variant = .n) }
    let p : Pulse := { slot := i, start := st, stop := g.pulseEnd st x.a, time := t, a := x.a, merged := merged }
    let g := s.gout o
    let s := s.setGout o { g with pulses := g.pulses ++ [p] }
    if merged then
      let s : State := if late then { s with fold := { s.fold with lateMerged := s.fold.lateMerged ++ [(o, i)] } } else s
      s.bump (FO_OSTAT_MERGED o)
    else
      let e : Edge := { out := o, start := true, step := st, slot := some i }
      let s : State := if late then { s with fold := { s.fold with late := s.fold.late ++ [e] } }
        else { s with fold := { s.fold with edges := s.fold.edges ++ [e] } }
      s.bump (FO_OSTAT_EDGES o)

/-- An entry that reaches the fire queue of output `o` within 32 ns after a frame start is tested against that frame start's position, and committed
in its frame (R366, R578). -/
def State.commitLate (s : State) (o i : Nat) : State :=
  match s.fold.frame with
  | some f =>
    let e := s.raceEnc (s.slot i).race
    if s.clk.enc ≤ f.cyc + 6 ∧ s.frameForward e = true ∧ reached (s.framePos e) (s.slot i).d = true then s.commitEntry o f.base i true else s
  | none => s

/-! ## Arming -/

/-- The bin of an UNJUDGED part: the race's default action, or under the partition policy the choice of R409; none where the
part passes. -/
def State.unjudgedBin (s : State) (r : Nat) (why : Reason) : Option Nat :=
  let d := s.fld (FO_RCFG_DEFAULT r)
  if why = .partition then
    (if s.isOn (FO_RCFG_PART_CHOICE r) then none else some (if d = 0 then 1 else d))
  else if d = 0 then none else some d

/-- The output on which a part is actuated, or none where it passes (R362). -/
def State.actOut (s : State) (x : Slot) : Option Nat :=
  match x.verdict with
  | some (.bin b) => s.binOut x.race b
  | some .unjudged => (s.unjudgedBin x.race x.reason).bind (s.binOut x.race)
  | _ => none

/-- The order of a fire queue: by F, then by PSN (R365). -/
def FireEntry.before (a b : FireEntry) : Bool :=
  decide (posDiff a.f b.f < 0) || (decide (posDiff a.f b.f = 0) && decide (a.psn < b.psn))

/-- An entry put in its place in a fire queue. -/
def insertFire (e : FireEntry) : List FireEntry → List FireEntry
  | [] => [e]
  | x :: t => if e.before x then e :: x :: t else x :: insertFire e t

/-- GATE of MG_HOLD stands while any fire queue is full (R365). -/
def State.gateHold (s : State) : State :=
  s.hold MG_HOLD_GATE (s.fold.outs.any fun p => decide (256 ≤ p.2.queue.length))

/-- An entry of slot `i` is placed in output `o`'s fire queue; `none` where the queue is full (R365). -/
def State.enqueueFire (s : State) (o i : Nat) : Option State :=
  let g := s.gout o
  let x := s.slot i
  if 256 ≤ g.queue.length then none
  else some (s.setGout o { g with queue := insertFire ⟨i, x.firePos, x.psn⟩ g.queue })

/-- A JUDGED part is armed: an entry in its output's fire queue, or an aim-point watch where it passes; a part that finds its queue full is
not armed: it stays JUDGED, and FO_GATE_FULL is raised (R365). The aim point and deadline are those of its own output (R27). -/
def State.arm (s : State) (i : Nat) : State :=
  let x := s.slot i
  let o := s.actOut x
  let s := (s.setSlot i { x with st := .judged, out := o }).reAim i
  match o with
  | none => s.setSlot i { s.slot i with st := .armed, arming := .watch }
  | some o =>
    match s.enqueueFire o i with
    | some s => ((s.setSlot i { s.slot i with st := .armed, arming := .queue }).gateHold).commitLate o i
    | none => ((s.setSlot i { s.slot i with arming := .full }).raise 0x0903 o x.psn x.psn).gateHold

/-- A part's entry or watch is withdrawn (R37). -/
def State.disarm (s : State) (i : Nat) : State :=
  let x := s.slot i
  let s := match x.out with
    | some o =>
      let g := s.gout o
      s.setGout o { g with queue := g.queue.filter fun e => e.slot ≠ i }
    | none => s
  (s.setSlot i { s.slot i with arming := .none }).gateHold

/-! ## Half-verdicts of a HALF race -/

/-- Whether the drove link is UP. -/
def State.linkUp (s : State) : Bool := decide (s.fld LN_DRVSTAT_STATE = 3)

/-- Role of a race under a pairing (R405): 0 NONE, 1 OWNER, 2 HALF. -/
def State.pairRole (s : State) (r : Nat) : Nat := s.fld (TM_RPAIR_ROLE r)

/-- A HALF race's part forms its half-verdict when its computed content is final; formed while the link is not UP it is not
sent (R406). -/
def State.formHalf (s : State) (i : Nat) : State :=
  let x := s.slot i
  if s.pairRole x.race ≠ 2 then s
  else if !s.linkUp then s.bump (TM_RPSTAT_HALF_DROP x.race)
  else
    let h : Half := ⟨x.psn, x.race, if x.hasContent then x.computed else none, x.reason, x.widened, x.mixedEpoch, x.doubt,
      x.scored, x.score, x.cls, x.model, x.pStart, s.clk.bw⟩
    { s with pair := { s.pair with toSend := s.pair.toSend ++ [h] } }

/-! ## Fixing an outcome -/

/-- The outcome of a part is fixed: JUDGED, selected for audit, and ARMED immediately (R23). A HALF race's part sends its
half-verdict at JUDGED, except a LATE part, which sends it when its job ends (R406). -/
def State.judge (s : State) (i : Nat) (v : Verdict) (why : Reason) : State :=
  let x := s.slot i
  let s := s.setSlot i { x with st := .judged, verdict := some v, reason := why, waitHalf := x.waitHalf && decide (why = .late) }
  let s := s.auditSelect i
  let s := if why = .late then s else s.formHalf i
  s.arm i

/-- A reason arises for a part: the first one stands (R24). While OPEN it is carried to CLOSED; before JUDGED it makes the
part UNJUDGED; afterwards it changes nothing. -/
def State.giveReason (s : State) (i : Nat) (why : Reason) : State :=
  let x := s.slot i
  if x.reason ≠ .none then s
  else match x.st with
    | .opened => s.setSlot i { x with reason := why }
    | .closed | .queued | .judging => s.judge i .unjudged why
    | _ => s

/-- The deadline test of one part (R30): P ≥ D, no outcome fixed, DIR forward; the part becomes UNJUDGED (LATE) and its
default action is armed (R371). -/
def State.lateCheck (s : State) (i : Nat) : State :=
  let x := s.slot i
  let e := s.raceEnc x.race
  if x.st.judgeable && decide (x.reason = .none) && s.forward e && reached (s.posOf e) x.d then
    let s := s.setSlot i { x with late := true }
    (s.judge i .unjudged .late).bump (FO_RSTAT_LATE_CNT x.race)
  else s

/-- The deadline test over every part of the races bound to an encoder. -/
def State.lateChecks (s : State) (e : Nat) : State :=
  s.slotsInUse.foldl (fun s i => if s.raceEnc (s.slot i).race = e then s.lateCheck i else s) s

/-- PS_SLIP at the Tally (R37): POSITION_DOUBT on every part in flight that has not reached FIRED or PASSED; under SLIP_ACTION
DEFAULT each that has no reason and is not committed becomes UNJUDGED (POSITION_DOUBT), an armed one at the same aim point. Where the race's
default action passes the part, its watch stands at F, the aim point of a passing part (R27): the model's choice (log entry 165). -/
def State.slipPart (s : State) (i : Nat) : State :=
  let x := s.slot i
  if x.st = .fired ∨ x.st = .passed ∨ x.st = .retired ∨ x.st = .free then s
  else
    let s := s.setSlot i { x with doubt := true }
    if s.isOn (FO_RCFG_SLIP_ACTION x.race) then s
    else if x.reason ≠ .none ∨ x.committed then s
    else if x.st = .armed ∨ x.st = .judged then
      let s := s.disarm i
      let s := s.setSlot i { s.slot i with verdict := some .unjudged, reason := .positionDoubt }
      let s := s.arm i
      if (s.slot i).out = none then s else s.setSlot i { s.slot i with a := x.a, d := x.d }
    else s.giveReason i .positionDoubt

/-- PS_SLIP on encoder `e` at the Tally. -/
def State.slipParts (s : State) (e : Nat) : State :=
  s.slotsInUse.foldl (fun s i => if s.raceEnc (s.slot i).race = e then s.slipPart i else s) s

/-! ## Closing and retirement -/

/-- A part's fire position from its first and last line (R20, R27). -/
def firePosOf (pStart pEnd : Int) (eject : Nat) : Int :=
  pos48 (pStart + posDiff pEnd pStart / 2 + (eject : Int))

/-- The Tally assigns the next PSN (R21, R354). -/
def State.takePsn (s : State) : State × Nat :=
  let n := s.fld FO_PSN_NEXT_PSN
  let s := s.setFld FO_PSN_NEXT_PSN (n + 1)
  if n = 0xFFFFFFFF then
    let s := s.bump FO_STAT_WRAPS
    (s.raise 0x0902 (s.fld FO_STAT_WRAPS), n)
  else (s, n)

/-- Whether the part's actuation, its jobs and its pairing have ended (R23, R372). -/
def Slot.done (x : Slot) : Bool :=
  (x.st == .fired || x.st == .passed) && x.fateKnown && x.pulseOver && !x.rtOpen && !x.trOpen && !x.waitHalf

/-- Whether the Fleece encoder still waits for the tile of slot `i` to be written (R172, R174). -/
def State.auditWaits (s : State) (i : Nat) : Bool :=
  let x := s.slot i
  !x.tileDone && s.audit.queue.any fun q => decide (q.race = x.race) && decide (some q.tile = x.tile)

/-- A part retires when its actuation and its jobs have ended: its records are written and its slot is freed (R372). While the
rings are out of service it waits in its slot (R375), and while its audit image waits for its tile. -/
def State.tryRetire (s : State) (i : Nat) : State :=
  let x := s.slot i
  if !(x.done && s.ringsUp) || s.auditWaits i then s
  else
    let s := s.postRecord x.race (s.fld (FO_RRING_LIVE_RING x.race)) x.liveRecord
    let s := match x.trial with
      | some t => s.postRecord x.race (s.fld (FO_RRING_TRIAL_RING x.race)) (x.trialRecord t)
      | none => s
    let s := if x.verdict = some .unjudged then s.bump (FO_RSTAT_UNJ_CNT x.race) else s
    let s := if x.st = .fired then s.bump (FO_RSTAT_FIRED_CNT x.race) else s
    let s := match x.tile with | some t => s.dropTile x.race t | none => s
    let s := { s with lamb := { s.lamb with
        ended := s.lamb.ended.filter fun k => decide (k ≠ i)
        empties := s.lamb.empties.filter fun k => decide (k ≠ i) } }
    (s.setSlot i {}).noteUsed

/-- Every part that can retire retires. -/
def State.retireAll (s : State) : State := s.slotsInUse.foldl State.tryRetire s

end Sys2Proof.Machine
end

