-- ==== Sys2Proof/Machine/Verdict.lean ====
section
/-! DEFINITION. Results, the rules that form a verdict, the end of a part's job, and the halves of paired races
(R355 to R361, R405 to R409). -/

namespace Sys2Proof.Machine

/-! ## Results -/

/-- The order of FP32 bit patterns used for scores: NaN below every number, −0 equal to +0 (R280, R359). -/
def fp32Key (b : Nat) : Int :=
  let m : Nat := b % 2 ^ 31
  if m > 0x7F800000 then -(2 ^ 33 : Int) else if b / 2 ^ 31 % 2 = 1 then -(m : Int) else (m : Int)

/-- The order of a score by KIND (R357). -/
def scoreKey (fp : Bool) (b : Nat) : Int := if fp then fp32Key b else sx 32 b

/-- The place a result leaves when it meets the one already there (R357). -/
def mergeResult (old new : Result) : Result :=
  if old.fp ≠ new.fp then (if old.fp then new else old)
  else if scoreKey new.fp new.score > scoreKey old.fp old.score then new
  else if scoreKey new.fp new.score < scoreKey old.fp old.score then old
  else if new.cls < old.cls then new else old

/-- Place `idx` of the result table entry of job-table entry `j`. -/
def State.resultAt (s : State) (j idx : Nat) : Option Result := Tab.get none s.fold.results (16 * j + idx)

/-- A result is stored at its place, or merged there (R357). -/
def State.storeResult (s : State) (j : Nat) (r : Result) : State :=
  let v := match s.resultAt j r.idx with
    | some old => mergeResult old r
    | none => r
  { s with fold := { s.fold with results := Tab.set none s.fold.results (16 * j + r.idx) (some v) } }

/-- A job's result table entry is cleared when the job enters the table (R357). -/
def State.clearResults (s : State) (j : Nat) : State :=
  { s with fold := { s.fold with results := s.fold.results.filter fun p => p.1 / 16 ≠ j } }

/-! ## Rules -/

/-- Word `w` of rule `i` of client `c` (R389). -/
def State.ruleWord (s : State) (c i w : Nat) : Nat := s.fld (FO_RULE_RULE c (4 * i + w))

/-- A rule as the Fold reads it: validity with its field checks, the place, the condition, the outcome (R359). -/
structure Rule where
  valid : Bool
  op : Nat
  idx : Nat
  fp : Bool
  outcome : Nat
  thr : Nat
  val : Nat
deriving DecidableEq, Repr

/-- Rule `i` of client `c`; a rule with an illegal OP, an OUTCOME of 0 or a nonzero reserved field is never met (R359). -/
def State.rule (s : State) (c i : Nat) : Rule :=
  let w0 := s.ruleWord c i 0
  let w2 := s.ruleWord c i 2
  let legal := bits w0 4 4 = 0 && bits w0 13 3 = 0 && bits w0 19 13 = 0 && bits w2 16 16 = 0 && s.ruleWord c i 3 = 0
  { valid := bit w0 0 && legal && decide (bits w0 1 3 < 4) && decide (bits w0 16 3 ≠ 0)
    op := bits w0 1 3
    idx := bits w0 8 4
    fp := bit w0 12
    outcome := bits w0 16 3
    thr := s.ruleWord c i 1
    val := bits w2 0 16 }

/-- Whether a result meets a rule's condition (R359). -/
def Rule.holds (u : Rule) (r : Result) : Bool :=
  match u.op with
  | 0 => decide (scoreKey u.fp r.score ≥ scoreKey u.fp u.thr)
  | 1 => decide (scoreKey u.fp r.score > scoreKey u.fp u.thr)
  | 2 => decide (r.cls = u.val)
  | _ => decide (r.cls ≠ u.val)

/-- The first rule in order that is valid, whose place is occupied and whose condition holds. -/
def State.firstRule (s : State) (c j : Nat) : Option (Rule × Result) :=
  (List.range 16).findSome? fun i =>
    let u := s.rule c i
    match s.resultAt j u.idx with
    | some r => if u.valid && u.holds r then some (u, r) else none
    | none => none

/-- The computed content of a job that ended normally without an empty mark (R359, R360). -/
def State.ruledContent (s : State) (c j : Nat) (wide : Bool) : Content :=
  match s.firstRule c j with
  | some (u, r) => ⟨some (.bin u.outcome), r.score, r.cls, true, wide, Tab.get 0 s.shep.model c⟩
  | none =>
    match s.resultAt j (s.fld (FO_CCFG_REPORT_IDX c)) with
    | some r => ⟨some .accept, r.score, r.cls, true, wide, Tab.get 0 s.shep.model c⟩
    | none => ⟨some .accept, 0, 0, false, wide, Tab.get 0 s.shep.model c⟩

/-- The computed content at a job's end (R358): none for a job cancelled, flushed or ended with DATA_ERROR, UNJUDGED (TOO_SHORT)
for an empty mark, and otherwise what the rules give. -/
def State.jobContent (s : State) (c j : Nat) (st : JobStatus) (empty wide : Bool) : Content :=
  match st with
  | .done | .tooShort =>
    if empty then ⟨some .unjudged, 0, 0, false, wide, Tab.get 0 s.shep.model c⟩ else s.ruledContent c j wide
  | _ => ⟨none, 0, 0, false, wide, Tab.get 0 s.shep.model c⟩

/-- OUTCOME and REASON of trial and replay records (R361). -/
def sampleOutcome (st : JobStatus) (c : Content) : Verdict × Reason :=
  match st with
  | .done | .tooShort =>
    match c.computed with
    | some .unjudged => (.unjudged, .tooShort)
    | some v => (v, .none)
    | none => (.unjudged, .jobLost)
  | .dataError => (.unjudged, .dataError)
  | _ => (.unjudged, .jobLost)

/-! ## The halves of an owned part -/

/-- The computed content written into a part's slot. -/
def Slot.withContent (x : Slot) (c : Content) : Slot :=
  { x with computed := c.computed, score := c.score, cls := c.cls, scored := c.scored, widened := x.widened || c.widened,
           model := c.model, hasContent := true }

/-- A held half-verdict's P_START in the owner's positions (R407). -/
def State.halfStart (s : State) (h : Half) : Int := h.pStart + s.sfld (TM_PAIROFS_OFS (s.raceEnc h.race))

/-- The difference by which a held half-verdict misses a part (R407). -/
def State.halfGap (s : State) (i : Nat) (h : Half) : Nat := (posDiff (s.slot i).pStart (s.halfStart h)).natAbs

/-- Whether a half-verdict matches a part (R407). -/
def State.halfMatches (s : State) (i : Nat) (h : Half) : Bool :=
  let x := s.slot i
  decide (h.race = x.race) && s.isOn (TM_PAIROFS_PAIR_VALID (s.raceEnc x.race)) &&
    decide (s.halfGap i h ≤ s.fld (TM_RPAIR_MATCH_TOL x.race))

/-- The held half-verdict with the smallest difference, the earliest received among equals: its index in the list. -/
def State.bestHeld (s : State) (i : Nat) : Option Nat :=
  ((List.range s.pair.held.length).filter fun n => (s.pair.held[n]?).any (s.halfMatches i)).foldl
    (fun b n =>
      match b with
      | none => some n
      | some m =>
        match s.pair.held[m]?, s.pair.held[n]? with
        | some hm, some hn => if s.halfGap i hn < s.halfGap i hm then some n else some m
        | _, _ => some m) none

/-- A held half-verdict leaves the list and its credit is freed to the partner (R407). -/
def State.dropHeld (s : State) (n : Nat) : State :=
  match s.pair.held[n]? with
  | none => s
  | some h =>
    { s with pair := { s.pair with held := s.pair.held.eraseIdx n }
             drove := { s.drove with
               freed := Tab.set 0 s.drove.freed (2 + h.race) (Tab.get 0 s.drove.freed (2 + h.race) + 1) } }

/-- COMPUTED of two halves (R408). -/
def combineComputed (o h : Option Verdict) : Option Verdict :=
  match o, h with
  | none, _ => none
  | _, none => none
  | some .unjudged, _ => some .unjudged
  | _, some .unjudged => some .unjudged
  | some .accept, some v => some v
  | some v, some .accept => some v
  | some (.bin a), some (.bin b) => some (.bin (min a b))

/-- The reasons of a half that become the part's (R408). -/
def halfReason (r : Reason) : Bool :=
  [Reason.dataError, .jobLost, .positionDoubt, .tooShort, .truncated, .overlong].contains r

/-- The own half of slot `i` is combined with a half-verdict (R408); the part reaches JUDGED unless a reason stands. -/
def State.combineHalf (s : State) (i : Nat) (h : Half) : State :=
  let x := s.slot i
  let v := combineComputed x.computed h.computed
  let own := decide (v = x.computed)
  let x' : Slot := { x with
    computed := v
    score := if own then x.score else h.score
    cls := if own then x.cls else h.cls
    scored := if own then x.scored else h.scored
    widened := x.widened || h.widened
    mixedEpoch := x.mixedEpoch || h.mixedEpoch
    doubt := x.doubt || h.doubt
    waitHalf := false }
  let s := (s.setSlot i x').bump (TM_RPSTAT_MATCHED x.race)
  if x.reason ≠ .none ∨ !x.st.judgeable then s.tryRetire i
  else if halfReason h.reason then s.judge i .unjudged h.reason
  else match v with
    | some .unjudged => s.judge i .unjudged .tooShort
    | some v => s.judge i v .none
    | none => s.judge i .unjudged .jobLost

/-- Whether the partition policy settles a part of an OWNER race (R409). -/
def State.partitioned (s : State) (i : Nat) : Bool :=
  let x := s.slot i
  x.beforeDown || !s.isOn (TM_PAIROFS_PAIR_VALID (s.raceEnc x.race))

/-- The partition policy (R409): HALF_ONLY, the outcome of the own half alone, TM_PARTITION once per transition to DOWN. -/
def State.settlePart (s : State) (i : Nat) : State :=
  let x := s.slot i
  let s := (s.setSlot i { x with halfOnly := true, waitHalf := false }).bump (TM_RPSTAT_PARTITIONED x.race)
  let s := if s.pair.reported then s
    else ({ s with pair := { s.pair with reported := true } }).raise 0x0407 x.race 0 x.psn
  if x.reason ≠ .none ∨ !x.st.judgeable then s.tryRetire i
  else match x.computed with
    | some (.bin b) => s.judge i (.bin b) .none
    | some .unjudged => s.judge i .unjudged .tooShort
    | some .accept => s.judge i .unjudged .partition
    | none => s.judge i .unjudged .jobLost

/-- An owner part's own half is formed: a matching held half-verdict is taken, or the partition policy settles the part, or it
waits (R407, R409). -/
def State.ownHalf (s : State) (i : Nat) : State :=
  match s.bestHeld i with
  | some n =>
    match s.pair.held[n]? with
    | some h => (s.dropHeld n).combineHalf i h
    | none => s
  | none =>
    if s.partitioned i then s.settlePart i
    else s.setSlot i { s.slot i with waitHalf := true }

/-! ## The end of a part's job -/

/-- The verdict of a part whose REALTIME job has ended (R358), outside a pairing: the reason its end gives, or what its content
computes; a reason that stands, stands (R24). -/
def State.verdictFromJob (s : State) (i : Nat) (st : JobStatus) (c : Content) : State :=
  let x := s.slot i
  if !x.st.judgeable ∨ x.reason ≠ .none then s
  else match st with
    | .dataError => s.judge i .unjudged .dataError
    | .flushed | .cancelled | .refused => s.judge i .unjudged .jobLost
    | _ =>
      match c.computed with
      | some .unjudged => s.judge i .unjudged .tooShort
      | some v => s.judge i v .none
      | none => s.judge i .unjudged .jobLost

/-- A part's REALTIME job, of client `c` at job-table entry `j`, has ended: its content is written, an owner's part meets its
partner's half, any other takes its outcome, and a part whose actuation is over retires. -/
def State.realtimeEnded (s : State) (i c j : Nat) (st : JobStatus) (empty wide : Bool) : State :=
  let x := s.slot i
  let con := s.jobContent c j st empty wide
  let s := s.setSlot i { x.withContent con with rtOpen := false, rtJob := none }
  let normal := decide (st = .done ∨ st = .tooShort)
  let s :=
    if s.pairRole x.race = 1 ∧ normal ∧ (x.reason = .none ∨ x.reason = .late) then s.ownHalf i
    else
      let s := s.verdictFromJob i st con
      if x.reason = .late then s.formHalf i else s
  s.tryRetire i

/-- A part's TRIAL job has ended: its content waits for the part's retirement (R361). -/
def State.trialEnded (s : State) (i c j : Nat) (st : JobStatus) (empty wide : Bool) : State :=
  let x := s.slot i
  let con := s.jobContent c j st empty wide
  let o := sampleOutcome st con
  (s.setSlot i { x with trOpen := false, trJob := none, trial := some ⟨con, o.1, o.2, s.clk.dev % 2 ^ 32⟩ }).tryRetire i

/-- The record of a replay sample (R361): REPLAY set, SAMPLE_ID for the PSN. -/
def State.replayRecord (s : State) (r sample epoch : Nat) (o : Verdict × Reason) (con : Content) (sub : Nat) : State :=
  s.postRecord r (s.fld (FO_RRING_REPLAY_RING r))
    (recordBytes sample (r + 64) (o.1.code + 16 * o.2.code) con.model epoch
      (b2n con.widened + 128 * b2n con.scored + 256 * sub) con.score (con.cls % 4096 + 4096 * computedCode con.computed) 0
      (s.clk.dev % 2 ^ 32))

end Sys2Proof.Machine
end

