-- ==== Sys2Proof/Machine/Gate.lean ====
section
/-! DEFINITION. The Gate: frame starts, the commitment of start and end edges, aim-point watches, pulses, and the fate of the
edges sent (R366 to R371, R481 to R490). -/

namespace Sys2Proof.Machine

/-! ## Outputs -/

/-- The lead and pulse settings of an output come into force from FO_OCFG and FO_OPW (R376); a pulse not yet started takes its width from them, one
already started keeps its own. -/
def State.latchOut (s : State) (o : Nat) : State :=
  let g := s.gout o
  let g : GateOut := { g with
    tv16 := s.fld (FO_OCFG_TV16 o), c := s.sfld (FO_OCFG_C o), pw := s.fld (FO_OCFG_PW o)
    pwCount := s.isOn (FO_OCFG_PW_MODE o), pwMaxMs := s.fld (FO_OPW_PW_MAX_MS o) }
  let fresh (p : Pulse) : Bool := decide (s.clk.enc * 2 / 5 < p.start) && !p.ending
  s.setGout o { g with pulses := g.pulses.map fun p => if fresh p then { p with stop := g.pulseEnd p.start p.a } else p }

/-- MODE and LEVEL come into force at a frame start; the lead and pulse settings do so too on an output that no enabled race
names (R376). -/
def State.latchFrame (s : State) (o : Nat) : State :=
  let s := if s.namedOn o then s else s.latchOut o
  s.setGout o { s.gout o with mode := s.fld (FO_OCFG_MODE o), level := s.isOn (FO_OCFG_LEVEL o) }

/-! ## Becoming FIRED and PASSED -/

/-- The fate of a part's start edge is known: delivered in a window of a supply state (R39, R500). -/
def State.deliverSlot (s : State) (i supply : Nat) : State :=
  let x := s.slot i
  s.setSlot i { x with fateKnown := true, sag := x.sag || decide (supply = 1) }

/-! ## Commitment -/

/-- The uncommitted entries of output `o` that have reached their deadline, in queue order (R366). -/
def State.dueEntries (s : State) (o : Nat) : List FireEntry :=
  let e := s.outEnc o
  if s.frameForward e then (s.gout o).queue.takeWhile fun q => reached (s.framePos e) (s.slot q.slot).d else []

/-- The commit test of output `o` at a frame start. -/
def State.commitStarts (s : State) (base o : Nat) : State :=
  (s.dueEntries o).foldl (fun s q => s.commitEntry o base q.slot) s

/-- Pulses in groups that overlap, in the order of their starts (R368): each begins with a pulse that sent a start edge. -/
def pulseGroups : List Pulse → List (List Pulse)
  | [] => []
  | p :: t =>
    match pulseGroups t with
    | (q :: g) :: r => if q.merged then (p :: q :: g) :: r else [p] :: (q :: g) :: r
    | r => [p] :: r

/-- The end edge of a group of overlapping pulses of output `o` is committed when every one of them ends in this frame: at the latest of their ends
(R368). -/
def State.commitGroupEnd (s : State) (base o : Nat) (l : List Pulse) : State :=
  let ends := l.filterMap (s.endDue o base)
  if l.any (fun p => p.ending) || decide (ends.length < l.length) then s
  else
    let g := s.gout o
    let m := min (base + 160) (max (base + 81) (ends.foldl max 0))
    let s := s.setGout o { g with pulses := g.pulses.map fun p => if l.contains p then { p with stop := .step m, ending := true } else p }
    { s with fold := { s.fold with edges := s.fold.edges ++ [({ out := o, start := false, step := m } : Edge)] } }

/-- The end edges of output `o` that fall in the frame at `base`. -/
def State.commitEnd (s : State) (base o : Nat) : State := (pulseGroups (s.gout o).pulses).foldl (fun s l => s.commitGroupEnd base o l) s

/-- Edges put in order of their steps. -/
def insertEdge (e : Edge) : List Edge → List Edge
  | [] => [e]
  | x :: t => if e.step < x.step then e :: x :: t else x :: insertEdge e t

/-- An edge moved to the next frame: its step recomputed and clamped, the pulse it starts shifted with it, SLIPPED
incremented (R369). -/
def State.slipEdge (s : State) (next : Nat) (e : Edge) : State :=
  let m := max e.step (next + 81)
  let d := m - e.step
  let g := s.gout e.out
  let move (p : Pulse) : Pulse :=
    if e.start && decide (some p.slot = e.slot) then
      { p with start := p.start + d
               time := (p.time + d * 25 / 2) % 2 ^ 32
               stop := match p.stop with
                 | .step n => .step (n + d)
                 | .pos a n => .pos a (n + d) }
    else if !e.start && p.ending && decide (p.stop = .step e.step) then { p with stop := .step m }
    else p
  let s := s.setGout e.out { g with pulses := g.pulses.map move }
  let s := { s with fold := { s.fold with edges := s.fold.edges ++ [{ e with step := m }] } }
  s.bump (FO_OSTAT_SLIPPED e.out)

/-- At most four edges leave with a frame, those with the earliest times first; the rest move to the next frame (R369). -/
def State.takeEdges (s : State) (base : Nat) : State × List Edge :=
  let sorted := s.fold.edges.foldl (fun l e => insertEdge e l) []
  let s := { s with fold := { s.fold with edges := [] } }
  ((sorted.drop 4).foldl (fun s e => s.slipEdge (base + 80) e) s, sorted.take 4)

/-- Pulses that have ended by step `base` leave output `o`; their parts' pulses are over. -/
def State.endPulses (s : State) (base o : Nat) : State :=
  let g := s.gout o
  let ended (p : Pulse) : Bool := match p.stop with | .step m => p.ending && decide (m ≤ base) | .pos _ _ => false
  let s := s.setGout o { g with pulses := g.pulses.filter fun p => !ended p }
  (g.pulses.filter ended).foldl (fun s p =>
    let s := s.fireSlot p.slot p.time
    s.setSlot p.slot { s.slot p.slot with pulseOver := true }) s

/-- Pulses that need no edge of the field die to start (merged ones, and every pulse on FF-3260-N) begin at their steps. -/
def State.beginPulses (s : State) (base o : Nat) : State :=
  let g := s.gout o
  let due (p : Pulse) : Bool := !p.begun && decide (p.start ≤ base) && (p.merged || decide (s.variant = .n))
  let s := s.setGout o { g with pulses := g.pulses.map fun p => if due p then { p with begun := true } else p }
  (g.pulses.filter due).foldl (fun s p => s.fireSlot p.slot p.time) s

/-- Aim-point watches: on forward motion, a watch with P ≥ A makes its part PASSED (R366, R374). -/
def State.watchSlot (s : State) (i : Nat) : State :=
  let x := s.slot i
  let e := s.raceEnc x.race
  if x.st = .armed && decide (x.arming = .watch) && s.forward e && reached (s.posOf e) x.a then
    (s.setSlot i { x with st := .passed, arming := .none, time := s.clk.dev % 2 ^ 32, fateKnown := true, pulseOver := true }).tryRetire i
  else s

/-- A part that found its fire queue full becomes FIRED with SUPPRESSED at the frame start at which its entry would have been
committed (R365). -/
def State.fullSlot (s : State) (i : Nat) : State :=
  let x := s.slot i
  let e := s.raceEnc x.race
  if x.st = .judged && decide (x.arming = .full) && s.frameForward e && reached (s.framePos e) x.d then
    s.suppressSlot i 3 (stepTime s.frameDev (s.startOffset e x.a))
  else s

/-- OUT_STATE of a frame: a 1 for every output in MODE GATE whose pulse is on at the frame's end, and LEVEL of a STATIC output (R369, R384, R484). -/
def State.outState (s : State) (base : Nat) : Nat :=
  ((List.range 16).map fun o =>
    let g := s.gout o
    let on := if g.mode = 2 then g.level else g.mode = 1 && g.pulses.any fun p => p.onAt (base + 160)
    if on then 2 ^ o else 0).sum

/-! ## The downlink frame -/

/-- The STATIC mask (R487). -/
def State.staticMask (s : State) : Nat := ((List.range 16).map fun o => if s.fld (FO_OCFG_MODE o) = 2 then 2 ^ o else 0).sum

/-- The 24 data bits of configuration address `a` (R487, R488): the two types, the inputs' filter time and wire-break enable, PAIR,
the STATIC mask, the two filter lengths. -/
def State.confWord (s : State) (a : Nat) : Nat :=
  if a = 0 then s.fld FI_INGRP_TYPE_A + 2 * s.fld FI_INGRP_TYPE_B
  else if a ≤ 16 then s.fld (FI_INCFG_FILT_US (a - 1)) + 2 ^ 23 * s.fld (FI_INCFG_WB_EN (a - 1))
  else if a = 17 then s.fld FI_OUTCFG_PAIR
  else if a = 18 then s.staticMask
  else s.fld (PS_ENCCFG_FILT_N (a - 17))

/-- The 12 bytes of a downlink frame (R482, R483). -/
def downBytes (seq out : Nat) (edges : List Edge) (base cfg : Nat) (sof : Bool) : List Byte :=
  let word := (edges.zipIdx.map fun p =>
    ((p.1.step - base) * 32 + (if p.1.start then 0 else 16) + p.1.out) * 2 ^ (13 * p.2)).sum + (if sof then 2 ^ 52 else 0)
  let b := leBytes 1 seq ++ leBytes 2 out ++ leBytes 7 word ++ leBytes 1 cfg
  b ++ leBytes 1 (crc8 b)

/-- Whether configuration passes are sent: from step 9 of a cold start on, and never in Paddock mode (R556, R582). -/
def State.cfgRuns (s : State) : Bool :=
  match s.phase with
  | .off => false
  | .cold n => decide (9 ≤ n)
  | .paddock => false
  | _ => true

/-- The configuration sender's next byte: address, then three data bytes; 21 messages and COMMIT make a pass (R488). -/
def State.nextCfg (s : State) : State × Nat × Bool :=
  if !s.cfgRuns then (s, 0, false) else
  let l := s.link
  let data := if l.cfgByte = 0 then (if l.cfgMsg = 21 then 0 else s.confWord l.cfgMsg) else l.cfgData
  let byte := if l.cfgByte = 0 then (if l.cfgMsg = 21 then 0xFF else l.cfgMsg) else data / 256 ^ (l.cfgByte - 1) % 256
  let last := decide (l.cfgByte = 3)
  ({ s with link := { l with
      cfgData := data
      cfgByte := if last then 0 else l.cfgByte + 1
      cfgMsg := if last then (l.cfgMsg + 1) % 22 else l.cfgMsg } }, byte, decide (l.cfgByte = 0))

/-- The frame of a Gate frame start is sent on the isolation link (R481, R483); while FIELD_LOST stands it carries OUT_STATE 0 and
no edges (R490). -/
def State.sendDown (s : State) (k : Nat) (edges : List Edge) (merged : List (Nat × Nat)) : State :=
  let base := 80 * k
  let lost := s.isOn FI_LINK_FIELD_LOST
  let out := if lost then 0 else s.outState base
  let edges := if lost then [] else edges
  let (s, byte, sof) := s.nextCfg
  let l := s.link
  { s with link := { l with
      seq := (l.seq + 1) % 256
      lastDown := downBytes l.seq out edges base byte sof
      sent := l.sent ++ [⟨k, l.seq, s.clk.dev, edges, merged, out, byte⟩] } }

/-- An edge reaches the timing output of FF-3260-N (R605). -/
def State.ejtEdge (s : State) (e : Edge) : State := { s with pins := { s.pins with ejt := maskSet s.pins.ejt e.out e.start } }

/-- The timing outputs of FF-3260-N at a frame start (R370, R605): edges past their steps are executed, an output in MODE OFF is low, one in
MODE STATIC follows LEVEL, and the frame's edges wait for their steps. -/
def State.ejtFrame (s : State) (base : Nat) (edges : List Edge) : State :=
  let due (e : Edge) : Bool := decide (e.step ≤ base)
  let s := (s.pins.ejtEdges.filter due).foldl State.ejtEdge s
  let ejt := (List.range 16).foldl (fun m o =>
    let g := s.gout o
    if g.mode = 1 then m else maskSet m o (decide (g.mode = 2) && g.level)) s.pins.ejt
  { s with pins := { s.pins with ejt := ejt, ejtEdges := (s.pins.ejtEdges.filter fun e => !due e) ++ edges } }

/-- The edges committed to the last frame within 32 ns after its start join its edge word (R578): four edges leave with the frame, the rest move to
the next (R369). -/
def State.addLate (s : State) : State :=
  match s.fold.frame with
  | none => s
  | some f =>
    if s.fold.late = [] ∧ s.fold.lateMerged = [] then s
    else
      let late := s.fold.late
      let merged := s.fold.lateMerged
      let s : State := { s with fold := { s.fold with late := [], lateMerged := [] } }
      let sort (l : List Edge) : List Edge := l.foldl (fun l e => insertEdge e l) []
      match s.variant with
      | .n =>
        let mine (e : Edge) : Bool := decide (f.base < e.step ∧ e.step ≤ f.base + 160)
        let all := sort (s.pins.ejtEdges.filter mine ++ late)
        let s : State := { s with pins := { s.pins with ejtEdges := sort (s.pins.ejtEdges.filter (fun e => !mine e) ++ all.take 4) } }
        (all.drop 4).foldl (fun s e => s.slipEdge (f.base + 80) e) s
      | .f =>
        match s.link.sent.getLast? with
        | none => s
        | some g =>
          let all := sort (g.edges ++ late)
          let out := (all.take 4).foldl (fun m e => if late.contains e then maskSet m e.out true else m) g.outState
          let g' : SentFrame := { g with edges := all.take 4, merged := g.merged ++ merged, outState := out }
          let sof := bit (ofLe ((s.link.lastDown.drop 3).take 7)) 52
          let s : State := { s with link := { s.link with
            sent := s.link.sent.dropLast ++ [g'], lastDown := downBytes g.seq out (all.take 4) f.base g.cfg sof } }
          (all.drop 4).foldl (fun s e => s.slipEdge (f.base + 80) e) s

/-- The Gate takes note of a frame start (R366, R578): its cycle and step, device time, and each encoder's position and direction. -/
def State.noteFrame (s : State) (base : Nat) : State :=
  { s with fold := { s.fold with frame := some {
      cyc := s.clk.enc, base := base, dev := s.clk.dev
      pos := [0, 1, 2, 3].foldl (fun t e => Tab.set 0 t e (s.posOf e)) []
      back := [0, 1, 2, 3].foldl (fun t e => Tab.set false t e (!s.forward e)) [] } } }

/-- GATE_FRAME_START (R366): the frame that starts at the next whole microsecond. Ended pulses are cleared, settings latched, due
start edges and end edges committed, watches resolved, and the frame is sent. -/
def State.gateFrame (s : State) : State :=
  let s := s.addLate
  let k := max s.link.frame ((s.clk.enc + 199) / 200)
  let base := 80 * k
  let s := (s.advanceTo (200 * k)).noteFrame base
  let os := List.range 16
  let s := { s with link := { s.link with frame := k + 1 } }
  let s := os.foldl (fun s o => s.endPulses base o) s
  let s := os.foldl (fun s o => s.beginPulses base o) s
  let s := os.foldl State.latchFrame s
  let before := os.flatMap fun o => (s.gout o).pulses
  let s := os.foldl (fun s o => s.commitStarts base o) s
  let s := os.foldl (fun s o => s.commitEnd base o) s
  let merged := os.flatMap fun o =>
    ((s.gout o).pulses.filter fun p => p.merged && !before.contains p && !p.begun).map fun p => (o, p.slot)
  let s := s.slotsInUse.foldl State.fullSlot s
  let s := s.slotsInUse.foldl State.watchSlot s
  let (s, edges) := s.takeEdges base
  let s := match s.variant with
    | .f => s.sendDown k edges merged
    | .n => s.ejtFrame base edges
  s.gateHold.retireAll

/-- PULSE_MAX_EXPIRY: a COUNT-mode pulse of output `o` reaches PW_MAX_MS and is ended (R368). -/
def State.pulseMax (s : State) (o : Nat) : State :=
  let g := s.gout o
  match (g.pulses.filterMap fun p => match p.stop with | .pos _ m => some m | .step _ => none) with
  | [] => s
  | m :: _ =>
    let s := s.advanceTo (m * 5 / 2)
    let g := s.gout o
    s.setGout o { g with pulses := g.pulses.map fun p => match p.stop with
      | .pos _ n => if n ≤ m then { p with stop := PulseEnd.step n } else p
      | .step _ => p }

/-! ## The fate of the edges sent -/

/-- The pulse that a sent start edge began is removed, undelivered (R369). -/
def State.losePulse (s : State) (o i sub : Nat) : State :=
  let g := s.gout o
  let t := match g.pulses.find? fun p => decide (p.slot = i) with | some p => p.time | none => s.clk.dev % 2 ^ 32
  let s := s.setGout o { g with pulses := g.pulses.filter fun p => decide (p.slot ≠ i) }
  s.suppressSlot i sub t

/-- The edges of a sent frame count as executed in a window of a supply state (R486, R500). -/
def State.confirmFrame (s : State) (f : SentFrame) (supply : Nat) : State :=
  let mark (s : State) (o i : Nat) : State :=
    if supply = 2 then s.losePulse o i 1
    else
      let s := match (s.gout o).pulses.find? fun p => decide (p.slot = i) with
        | some p => s.fireSlot i p.time
        | none => s
      s.deliverSlot i supply
  let s := f.edges.foldl (fun s e => match e.start, e.slot with
    | true, some i => mark s e.out i
    | _, _ => s) s
  let s := f.merged.foldl (fun s m => mark s m.1 m.2) s
  let cmd := f.edges.foldl (fun c e => if e.start then c ||| 2 ^ e.out else c - (if c.testBit e.out then 2 ^ e.out else 0)) (s.fld FI_OUT_CMD)
  let cmd := (List.range 16).foldl (fun c o =>
    let st := s.staticMask.testBit o
    if f.outState.testBit o then (if st then c ||| 2 ^ o else c) else c - (if c.testBit o then 2 ^ o else 0)) cmd
  s.setFld FI_OUT_CMD (if supply = 2 then 0 else cmd)

/-- The edges of a sent frame count as lost (R369, R486). -/
def State.loseFrame (s : State) (f : SentFrame) : State :=
  let s := f.edges.foldl (fun s e => match e.start, e.slot with
    | true, some i => (s.losePulse e.out i 2).bump (FO_OSTAT_LOST e.out)
    | _, _ => s) s
  f.merged.foldl (fun s m => s.deliverSlot m.2 0) s

/-- Every pulse that is on or due is cut: field supply LOW (sub-cause 1) or FIELD_LOST (sub-cause 4) (R490, R500). -/
def State.cutPulses (s : State) (sub step : Nat) : State :=
  (List.range 16).foldl (fun s o =>
    ((s.gout o).pulses.filter fun p => sub = 4 || p.onAt step).foldl (fun s p => s.losePulse o p.slot sub) s) s

end Sys2Proof.Machine
end

