-- ==== Sys2Proof/Machine/Operands.lean ====
section
/-! DEFINITION. The fields of descriptors: the common header of the core commands (R253, R254), the SEM and WAIT layout (R278),
the program header (R302), the placement byte (R303). -/

namespace Sys2Proof.Machine

/-- Byte `i` of a descriptor. -/
def dByte (d : List Byte) (i : Nat) : Nat := (d[i]?.getD 0).toNat

/-- The little-endian number in bytes `i` to `i + n - 1` of a descriptor. -/
def dLe (d : List Byte) (i n : Nat) : Nat := ofLe ((d.drop i).take n)

/-- The big-endian number in bytes `i` to `i + n - 1`. -/
def dBe (b : List Byte) (i n : Nat) : Nat := ofBe ((b.drop i).take n)

/-- Whether bytes `i` to `i + n - 1` of a descriptor are all zero. -/
def dZero (d : List Byte) (i n : Nat) : Bool := decide (dLe d i n = 0)

/-- OPCODE (R254). -/
def dOp (d : List Byte) : Nat := dByte d 0

/-- DEP_A, DEP_B and FENCE (R254). -/
def dDepA (d : List Byte) : Nat := dByte d 5
def dDepB (d : List Byte) : Nat := dByte d 6
def dFence (d : List Byte) : Bool := bit (dByte d 7) 0

/-- Whether an opcode is executed by the Shepherd (R253). -/
def isShepOp (op : Nat) : Bool := op == 0x20 || op == 0x21

/-- Whether an opcode belongs to the Lamb engine (R240). -/
def isLambOp (op : Nat) : Bool := decide (0xC0 ≤ op ∧ op ≤ 0xCF)

/-- Opcodes that open mode may split (R346). -/
def isSplitOp (op : Nat) : Bool := op == 0x01 || op == 0x02 || op == 0x03 || op == 0x09

/-- Placement byte: CS and RUN_END (R303). -/
def plCs (p : Nat) : Bool := bit p 0
def plEnd (p : Nat) : Bool := bit p 1

/-- Whether a placement byte fits its command (R303). -/
def plOk (p op : Nat) : Bool :=
  decide (p < 4) && (!(plEnd p) || plCs p) && (!(plCs p) || !(isShepOp op || isLambOp op))

/-- The program header of 64 bytes, or `none` where a field is out of its range (R302). -/
def decodeHdr (d : List Byte) : Option ProgHdr :=
  let h : ProgHdr :=
    { openMode := bit (dByte d 1) 0, foot := dLe d 2 2, ncmd := dLe d 4 4, cmds := dLe d 8 8, place := dLe d 16 8,
      bases := dLe d 24 8, scratch := dLe d 32 2, linkClass := dByte d 34, linkCred := dByte d 35 }
  let store (a n : Nat) : Bool := decide (a + n ≤ ddrSize) || (inSws a && decide (a + n ≤ swsBase + 0x800000))
  if dByte d 0 = 1 ∧ dByte d 1 < 2 ∧ h.foot ≤ 40 ∧ 1 ≤ h.ncmd ∧ h.ncmd ≤ 1048576 ∧ h.scratch ≤ 4095 ∧
      (h.linkClass = 0 ∨ (2 ≤ h.linkClass ∧ h.linkClass ≤ 17)) ∧ h.linkCred ≤ 28 ∧ (h.linkClass ≠ 0 ∨ h.linkCred = 0) ∧
      dZero d 36 28 ∧ store h.cmds (64 * h.ncmd) ∧ store h.place h.ncmd ∧ store h.bases 256 then some h
  else none

/-- One entry of a base template of 16-byte entries (R304). -/
def decodeBase (t : List Byte) (i : Nat) : Base := ⟨dLe t (16 * i) 8, dLe t (16 * i + 8) 4, bit (dByte t (16 * i + 12)) 0⟩

/-- Whether a base template is legal: reserved bytes zero, and the entries that the Shepherd fills zero (R304). -/
def templateOk (t : List Byte) : Bool :=
  ([0, 1, 2, 14, 15].all fun i => dZero t (16 * i) 16) &&
    (List.range 16).all fun i => decide (dByte t (16 * i + 12) < 2) && dZero t (16 * i + 13) 3

/-- Whether the unused header bytes and reserved bytes of a SEM or WAIT are zero, and its fields in range (R254, R278, R279):
`none` where legal, else the cause code. -/
def shepCheck (d : List Byte) (idx : Nat) : Option Nat :=
  let f := dByte d 2
  let sem := decide (dOp d = 0x20)
  let bell := sem && decide (f % 4 = 2)
  if bits (dByte d 1) 0 4 ≠ 1 then some 2
  else if !(decide (dByte d 1 < 16)) || !(decide (dByte d 3 = 0)) || !(decide (dByte d 4 = 0)) || !(decide (bits (dByte d 7) 1 7 = 0)) ||
      !(dZero d 9 3) || !(dZero d 18 2) || !(dZero d 24 40) || (if sem then decide (f ≥ 4) else decide (f ≥ 8)) then some 1
  else if dDepA d > idx ∨ dDepB d > idx then some 4
  else if sem && decide (f % 4 = 3) then some 4
  else if !sem && (decide (f % 4 ≥ 2) || (decide (f % 4 = 1) && bit f 2)) then some 4
  else if bell && decide (dLe d 16 2 ≥ 8192) then some 4
  else none

end Sys2Proof.Machine
end

