-- ==== Sys2Proof/Machine/Jobs.lean ====
section
/-! DEFINITION. The Shepherd's jobs: submission, the job table, the end of a job, cancellation, job faults and the flush,
fencing (R302 to R311, R320 to R328). -/

namespace Sys2Proof.Machine

/-! ## Access -/

/-- The job at job-table entry `j`. -/
def State.job (s : State) (j : Nat) : Option Job := Tab.get none s.shep.jobs j

/-- Job-table entry `j`, set. -/
def State.setJob (s : State) (j : Nat) (x : Option Job) : State :=
  { s with shep := { s.shep with jobs := Tab.set none s.shep.jobs j x } }

/-- The progress of command `i` of job `j`, set. -/
def State.setCmd (s : State) (j i : Nat) (st : CmdState) : State :=
  match s.job j with
  | none => s
  | some x => s.setJob j (some { x with cmds := x.cmds.map fun d => if d.idx = i then { d with st := st } else d })

/-- A command sets its job's marks: empty and wide (R220, R299). -/
def State.markJob (s : State) (j : Nat) (empty wide : Bool) : State :=
  match s.job j with
  | none => s
  | some x => s.setJob j (some { x with emptyMark := x.emptyMark || empty, wideMark := x.wideMark || wide })

/-- The entries of the job table in use. -/
def State.jobIds (s : State) : List Nat := s.shep.jobs.map Prod.fst

/-- Core `k` beside its registers. -/
def State.core (s : State) (k : Nat) : CoreSt := Tab.get {} s.cores k

/-- Whether a core is in RUN: commands stand in its queue and it transfers no context (R282). -/
def CoreSt.runs (c : CoreSt) : Bool := !c.queue.isEmpty && decide (c.xfer = .none)

/-- The ENC cycles a core has been in RUN, at ENC cycle `t` (R284). -/
def CoreSt.busyAt (c : CoreSt) (t : Nat) : Nat := c.busy + (if c.runs then t - c.since else 0)

/-- Core `k`, set; its time in RUN goes on being counted. -/
def State.setCore (s : State) (k : Nat) (x : CoreSt) : State :=
  { s with cores := Tab.set {} s.cores k { x with busy := (s.core k).busyAt s.clk.enc, since := s.clk.enc } }

/-- Whether core `k` is in service: fitted and not fenced (R3, R328). -/
def State.inService (s : State) (k : Nat) : Bool := decide (k < 16) && !s.isOn (CR_FENCE_FENCED k)

/-- The cores in service. -/
def State.coresUp (s : State) : List Nat := (List.range 16).filter s.inService

/-- Whether a client is SUSPECT (R326). -/
def State.suspect (s : State) (c : Nat) : Bool := s.isOn (SH_CSTAT_SUSPECT c)

/-- The enabled client of a class bound to a race (R306). -/
def State.clientOf (s : State) (cls r : Nat) : Option Nat :=
  (List.range 64).find? fun c => s.isOn (SH_CCFG_EN c) && decide (s.fld (SH_CCFG_CLASS c) = cls) && decide (s.fld (SH_CCFG_RACE c) = r)

/-- The class of a client. -/
def State.clientClass (s : State) (c : Nat) : JobClass :=
  match s.fld (SH_CCFG_CLASS c) with
  | 0 => .realtime | 1 => .trial | 2 => .replay | _ => .housekeeping

/-! ## Passes and slices -/

/-- Pass of a client (R313). -/
def State.passOf (s : State) (c : Nat) : Nat := Tab.get 0 s.shep.pass c

/-- Pass of a client, charged with the time from ENC cycle `t0` for which an engine was held (R313). -/
def State.charge (s : State) (c t0 : Nat) : State :=
  { s with shep := { s.shep with
      pass := Tab.set 0 s.shep.pass c
        ((s.passOf c + (s.clk.enc - t0) * 5 * 65536 / max 1 (s.fld (SH_CCFG_SHARES c))) % 2 ^ 64) } }

/-- The slice of core `k` ends and its owner is charged (R313, R314). -/
def State.endSlice (s : State) (k : Nat) : State :=
  let c := s.core k
  match c.slice with
  | none => s
  | some (o, _) => (s.setCore k { c with slice := none }).charge o c.sliceStart

/-- The entry that a transfer moves. -/
def Transfer.entry : Transfer → Option QEnt
  | .none => Option.none
  | .save e => some e
  | .restore e => some e

/-- A slice ends when its owner has nothing running or queued on the core (R314). -/
def State.idleSlice (s : State) (k : Nat) : State :=
  let c := s.core k
  match c.slice with
  | none => s
  | some (o, _) => if (c.queue ++ c.xfer.entry.toList).any fun e => decide (e.payer = some o) then s else s.endSlice k

/-- A save that is over, or cut off, is charged to the client it displaced (R313). -/
def State.payOwed (s : State) (k : Nat) : State :=
  let c := s.core k
  match c.owed with
  | none => s
  | some (o, t) => (s.setCore k { c with owed := none }).charge o t

/-- The entries of core `k` that meet a test leave it, a save or restore of theirs is cut off, and what the core held of its head command is
dropped with it. -/
def State.clearCore (s : State) (k : Nat) (f : QEnt → Bool) : State :=
  let c := s.core k
  let cut := c.xfer.entry.any f
  if !cut && !(c.queue.any f) then s
  else
    let q := c.queue.filter fun e => !f e
    let s := s.setCore k { c with
      queue := q
      xfer := if cut then .none else c.xfer
      prog := if decide (q.head? = c.queue.head?) && !cut then c.prog else {} }
    (if cut then s.payOwed k else s).idleSlice k

/-- The Lamb engine units whose work meets a test fall idle; their busy time is kept (R244), and a command's client is charged (R313). -/
def State.idleUnits (s : State) (f : LambWork → Bool) : State :=
  let l := s.lamb.units.filter fun p => f p.2
  let ids := l.map Prod.fst
  let s := l.foldl (fun s p => match p.2 with
    | .command e => match e.payer with
      | some c => s.charge c (Tab.get 0 s.lamb.since p.1)
      | none => s
    | _ => s) s
  { s with lamb := { s.lamb with
      units := ids.foldl (fun t u => Tab.set LambWork.idle t u LambWork.idle) s.lamb.units
      busy := ids.foldl (fun t u => Tab.set 0 t u (Tab.get 0 t u + (s.clk.enc - Tab.get 0 s.lamb.since u))) s.lamb.busy } }

/-! ## Submission -/

/-- A job waits at its source (R307). -/
def State.submit (s : State) (q : JobReq) : State := { s with shep := { s.shep with waiting := s.shep.waiting ++ [q] } }

/-- The Tally submits the jobs of a part that closed without a reason (R306), or makes it UNJUDGED (JOB_LOST) where its race
has no enabled REALTIME client or that client is SUSPECT (R38). -/
def State.submitPart (s : State) (i : Nat) : State :=
  let x := s.slot i
  match s.clientOf 0 x.race with
  | none => s.giveReason i .jobLost
  | some c =>
    if s.suspect c then s.giveReason i .jobLost
    else
      let s := (s.setSlot i { x with rtOpen := true }).submit ⟨c, .realtime, x.psn, .part i, 0⟩
      match s.clientOf 1 x.race with
      | none => s
      | some t =>
        let n := s.fld (SH_CCFG_TRIAL_EVERY t)
        if n ≠ 0 ∧ x.psn % n = 0 ∧ !s.suspect t then
          (s.setSlot i { s.slot i with trOpen := true }).submit ⟨t, .trial, x.psn, .part i, 0⟩
        else s

/-! ## Semaphores -/

/-- Whether a client may name a semaphore (R321). -/
def State.semAllowed (s : State) (c i : Nat) : Bool := decide (s.fld (SH_CCFG_SEM_LO c) ≤ i ∧ i ≤ s.fld (SH_CCFG_SEM_HI c))

/-- SEM SET and SEM ADD on a semaphore, ADD saturating (R278). -/
def State.semOp (s : State) (d : List Byte) : State :=
  let i := dByte d 8
  let v := dLe d 12 4
  if dByte d 2 % 4 = 0 then s.setFld (SH_SEM_VALUE i) v else s.bumpSat (SH_SEM_VALUE i) v

/-- Whether a descriptor at index `idx` is a legal SEM SET or SEM ADD of a client that may name its semaphore. -/
def State.isSemRelease (s : State) (c idx : Nat) (d : List Byte) : Bool :=
  decide (dOp d = 0x20) && decide (dByte d 2 % 4 < 2) && (shepCheck d idx).isNone && s.semAllowed c (dByte d 8)

/-- The job's SEM SET and SEM ADD commands that have not yet run are executed, in command order, at an early end (R311 step 3); one that is
illegal is never executed (R15, R16). -/
def State.runSems (s : State) (x : Job) : State :=
  let s := x.cmds.foldl (fun s c =>
    if (c.st = .waiting ∨ c.st = .queued) ∧ s.isSemRelease x.client c.idx c.desc then s.semOp c.desc else s) s
  (List.range (x.hdr.ncmd - x.next)).foldl (fun s n =>
    let d := s.peekN (x.hdr.cmds + 64 * (x.next + n)) 64
    if s.isSemRelease x.client (x.next + n) d then s.semOp d else s) s

/-! ## The end of a job -/

/-- The code of a completion status (R308). -/
def JobStatus.code : JobStatus → Nat
  | .done => 0 | .flushed => 1 | .dataError => 2 | .tooShort => 3 | .cancelled => 4 | .refused => 5

/-- A completion entry of 16 bytes (R308). -/
def completionBytes (jobId client : Nat) (st : JobStatus) (t : Nat) : List Byte :=
  leBytes 4 jobId ++ leBytes 1 client ++ leBytes 1 st.code ++ leBytes 2 0 ++ leBytes 8 t

/-- A completion entry is posted; the second component tells whether its ring took it (R441). -/
def State.postCompletion (s : State) (client jobId : Nat) (st : JobStatus) (t : Nat) : State × Bool :=
  if !s.ringsUp then (s, false)
  else match s.ringPost (s.fld (SH_CRING_CPL_RING client)) (completionBytes jobId client st t) with
    | (s, .posted) => (s, true)
    | (s, .lost l) => (s.reportRefused l, true)
    | (s, .full) => (s, false)

/-- The codebook memory of core `k` is emptied where job `j` loaded it (R274). -/
def State.dropBooks (s : State) (k j : Nat) : State :=
  let c := s.core k
  if c.book = some j then s.setCore k { c with codebook := [], book := none, books := [] } else s

/-- The commands of a job leave the core queues and the Lamb engine (R311 steps 1 and 2). -/
def State.withdrawJob (s : State) (j : Nat) : State :=
  let s := s.cores.foldl (fun s p => (s.clearCore p.1 fun e => decide (e.job = j)).dropBooks p.1 j) s
  let s := s.idleUnits fun w => match w with
    | .command e => decide (e.job = j)
    | _ => false
  let fifos := Tab.mapVals [] (fun _ (l : List Result) => l.filter fun r => decide (r.job ≠ some j)) s.fold.fifos
  { s with
    lamb := { s.lamb with queue := s.lamb.queue.filter fun q => decide (q.job ≠ j)
                          emits := Tab.mapVals none (fun _ r => if r.bind Result.job = some j then none else r) s.lamb.emits }
    fold := { s.fold with fifos := fifos } }

/-- What the end of a job does outside the Shepherd: the part's verdict or trial content, or the sample's record. -/
def State.originEnded (s : State) (j : Nat) (x : Job) (st : JobStatus) : State :=
  match x.origin, x.cls with
  | .part i, .trial => s.trialEnded i x.client j st x.emptyMark x.wideMark
  | .part i, _ => s.realtimeEnded i x.client j st x.emptyMark x.wideMark
  | .sample t _ ep, _ =>
    let con := s.jobContent x.client j st x.emptyMark x.wideMark
    let r := s.fld (SH_CCFG_RACE x.client)
    (s.replayRecord r x.jobId ep (sampleOutcome st con) con 0).dropTile r t
  | .host, _ => s

/-- A part whose job ends with DATA_ERROR: a flush in the same cycle makes it JOB_LOST (R325). -/
def State.noteStruck (s : State) (x : Job) : State :=
  match x.origin, x.cls with
  | .part i, .realtime =>
    let old := if s.shep.struckAt = s.clk.enc then s.shep.struck else []
    { s with shep := { s.shep with struck := i :: old, struckAt := s.clk.enc } }
  | _, _ => s

/-- The parts that DATA_ERROR struck in this very cycle become UNJUDGED (JOB_LOST) (R325). -/
def State.loseStruck (s : State) : State :=
  if s.shep.struckAt ≠ s.clk.enc then s
  else s.shep.struck.foldl (fun s i =>
    if (s.slot i).st ≠ .free ∧ (s.slot i).reason = .dataError then s.setSlot i { s.slot i with reason := .jobLost } else s) s

/-- A job ends (R311): its commands are withdrawn, at an early end its semaphores are released, the part or sample is settled,
its completion is posted, and its entry is freed once the completion stands in its ring (R441). -/
def State.endJob (s : State) (j : Nat) (st : JobStatus) : State :=
  match s.job j with
  | none => s
  | some x =>
    if x.ended.isSome then s
    else
      let s := s.withdrawJob j
      let s := if st = .cancelled ∨ st = .dataError then s.runSems x else s
      let s := s.setJob j none
      let s := if st = .dataError then s.noteStruck x else s
      let s := s.originEnded j x st
      let s := s.bump (SH_CSTAT_JOBS_DONE x.client)
      if x.cls = .realtime then s
      else
        match s.postCompletion x.client x.jobId st s.clk.dev with
        | (s, true) => s
        | (s, false) => s.setJob j (some { x with
            cmds := [], ended := some st, endTime := s.clk.dev, runs := [], openRun := none
            scratchSlot := none, credits := 0, holds := [] })

/-- The normal end of a job: DONE, or TOO_SHORT where its empty mark is set (R300, R308). -/
def State.finishJob (s : State) (j : Nat) : State :=
  match s.job j with
  | none => s
  | some x => s.endJob j (if x.emptyMark then .tooShort else .done)

/-- Completions of refused submissions that waited for room are posted, those of each ring in order (R441). -/
def State.postRefused (s : State) : State :=
  s.shep.refused.foldl (fun s (r, b) =>
    if !s.ringsUp ∨ (s.shep.refused.find? fun p => decide (p.1 = r)) ≠ some (r, b) then s
    else
      let taken (s : State) : State := { s with shep := { s.shep with refused := s.shep.refused.erase (r, b) } }
      match s.ringPost r b with
      | (s, .posted) => taken s
      | (s, .lost l) => (taken s).reportRefused l
      | (s, .full) => s) s

/-- Completions that waited for a full ring are posted when it has room. -/
def State.postWaiting (s : State) : State :=
  let s := s.postRefused
  s.jobIds.foldl (fun s j =>
    match s.job j with
    | some x =>
      match x.ended with
      | some st =>
        match s.postCompletion x.client x.jobId st x.endTime with
        | (s, true) => s.setJob j none
        | (s, false) => s
      | none => s
    | none => s) s

/-- Whether a part's reason cancels its jobs (R311). -/
def Reason.cancels : Reason → Bool
  | .none | .late => false
  | _ => true

/-- A job of a part that waited at its source is dropped: the part has no such job any more. -/
def State.dropWaiting (s : State) (q : JobReq) : State :=
  let s := { s with shep := { s.shep with waiting := s.shep.waiting.filter fun p => decide (p ≠ q) } }
  match q.origin, q.cls with
  | .part i, .trial =>
    (s.setSlot i { s.slot i with trOpen := false, trial := some ⟨{ model := Tab.get 0 s.shep.model q.client }, .unjudged, .jobLost, s.clk.dev % 2 ^ 32⟩ }).tryRetire i
  | .part i, _ => (s.setSlot i { s.slot i with rtOpen := false }).tryRetire i
  | _, _ => s

/-- The stream of slot `i` is gone: from its unit, from the queue, with the rows it has read. -/
def State.dropStream (s : State) (i : Nat) : State :=
  let s := s.idleUnits fun w => decide (w = LambWork.stream i)
  { s with lamb := { s.lamb with
      streams := s.lamb.streams.filter fun k => decide (k ≠ i)
      behind := s.lamb.behind.filter fun k => decide (k ≠ i)
      runs := Tab.set none s.lamb.runs i none } }

/-- Whether slot `i` has a stream, running or waiting. -/
def State.hasStream (s : State) (i : Nat) : Bool :=
  s.lamb.streams.contains i || s.lamb.units.any fun p => decide (p.2 = LambWork.stream i)

/-- The address of slot `t` of a race's stem output region, and the bytes of a slot (R230, R246). -/
def State.stemAddr (s : State) (r t : Nat) : Nat := 0x100000 * s.fld (LB_RSTEMOUT_BASE r) + 0x10000 * (t * s.fld (LB_RSTEMOUT_SLOT_64K r))
def State.stemBytes (s : State) (r : Nat) : Nat := 0x10000 * s.fld (LB_RSTEMOUT_SLOT_64K r)

/-- The stream of slot `i` is abandoned (R233): its unit and its rows are released, and its output slot is left undefined. -/
def State.abandonStream (s : State) (i : Nat) : State :=
  if !s.hasStream i then s
  else
    let s := (s.dropStream i).bump LB_STREAMCNT_ABANDONED
    match (s.slot i).tile with
    | none => s
    | some t =>
      let (s, junk) := s.drawBlock (s.stemBytes (s.slot i).race)
      s.pokeL (s.stemAddr (s.slot i).race t) junk

/-- The streams of parts that carry a reason while OPEN are abandoned (R233). -/
def State.abandonReasoned (s : State) : State :=
  s.slotsInUse.foldl (fun s i =>
    if (s.slot i).st = .opened ∧ (s.slot i).reason ≠ .none then s.abandonStream i else s) s

/-- Jobs of parts that carry a reason other than LATE are cancelled, in the job table and at their source (R311); the streams of OPEN
parts that carry one are abandoned (R233). -/
def State.cancelReasoned (s : State) : State :=
  let s := s.abandonReasoned
  let s := s.jobIds.foldl (fun s j =>
    match s.job j with
    | some x =>
      match x.origin with
      | .part i => if (s.slot i).reason.cancels ∧ (s.slot i).st ≠ .free then s.endJob j .cancelled else s
      | _ => s
    | none => s) s
  s.shep.waiting.foldl (fun s q =>
    match q.origin with
    | .part i => if (s.slot i).reason.cancels then s.dropWaiting q else s
    | _ => s) s

/-- A reason arises for a part, and its jobs are cancelled where the reason does so (R24, R311). -/
def State.reasonAndCancel (s : State) (i : Nat) (why : Reason) : State := (s.giveReason i why).cancelReasoned

/-! ## Job faults and the flush -/

/-- The flushes of a client within the last 10 s of device time (R326). -/
def State.recentFlushes (s : State) (c : Nat) : List Nat :=
  (Tab.get [] s.shep.history c).filter fun t => decide (s.clk.dev < 10000000000 + t)

/-- A job that waits at its source for a client that has become SUSPECT: the client receives no TRIAL or REPLAY job (R326), so a part gets its trial
record and a sample its replay record with JOB_LOST (DEDUCED: the spec names no other end of such a job); jobs of the other classes wait on. -/
def State.loseWaiting (s : State) (q : JobReq) : State :=
  match q.cls, q.origin with
  | .trial, _ => s.dropWaiting q
  | .replay, .sample t _ ep =>
    let r := s.fld (SH_CCFG_RACE q.client)
    ((s.dropWaiting q).replayRecord r q.jobId ep (.unjudged, .jobLost) { model := Tab.get 0 s.shep.model q.client } 0).dropTile r t
  | _, _ => s

/-- A flush joins a client's history, once for all its jobs that faulted in it; the third within 10 s makes the client SUSPECT (R326). -/
def State.noteFlush (s : State) (c : Nat) : State :=
  if (Tab.get [] s.shep.history c).getLast? = some s.clk.dev then s
  else
    let l := s.recentFlushes c ++ [s.clk.dev]
    let s := { s with shep := { s.shep with history := Tab.set [] s.shep.history c l } }
    let s := s.setFld (SH_CSTAT_FLUSHES c) (min 3 l.length)
    if 3 ≤ l.length ∧ !s.suspect c then
      let s := (s.setFld (SH_CSTAT_SUSPECT c) 1).raise 0x0802 c
      (s.shep.waiting.filter fun q => decide (q.client = c)).foldl State.loseWaiting s
    else s

/-- The semaphores take their initial values (R321, R324). -/
def State.resetSems (s : State) : State :=
  (List.range 256).foldl (fun s i => s.setFld (SH_SEM_VALUE i) (Tab.get 0 s.shep.semInit i)) s

/-- The command at the head of core `k`'s queue, with its entry. -/
def State.headCmd (s : State) (k : Nat) : Option (QEnt × Job × Cmd) :=
  match (s.core k).queue with
  | [] => none
  | q :: _ => (s.job q.job).bind fun x => (x.cmds.find? fun c => decide (c.idx = q.cmd)).map fun c => (q, x, c)

/-- SH_FLUSH describes a flush by one of the jobs that faulted in it (R333). -/
def State.noteFault (s : State) (x : Job) (cause : Nat) : State :=
  ((s.setFld SH_FLUSH_CAUSE cause).setFld SH_FLUSH_CLIENT x.client).setFld SH_FLUSH_JOB_ID x.jobId

/-- Whether a flush began in this very cycle (R325). -/
def State.flushNow (s : State) : Bool := decide (s.shep.flush = some (400000 + s.clk.enc))

/-- A job fault of job `j` (R324): every job is flushed, queues and scoreboard are emptied, semaphores and codebooks return to their initial
state, SH_FLUSH is updated, SH_JOB_FAULT raised, and placement stops for 2 ms at most. A part struck by DATA_ERROR in the cycle becomes
JOB_LOST (R325), and the waiting TRIAL job of a part that becomes JOB_LOST is cancelled (R311). -/
def State.jobFault (s : State) (j cause : Nat) : State :=
  match s.job j with
  | none => s
  | some x =>
    let heads := s.cores.filterMap fun p => (s.headCmd p.1).map fun h => (p.1, h.1.job, h.2)
    let s := { s with shep := { s.shep with flush := some (400000 + s.clk.enc), flushed := heads } }
    let s := s.jobIds.foldl (fun s j => s.endJob j .flushed) s
    let s := s.cores.foldl (fun s p => s.setCore p.1 { s.core p.1 with queue := [], xfer := .none, codebook := [], book := none, books := [] }) s
    let s := { s with lamb := { s.lamb with queue := [] } }
    let s := s.resetSems.loseStruck
    let s := (s.bump SH_FLUSH_FLUSH_CNT).noteFault x cause
    let s := s.raise 0x0801 x.client cause
    (s.noteFlush x.client).cancelReasoned

/-- A further job faults in the cycle of a flush (R325, R326): its client's history notes the flush, and SH_FLUSH describes the job of the
lowest client (R333). -/
def State.faultAgain (s : State) (x : Job) (cause : Nat) : State :=
  let s := if x.client < s.fld SH_FLUSH_CLIENT then s.noteFault x cause else s
  s.noteFlush x.client

/-! ## Fencing -/

/-- A command that returns to the scoreboard to run from its start: a save slot of its own is released (R317, R327). -/
def Cmd.back (c : Cmd) : Cmd := { c with st := .waiting, slot := none, saved := false }

/-- A command that a fence returns to the scoreboard: the cores in service are counted again for its parts (R347). -/
def Cmd.again (c : Cmd) : Cmd := { c.back with cores := 0 }

/-- The open run of a command with CS = 1. -/
def Job.runOf (x : Job) (c : Cmd) : Option Run := if plCs c.place then x.runs.find? fun r => decide (r.first = c.run) else none

/-- The commands of a job that stand on core `k` return to the scoreboard: those of an open run there from its first command, completed or not;
the command `res` that was being restored, and its run, keep what stands saved (R327). -/
def Job.unplace (x : Job) (k : Nat) (on : List Nat) (res : Option Nat) : Job :=
  let held := (x.cmds.find? fun c => decide (some c.idx = res)).bind x.runOf
  let gone := x.runs.filter fun r => decide (r.core = some k) && decide (some r ≠ held)
  { x with
    runs := (x.runs.filter fun r => !gone.contains r).map fun r => if some r = held then { r with core := none } else r
    cmds := (gone.flatMap fun r => r.done.map Cmd.again) ++
      x.cmds.map fun c =>
        if (plCs c.place && (gone.any fun r => decide (r.first = c.run)) && c.st != .waiting) then c.again
        else if on.contains c.idx then (if some c.idx = res then { c with st := .waiting } else c.again)
        else c }

/-- SH_CORES_LOW and the CORES hold follow the number of cores in service (R328). -/
def State.coresHold (s : State) : State :=
  let low := decide (s.coresUp.length < s.fld SH_CFG_MIN_CORES)
  let s := if low && !s.isOn MG_HOLD_CORES then s.raise 0x0804 s.coresUp.length else s
  s.hold MG_HOLD_CORES low

/-- The Shepherd fences core `k` (R327): work in progress returns to the scoreboard, a save in progress is discarded, a restore in progress
will be repeated from its save slot; the other parts of a split command leave their cores (R347). No job is flushed. -/
def State.fence (s : State) (k cause : Nat) : State :=
  let c := s.core k
  let all := c.queue ++ c.xfer.entry.toList
  let res (j : Nat) : Option Nat := match c.xfer with
    | .restore e => if e.job = j then some e.cmd else none
    | _ => none
  let s := (s.setFld (CR_FENCE_FENCED k) 1).setFld (CR_FENCE_CAUSE k) cause
  let s := s.jobIds.foldl (fun s j =>
    match s.job j with
    | some x => s.setJob j (some (x.unplace k ((all.filter fun q => q.job = j).map QEnt.cmd) (res j)))
    | none => s) s
  let s := s.cores.foldl (fun s p =>
    if p.1 = k then s else s.clearCore p.1 fun e => all.any fun q => decide (q.job = e.job ∧ q.cmd = e.cmd)) s
  let s := (s.payOwed k).endSlice k
  let s := s.setCore k {}
  let fifos := Tab.mapVals [] (fun n (l : List Result) => if n = k then l.filter fun r => r.cmd.isNone else l) s.fold.fifos
  let s := { s with fold := { s.fold with fifos := fifos } }
  (s.raise 0x0803 k cause).coresHold

end Sys2Proof.Machine
end

