-- ==== Sys2Proof/Machine/Position.lean ====
section
/-! DEFINITION. The Position unit: filters, counting, the index check, speed windows, line triggers, the track history
(R40 to R81). -/

namespace Sys2Proof.Machine

/-! ## Filters -/

/-- Ones among the last `n` samples of a window, bit 0 the newest. -/
def onesIn (w : BitVec 64) (n : Nat) : Nat := ((List.range n).filter fun i => w.toNat.testBit i).length

/-- The majority filter of length `n` (R41): more than n/2 ones give 1, more than n/2 zeros give 0, a tie keeps. -/
def majority (n : Nat) (w : BitVec 64) (prev : Bool) : Bool :=
  if 2 * onesIn w n > n then true else if 2 * (n - onesIn w n) > n then false else prev

/-- The step of the quadrature table with DIR_INV = 0 (R43): `none` for an error. -/
def quadStep (a b a' b' : Bool) : Option Int :=
  if a = a' ∧ b = b' then some 0
  else if a ≠ a' ∧ b ≠ b' then none
  else if a ≠ a' then (if a' = b then some (-1) else some 1)
  else (if b' = a then some 1 else some (-1))

/-- Whether an encoder channel exists on this ordering code (R40). -/
def State.encFitted (s : State) (e : Nat) : Bool := decide (e < 2) || (decide (e < 4) && decide (s.variant = .f))

/-- Whether encoder `e` counts: EN set and not FAILED. -/
def State.counting (s : State) (e : Nat) : Bool :=
  s.encFitted e && s.isOn (PS_ENCCFG_EN e) && !s.isOn (PS_ENCSTAT_FAILED e)

/-! ## Encoders bound to races, and the ENC hold -/

/-- Whether encoder `e` is bound to a race (R45): an enabled race names it, or one that an armed launch will enable. -/
def State.encBound (s : State) (e : Nat) : Bool :=
  (List.range 16).any fun r => decide (s.raceEnc r = e) &&
    (s.raceOn r || (s.isOn TM_LAUNCHCFG_ARM && (s.fld TM_LAUNCHCFG_RACE_MASK).testBit r))

/-- ENC of MG_HOLD stands while an encoder bound to a race is FAILED (R45, R504). -/
def State.encHold (s : State) : State :=
  s.hold MG_HOLD_ENC ((List.range 4).any fun e => s.encBound e && s.isOn (PS_ENCSTAT_FAILED e))

/-! ## PS_SLIP -/

/-- PS_SLIP on encoder `e` (R37, R45, R72): cause 1 INDEX, 2 QUAD, 3 LINE, 4 LINK, with `err` for INDEX. Its flag and count, the
event, then the Tally. -/
def State.slip (s : State) (e cause : Nat) (err : Int := 0) : State :=
  let f := if cause = 1 then PS_ENCSTAT_SLIP e else if cause = 2 then PS_ENCSTAT_QERR e
    else if cause = 3 then PS_ENCSTAT_LINEFLT e else PS_ENCSTAT_LINKLOST e
  let s := (s.setFld f 1).bumpSat (PS_ENCSTAT_SLIP_CNT e)
  let s := s.raise 0x0301 (e + 256 * cause) (toU 32 err)
  (s.slipParts e).cancelReasoned

/-- Encoder `e` fails with a cause (R45): PS_SLIP, FAILED, and the hold where the encoder is bound to a race. -/
def State.encFail (s : State) (e cause : Nat) : State :=
  if s.counting e then ((s.slip e cause).setFld (PS_ENCSTAT_FAILED e) 1).encHold else s

/-! ## Line triggers -/

/-- Trigger output `t` beside its registers. -/
def State.trig (s : State) (t : Nat) : Trig := Tab.get {} s.pos.trigs t

/-- Trigger output `t`, set. -/
def State.setTrig (s : State) (t : Nat) (x : Trig) : State := { s with pos := { s.pos with trigs := Tab.set {} s.pos.trigs t x } }

/-- D of an output in units of 1/65,536 count (R55). -/
def State.trigD (s : State) (t : Nat) : Nat := 65536 * s.fld (PS_TRGDIV_N_INT t) + s.fld (PS_TRGDIV_M_FRAC t)

/-- Stream `n` of the Intake beside its registers. -/
def State.stream (s : State) (n : Nat) : Stream := Tab.get {} s.streams n

/-- Stream `n`, set. -/
def State.setStream (s : State) (n : Nat) (x : Stream) : State := { s with streams := Tab.set {} s.streams n x }

/-- Whether the Intake is in service: not during a warm start (R137). -/
def State.intakeUp (s : State) : Bool :=
  match s.phase with
  | .running => true
  | .cold k => decide (9 ≤ k)
  | _ => false

/-- Every enabled stream of an enabled view that output `t` triggers expects the line of a trigger (R129). -/
def State.expectLine (s : State) (t num : Nat) (pos : Int) : State :=
  if !s.intakeUp then s
  else (List.range 16).foldl (fun s n =>
    let v := s.fld (IN_STRCFG_VIEW n)
    if s.isOn (IN_STRCFG_EN n) && s.isOn (IN_VIEWCFG_EN v) && !s.isOn (IN_VIEWCFG_TAGMODE v) && decide (s.fld (IN_VIEWCFG_TRG_OUT v) = t) then
      let x := s.stream n
      s.setStream n { x with expect := x.expect ++ [⟨num, pos, s.clk.dev⟩] }
    else s) s

/-- A trigger is issued (R57, R58): its pulse starts, it carries PS_TRGNUM, and the position is logged. -/
def State.issueTrig (s : State) (t : Nat) : State :=
  let x := s.trig t
  let p := s.posOf (s.fld (PS_TRGCFG_ENC_SEL t))
  let n := s.fld (PS_TRGNUM_TRGNUM t)
  let s := s.setTrig t { x with
    pend := false, lastStart := some s.clk.enc, pulseEnd := some (s.clk.enc + s.fld (PS_TRGCFG_PW t)), issued := x.issued + 1
    log := Tab.set none x.log (n % 4096) (some ⟨n, p, s.clk.enc, x.issued⟩) }
  ((s.bump (PS_TRGNUM_TRGNUM t)).setSFld (PS_TRGLAST_LAST_POS t) p).expectLine t n p

/-- The triggers that a lookup in the log of output `t` finds: those among the last 4,096 issued (R58). -/
def State.trigLog (s : State) (t : Nat) : List TrigLog :=
  (s.trig t).log.filterMap fun p => p.2.filter fun e => decide ((s.trig t).issued ≤ e.ord + 4096)

/-- The lookup of trigger number `k` in the log of output `t` (R58): none where it is not among the last 4,096 issued. -/
def State.trigLookup (s : State) (t k : Nat) : Option TrigLog :=
  (Tab.get none (s.trig t).log (k % 4096)).filter fun e => decide (e.num = k) && decide ((s.trig t).issued ≤ e.ord + 4096)

/-- Whether 2 µs have passed since the last start on an output (R57). -/
def State.trigSpaced (s : State) (t : Nat) : Bool :=
  match (s.trig t).lastStart with
  | some c => decide (c + 400 ≤ s.clk.enc)
  | none => true

/-- A target of output `t` is reached (R55 to R57): D is added; the trigger is issued, or one is left pending, or dropped. -/
def State.reachTarget (s : State) (t : Nat) (target : Int) : State :=
  let s := s.setTrig t { s.trig t with target := some (target + s.trigD t) }
  if (s.trig t).pend then
    let s := (s.setFld (PS_TRGSTAT_OVR t) 1).bumpSat (PS_TRGSTAT_DROP_CNT t)
    s.raise 0x0302 t (s.fld (PS_TRGSTAT_DROP_CNT t))
  else if s.trigSpaced t then s.issueTrig t
  else s.setTrig t { s.trig t with pend := true }

/-- Targets of output `t` at or below its encoder's position are reached, one after another; the furthest position is
recorded (R55, R56). -/
def State.trigCheck : Nat → State → Nat → State
  | 0, s, _ => s
  | fuel + 1, s, t =>
    match (s.trig t).target with
    | none => s
    | some g =>
      if reached (s.posOf (s.fld (PS_TRGCFG_ENC_SEL t))) g then State.trigCheck fuel (s.reachTarget t g) t else s

/-- The outputs bound to encoder `e` after its position moved by up to `n` counts. -/
def State.trigMove (s : State) (e n : Nat) : State :=
  (List.range 8).foldl (fun s t =>
    if s.isOn (PS_TRGCFG_EN t) && decide (s.fld (PS_TRGCFG_ENC_SEL t) = e) then
      let x := s.trig t
      let p := s.posOf e
      let s := s.setTrig t { x with far := if posDiff p x.far > 0 then p else x.far }
      State.trigCheck n s t
    else s) s

/-- Output `t` is enabled (R55): START is its first target, and targets not greater than the position are skipped. -/
def State.startTrig (s : State) (t : Nat) : State :=
  let p := s.posOf (s.fld (PS_TRGCFG_ENC_SEL t))
  let start := s.sfld (PS_TRGSTART_START t)
  let d := s.trigD t
  let gap := posDiff p start
  let first := if gap < 0 then start * 65536 else start * 65536 + (gap * 65536 / (d : Int) + 1) * (d : Int)
  s.setTrig t { s.trig t with target := some first, far := p, pend := false }

/-- Output `t` is disabled and held low (R74). -/
def State.stopTrig (s : State) (t : Nat) : State :=
  s.setTrig t { s.trig t with target := none, pend := false, pulseEnd := none }

/-- EN of PS_TRGCFG changes to `on`. -/
def State.enableTrig (s : State) (t : Nat) (on : Bool) : State :=
  let was := s.isOn (PS_TRGCFG_EN t)
  let s := s.setFlag (PS_TRGCFG_EN t) on
  if on && !was then s.startTrig t else if !on && was then s.stopTrig t else s

/-- TRIGGER_PENDING_ISSUE: the 2 µs spacing has expired and the pending trigger is issued (R57). -/
def State.triggerPending (s : State) (t : Nat) : State :=
  let x := s.trig t
  if s.isOn (PS_TRGCFG_EN t) && x.pend then
    let s := match x.lastStart with | some c => s.advanceTo (c + 400) | none => s
    s.issueTrig t
  else s

/-- TRIGGER_PULSE_END: after PW ENC cycles the pulse ends (R57). -/
def State.triggerEnd (s : State) (t : Nat) : State :=
  match (s.trig t).pulseEnd with
  | some c =>
    let s := s.advanceTo c
    s.setTrig t { s.trig t with pulseEnd := none }
  | none => s

/-! ## What follows a movement -/

/-- Whether the race position has reached P_start + SPAN of a part (R311). -/
def State.beyondSpan (s : State) (i : Nat) : Bool :=
  let x := s.slot i
  decide (posDiff (s.posOf (s.raceEnc x.race)) x.pStart ≥ (s.fld (FO_RGEOM_SPAN x.race) : Int))

/-- The jobs of parts whose race position has reached P_start + SPAN are cancelled; a part without a reason becomes
UNJUDGED (JOB_LOST) (R311). A LATE part still unmatched there retires with its own half alone (R408). -/
def State.spanCancel (s : State) (e : Nat) : State :=
  let mine (s : State) (i : Nat) : Bool := decide (s.raceEnc (s.slot i).race = e) && s.beyondSpan i && (s.slot i).st != .free
  let s := s.jobIds.foldl (fun s j =>
    match s.job j with
    | some x =>
      match x.origin with
      | .part i => if x.ended.isNone && mine s i then (s.giveReason i .jobLost).endJob j .cancelled else s
      | _ => s
    | none => s) s
  let s := s.shep.waiting.foldl (fun s q =>
    match q.origin with
    | .part i => if mine s i then (s.giveReason i .jobLost).dropWaiting q else s
    | _ => s) s
  let s := s.slotsInUse.foldl (fun s i =>
    let x := s.slot i
    if x.waitHalf && decide (x.reason = .late) && mine s i then
      (s.setSlot i { x with waitHalf := false, halfOnly := true }).tryRetire i
    else s) s
  s.cancelReasoned

/-- Held half-verdicts whose converted P_START lies more than SPAN behind the owner's position are discarded (R407). -/
def State.halfDiscard (s : State) (e : Nat) : State :=
  let old (s : State) (h : Half) : Bool := decide (s.raceEnc h.race = e) &&
    decide (posDiff (s.posOf e) (s.halfStart h) > (s.fld (FO_RGEOM_SPAN h.race) : Int))
  s.pair.held.foldl (fun s h =>
    if old s h then
      match (List.range s.pair.held.length).find? fun n => decide (s.pair.held[n]? = some h) with
      | some n => ((s.dropHeld n).bump (TM_RPSTAT_HALF_DISC h.race)).raise 0x0408 h.race 0 h.psn
      | none => s
    else s) s

/-- What follows when encoder `e` has moved by up to `n` counts: triggers, deadlines, spans, held half-verdicts. -/
def State.afterMove (s : State) (e n : Nat) : State :=
  (((s.trigMove e n).lateChecks e).cancelReasoned.spanCancel e).halfDiscard e

/-! ## Counting -/

/-- DIR after one count of direction `d` (R44); a change of DIR ends the baseline's and the window's constancy. -/
def Enc.turn (x : Enc) (d : Bool) : Enc :=
  if d = x.dir then { x with pend := false }
  else if x.pend then { x with dir := d, pend := false, dirMoved := true, wDir := true }
  else { x with pend := true }

/-- `n` counts of one direction. -/
def Enc.turns (x : Enc) (d : Bool) : Nat → Enc
  | 0 => x
  | n + 1 => (x.turn d).turns d n

/-- A net movement of `d` counts on cycle `c` is added to the position and to the speed window (R43, R51). -/
def State.move (s : State) (e c : Nat) (d : Int) : State :=
  let p := pos48 (s.posOf e + d)
  let s := (s.setSFld (PS_POS_POS e) p).setFld (PS_POS_POS_SX e) (if p < 0 then 0xFFFF else 0)
  let x := s.enc e
  if d = 0 then s else s.setEnc e { x with wNet := x.wNet + d, wAny := true, lastCount := some c }

/-- An index event at position `q` (R46, R47): the latch, then the check against the previous event. -/
def State.indexAt (s : State) (e : Nat) (q : Int) : State :=
  let x := s.enc e
  let prev := s.sfld (PS_IDXPOS_IDX_POS e)
  let s := (s.setSFld (PS_IDXPOS_IDX_POS e) q).setFld (PS_IDXPOS_IDX_VALID e) 1
  let s := s.setEnc e { x with base := s.isOn (PS_IDXCHK_CHK_EN e), baseDir := x.dir, dirMoved := false }
  if s.isOn (PS_IDXCHK_CHK_EN e) && x.base && !x.dirMoved && decide (x.baseDir = x.dir) then
    let k : Int := 4 * s.fld (PS_IDXCHK_LPR e)
    let d := posDiff q prev
    let err := if x.dir then d + k else d - k
    if err.natAbs ≤ s.fld (PS_IDXCHK_TOL e) then
      s.setSFld (PS_DRIFT_DRIFT e) (clampI (-2147483648) 2147483647 (s.sfld (PS_DRIFT_DRIFT e) + err))
    else s.slip e 1 err
  else s

/-- The counter of an ENC channel compares its new filtered pair with the previous one on cycle `c` (R43, R44). -/
def State.countPair (s : State) (e c : Nat) (a b : Bool) : State :=
  let x := s.enc e
  let s' := s.setEnc e { x with fA := a, fB := b }
  match quadStep x.fA x.fB a b with
  | none => s'.slip e 2
  | some q =>
    if q = 0 then s'
    else
      let d := if s.isOn (PS_ENCCFG_DIR_INV e) then -q else q
      let s := s'.move e c d
      let s := s.setEnc e ((s.enc e).turn (decide (d < 0)))
      s.afterMove e 1

/-- Whether an index event occurs on a cycle that brings the filtered levels `a`, `b` and `z` (R46): filtered Z rises, or with ZGATE = 1 the three
first stand at 1 together. -/
def State.indexRises (s : State) (e : Nat) (a b z : Bool) : Bool :=
  let x := s.enc e
  if s.isOn (PS_IDXCHK_ZGATE e) then (a && b && z) && !(x.fA && x.fB && x.fZ) else z && !x.fZ

/-- Cycle `c` of a counting ENC channel whose windows hold this cycle's samples: the filters, the counter's step, then the index latch at the
position after that step (R41, R43, R46). -/
def State.countCycle (s : State) (e c : Nat) : State :=
  let x := s.enc e
  let n := s.fld (PS_ENCCFG_FILT_N e)
  let a := majority n x.winA x.fA
  let b := majority n x.winB x.fB
  let z := majority n x.winZ x.fZ
  let rises := s.indexRises e a b z
  let s := (s.setEnc e { x with fZ := z }).countPair e c a b
  if rises then s.indexAt e (s.posOf e) else s

/-! ## Line faults -/

/-- The ENC cycle on which a line fault of encoder `e` comes of age (R45): 1 µs after the later of its start and the setting of EN; on Z,
1 µs of standing with CHK_EN = 1, while CHK_EN is 1. None where no fault stands or the encoder does not count. -/
def State.lineDue (s : State) (e : Nat) : Option Nat :=
  let x := s.enc e
  if e < 2 ∧ s.counting e = true then
    let a := x.flA.toList.map fun c => max c x.onSince + 200
    let b := x.flB.toList.map fun c => max c x.onSince + 200
    let z := if s.isOn (PS_IDXCHK_CHK_EN e) then x.flZ.toList.map fun c => max c x.chkSince + 200 else []
    (a ++ b ++ z).min?
  else none

/-- Time passes to ENC cycle `c`; where a line fault of encoder `e` comes of age by then, the encoder fails with cause LINE (R45). -/
def State.passTo (s : State) (e c : Nat) : State :=
  match s.lineDue e with
  | some d => if d ≤ max c s.clk.enc then ((s.advanceTo d).encFail e 3).advanceTo c else s.advanceTo c
  | none => s.advanceTo c

/-! ## Sampling -/

/-- One cycle's levels of the lines A, B and Z of an encoder. -/
structure Sample where
  cyc : Nat
  a : Bool
  b : Bool
  z : Bool
deriving DecidableEq, Repr

/-- A sample enters a shift register of `n` bits, bit 0 the newest. -/
def shiftIn (n : Nat) (w : BitVec n) (b : Bool) : BitVec n := BitVec.ofNat n (2 * w.toNat + b2n b)

/-- A shift register of 64 bits filled with one level. -/
def filled (b : Bool) : BitVec 64 := if b then BitVec.allOnes 64 else 0

/-- The levels at an encoder's inputs as last sampled. -/
def State.lineLevels (s : State) (e : Nat) : Bool × Bool × Bool :=
  let x := s.enc e
  if e < 2 then (x.syA.getLsbD 0, x.syB.getLsbD 0, x.syZ.getLsbD 0) else (x.winA.getLsbD 0, x.winB.getLsbD 0, x.winZ.getLsbD 0)

/-- The samples of `n` sampling instants after instant `k0`: the last 64 are those of the windows, newest in bit 0; on earlier ones the inputs
stand at `lv`. No more than 66 of the standing instants are listed: after them nothing changes. -/
def samplesOf (k0 n : Nat) (lv : Bool × Bool × Bool) (wa wb wz : BitVec 64) : List Sample :=
  ((List.range (min (n - 64) 66)).map fun i => ⟨k0 + 1 + i, lv.1, lv.2.1, lv.2.2⟩) ++
  ((List.range (min n 64)).reverse.map fun i => ⟨k0 + n - i, wa.getLsbD i, wb.getLsbD i, wz.getLsbD i⟩)

/-- One ENC cycle of ENC0 or ENC1 (R41): a synchronised sample enters each window while the channel counts, the pins enter the synchronisers,
and the filters, the counter and the index latch run. -/
def State.encCycle (s : State) (e : Nat) (p : Sample) : State :=
  let s := s.passTo e p.cyc
  let x := s.enc e
  let y : Enc := { x with syA := shiftIn 2 x.syA p.a, syB := shiftIn 2 x.syB p.b, syZ := shiftIn 2 x.syZ p.z, seen := p.cyc }
  if s.counting e then
    (s.setEnc e { y with
      winA := shiftIn 64 x.winA (x.syA.getLsbD 1), winB := shiftIn 64 x.winB (x.syB.getLsbD 1)
      winZ := shiftIn 64 x.winZ (x.syZ.getLsbD 1) }).countCycle e p.cyc
  else s.setEnc e y

/-- FILT_N of an HTL channel as the field die has it (R487); its reset value until a message has been applied. -/
def State.dieFilt (s : State) (e : Nat) : Nat := Tab.get 8 s.die.conf (e + 17)

/-- Running count of an HTL channel on the field die. -/
def Die.bumpCnt (d : Die) (e : Nat) (n : Int) : Die :=
  if e = 2 then { d with cnt2 := toU 8 ((d.cnt2 : Int) + n) } else { d with cnt3 := toU 8 ((d.cnt3 : Int) + n) }

/-- One FIELD cycle of ENC2 or ENC3 on the field die, whatever EN reads (R50): filters, the running count with DIR_INV = 0, the index latch. -/
def State.dieCycle (s : State) (e : Nat) (p : Sample) : State :=
  let x := s.enc e
  let n := s.dieFilt e
  let wa := shiftIn 64 x.winA p.a
  let wb := shiftIn 64 x.winB p.b
  let wz := shiftIn 64 x.winZ p.z
  let a := majority n wa x.fA
  let b := majority n wb x.fB
  let z := majority n wz x.fZ
  let d := s.die.bumpCnt e ((quadStep x.fA x.fB a b).getD 0)
  let d := if z && !x.fZ then
      (if e = 2 then { d with zev2 := !d.zev2, zcnt2 := d.cnt2 } else { d with zev3 := !d.zev3, zcnt3 := d.cnt3 })
    else d
  ({ s with die := d }).setEnc e { x with winA := wa, winB := wb, winZ := wz, fA := a, fB := b, fZ := z }

/-- The inputs of encoder `e` are sampled over every cycle since they were last sampled, up to `dt` ENC cycles from now: ENC0 and ENC1 on each ENC
cycle (R41), ENC2 and ENC3 on each FIELD cycle of 12.5 ns (R50). The windows hold the last 64 samples of the pins, bit 0 the newest;
on earlier cycles the pins stood as they were. -/
def State.sampleTo (s : State) (e dt : Nat) (wa wb wz : BitVec 64) : State :=
  if !s.encFitted e then s.advance dt
  else
    let lv := s.lineLevels e
    let seen := (s.enc e).seen
    let now := s.clk.enc + dt
    if e < 2 then ((samplesOf seen (now - seen) lv wa wb wz).foldl (fun s p => s.encCycle e p) s).passTo e now
    else
      let k := 2 * seen / 5
      let s := (samplesOf k (2 * now / 5 - k) lv wa wb wz).foldl (fun s p => s.dieCycle e p) (s.advance dt)
      s.setEnc e { s.enc e with seen := now }

/-- The inputs of encoder `e` stood as they are up to the present. -/
def State.sampleStanding (s : State) (e : Nat) : State :=
  let lv := s.lineLevels e
  s.sampleTo e 0 (filled lv.1) (filled lv.2.1) (filled lv.2.2)

/-- ENCODER_COUNT: over the cycles up to `dt` from now the inputs of encoder `e` were sampled as the windows say, and its counter ran
(R41, R43, R50). -/
def State.encoderCount (s : State) (e dt : Nat) (wa wb wz : BitVec 64) : State := s.sampleTo e dt wa wb wz

/-- INDEX_EVENT: over the cycles up to `dt` from now the inputs of encoder `e` were sampled as the windows say; where they bring an index event,
the position is latched and checked (R46, R47); on ENC2 and ENC3 the field die latches its count and toggles ZEV (R50). -/
def State.indexEvent (s : State) (e dt : Nat) (wa wb wz : BitVec 64) : State := s.sampleTo e dt wa wb wz

/-- The counts of a good uplink frame for ENC2 or ENC3 (R50). -/
def State.htlFrame (s : State) (e cnt zcnt : Nat) (zev : Bool) : State :=
  if !s.counting e then s
  else match (s.enc e).ref with
    | none => s.setEnc e { s.enc e with ref := some (cnt, zev) }
    | some (c0, z0) =>
      let inv := s.isOn (PS_ENCCFG_DIR_INV e)
      let neg (i : Int) : Int := if inv then -i else i
      let d := neg (sx 8 (toU 8 ((cnt : Int) - c0)))
      let z := neg (sx 8 (toU 8 ((cnt : Int) - zcnt)))
      let s := (s.setEnc e { s.enc e with ref := some (cnt, zev) }).move e s.clk.enc d
      let back := decide (d < 0)
      let n := d.natAbs
      let s :=
        if zev = z0 then s.setEnc e ((s.enc e).turns back n)
        else
          let k := min n (d - z).natAbs
          let s := s.setEnc e ((s.enc e).turns back k)
          let s := s.indexAt e (pos48 (s.posOf e - z))
          s.setEnc e ((s.enc e).turns back (n - k))
      if n = 0 then s else s.afterMove e n

/-! ## Failing and clearing -/

/-- The start of a fault on one line: kept while it stands, `now` where it begins. -/
def faultSince (old : Option Nat) (stands : Bool) (now : Nat) : Option Nat := if stands then some (old.getD now) else none

/-- ENCODER_LINE_FAULT: `dt` ENC cycles later, the differential inputs of ENC0 or ENC1 that stand below 200 mV are those of `lines` (bit 0 A,
bit 1 B, bit 2 Z; none: the faults have ended). A fault that comes of age on the way fails the encoder with cause LINE (R45). -/
def State.lineFault (s : State) (e dt lines : Nat) : State :=
  let s := s.passTo e (s.clk.enc + dt)
  if 2 ≤ e then s
  else
    let x := s.enc e
    s.setEnc e { x with
      flA := faultSince x.flA (bit lines 0) s.clk.enc
      flB := faultSince x.flB (bit lines 1) s.clk.enc
      flZ := faultSince x.flZ (bit lines 2) s.clk.enc }

/-- Whether the cause of a failure still stands (R45). A standing fault on Z counts while CHK_EN is 1: that one whose CHK_EN has been cleared
does not block CLR_FAIL is the model's choice (log entry 163). -/
def State.causeStands (s : State) (e : Nat) : Bool :=
  let x := s.enc e
  if e < 2 then x.flA.isSome || x.flB.isSome || (x.flZ.isSome && s.isOn (PS_IDXCHK_CHK_EN e))
  else s.isOn FI_LINK_FIELD_LOST

/-- The filter windows of an encoder filled with its current synchronised levels (R41): the outputs take those levels, the previous pair is the
filtered pair of that moment, and no index event arises; on ENC2 and ENC3 the next good frame serves as the baseline (R50). -/
def State.fillFilters (s : State) (e : Nat) : State :=
  let x := s.enc e
  if 2 ≤ e then s.setEnc e { x with ref := none }
  else
    let a := x.syA.getLsbD 1
    let b := x.syB.getLsbD 1
    let z := x.syZ.getLsbD 1
    s.setEnc e { x with winA := filled a, winB := filled b, winZ := filled z, fA := a, fB := b, fZ := z }

/-- CLR_FAIL: FAILED is cleared if its cause has ended, and counting resumes from the frozen value; the next index event is a
baseline (R45, R47). -/
def State.clrFail (s : State) (e : Nat) : State :=
  if s.isOn (PS_ENCSTAT_FAILED e) && !s.causeStands e then
    let s := ((s.sampleStanding e).setFld (PS_ENCSTAT_FAILED e) 0).fillFilters e
    (s.setEnc e { s.enc e with base := false }).encHold
  else s

/-- CLR_DRIFT: the drift accumulator becomes 0 (R48). -/
def State.clrDrift (s : State) (e : Nat) : State := s.setFld (PS_DRIFT_DRIFT e) 0

/-! ## Speed -/

/-- A speed window opens at cycle `c` (R51, R54). -/
def State.openWindow (s : State) (e c : Nat) : State :=
  s.setEnc e { s.enc e with
    wOpen := c, wLen := s.fld (PS_SPDCFG_WIN_US e), wStill := s.fld (PS_SPDCFG_STILL_MS e)
    wNet := 0, wAny := false, wDir := false, wAfterStill := s.isOn (PS_SPEED_STILL e) }

/-- The leads and pulse settings waiting on an encoder come into force, and every aim point and deadline of its races is
recomputed (R364, R376); the recomputation may make parts LATE (R30). -/
def State.gateRecompute (s : State) (e : Nat) : State :=
  let s := (List.range 16).foldl (fun s o => if s.namedOn o && decide (s.outEnc o = e) then s.latchOut o else s) s
  let s := s.slotsInUse.foldl (fun s i => if s.raceEnc (s.slot i).race = e then s.reAim i else s) s
  (s.lateChecks e).cancelReasoned

/-- SPEED_WINDOW_END: the window of encoder `e` closes and its count is published with its flags and length (R51 to R53); a reading
that is not PARTIAL defines v_g (R28), and the Gate recomputes (R364). -/
def State.speedWindowEnd (s : State) (e : Nat) : State :=
  if !(s.encFitted e && s.isOn (PS_ENCCFG_EN e)) then s
  else
    let x := s.enc e
    let c := x.wOpen + 200 * x.wLen
    let s := s.advanceTo c
    let still := match x.lastCount with
      | none => true
      | some t => decide (200000 * x.wStill + t ≤ c)
    let part := x.wAny && (x.wAfterStill || x.wDir)
    let n := if still then 0 else x.wNet
    let s := ((((s.setFlag (PS_SPEED_STILL e) still).setFlag (PS_SPEED_PARTIAL e) part).setFlag (PS_SPEED_DIR e) x.dir).setFld
      (PS_SPEED_WIN_US e) x.wLen).setSFld (PS_SPEED_COUNT e) n
    let s := s.openWindow e c
    if part then s.gateRecompute e
    else
      let v := if n ≤ 0 then (0, 1) else (n, x.wLen)
      ({ s with fold := { s.fold with speed := Tab.set (0, 1) s.fold.speed e v } }).gateRecompute e

/-! ## Register writes -/

/-- ENCCFG_WRITE: EN, DIR_INV and FILT_N under the restrictions of R65; setting EN fills the filter windows and opens the first
speed window (R41, R51). An encoder enabled while FIELD_LOST stands fails with cause LINK (R45). -/
def State.encCfgWrite (s : State) (e v : Nat) : State :=
  if !s.encFitted e then s
  else
    let on := bit v 31
    if s.isOn (PS_ENCCFG_EN e) then
      if on || s.encBound e then s else (s.sampleStanding e).setFld (PS_ENCCFG_EN e) 0
    else
      let s := s.setFld (PS_ENCCFG_DIR_INV e) (bits v 30 1)
      let n := bits v 16 7
      let s := if 2 ≤ n ∧ n ≤ 64 then s.setFld (PS_ENCCFG_FILT_N e) n else s
      if on then
        let s := (((s.sampleStanding e).setFld (PS_ENCCFG_EN e) 1).fillFilters e).openWindow e s.clk.enc
        let s := s.setEnc e { s.enc e with onSince := s.clk.enc }
        if 2 ≤ e ∧ s.isOn FI_LINK_FIELD_LOST then s.encFail e 4 else s
      else s

/-- TRGCFG_WRITE: EN, ENC_SEL and PW of a line-trigger output (R55, R74); on FF-3260-N ENC_SEL ranges over 0 and 1 (R64). -/
def State.trgCfgWrite (s : State) (t v : Nat) : State :=
  let sel := bits v 24 3
  let s := if !s.isOn (PS_TRGCFG_EN t) && decide (sel < (if s.variant = .f then 4 else 2)) then s.setFld (PS_TRGCFG_ENC_SEL t) sel else s
  let pw := bits v 0 8
  let s := if 10 ≤ pw ∧ pw ≤ 200 then s.setFld (PS_TRGCFG_PW t) pw else s
  s.enableTrig t (bit v 31)

/-- TRGDIV_WRITE: a new divisor; an enabled output uses it from the target after the current one (R59). -/
def State.trgDivWrite (s : State) (t v : Nat) : State :=
  let n := bits v 16 24
  let s := if n ≠ 0 then s.setFld (PS_TRGDIV_N_INT t) n else s
  s.setFld (PS_TRGDIV_M_FRAC t) (bits v 0 16)

/-- TRGSTAT_CLEAR: a 1 written to OVR clears it and DROP_CNT (R78). -/
def State.trgStatClear (s : State) (t v : Nat) : State :=
  if bit v 31 then (s.setFld (PS_TRGSTAT_OVR t) 0).setFld (PS_TRGSTAT_DROP_CNT t) 0 else s

/-! ## Track history -/

/-- The address of entry `i` of encoder `e`'s track history (R61, R81). -/
def State.trackAddr (s : State) (e i : Nat) : Nat := 0x100000 * s.fld PS_THBASE_BASE + (0x40000 * e + 4 * (i % 65536))

/-- A gathered line of a track history is written to DDR5 (R61): a whole line of 16 entries at once, a part of one as a part. -/
def State.flushTrack (s : State) (e : Nat) (l : List (Nat × Nat)) : State :=
  match l with
  | [] => s
  | (i, _) :: _ => (s.write (s.trackAddr e i) (l.flatMap fun p => leBytes 4 p.2)).1

/-- One sample enters a ring (R61, R63): it joins the write-combining buffer, whose line is written when its last entry is there; after a gap
the gathered part of the old line is written first, and the oldest valid sample becomes this one. -/
def State.writeTrack (s : State) (i e : Nat) : State :=
  let old := Tab.get [] s.pos.combine e
  let follows := match old.getLast? with
    | some (k, _) => decide (k + 1 = i)
    | none => true
  let s := if follows then s else s.flushTrack e old
  let line := (if follows then old else []) ++ [(i, toU 32 (s.posOf e))]
  let s := if i % 16 = 15 then s.flushTrack e line else s
  let v := match Tab.get none s.pos.track e with
    | some (o, n) => if n + 1 = i then (max o (i - 65535), i) else (i, i)
    | none => (i, i)
  { s with pos := { s.pos with
      combine := Tab.set [] s.pos.combine e (if i % 16 = 15 then [] else line)
      track := Tab.set none s.pos.track e (some v) } }

/-- Whether the track history is written: not during a warm start (R63). -/
def State.trackRuns (s : State) : Bool :=
  match s.phase with
  | .warm _ => false
  | _ => true

/-- A microsecond tick of device time: the position of every encoder with TH_EN is sampled (R61). -/
def State.trackTick (s : State) : State :=
  let i := s.clk.dev / 1000 + 1
  let s := s.advanceDev (1000 * i)
  if s.trackRuns then
    (List.range 4).foldl (fun s e =>
      if (s.fld PS_THCFG_TH_EN).testBit e && s.encFitted e then s.writeTrack i e else s) s
  else s

/-- What a track history lookup answers (R62). -/
inductive Track
  | invalid
  | wait
  | at48 (p : Int)
deriving DecidableEq, Repr

/-- The 48-bit position that an entry stands for (R62 step 4). -/
def State.rebuild (s : State) (e entry : Nat) : Int :=
  let p := s.posOf e
  p + sx 32 (toU 32 ((entry : Int) - p))

/-- Entry `i` of encoder `e`'s ring, from the write-combining buffer or from DDR5 (R61); none where its line cannot be corrected (R433). -/
def State.trackEntry (s : State) (e i : Nat) : State × Option Int :=
  match (Tab.get [] s.pos.combine e).find? fun p => decide (p.1 = i) with
  | some p => (s, some (s.rebuild e p.2))
  | none =>
    let r := s.read (s.trackAddr e i) 4
    (r.1, r.2.map fun b => r.1.rebuild e (ofLe b))

/-- The position of encoder `e` between its track entries `i` and `i + 1`, `f` thousandths of the way; held until entry `i + 1` is written. -/
def State.trackRead (s : State) (e i f : Nat) : State × Track :=
  match Tab.get none s.pos.track e with
  | none => (s, .wait)
  | some (o, n) =>
    if n < i + 1 then (s, .wait)
    else if i < o then (s, .invalid)
    else
      let r0 := s.trackEntry e i
      let r1 := if r0.2.isSome then r0.1.trackEntry e (i + 1) else (r0.1, none)
      (r1.1, match r0.2, r1.2 with
        | some p0, some p1 => .at48 (p0 * 65536 + rneDiv ((p1 - p0) * f * 65536) 1000)
        | _, _ => .invalid)

/-- TRACK_LOOKUP of encoder `e` for device time `t` (R62): invalid, held, or a 48.16 position. A line that cannot be corrected gives
invalid (R433). -/
def State.trackLookup (s : State) (e t : Nat) : State × Track :=
  if t > 100000 + s.clk.dev then (s, .invalid) else s.trackRead e (t / 1000) (t % 1000)

end Sys2Proof.Machine
end

