-- ==== Sys2Proof/Machine/FieldIO.lean ====
section
/-! DEFINITION. The field die and the isolation link: frames in both directions, windows, configuration messages, inputs,
outputs, field supply, FIELD_LOST (R481 to R503). -/

namespace Sys2Proof.Machine

/-! ## Bit masks -/

/-- The bits of `m` that are also in `n`. -/
def maskAnd (m n : Nat) : Nat := m &&& n

/-! ## The wire -/

/-- The 12 bytes that arrive when the bits of `err` are disturbed in transit. -/
def disturb (b : List Byte) (err : BitVec 96) : List Byte := leBytes 12 (ofLe b ^^^ err.toNat)

/-- Whether a received frame of 12 bytes has a good CRC (R482). -/
def goodFrame (b : List Byte) : Bool := decide (b.length = 12) && decide (crc8 (b.take 11) = dByte b 11)

/-- The edges of an edge word, in edge order; an edge with N outside 81 to 160 is ignored (R483). -/
def edgesOf (w : Nat) : List WireEdge :=
  (List.range 4).filterMap fun i =>
    let e := bits w (13 * i) 13
    let n := e / 32
    if 81 ≤ n ∧ n ≤ 160 then some ⟨n, bit e 4, e % 16⟩ else none

/-- A good downlink frame read under R483. -/
def readDown (b : List Byte) : DownFrame :=
  let w := dLe b 3 7
  ⟨dByte b 0, dLe b 1 2, edgesOf w, dByte b 10, bit w 52⟩

/-! ## The field die receives a frame -/

/-- The CFG byte of a good frame joins the message being received: CFG_SOF begins one, four bytes in consecutive good frames
complete it (R488). -/
def Die.takeCfg (d : Die) (f : DownFrame) : Die :=
  if f.sof then { d with msg := some (f.cfg, [], true) }
  else match d.msg with
    | some (a, l, true) =>
      let l := l ++ [f.cfg]
      if l.length = 3 then
        { d with msg := none, ready := some (a, l.foldr (fun b n => b + 256 * n) 0) }
      else { d with msg := some (a, l, true) }
    | _ => d

/-- DOWNLINK_FRAME: the frame sent last reaches the field die with the disturbance `err` (R481 to R483): a bad one is discarded
whole; alignment takes 4 consecutive good frames. -/
def State.downlinkFrame (s : State) (err : BitVec 96) : State :=
  if s.variant = .n then s
  else
    let s := s.addLate
    let d := s.die
    let b := disturb s.link.lastDown err
    if goodFrame b then
      let f := readDown b
      let good := d.good + 1
      let d := { d with good := good, bad := 0, aligned := d.aligned || decide (4 ≤ good) }
      let d := if d.aligned then ({ d with next := some f, seq := f.seq }).takeCfg f else d
      { s with die := d }
    else { s with die := { d with good := 0, bad := d.bad + 1, next := none, msg := none } }

/-- ISO_ALIGN_LOSS: after 8 consecutive periods without a good frame a receiver loses alignment: the field die's, or the compute
side's, whose state then reads DOWN (R481). -/
def State.isoAlignLoss (s : State) (onDie : Bool) : State :=
  if s.variant = .n then s
  else if onDie then
    if s.die.bad ≥ 8 then { s with die := { s.die with aligned := false, good := 0 } } else s
  else if s.link.bad ≥ 8 then ({ s with link := { s.link with good := 0 } }).setFld FI_LINK_STATE 0
  else s

/-! ## Configuration -/

/-- PAIR, the STATIC mask and WB_EN as the field die has them (R487). -/
def Die.pairMask (d : Die) : Nat := Tab.get 0 d.conf 17
def Die.statics (d : Die) : Nat := Tab.get 0 d.conf 18
def Die.wbEn (d : Die) (i : Nat) : Bool := bit (Tab.get 100 d.conf (i + 1)) 23

/-- Whether output `o` follows its even neighbour in a joined pair (R497). -/
def Die.paired (d : Die) (o : Nat) : Bool := decide (o % 2 = 1) && d.pairMask.testBit (o / 2)

/-- The outputs of joined pairs drive alike (R497). -/
def Die.mirror (d : Die) : Die :=
  { d with drive := (List.range 16).foldl (fun m o => if d.paired o then maskSet m o (m.testBit (o - 1)) else m) d.drive }

/-- Whether the field die holds every output off: in the safe state, while CFGOK is 0, while the supply is LOW (R489, R499). -/
def Die.heldOff (d : Die) : Bool := d.safe || !d.cfgok || decide (d.supply = 2)

/-- The message that waits is applied: a configuration address, or COMMIT, which sets CFGOK once every address has been received
(R488). A new filter length fills the channel's windows with the current levels (R50). -/
def State.applyCfg (s : State) : State :=
  match s.die.ready with
  | none => s
  | some (a, v) =>
    let d := { s.die with ready := none }
    if a = 0xFF then
      { s with die := { d with cfgok := d.cfgok || (List.range 21).all fun i => d.received.contains i } }
    else if a ≤ 20 then
      let e := a - 17
      let old := s.dieFilt e
      let d := { d with
        received := if d.received.contains a then d.received else a :: d.received
        conf := Tab.put d.conf a v }
      let s := { s with die := d.mirror }
      let x := s.enc e
      let lv := s.lineLevels e
      if 19 ≤ a ∧ v ≠ old then
        s.setEnc e { x with
          winA := filled lv.1, winB := filled lv.2.1, winZ := filled lv.2.2, fA := lv.1, fB := lv.2.1, fZ := lv.2.2 }
      else s
    else { s with die := d }

/-- CFG_MESSAGE: a configuration message received in 4 good frames is applied by the field die (R488). -/
def State.cfgMessage (s : State) : State :=
  match s.die.ready with
  | some (a, _) => if a ≤ 20 then s.applyCfg else s
  | none => s

/-- CFG_COMMIT: a COMMIT message ends a configuration pass (R488). -/
def State.cfgCommit (s : State) : State :=
  match s.die.ready with
  | some (a, _) => if a = 0xFF then s.applyCfg else s
  | none => s

/-! ## Windows and edges -/

/-- The output states at the end of a window (R484): a STATIC output follows its OUT_STATE bit, any other is only turned off by
it; after a bad frame outputs keep their states. -/
def Die.settle (d : Die) : Die :=
  match d.cur with
  | none => d
  | some f =>
    let m := (List.range 16).foldl (fun m o =>
      if d.paired o then m
      else if f.outState.testBit o then (if d.statics.testBit o then maskSet m o true else m)
      else maskSet m o false) d.drive
    { d with drive := if d.heldOff then 0 else m }.mirror

/-- The inputs as the field die reports them: one with a wire break reads 0 (R493). -/
def Die.inputLevels (d : Die) : Nat :=
  (List.range 16).foldl (fun m i => if d.wireBreak.testBit i && d.wbEn i then maskSet m i false else m) d.inputs

/-- The common fault (R501). -/
def Die.faultNow (d : Die) : Bool :=
  decide (d.overload ≠ 0) || decide (d.tripped ≠ 0) || ((List.range 16).any fun i => d.wireBreak.testBit i && d.wbEn i) ||
    decide (d.supply ≠ 0) || decide (d.mismatch ≠ 0)

/-- The 12 bytes of the uplink frame of a window (R485). -/
def Die.upBytes (d : Die) : List Byte :=
  let okNow := d.cur.isSome
  let b := [d.prevSupply * 64 + d.seq % 64, d.inputLevels % 256, d.inputLevels / 256, d.readback % 256, d.readback / 256,
    128 * b2n d.prevOk + 64 * b2n okNow + 32 * b2n d.zev3 + 16 * b2n d.zev2 + 8 * b2n d.cfgok + 2 * d.supply + b2n d.faultNow,
    d.cnt2, d.cnt3, d.zcnt2, d.zcnt3, (match d.cur with | some f => f.cfg | none => 0)].map (BitVec.ofNat 8)
  b ++ leBytes 1 (crc8 b)

/-- FIELD_WINDOW_OPEN: the window of the ended frame is settled; the new frame, the supply state and a waiting configuration message
take hold; the uplink frame starts (R484, R485, R488, R499). `rdbk` is the readback sampled at the opening: a mismatch ends
where it agrees with the drive state (R501). -/
def State.windowOpen (s : State) (rdbk : BitVec 16) : State :=
  if s.variant = .n then s
  else
    let d := s.die.settle
    let d := { d with prevOk := d.cur.isSome, cur := d.next, next := none, prevSupply := d.supply, supply := d.nextSupply }
    let d := match d.cur with
      | some _ => { d with miss := 0, safe := false }
      | none => { d with miss := d.miss + 1 }
    let s := ({ s with die := d }).applyCfg
    let d := s.die
    let d := if d.heldOff then { d with drive := 0 } else d
    let d := { d with
      readback := rdbk.toNat
      overload := maskAnd d.overload d.drive
      mismatch := (List.range 16).foldl (fun m o =>
        if rdbk.toNat.testBit o = d.drive.testBit o then maskSet m o false else m) d.mismatch }
    { s with die := { d with uplink := d.upBytes } }

/-- The Gate's account of the frame whose SEQ the field die holds. -/
def State.sentOf (s : State) (seq : Nat) : Option SentFrame := s.link.sent.find? fun f => decide (f.seq = seq)

/-- The pulse of a slot that an edge starts has begun, and its part is FIRED (R366, R374). -/
def State.startedBy (s : State) (o : Nat) (p : Pulse) : State :=
  let g := s.gout o
  let s := s.setGout o { g with pulses := g.pulses.map fun q => if q = p then { q with begun := true } else q }
  s.fireSlot p.slot p.time

/-- The next edge of a timing output of FF-3260-N is executed at its step (R605). -/
def State.ejtExecute (s : State) : State :=
  match s.pins.ejtEdges with
  | [] => s
  | e :: rest =>
    let s := s.advanceTo (e.step * 5 / 2)
    let s := State.ejtEdge { s with pins := { s.pins with ejtEdges := rest } } e
    if e.start then
      match (s.gout e.out).pulses.find? fun p => !p.begun && decide (some p.slot = e.slot) with
      | some p => s.startedBy e.out p
      | none => s
    else s

/-- FIELD_EDGE_EXECUTE: the next edge of the window's frame is executed at its offset (R484): a START turns its output on, an END off;
nothing is executed while the outputs are held off, and an edge naming the odd output of a pair is ignored (R497). A part
whose pulse starts becomes FIRED (R374). -/
def State.edgeExecute (s : State) : State :=
  if s.variant = .n then s.addLate.ejtExecute
  else match s.die.cur with
    | none => s
    | some f =>
      match f.edges with
      | [] => s
      | e :: rest =>
        let s := match s.sentOf f.seq with | some g => s.advanceTo ((80 * g.k + e.n) * 5 / 2) | none => s
        let d := { s.die with cur := some { f with edges := rest } }
        let ok := !d.heldOff && !d.paired e.out
        let d := if ok then { d with drive := maskSet d.drive e.out (!e.stop) }.mirror else d
        let s := { s with die := { d with overload := maskAnd d.overload d.drive } }
        if ok && !e.stop then
          match (s.gout e.out).pulses.find? fun p => !p.begun && !p.merged with
          | some p => s.startedBy e.out p
          | none => s
        else s

/-- FIELD_SAFE_STATE: 8 windows have passed without a good frame, and the field die turns every output off (R489). -/
def State.safeState (s : State) : State :=
  if s.variant = .f ∧ s.die.miss ≥ 8 then { s with die := { s.die with safe := true, drive := 0, overload := 0 } } else s

/-! ## Inputs, outputs and supply -/

/-- INPUT_FILTER_CHANGE: an input has held a new level for FILT_US (R492). -/
def State.inputChange (s : State) (i : Nat) (level : Bool) : State :=
  if s.variant = .n then s else { s with die := { s.die with inputs := maskSet s.die.inputs i level } }

/-- WIRE_BREAK: an input with WB_EN has a wire break (R493). -/
def State.wireBreak (s : State) (i : Nat) : State :=
  if s.variant = .f ∧ s.die.wbEn i then { s with die := { s.die with wireBreak := maskSet s.die.wireBreak i true } } else s

/-- WIRE_BREAK_CLEAR: the input's current rises above the threshold again (R493). -/
def State.wireBreakClear (s : State) (i : Nat) : State :=
  if s.variant = .n then s else { s with die := { s.die with wireBreak := maskSet s.die.wireBreak i false } }

/-- SUPPLY_CROSSING: a crossing has held for 10 µs; the new state applies from the next window opening (R499). -/
def State.supplyCrossing (s : State) (st : Nat) : State :=
  if s.variant = .n then s else { s with die := { s.die with nextSupply := st } }

/-- Whether the switch of an output conducts: driven on and not tripped. -/
def Die.conducts (d : Die) (o : Nat) : Bool := d.drive.testBit o && !d.tripped.testBit o

/-- OUTPUT_OVERLOAD: the current limit of an output has acted for 50 µs (`acts`), or acts no longer (R498). -/
def State.overload (s : State) (o : Nat) (acts : Bool) : State :=
  if s.variant = .n then s
  else { s with die := { s.die with overload := maskSet s.die.overload o (acts && s.die.conducts o) } }

/-- THERMAL_SHUTDOWN: an output's junction reaches its trip temperature, and the output turns off (R498). -/
def State.thermalShutdown (s : State) (o : Nat) : State :=
  if s.variant = .f ∧ s.die.conducts o then
    { s with die := { s.die with
        tripped := maskSet s.die.tripped o true
        overload := maskSet s.die.overload o false
        tripTime := Tab.set 0 s.die.tripTime o s.clk.enc } }
  else s

/-- THERMAL_RESTART: at least 10 ms after the trip, the cooled output restarts if it is still driven on (R498). -/
def State.thermalRestart (s : State) (o : Nat) : State :=
  if s.variant = .f ∧ s.die.tripped.testBit o ∧ s.die.drive.testBit o then
    let s := s.advanceTo (2000000 + Tab.get 0 s.die.tripTime o)
    { s with die := { s.die with tripped := maskSet s.die.tripped o false } }
  else s

/-- READBACK_MISMATCH: an output's readback has differed from its drive state for 20 µs (R501). -/
def State.readbackMismatch (s : State) (o : Nat) : State :=
  if s.variant = .n then s else { s with die := { s.die with mismatch := maskSet s.die.mismatch o true } }

/-! ## The uplink at the compute die -/

/-- The compute side's receiver takes note of a period (R481): whether the frame may be used. -/
def State.upReceiver (s : State) (good : Bool) : State × Bool :=
  let l := s.link
  if good then
    let n := l.good + 1
    let s := { s with link := { l with good := n, bad := 0 } }
    let st := s.fld FI_LINK_STATE
    let st := if st = 2 ∨ 4 ≤ n then 2 else 1
    (s.setFld FI_LINK_STATE st, decide (st = 2))
  else
    let s := { s with link := { l with good := 0, bad := l.bad + 1 } }
    (s.bump FI_LINKERR_UP_BAD, false)

/-- The oldest frame whose fate is open leaves the account. -/
def State.popSent (s : State) : State × Option SentFrame :=
  match s.link.sent with
  | [] => (s, none)
  | f :: t => ({ s with link := { s.link with sent := t } }, some f)

/-- The oldest open frame is settled: executed in a window of a supply state, or lost (R486). -/
def State.settleSent (s : State) (ok : Bool) (supply : Nat) : State :=
  match s.popSent with
  | (s, none) => s
  | (s, some f) => if ok then s.confirmFrame f supply else s.loseFrame f

/-- The frame number of the oldest open frame's window, in steps of its opening. -/
def State.windowStep (s : State) : Nat := match s.link.sent with | f :: _ => 80 * f.k + 80 | [] => 80 * s.link.frame

/-- The reported supply state (R500): entries into SAG and LOW are counted and raised; LOW cuts the pulses that are on at the
window's opening `step`, and holds HEALTHY (R504). -/
def State.takeSupply (s : State) (st step : Nat) : State :=
  let old := s.fld FI_SUPPLY_STATE
  let s := s.setFld FI_SUPPLY_STATE st
  let s := if st = old then s
    else if st = 1 then ((s.bump FI_SUPPLY_SAG_CNT).setFld FI_SUPPLY_SAG_SEEN 1).raise 0x0D03 1
    else if st = 2 then ((((s.bump FI_SUPPLY_LOW_CNT).setFld FI_SUPPLY_LOW_SEEN 1).raise 0x0D03 2).cutPulses 1 step)
    else s
  s.hold MG_HOLD_SUPPLY (decide (st = 2))

/-- The common fault as reported: on a rising edge FAULT_SEEN, FAULT_CNT and FI_FAULT (R502). -/
def State.takeFault (s : State) (f : Bool) : State :=
  let rise := f && !s.isOn FI_FAULT_FAULT
  let s := s.setFlag FI_FAULT_FAULT f
  if rise then
    ((s.setFld FI_FAULT_FAULT_SEEN 1).bump FI_FAULT_FAULT_CNT).raise 0x0D04
      (65536 * s.fld FI_OUT_RDBK + s.fld FI_OUT_CMD) (s.fld FI_SUPPLY_STATE)
  else s

/-- The reported inputs (R494): while valid, their levels and the edges against the last valid frame (rising, falling). -/
def State.takeInputs (s : State) (lv : Nat) (valid : Bool) : State × Nat × Nat :=
  let s := s.setFld FI_IN_LEVEL lv
  let s := s.setFlag FI_IN_VALID valid
  let old := s.link.levels
  let s := { s with link := { s.link with levels := if valid then some lv else none } }
  match valid, old with
  | true, some o => (s, lv - maskAnd lv o, o - maskAnd lv o)
  | _, _ => (s, 0, 0)

/-- UPLINK_FRAME_RECEIVE: the field die's frame reaches the compute die with the disturbance `err` (R486, R490, R494, R500, R502,
R50). The second and third components are the inputs that rose and fell. -/
def State.uplinkFrame (s : State) (err : BitVec 96) : State × Nat × Nat :=
  if s.variant = .n then (s, 0, 0)
  else
    let b := disturb s.die.uplink err
    let (s, use) := s.upReceiver (goodFrame b)
    let step := s.windowStep
    if !use then
      let s := if s.link.prevLost then s.settleSent false 0 else s
      ({ s with link := { s.link with prevLost := true, lost := s.link.lost + 1, back := 0 } }, 0, 0)
    else
      let f := dByte b 5
      let ackOk := bit f 6
      let cfgok := bit f 3
      let sup := bits f 1 2
      let prevSup := dByte b 0 / 64
      let s := s.setFld FI_OUT_RDBK (dLe b 3 2)
      let s := if s.link.prevLost then
          let s := s.takeSupply prevSup step
          s.settleSent (bit f 7) prevSup
        else s
      let s := s.takeSupply sup s.windowStep
      let s := s.settleSent ackOk sup
      let s := if ackOk then s else s.bump FI_LINKERR_DN_BAD
      let s := s.setFlag FI_LINK_CFGOK cfgok
      let ok := ackOk && cfgok
      let s := { s with link := { s.link with
        prevLost := false
        lost := if ok then 0 else s.link.lost + 1
        back := if ok then s.link.back + 1 else 0 } }
      let s := s.takeFault (bit f 0)
      let s := s.htlFrame 2 (dByte b 6) (dByte b 8) (bit f 4)
      let s := s.htlFrame 3 (dByte b 7) (dByte b 9) (bit f 5)
      let (s, up, down) := s.takeInputs (dLe b 1 2) (decide (sup ≠ 2) && cfgok && !s.isOn FI_LINK_FIELD_LOST)
      (s.retireAll, up, down)

/-- FIELD_LOST: after 8 consecutive bad periods the link counts as lost (R490): ENC2 and ENC3 fail, pulses are cut, inputs are
invalid, HEALTHY is held. -/
def State.fieldLost (s : State) : State :=
  if s.variant = .f ∧ s.link.lost ≥ 8 ∧ !s.isOn FI_LINK_FIELD_LOST then
    let s := ((s.setFld FI_LINK_FIELD_LOST 1).bump FI_LINK_LOST_CNT).setFld FI_LINK_LOST_SEEN 1
    let s := s.raise 0x0D01 (s.fld FI_LINK_LOST_CNT)
    let s := (s.encFail 2 4).encFail 3 4
    let s := (s.setFld FI_IN_VALID 0)
    let s := { s with link := { s.link with levels := none, back := 0 } }
    (((s.cutPulses 4 0).hold MG_HOLD_FIELD true)).retireAll
  else s

/-- FIELD_BACK: 64 consecutive good uplinks with ACK_OK and CFGOK clear FIELD_LOST (R490). -/
def State.fieldBack (s : State) : State :=
  if s.variant = .f ∧ s.link.back ≥ 64 ∧ s.isOn FI_LINK_FIELD_LOST then
    let s := s.setFld FI_LINK_FIELD_LOST 0
    (s.raise 0x0D02 (s.fld FI_LINK_LOST_CNT)).hold MG_HOLD_FIELD false
  else s

/-- A write of FI_OUTCFG: a PAIR bit changes only while both its outputs are in MODE OFF (R514). -/
def State.outCfgWrite (s : State) (v : Nat) : State :=
  let p := s.fld FI_OUTCFG_PAIR
  s.setFld FI_OUTCFG_PAIR ((List.range 8).foldl (fun m k =>
    if s.fld (FO_OCFG_MODE (2 * k)) = 0 ∧ s.fld (FO_OCFG_MODE (2 * k + 1)) = 0 then maskSet m k (bit v k) else m) p)

end Sys2Proof.Machine
end

