-- ==== Sys2Proof/Machine/Fp.lean ====
section
/-! DEFINITION. The number formats: codes and values, exact floating-point arithmetic with rounding at the points the spec names,
requantisation and the special functions (R197 to R214, R268, R269). -/

namespace Sys2Proof.Machine

/-! ## Formats -/

/-- Bits of an element by format code (R197). -/
def fmtBits (f : Nat) : Nat :=
  match f with
  | 0 | 1 | 6 | 7 => 8
  | 2 | 3 => 4
  | 4 | 5 | 8 | 9 => 16
  | 10 | 11 => 32
  | _ => 8

/-- Bytes of an element of at least 8 bits. -/
def fmtBytes (f : Nat) : Nat := fmtBits f / 8

/-- U8, S8, U16 and S16 (R198); the four operand floats (R199); the operand formats. -/
def isIntFmt (f : Nat) : Bool := f == 0 || f == 1 || f == 4 || f == 5
def isFloatFmt (f : Nat) : Bool := f == 6 || f == 7 || f == 8 || f == 9
def isOperand (f : Nat) : Bool := isIntFmt f || isFloatFmt f

/-- Whether a format's value is a floating-point one, FP32 included. -/
def isFp (f : Nat) : Bool := isFloatFmt f || f == 11

/-- The range of an integer format (R198). -/
def fmtRange (f : Nat) : Int × Int :=
  match f with
  | 0 => (0, 255)
  | 1 => (-128, 127)
  | 4 => (0, 65535)
  | 5 => (-32768, 32767)
  | _ => (-2147483648, 2147483647)

/-- Exponent bits, mantissa bits and bias of a floating-point format (R199). -/
def fpShape (f : Nat) : Nat × Nat × Nat :=
  match f with
  | 6 => (4, 3, 7)
  | 7 => (5, 2, 15)
  | 8 => (8, 7, 127)
  | 9 => (5, 10, 15)
  | _ => (8, 23, 127)

/-! ## Floating-point values -/

/-- A floating-point value: a NaN, an infinity, or the exact number `(-1)^neg × m × 2^e`, whose zero keeps its sign (R200). -/
inductive Fp
  | nan
  | inf (neg : Bool)
  | num (neg : Bool) (m : Nat) (e : Int)
deriving DecidableEq, Repr

/-- The value of a floating-point code (R199). -/
def fpValue (f code : Nat) : Fp :=
  let (eb, mb, bias) := fpShape f
  let neg := code.testBit (eb + mb)
  let e := bits code mb eb
  let m := code % 2 ^ mb
  if f = 6 then
    if e = 15 ∧ m = 7 then .nan
    else if e = 0 then .num neg m (1 - (bias : Int) - mb) else .num neg (2 ^ mb + m) ((e : Int) - bias - mb)
  else if e = 2 ^ eb - 1 then (if m = 0 then .inf neg else .nan)
  else if e = 0 then .num neg m (1 - (bias : Int) - mb)
  else .num neg (2 ^ mb + m) ((e : Int) - bias - mb)

/-- The NaN code that the module produces, the code of plus infinity, the largest code (R199, R210). -/
def fpNan (f : Nat) : Nat :=
  match f with
  | 6 => 0x7F
  | 7 => 0x7E
  | 8 => 0x7FC0
  | 9 => 0x7E00
  | _ => 0x7FC00000
def fpTop (f : Nat) : Nat :=
  match f with
  | 6 => 0x7E
  | 7 => 0x7C
  | 8 => 0x7F80
  | 9 => 0x7C00
  | _ => 0x7F800000

/-- The code nearest to a value, ties to even, with subnormals; overflow gives an infinity, and 448 in E4M3 (R200, R201, R210). -/
def fpCode (f : Nat) (x : Fp) : Nat :=
  let (eb, mb, bias) := fpShape f
  let sign (neg : Bool) : Nat := if neg then 2 ^ (eb + mb) else 0
  match x with
  | .nan => fpNan f
  | .inf neg => sign neg + fpTop f
  | .num neg m e =>
    if m = 0 then sign neg
    else
      let ex := max ((Nat.log2 m : Int) + e) (1 - (bias : Int))
      let q := (rne (m : Int) (ex - mb - e)).toNat
      sign neg + min (fpTop f) ((ex + bias - 1).toNat * 2 ^ mb + q)

/-- A value rounded once to FP32. -/
def toFp32 (x : Fp) : Fp := fpValue 11 (fpCode 11 x)

/-- An integer as a value. -/
def Fp.ofInt (i : Int) : Fp := .num (decide (i < 0)) i.natAbs 0

/-- A value scaled by a power of two. -/
def Fp.scale (x : Fp) (n : Int) : Fp :=
  match x with
  | .num s m e => .num s m (e + n)
  | y => y

/-- A number's signed mantissa at exponent `lo`, at most its own. -/
def alignTo (lo : Int) (s : Bool) (m : Nat) (e : Int) : Int := (if s then -(m : Int) else m) * 2 ^ (e - lo).toNat

/-- The negation of a value. -/
def Fp.neg (x : Fp) : Fp :=
  match x with
  | .nan => .nan
  | .inf s => .inf (!s)
  | .num s m e => .num (!s) m e

/-- The exact sum of two values; an exact zero is −0 only where both are −0 (IEEE 754, R205). -/
def Fp.add (x y : Fp) : Fp :=
  match x, y with
  | .nan, _ => .nan
  | _, .nan => .nan
  | .inf a, .inf b => if a = b then .inf a else .nan
  | .inf a, _ => .inf a
  | _, .inf b => .inf b
  | .num s m e, .num t n d =>
    let lo := min e d
    let v := alignTo lo s m e + alignTo lo t n d
    if v = 0 then .num (s && t && decide (m = 0) && decide (n = 0)) 0 0 else .num (decide (v < 0)) v.natAbs lo

/-- The exact product of two values (R204, R205). -/
def Fp.mul (x y : Fp) : Fp :=
  match x, y with
  | .nan, _ => .nan
  | _, .nan => .nan
  | .inf a, .inf b => .inf (a != b)
  | .inf a, .num t n _ => if n = 0 then .nan else .inf (a != t)
  | .num s m _, .inf b => if m = 0 then .nan else .inf (s != b)
  | .num s m e, .num t n d => .num (s != t) (m * n) (e + d)

/-- Whether a value is below another; a NaN is below nothing, and −0 equals +0. -/
def Fp.lt (x y : Fp) : Bool :=
  match x, y with
  | .nan, _ => false
  | _, .nan => false
  | .inf a, .inf b => a && !b
  | .inf a, _ => a
  | _, .inf b => !b
  | .num s m e, .num t n d =>
    let lo := min e d
    decide (alignTo lo s m e < alignTo lo t n d)

/-- FP32 addition and multiplication, each rounded once. -/
def fp32Add (x y : Fp) : Fp := toFp32 (x.add y)
def fp32Mul (x y : Fp) : Fp := toFp32 (x.mul y)

/-- The larger or smaller of two values: a NaN operand gives NaN (R200). Of two zeros of unlike sign the spec states none. -/
def fpExtreme (isMax : Bool) (x y : Fp) : Fp :=
  if x = .nan ∨ y = .nan then .nan
  else if x.lt y then (if isMax then y else x)
  else if y.lt x then (if isMax then x else y)
  else match x, y with
    | .num s 0 _, .num t 0 _ => if s = t then x else .num (Config.extremeZero isMax s t) 0 0
    | _, _ => x

/-! ## Elements -/

/-- The value of an element: an integer or a floating-point value. -/
inductive Num
  | int (i : Int)
  | fp (x : Fp)
deriving DecidableEq, Repr

/-- The value that a code of a format stands for; CB4 codes are indices. -/
def numOf (f code : Nat) : Num :=
  match f with
  | 0 | 3 | 4 => .int code
  | 1 => .int (sx 8 code)
  | 2 => .int (sx 4 code)
  | 5 => .int (sx 16 code)
  | 10 => .int (sx 32 code)
  | _ => .fp (fpValue f code)

/-- The code of a value in a format that holds it. -/
def numCode (f : Nat) (x : Num) : Nat :=
  match x with
  | .int i => if isFp f then fpCode f (.ofInt i) else toU (fmtBits f) i
  | .fp x => if isFp f then fpCode f x else 0

/-- An element as a floating-point value; as an integer. -/
def Num.toFp : Num → Fp
  | .int i => .ofInt i
  | .fp x => x
def Num.toInt : Num → Int
  | .int i => i
  | .fp _ => 0

/-- An element promoted by `w` (R219). -/
def Num.promote (x : Num) (w : Nat) : Num :=
  match x with
  | .int i => .int (i * 2 ^ w)
  | .fp x => .fp (x.scale w)

/-! ## Sums -/

/-- S32 arithmetic: addition modulo 2^32 (R203). -/
def wrap32 (i : Int) : Int := sx 32 (toU 32 i)

/-- The exact sum of a group, rounded once to FP32; an exact zero is +0 (R204, R205). -/
def groupSum (l : List Fp) : Fp :=
  match toFp32 (l.foldl Fp.add (.num false 0 0)) with
  | .num _ 0 e => .num false 0 e
  | x => x

/-- A list cut into pieces of at most `n`. -/
def piecesOf {α : Type} (n : Nat) : Nat → List α → List (List α)
  | 0, _ => []
  | _, [] => []
  | fuel + 1, l => l.take n :: piecesOf n fuel (l.drop n)

/-- Values added in order to an accumulator that starts at +0, each addition rounded once (R204). -/
def fpChain (l : List Fp) : Fp := l.foldl fp32Add (.num false 0 0)

/-- A floating-point reduction in groups of 64, divided over at most `parts` parts (R204, R346). -/
def fpReduce (parts : Nat) (l : List Fp) : Fp :=
  let g := (piecesOf 64 (l.length + 1) l).map groupSum
  let n := min parts g.length
  if n ≤ 1 then fpChain g
  else fpChain ((List.range n).map fun i =>
    fpChain ((g.drop (i * g.length / n)).take ((i + 1) * g.length / n - i * g.length / n)))

/-- A reduction in the accumulator of its operands (R202). -/
def reduceSum (fp : Bool) (parts : Nat) (l : List Num) : Num :=
  if fp then .fp (fpReduce parts (l.map Num.toFp)) else .int (wrap32 ((l.map Num.toInt).sum))

/-- A product of two elements. -/
def Num.mul (fp : Bool) (x y : Num) : Num := if fp then .fp (x.toFp.mul y.toFp) else .int (x.toInt * y.toInt)

/-! ## Requantisation -/

/-- A requantisation entry (R211). -/
structure ReqE where
  mult : Nat
  shift : Nat
  zp : Int
  bias : Nat
deriving DecidableEq, Repr

/-- The entry in 16 bytes. -/
def readReq (b : List Byte) : ReqE :=
  ⟨ofLe (b.take 4), (ofLe ((b.drop 4).take 1)) % 64, sx 32 (ofLe ((b.drop 8).take 4)), ofLe ((b.drop 12).take 4)⟩

/-- Whether an entry meets the conditions of R211 and R214. -/
def reqOk (fpAcc : Bool) (out : Nat) (b : List Byte) : Bool :=
  let e := readReq b
  let byte (i : Nat) : Nat := (b[i]?.getD 0).toNat
  decide (byte 4 < 64 ∧ byte 5 < 2 ∧ byte 6 = 0 ∧ byte 7 = 0) &&
    (if fpAcc then decide (e.shift = 0) && (match fpValue 11 e.mult with
      | .num s m _ => !s && decide (m ≠ 0)
      | _ => false)
    else decide (e.mult ≠ 0)) &&
    (if isFp out then decide (e.zp = 0) else decide ((fmtRange out).1 ≤ e.zp ∧ e.zp ≤ (fmtRange out).2))

/-- An FP32 accumulator with BIAS added, rounded once (R213). -/
def ReqE.biased (e : ReqE) (x : Fp) : Fp := fp32Add x (fpValue 11 e.bias)

/-- Saturation, and whether it clips (R212). -/
def saturate (out : Nat) (q : Int) : Int × Bool :=
  let y := clampI (fmtRange out).1 (fmtRange out).2 q
  (y, decide (y ≠ q))

/-- Requantisation of an accumulator to a format, with the total promotion `u` and the widening `w`: the code and whether it clips
(R212 to R214). -/
def requant (e : ReqE) (out u w : Nat) (acc : Num) : Nat × Bool :=
  if isFp out then
    match acc with
    | .int i => (fpCode out ((Fp.ofInt (wrap32 (i + sx 32 e.bias) * e.mult)).scale (-((e.shift + u : Nat) : Int))), false)
    | .fp x => (fpCode out (((e.biased x).mul (fpValue 11 e.mult)).scale (-(u : Int))), false)
  else
    match acc with
    | .int i =>
      let (y, c) := saturate out (rne (wrap32 (i + sx 32 e.bias) * e.mult) ((e.shift + u : Nat) - (w : Int)) + e.zp * 2 ^ w)
      (toU (fmtBits out) y, c)
    | .fp x =>
      match (e.biased x).mul (fpValue 11 e.mult) with
      | .nan => (toU (fmtBits out) (saturate out (e.zp * 2 ^ w)).1, true)
      | .inf s => (toU (fmtBits out) (if s then (fmtRange out).1 else (fmtRange out).2), true)
      | .num s m d =>
        let (y, c) := saturate out (rne (if s then -(m : Int) else m) ((u : Int) - w - d) + e.zp * 2 ^ w)
        (toU (fmtBits out) y, c)

/-! ## Special functions -/

/-- A number as a fraction: numerator and power-of-two denominator's exponent. -/
def Fp.frac (s : Bool) (m : Nat) (e : Int) : Int × Nat := ((if s then -(m : Int) else m) * 2 ^ e.toNat, (-e).toNat)

/-- Whether `2^(p / 2^q) ≤ m × 2^k`, for a positive right side. -/
def expLe (p : Int) (q : Nat) (m : Nat) (k : Int) : Bool :=
  let l := p - k * 2 ^ q
  decide (2 ^ l.toNat ≤ m ^ (2 ^ q) * 2 ^ (-l).toNat)

/-- Whether `m × 2^k ≤ 2^(p / 2^q)`, for a positive left side. -/
def leExp (p : Int) (q : Nat) (m : Nat) (k : Int) : Bool :=
  let l := p - k * 2 ^ q
  decide (m ^ (2 ^ q) * 2 ^ (-l).toNat ≤ 2 ^ l.toNat)

/-- The exponent of the FP32 unit in the last place of a number whose leading bit has weight `2^e` (R269). -/
def ulpExp (e : Int) : Int := max e (-126) - 23

/-- Two ulp below and above a result, on the grid of the ulp with exponent `k`. -/
def band (r : Fp) (k : Int) : Option ((Int × Int) × Int) :=
  match r with
  | .num s m e =>
    let lo := min e k
    let v := alignTo lo s m e
    some ((v - 2 ^ (k + 1 - lo).toNat, v + 2 ^ (k + 1 - lo).toNat), lo)
  | _ => none

/-- Whether a number `2^(p / 2^q)` lies within a band of dyadic numbers. -/
def expInBand (p : Int) (q : Nat) (b : (Int × Int) × Int) : Bool :=
  (decide (b.1.1 ≤ 0) || leExp p q b.1.1.toNat b.2) && decide (0 < b.1.2) && expLe p q b.1.2.toNat b.2

/-- Whether `log2 (m × 2^k)` lies within a band of dyadic numbers `[lo, hi] × 2^e`. -/
def logInBand (m : Nat) (k : Int) (b : (Int × Int) × Int) : Bool :=
  let q := (-b.2).toNat
  let g := 2 ^ b.2.toNat
  expLe (b.1.1 * g) q m k && leExp (b.1.2 * g) q m k

/-- The exponent of the leading bit of `log2 (m × 2^k)`, which is not 0. -/
def logLead (m : Nat) (k : Int) : Int :=
  ((List.range 64).find? fun (i : Nat) =>
    let j : Int := 7 - (i : Int)
    let p : Int := 2 ^ j.toNat
    let q := (-j).toNat
    expLe p q m k || leExp (-p) q m k).elim (-57) fun i => 7 - (i : Int)

/-- Whether an FP32 code lies within 2 ulp of the exact result of a function (R269): 0 EXP2, 1 LOG2, 2 RECIP, 3 RSQRT. -/
def sfuWithin (func : Nat) (s : Bool) (m : Nat) (e : Int) (code : Nat) : Bool :=
  match func, fpValue 11 code with
  | 0, r =>
    let (p, q) := Fp.frac s m e
    (band r (ulpExp (p / 2 ^ q))).elim false fun b => expInBand p q b
  | 1, r => (band r (ulpExp (logLead m e))).elim false fun b => logInBand m e b
  | 2, .num t n d =>
    -- |n × m × 2^(d + e) − 1| ≤ 2 ulp × m × 2^e, the exact result's leading bit lying at -log2 m - e or just below
    let lead : Int := -(Nat.log2 m : Int) - e - (if m = 2 ^ Nat.log2 m then 0 else 1)
    let lo := min (min (d + e) 0) (ulpExp lead + 1 + e)
    decide (t = s) && decide ((alignTo lo false (n * m) (d + e) - alignTo lo false 1 0).natAbs ≤
      (alignTo lo false m (ulpExp lead + 1 + e)).natAbs)
  | 3, .num t n d =>
    -- the bounds of the result squared, times the input, enclose 1
    let l2 : Int := (Nat.log2 m : Int) + e
    let pow := decide (m = 2 ^ Nat.log2 m)
    let lead : Int := if pow && decide (l2 % 2 = 0) then -(l2 / 2) else -(l2 / 2) - 1
    (band (.num t n d) (ulpExp lead)).elim false fun b =>
      let lo := min (2 * b.2 + e) 0
      let sq (v : Int) : Int := alignTo lo false (v.toNat * v.toNat * m) (2 * b.2 + e)
      !t && decide (sq b.1.1 ≤ alignTo lo false 1 0) && decide (alignTo lo false 1 0 ≤ sq b.1.2)
  | _, _ => false

/-- The result that the special-function unit gives where R269 states only a bound: one code within it, fixed for the function and
the input. -/
def sfuBounded (func code : Nat) (s : Bool) (m : Nat) (e : Int) : Fp :=
  let r := Config.sfu func code % 2 ^ 32
  fpValue 11 (if sfuWithin func s m e r then r else ((List.range (2 ^ 32)).find? (sfuWithin func s m e)).getD r)

/-- EXP2, LOG2, RECIP and RSQRT of an FP32 value (R269): 0 to 3. -/
def sfu (func : Nat) (x : Fp) : Fp :=
  let code := fpCode 11 x
  match func, fpValue 11 code with
  | _, .nan => .nan
  | 0, .inf s => if s then .num false 0 0 else .inf false
  | 1, .inf s => if s then .nan else .inf false
  | 2, .inf s => .num s 0 0
  | _, .inf s => if s then .nan else .num false 0 0
  | 0, .num s m e =>
    let (p, q) := Fp.frac s m e
    if m = 0 then .num false 1 0
    else if 128 * 2 ^ q ≤ p then .inf false
    else if p < -149 * 2 ^ q then .num false 0 0
    else if p % 2 ^ q = 0 then .num false 1 (p / 2 ^ q)
    else sfuBounded 0 code s m e
  | 1, .num s m e =>
    if m = 0 then .inf true
    else if s then .nan
    else if m = 2 ^ Nat.log2 m then .ofInt (Nat.log2 m + e)
    else sfuBounded 1 code s m e
  | 2, .num s m e =>
    if m = 0 then .inf s
    else if m = 2 ^ Nat.log2 m ∧ -128 < (Nat.log2 m : Int) + e then .num s 1 (-(Nat.log2 m : Int) - e)
    else if (Nat.log2 m : Int) + e < -128 then .inf s
    else sfuBounded 2 code s m e
  | _, .num s m e =>
    if m = 0 then .inf s
    else if s then .nan
    else if m = 2 ^ Nat.log2 m ∧ ((Nat.log2 m : Int) + e) % 2 = 0 then .num false 1 (-(((Nat.log2 m : Int) + e) / 2))
    else sfuBounded 3 code s m e

/-! ## Activation functions -/

/-- The FP32 value nearest to a decimal constant of R268: its code. -/
def fpLog2e : Fp := fpValue 11 0x3FB8AA3B
def fpGelu1 : Fp := fpValue 11 0x3FCC4229
def fpGelu2 : Fp := fpValue 11 0x3D372713
def fpSixth : Fp := fpValue 11 0x3E2AAAAB

/-- The logistic function s(v) (R268). -/
def fpSigmoid (v : Fp) : Fp := sfu 2 (fp32Add (.ofInt 1) (sfu 0 (fp32Mul v.neg fpLog2e)))

/-- min(max(v + 3.0, 0.0), 6.0) × 0.16666667 (R268). -/
def fpHard (v : Fp) : Fp := fp32Mul (fpExtreme false (fpExtreme true (fp32Add v (.ofInt 3)) (.ofInt 0)) (.ofInt 6)) fpSixth

/-- The activation functions (R268), each step one FP32 operation; `p0` and `p1` are the parameters. -/
def activate (func : Nat) (p0 p1 v : Fp) : Fp :=
  match func with
  | 0 => v
  | 1 => fpExtreme true v (.ofInt 0)
  | 2 => if v = .nan then .nan else if v.lt (.ofInt 0) then fp32Mul v p0 else v
  | 3 => fpExtreme false (fpExtreme true v p0) p1
  | 4 => fpSigmoid v
  | 5 => fp32Add (fp32Mul (.ofInt 2) (fpSigmoid (fp32Mul (.ofInt 2) v))) (.ofInt (-1))
  | 6 => fp32Mul v (fpSigmoid v)
  | 7 => fp32Mul v (fpSigmoid (fp32Mul fpGelu1 (fp32Add v (fp32Mul fpGelu2 (fp32Mul (fp32Mul v v) v)))))
  | 8 => fp32Mul v (fpHard v)
  | 9 => fpHard v
  | _ => sfu 0 (fp32Mul v fpLog2e)

end Sys2Proof.Machine
end

