-- ==== Sys2Proof/Machine/Tensor.lean ====
section
/-! DEFINITION. Tensors, tiles and tile-width maps, the checks of a core command's extents, and the generic tensor command: read, compute,
requantise, widen, write (R215 to R219, R249 to R259, R286, R296, R297, R305). -/

namespace Sys2Proof.Machine

/-! ## Causes of an illegal descriptor -/

/-- A condition that a descriptor breaks: the cause of R286 and the descriptor byte. -/
abbrev Flaw := Nat × Nat

/-- A condition: nothing where it holds, else its flaw. -/
def need (ok : Bool) (cause byte : Nat) : List Flaw := if ok then [] else [(cause, byte)]

/-- Reserved bytes of a descriptor: each nonzero one is a flaw (R10). -/
def reserved (d : List Byte) (lo n : Nat) : List Flaw := (List.range n).flatMap fun i => need (decide (dByte d (lo + i) = 0)) 1 (lo + i)

/-- Reserved bits of one byte. -/
def reservedBits (d : List Byte) (i lo w : Nat) : List Flaw := need (decide (bits (dByte d i) lo w = 0)) 1 i

/-- The order in which a cause is chosen (R286): VERSION, OPCODE, RESERVED, FORMAT, RANGE, OVERLAP, REGION. -/
def causeRank (c : Nat) : Nat :=
  match c with
  | 2 => 0
  | 3 => 1
  | 1 => 2
  | 5 => 3
  | 4 => 4
  | 6 => 5
  | _ => 6

/-- The flaw that is reported: the first cause in order, then the lowest byte under it (R286). -/
def firstFlaw (l : List Flaw) : Option Flaw :=
  l.foldl (fun (b : Option Flaw) f => match b with
    | none => some f
    | some g => if causeRank f.1 * 256 + f.2 < causeRank g.1 * 256 + g.2 then some f else some g) none

/-- The common header's conditions: version, reserved bits, dependencies (R254). -/
def headFlaws (d : List Byte) (idx : Nat) : List Flaw :=
  need (decide (bits (dByte d 1) 0 4 = 1)) 2 1 ++ reservedBits d 1 4 4 ++ reservedBits d 7 1 7 ++
    need (decide (dDepA d ≤ idx)) 4 5 ++ need (decide (dDepB d ≤ idx)) 4 6

/-! ## Addresses and extents -/

/-- An address field of a descriptor: its byte, the bytes from it, and whether they are written. -/
structure Ext where
  byte : Nat
  len : Nat
  write : Bool
deriving DecidableEq, Repr

/-- The base that an address field selects, and its offset (R250). -/
def Job.base (x : Job) (v : Nat) : Base := (x.bases[v / 2 ^ 28 % 16]?).getD {}
def baseOfs (v : Nat) : Nat := v % 2 ^ 28 * 64

/-- The effective core address of the address field at a byte of the descriptor (R250). -/
def Job.addr (x : Job) (d : List Byte) (byte : Nat) : Nat := (x.base (dLe d byte 4)).addr + baseOfs (dLe d byte 4)

/-- The place of a core address in the byte space: core `k`'s own store for the core store's range (R249, R437). -/
def corePlace (k a : Nat) : Nat := if 0x2000000000 ≤ a ∧ a < 0x20003E0000 then coreBase k + (a - 0x2000000000) else a

/-- Whether commands may read, or write, an extent of the core address space (R249). -/
def coreMay (wr : Bool) (a n : Nat) : Bool :=
  decide (a + n ≤ ddrSize) || decide (0x2000000000 ≤ a ∧ a + n ≤ 0x20003E0000) ||
    (!wr && decide (swsBase ≤ a ∧ a + n ≤ swsBase + 0x800000))

/-- Whether an extent passes the job's region check (R250, R305). -/
def Job.extOk (x : Job) (d : List Byte) (e : Ext) : Bool :=
  let v := dLe d e.byte 4
  let b := x.base v
  decide (e.len = 0) || (decide (baseOfs v + e.len ≤ 64 * b.len) && (!e.write || b.write) && coreMay e.write (b.addr + baseOfs v) e.len)

/-- The overlaps of an output extent with every other extent (R258). -/
def Job.overlapFlaws (x : Job) (d : List Byte) (l : List Ext) : List Flaw :=
  l.flatMap fun o => l.flatMap fun i =>
    let a := x.addr d o.byte
    let b := x.addr d i.byte
    need (!(o.write && decide (o.byte ≠ i.byte ∧ 0 < o.len ∧ 0 < i.len ∧ a < b + i.len ∧ b < a + o.len))) 6 o.byte

/-- The region faults of the extents. -/
def Job.regionFlaws (x : Job) (d : List Byte) (l : List Ext) : List Flaw := l.flatMap fun e => need (x.extOk d e) 7 e.byte

/-- The bytes of an extent of the core address space, without regard to error marks. -/
def State.corePeek (s : State) (k a n : Nat) : List Byte := s.peekN (corePlace k a) n

/-- Whether any protected unit of an extent is uncorrectable. -/
def State.coreBad (s : State) (k a n : Nat) : Bool := (unitsOf (corePlace k a) n).any fun u => decide (s.mark u = .uncorrectable)

/-- A set of protected units, by address. -/
abbrev Units := Tab Unit

/-- The units of an extent join a set. -/
def addUnits (k : Nat) (t : Units) (a n : Nat) : Units := (unitsOf (corePlace k a) n).foldl (fun t u => Tab.put t u ()) t

/-- The units of a set are read once each, in address order: `false` where one is uncorrectable (R252, R433). -/
def State.readUnits (s : State) (t : Units) : State × Bool :=
  t.foldl (fun (p : State × Bool) u => if p.2 then p.1.readUnit 0 u.1 else p) (s, true)

/-! ## Layout of tensors -/

/-- A row stride or any length rounded up to whole lines (R255). -/
def up64 (n : Nat) : Nat := (n + 63) / 64 * 64

/-- Tiles along an axis (R256). -/
def tilesOf (n lg : Nat) : Nat := (n + 2 ^ lg - 1) / 2 ^ lg

/-- An input of a tensor command. -/
structure TIn where
  /-- descriptor bytes of its address and of its map's address; `0` for no map -/
  byte : Nat
  mapByte : Nat
  fmt : Nat
  c : Nat
  h : Nat
  w : Nat
  /-- channels of a tile: 64, or 1 in MATMUL -/
  ch : Nat
  tx : Nat
  ty : Nat
deriving DecidableEq, Repr

/-- Its strides, extent and number of tiles. A tensor with a map has the strides of S16. -/
def TIn.row (t : TIn) : Nat := up64 (t.w * (if t.mapByte ≠ 0 then 2 else fmtBytes t.fmt))
def TIn.size (t : TIn) : Nat := t.c * t.h * t.row
def TIn.ny (t : TIn) : Nat := tilesOf t.h t.ty
def TIn.nx (t : TIn) : Nat := tilesOf t.w t.tx
def TIn.tiles (t : TIn) : Nat := (t.c + t.ch - 1) / t.ch * t.ny * t.nx
def TIn.exts (t : TIn) : List Ext :=
  ⟨t.byte, t.size, false⟩ :: (if t.mapByte ≠ 0 then [⟨t.mapByte, 16 + 4 * t.tiles, false⟩] else [])

/-- The tile that holds an element. -/
def TIn.tileOf (t : TIn) (c y x : Nat) : Nat := (c / t.ch * t.ny + y / 2 ^ t.ty) * t.nx + x / 2 ^ t.tx

/-- Offset within its row of an element of a mapped tensor: wide codes at their S16 places, narrow codes in the first half of their
tile's area (R217, R255). -/
def mappedOfs (wide : Bool) (bytes tx x : Nat) : Nat :=
  if wide then 2 * x else x / 2 ^ tx * 2 ^ (tx + 1) + x % 2 ^ tx * bytes

/-- An input as a command reads it: its core address, the shift of its map and the tiles that are wide. -/
structure TView where
  t : TIn
  addr : Nat
  wsh : Nat
  wide : List Nat
deriving DecidableEq, Repr

/-- Address and bytes of an element as it is stored. -/
def TView.place (v : TView) (c y x : Nat) : Nat × Nat :=
  let row := v.addr + (c * v.t.h + y) * v.t.row
  if v.t.mapByte = 0 then (row + x * fmtBytes v.t.fmt, fmtBytes v.t.fmt)
  else
    let w := v.wide.contains (v.t.tileOf c y x)
    (row + mappedOfs w (fmtBytes v.t.fmt) v.t.tx x, if w then 2 else fmtBytes v.t.fmt)

/-- The element's value at the width at which the input is read: `prom` is the promotion (R219). -/
def State.element (s : State) (k : Nat) (v : TView) (prom c y x : Nat) : Num :=
  let (a, n) := v.place c y x
  let code := ofLe (s.corePeek k a n)
  if v.t.mapByte ≠ 0 ∧ v.wide.contains (v.t.tileOf c y x) then numOf 5 code else (numOf v.t.fmt code).promote prom

/-- The view of an input: its map's header and entries (R218). -/
def State.viewOf (s : State) (k : Nat) (x : Job) (d : List Byte) (t : TIn) : TView :=
  let a := x.addr d t.byte
  if t.mapByte = 0 then ⟨t, a, 0, []⟩
  else
    let m := x.addr d t.mapByte
    ⟨t, a, (ofLe (s.corePeek k (m + 1) 1)) % 16,
      (List.range t.tiles).filter fun i => bit (ofLe (s.corePeek k (m + 16 + 4 * i) 4)) 31⟩

/-- Whether an input map's header and entries meet R218: version, shift, reserved fields. -/
def State.mapOk (s : State) (k : Nat) (x : Job) (d : List Byte) (t : TIn) : Bool :=
  let m := x.addr d t.mapByte
  let b := s.corePeek k m 16
  s.coreBad k m (16 + 4 * t.tiles) ||
    (decide (dByte b 0 = 1 ∧ dByte b 1 ≤ 8) && dZero b 2 2 && dZero b 8 8 &&
      (List.range t.tiles).all fun i => decide (bits (ofLe (s.corePeek k (m + 16 + 4 * i) 4)) 24 6 = 0))

/-! ## The generic tensor command -/

/-- An output element before requantisation: a value, or a sum of terms in reduction order (R204). -/
inductive Elem
  | val (v : Num)
  | sum (l : List Num)
deriving DecidableEq, Repr

/-- Terms added to an accumulator, in groups of 64 whose exact sums are rounded once (R203, R204). -/
def sumFrom (fp : Bool) (a : Num) (l : List Num) : Num :=
  if fp then .fp (((piecesOf 64 (l.length + 1) (l.map Num.toFp)).map groupSum).foldl fp32Add a.toFp)
  else .int (wrap32 (a.toInt + (l.map Num.toInt).sum))

/-- The number of groups of an element's reduction (R204). -/
def Elem.groups : Elem → Nat
  | .val _ => 0
  | .sum l => (l.length + 63) / 64

/-- An element's accumulator, its reduction divided over at most `parts` parts (R346). -/
def Elem.total (fp : Bool) (parts : Nat) : Elem → Num
  | .val v => v
  | .sum l => reduceSum fp parts l

/-- An element's accumulator once groups `lo` to `hi − 1` have joined what the groups before left in it (R345); all the rest for no `hi`. -/
def Elem.add (fp : Bool) (a : Num) (lo : Nat) (hi : Option Nat) : Elem → Num
  | .val v => v
  | .sum l => sumFrom fp a (match hi with
    | some h => (l.drop (64 * lo)).take (64 * (h - lo))
    | none => l.drop (64 * lo))

/-- The identity of a reduction over an empty extent (R297). -/
inductive EmptyRed
  | sum | max | min
deriving DecidableEq, Repr

/-- The identity code of an output format; `zp` is the channel's zero point. -/
def identCode (i : EmptyRed) (out : Nat) (zp : Int) : Nat :=
  match i with
  | .sum => if isFp out ∨ out = 10 then 0 else toU (fmtBits out) zp
  | .max => if isFp out then fpCode out (.inf true) else toU (fmtBits out) (fmtRange out).1
  | .min => if isFp out then fpCode out (.inf false) else toU (fmtBits out) (fmtRange out).2

/-- How a command's output follows from its accumulators: written unchanged, requantised, or at the width of the input. -/
inductive OutKind
  | plain | requant | preserve
deriving DecidableEq, Repr

/-- What a tensor command is, apart from its data: inputs, output, tiles, and what each output element reads and is. -/
structure Plan where
  ins : List TIn
  extra : List Ext := []
  c : Nat
  h : Nat
  w : Nat
  /-- channels of an output tile -/
  ch : Nat := 64
  /-- channel tiles or batch entries covered -/
  c0 : Nat
  cn : Nat
  y0 : Nat
  yn : Nat
  tx : Nat
  ty : Nat
  out : Nat
  kind : OutKind
  fpAcc : Bool
  widen : Bool := false
  thr : Nat := 0
  wsh : Nat := 0
  mapOut : Bool := false
  /-- entries in the requantisation table; the entry of an output element -/
  reqs : Nat := 0
  reqOf : Nat → Nat → Nat := fun c _ => c
  ident : Option EmptyRed := none
  /-- elements of input `i` that an output tile reads: channels, rows, columns -/
  reads : Nat → List Nat → List Nat → List Nat → List Nat × List Nat × List Nat
  /-- further extents that an output tile reads, as core addresses -/
  more : List Nat → List (Nat × Nat) := fun _ => []
  /-- an output element, from its inputs' elements and their promotions -/
  elem : (Nat → Nat → Nat → Nat → Num) → List Nat → Nat → Nat → Nat → Elem
  /-- parts over which its reduction is divided (R346) -/
  parts : Nat := 1
  /-- the total promotion of R212 -/
  total : List Nat → Nat := fun l => l.headD 0

/-- The output is empty (R296). -/
def Plan.empty (p : Plan) : Bool := decide (p.h = 0 ∨ p.w = 0 ∨ p.c = 0)
def Plan.nc (p : Plan) : Nat := (p.c + p.ch - 1) / p.ch
def Plan.ny (p : Plan) : Nat := tilesOf p.h p.ty
def Plan.nx (p : Plan) : Nat := tilesOf p.w p.tx
def Plan.tiles (p : Plan) : Nat := if p.empty then 0 else p.nc * p.ny * p.nx
def Plan.row (p : Plan) : Nat := up64 (p.w * (if p.mapOut then 2 else fmtBytes p.out))

/-- Every extent of the command: DST at byte 12, REQ at 16, MAP_OUT at 24 (R260 to R273). -/
def Plan.exts (p : Plan) : List Ext :=
  p.ins.flatMap TIn.exts ++ p.extra ++ [⟨12, p.c * p.h * p.row, true⟩] ++
    (if p.kind = .requant then [⟨16, 16 * p.reqs, false⟩] else []) ++ (if p.mapOut then [⟨24, 16 + 4 * p.tiles, true⟩] else [])

/-- The channel tiles and tile rows that the descriptor covers, cut at the last (R257). -/
def tileSpan (lo n top : Nat) : List Nat := (List.range (if n = 0 then top - lo else min n (top - lo))).map (lo + ·)
def Plan.cts (p : Plan) : List Nat := tileSpan p.c0 p.cn p.nc
def Plan.tys (p : Plan) : List Nat := tileSpan p.y0 p.yn p.ny

/-- An output tile: its channel tile, tile row and tile column. -/
structure TileAt where
  ct : Nat
  ty : Nat
  tx : Nat
deriving DecidableEq, Repr

/-- The tiles covered, in order. -/
def Plan.covered (p : Plan) : List TileAt :=
  if p.empty then [] else p.cts.flatMap fun c => p.tys.flatMap fun y => (List.range p.nx).map fun x => ⟨c, y, x⟩

/-- Indices `i × size` up to the axis' end. -/
def spanOf (i size n : Nat) : List Nat := (List.range (min size (n - i * size))).map (i * size + ·)
def Plan.chans (p : Plan) (t : TileAt) : List Nat := spanOf t.ct p.ch p.c
def Plan.rows (p : Plan) (t : TileAt) : List Nat := spanOf t.ty (2 ^ p.ty) p.h
def Plan.cols (p : Plan) (t : TileAt) : List Nat := spanOf t.tx (2 ^ p.tx) p.w
def Plan.index (p : Plan) (t : TileAt) : Nat := (t.ct * p.ny + t.ty) * p.nx + t.tx

/-- The requantisation entry at an index. -/
def State.reqBytes (s : State) (k : Nat) (x : Job) (d : List Byte) (i : Nat) : List Byte := s.corePeek k (x.addr d 16 + 16 * i) 16

/-- The conditions that depend on the command's extents and on the structures it names in memory (R250, R257 to R259, R286). -/
def State.dataFlaws (s : State) (k : Nat) (x : Job) (d : List Byte) (p : Plan) : List Flaw :=
  let l := p.exts
  need (p.empty || decide (p.c0 < p.nc)) 4 (if p.ch = 1 then 51 else 55) ++ need (p.empty || decide (p.y0 < p.ny)) 4 57 ++
    x.overlapFlaws d l ++ x.regionFlaws d l ++
    (p.ins.flatMap fun t => need (decide (t.mapByte = 0) || !(t.exts.all (x.extOk d)) || s.mapOk k x d t) 4 t.mapByte) ++
    (if p.kind = .requant && x.extOk d ⟨16, 16 * p.reqs, false⟩ then
      need ((List.range p.reqs).all fun i =>
        s.coreBad k (x.addr d 16 + 16 * i) 16 || reqOk p.fpAcc p.out (s.reqBytes k x d i)) 4 16
    else [])

/-- The promotion at which an output tile reads an input: the width of the widest of its tiles that the tile reads (R219). -/
def Plan.promotion (p : Plan) (v : TView) (i : Nat) (t : TileAt) : Nat :=
  if v.wide = [] then 0
  else
    let (cs, ys, xs) := p.reads i (p.chans t) (p.rows t) (p.cols t)
    if cs.any fun c => ys.any fun y => xs.any fun x => v.wide.contains (v.t.tileOf c y x) then v.wsh else 0

/-- The protected units that an output tile reads. -/
def Plan.tileUnits (p : Plan) (k : Nat) (vs : List TView) (t : TileAt) (u : Units) : Units :=
  let u := (vs.zipIdx).foldl (fun u (v, i) =>
    let (cs, ys, xs) := p.reads i (p.chans t) (p.rows t) (p.cols t)
    cs.foldl (fun u c => ys.foldl (fun u y => xs.foldl (fun u x => addUnits k u (v.place c y x).1 (v.place c y x).2) u) u) u) u
  (p.more (p.chans t)).foldl (fun u e => addUnits k u e.1 e.2) u

/-- All units that the command reads for a list of its output tiles: maps, requantisation entries, tensors (R433). -/
def Plan.units (p : Plan) (k : Nat) (x : Job) (d : List Byte) (vs : List TView) (l : List TileAt) : Units :=
  let u : Units := p.ins.foldl (fun u t => if t.mapByte = 0 then u else addUnits k u (x.addr d t.mapByte) (16 + 4 * t.tiles)) []
  let u := if p.kind = .requant then addUnits k u (x.addr d 16) (16 * p.reqs) else u
  if p.empty then u
  else if p.ident.isSome then u else l.foldl (fun u t => p.tileUnits k vs t u) u

/-- A computed tile: whether it is wide, its narrow clip count, whether a wide code clips, its codes by channel, row and column, and
their format. -/
structure TileOut where
  wide : Bool
  clips : Nat
  wclip : Bool
  codes : List (List (List Nat))
  fmt : Nat
deriving DecidableEq, Repr

/-- Accumulators mapped to codes, with the number of clips. -/
def codesOf (cs ys xs : List Nat) (f : Nat → Nat → Nat → Nat × Bool) : List (List (List Nat)) × Nat :=
  let l := cs.map fun c => ys.map fun y => xs.map fun x => f c y x
  (l.map (·.map (·.map Prod.fst)), (l.flatten.flatten.filter Prod.snd).length)

/-- The promotions at which an output tile reads its inputs, and the elements it reads (R219). -/
def Plan.proms (p : Plan) (vs : List TView) (t : TileAt) : List Nat := (vs.zipIdx).map fun (v, i) => p.promotion v i t
def State.elemAt (s : State) (k : Nat) (p : Plan) (vs : List TView) (t : TileAt) (c y x : Nat) : Elem :=
  let proms := p.proms vs t
  p.elem (fun i c y x => match vs[i]? with
    | some v => s.element k v (proms[i]?.getD 0) c y x
    | none => .int 0) proms c y x

/-- What an element of a tile left in its accumulator at a step boundary (R318, R345). -/
def Plan.held (p : Plan) (t : TileAt) (acc : List Nat) (c y x : Nat) : Num :=
  let i := ((c - t.ct * p.ch) * (p.rows t).length + (y - t.ty * 2 ^ p.ty)) * (p.cols t).length + (x - t.tx * 2 ^ p.tx)
  numOf (if p.fpAcc then 11 else 10) (acc[i]?.getD 0)

/-- The accumulators of a tile at the boundary after group `hi − 1`, as 32-bit words by channel, row and column (R345). -/
def State.partials (s : State) (k : Nat) (p : Plan) (vs : List TView) (t : TileAt) (pr : Progress) (hi : Nat) : List Nat :=
  (p.chans t).flatMap fun c => (p.rows t).flatMap fun y => (p.cols t).map fun x =>
    numCode (if p.fpAcc then 11 else 10) ((s.elemAt k p vs t c y x).add p.fpAcc (p.held t pr.acc c y x) pr.groups (some hi))

/-- An output tile is computed from its inputs, requantised, and computed again wide where its clips exceed the threshold
(R212 to R217, R219, R259, R297); it goes on from the accumulators that `pr` holds (R345). -/
def State.computeTile (s : State) (k : Nat) (x : Job) (d : List Byte) (p : Plan) (vs : List TView) (pr : Progress) (t : TileAt) : TileOut :=
  let cs := p.chans t
  let ys := p.rows t
  let xs := p.cols t
  let req (c xx : Nat) : ReqE := readReq (s.reqBytes k x d (p.reqOf c xx))
  match p.ident with
  | some i => ⟨false, 0, false, (codesOf cs ys xs fun c _ xx => (identCode i p.out (req c xx).zp, false)).1, p.out⟩
  | none =>
    let proms := p.proms vs t
    let acc (c y xx : Nat) : Num :=
      let e := s.elemAt k p vs t c y xx
      if p.parts ≤ 1 then e.add p.fpAcc (p.held t pr.acc c y xx) pr.groups none else e.total p.fpAcc p.parts
    match p.kind with
    | .plain => ⟨false, 0, false, (codesOf cs ys xs fun c y xx => (numCode p.out (acc c y xx), false)).1, p.out⟩
    | .preserve =>
      let wide := decide (proms.headD 0 ≠ 0) || (p.mapOut && (vs.headD ⟨⟨0, 0, 0, 0, 0, 0, 1, 0, 0⟩, 0, 0, []⟩).wide ≠ [] &&
        (let v := vs.headD ⟨⟨0, 0, 0, 0, 0, 0, 1, 0, 0⟩, 0, 0, []⟩
         let (a, b, e) := p.reads 0 cs ys xs
         a.any fun c => b.any fun y => e.any fun xx => v.wide.contains (v.t.tileOf c y xx)))
      let f := if wide then 5 else if p.mapOut then ((p.ins.headD ⟨0, 0, 0, 0, 0, 0, 1, 0, 0⟩).fmt) else p.out
      ⟨wide, 0, false, (codesOf cs ys xs fun c y xx => (numCode f (acc c y xx), false)).1, f⟩
    | .requant =>
      let u := p.total proms
      let (codes, clips) := codesOf cs ys xs fun c y xx => requant (req c xx) p.out u 0 (acc c y xx)
      if p.widen && decide (clips * 65536 > p.thr * (cs.length * ys.length * xs.length)) then
        let (wc, n) := codesOf cs ys xs fun c y xx => requant (req c xx) 5 u p.wsh (acc c y xx)
        ⟨true, clips, decide (0 < n), wc, 5⟩
      else ⟨false, clips, false, codes, p.out⟩

/-- The map entry of a tile (R218). -/
def TileOut.entry (o : TileOut) : Nat := b2n o.wide * 2 ^ 31 + b2n o.wclip * 2 ^ 30 + min o.clips 0xFFFFFF

/-- One row of a tile is written; in a mapped tensor a narrow row leaves the second half of its area, as far as the row reaches, undefined
(R217, R255). -/
def State.writeRow (k : Nat) (p : Plan) (t : TileAt) (o : TileOut) (dst : Nat) (q : State × Bool) (c y : Nat) (codes : List Nat) :
    State × Bool :=
  if !q.2 then q
  else
    let x0 := t.tx * 2 ^ p.tx
    let row := dst + (c * p.h + y) * p.row
    let b := codes.flatMap (leBytes (fmtBytes o.fmt))
    if p.mapOut && !o.wide then
      let area := mappedOfs false (fmtBytes o.fmt) p.tx x0
      let q := q.1.write (corePlace k (row + area)) b
      let n := min (2 ^ p.tx) (p.row - (area + 2 ^ p.tx))
      if q.2 && decide (0 < n) then
        let (s, fill) := q.1.drawBlock n
        s.write (corePlace k (row + area + 2 ^ p.tx)) fill
      else q
    else q.1.write (corePlace k (row + x0 * fmtBytes o.fmt)) b

/-- A tile and its map entry are written. -/
def State.writeTile (k : Nat) (x : Job) (d : List Byte) (p : Plan) (q : State × Bool) (t : TileAt) (o : TileOut) : State × Bool :=
  let dst := x.addr d 12
  let q := ((p.chans t).zip o.codes).foldl (fun q (c, plane) =>
    ((p.rows t).zip plane).foldl (fun q (y, codes) => State.writeRow k p t o dst q c y codes) q) q
  if p.mapOut && q.2 then q.1.write (corePlace k (x.addr d 24 + 16 + 4 * p.index t)) (leBytes 4 o.entry) else q

/-- Tiles are written in order until one write is refused; the second component tells whether none was, the third whether a tile that was
written is wide (R220, R434). -/
def State.writeTiles (s : State) (k : Nat) (x : Job) (d : List Byte) (p : Plan) (l : List (TileAt × TileOut)) : (State × Bool) × Bool :=
  l.foldl (fun (q : (State × Bool) × Bool) (t, o) =>
    if !q.1.2 then q
    else
      let r := State.writeTile k x d p q.1 t o
      (r, q.2 || (r.2 && o.wide))) ((s, true), false)

/-- How a command on a core ends. -/
inductive Ran
  | flaw (f : Flaw)
  /-- an uncorrectable datum or a refused write; a tile written before it was wide -/
  | dataError (wide : Bool)
  /-- carried out: its output or a reduction was empty; a tile was wide -/
  | done (empty wide : Bool)
deriving DecidableEq, Repr

/-- Output tiles with what they go on from: the first from the core's progress, the others from nothing. -/
def resumed (pr : Progress) (l : List TileAt) : List (TileAt × Progress) :=
  (l.zipIdx).map fun (t, i) => (t, if i = 0 then pr else {})

/-- A tensor command that has passed the checks of its descriptor alone is carried out, from the core's progress on. -/
def State.runPlan (s : State) (k : Nat) (x : Job) (d : List Byte) (p : Plan) (flaws : List Flaw) : State × Ran :=
  match firstFlaw (flaws ++ s.dataFlaws k x d p) with
  | some f => (s, .flaw f)
  | none =>
    let vs := p.ins.map (s.viewOf k x d)
    let pr := (s.core k).prog
    let l := p.covered.drop pr.instr
    match s.readUnits (p.units k x d vs l) with
    | (s, false) => (s, .dataError false)
    | (s, true) =>
      let outs := (resumed pr l).map fun (t, pr) => (t, s.computeTile k x d p vs pr t)
      let (q, wide) := s.writeTiles k x d p outs
      let wsh := if p.kind = .preserve then (vs.map TView.wsh).headD 0 else p.wsh
      let q := if p.mapOut && q.2 then
          q.1.write (corePlace k (x.addr d 24)) (leBytes 1 1 ++ leBytes 1 wsh ++ leBytes 2 0 ++ leBytes 4 p.tiles ++ leBytes 8 0) else q
      if q.2 then (q.1, .done (p.empty || p.ident.isSome) wide) else (q.1, .dataError wide)

/-- A tensor command as it stands at the boundary before instruction `instr`, or after `step` steps of it that have summed `groups` groups
(R251, R317, R345): the tiles before are written, and the third component tells whether one is wide. Nothing where it cannot come so far. -/
def State.runUpTo (s : State) (k : Nat) (x : Job) (d : List Byte) (p : Plan) (flaws : List Flaw) (instr step groups : Nat) :
    Option (State × Progress × Bool) :=
  let pr := (s.core k).prog
  let l := (p.covered.drop pr.instr).take (instr - pr.instr)
  match (firstFlaw (flaws ++ s.dataFlaws k x d p)).isSome, p.covered[instr]? with
  | false, some t =>
    if instr < pr.instr then none
    else
      let vs := p.ins.map (s.viewOf k x d)
      let old : Progress := if instr = pr.instr then pr else {}
      match s.readUnits (p.units k x d vs (l ++ (if groups = 0 then [] else [t]))) with
      | (_, false) => none
      | (s, true) =>
        let outs := (resumed pr l).map fun (t, pr) => (t, s.computeTile k x d p vs pr t)
        match s.writeTiles k x d p outs with
        | ((_, false), _) => none
        | ((s, true), wide) =>
          let top := match (p.chans t).head?, (p.rows t).head?, (p.cols t).head? with
            | some c, some y, some x => (s.elemAt k p vs t c y x).groups
            | _, _, _ => 0
          if p.parts ≤ 1 ∧ old.groups < groups ∧ groups < top then
            some (s, ⟨instr, step, groups, s.partials k p vs t old groups⟩, wide)
          else some (s, { old with instr := instr }, wide)
  | _, _ => none

end Sys2Proof.Machine
end

