-- ==== Sys2Proof/Machine/CorePlan.lean ====
section
/-! DEFINITION. The tensor commands of the inspection cores: their descriptors' conditions, and the plan of what each reads and computes
(R253 to R273, R276, R288 to R300). -/

namespace Sys2Proof.Machine

/-! ## Window geometry -/

/-- The output size of an axis (R290). -/
def outSize (n k d s lo hi : Nat) : Nat :=
  if n = 0 ∨ n + lo + hi < d * (k - 1) + 1 then 0 else (n + lo + hi - d * (k - 1) - 1) / s + 1

/-- The paddings of zero "same" (R291). -/
def samePad (n k d s : Nat) : Nat × Nat :=
  let total := ((n + s - 1) / s - 1) * s + d * (k - 1) + 1 - n
  if n = 0 then (0, 0) else ((total + 1) / 2, total / 2)

/-- The mirror map (R292). -/
def mir (i : Int) (n : Nat) : Nat :=
  if n ≤ 1 then 0
  else
    let p : Int := 2 * ((n : Int) - 1)
    let j := (i % p).toNat
    if j < n then j else (p.toNat - j)

/-- The fields of a window command (R260). -/
structure Win where
  kh : Nat
  kw : Nat
  sy : Nat
  sx : Nat
  dy : Nat
  dx : Nat
  pt : Nat
  pb : Nat
  pl : Nat
  pr : Nat
  mode : Nat
  h : Nat
  w : Nat
deriving DecidableEq, Repr

/-- GEOM at a byte: W and H. -/
def geomW (d : List Byte) (i : Nat) : Nat := bits (dLe d i 5) 0 18
def geomH (d : List Byte) (i : Nat) : Nat := bits (dLe d i 5) 18 17

/-- The window of a descriptor, its paddings derived for modes 0 and 1 (R290, R291). -/
def readWin (d : List Byte) : Win :=
  let v := dLe d 45 4
  let mode := bits (dByte d 2) 2 3
  let h := geomH d 40
  let w := geomW d 40
  let kh := bits v 0 5
  let kw := bits v 5 5
  let sy := bits v 10 4 + 1
  let sx := bits v 14 4 + 1
  let dy := bits v 18 6 + 1
  let dx := bits v 24 6 + 1
  let (pt, pb) := if mode = 1 then samePad h kh dy sy else if mode = 0 then (0, 0) else (dByte d 49, dByte d 50)
  let (pl, pr) := if mode = 1 then samePad w kw dx sx else if mode = 0 then (0, 0) else (dByte d 51, dByte d 52)
  ⟨kh, kw, sy, sx, dy, dx, pt, pb, pl, pr, mode, h, w⟩

def Win.outH (g : Win) : Nat := outSize g.h g.kh g.dy g.sy g.pt g.pb
def Win.outW (g : Win) : Nat := outSize g.w g.kw g.dx g.sx g.pl g.pr

/-- A tap along one axis: the element it reads, or nothing for a zero or constant padding tap (R290, R292). -/
def tapAt (mode : Nat) (i : Int) (n : Nat) : Option Nat :=
  if 0 ≤ i ∧ i < n then some i.toNat
  else if mode = 4 then some (mir i n)
  else if mode = 5 then some (clampI 0 ((n : Int) - 1) i).toNat
  else none

/-- The tap rows and columns of an output element, in order. -/
def Win.tapY (g : Win) (y : Nat) : List (Option Nat) :=
  (List.range g.kh).map fun (ky : Nat) => tapAt g.mode ((y : Int) * g.sy - g.pt + (ky : Int) * g.dy) g.h
def Win.tapX (g : Win) (x : Nat) : List (Option Nat) :=
  (List.range g.kw).map fun (kx : Nat) => tapAt g.mode ((x : Int) * g.sx - g.pl + (kx : Int) * g.dx) g.w

/-- The rows and columns that output rows and columns read, padding excluded (R256). -/
def Win.readY (g : Win) (ys : List Nat) : List Nat := (ys.flatMap fun y => (g.tapY y).filterMap id).eraseDups
def Win.readX (g : Win) (xs : List Nat) : List Nat := (xs.flatMap fun x => (g.tapX x).filterMap id).eraseDups

/-- The values of an element's taps in one channel, in tap order (R261, R293, R294). -/
def Win.taps (g : Win) (get : Nat → Nat → Num) (pad : Num) (y x : Nat) : List Num :=
  (g.tapY y).flatMap fun iy => (g.tapX x).map fun ix =>
    match iy, ix with
    | some a, some b => get a b
    | _, _ => pad

/-- The value of a padding tap: code 0, +0.0, or PAD_VAL, promoted with the input (R292, R293). -/
def padNum (d : List Byte) (mode prom : Nat) : Num :=
  let f := dByte d 3 % 16
  (numOf f (if mode = 3 then dLe d 53 2 else 0)).promote prom

/-! ## Formats of commands -/

/-- A_FMT, B_FMT, OUT_FMT, WSH (R254). -/
def aFmt (d : List Byte) : Nat := dByte d 3 % 16
def bFmt (d : List Byte) : Nat := dByte d 3 / 16
def outFmt (d : List Byte) : Nat := dByte d 4 % 16
def dWsh (d : List Byte) : Nat := dByte d 4 / 16

/-- Whether an operand pair is legal (R202). -/
def pairOk (a b : Nat) : Bool :=
  if isIntFmt a then isIntFmt b || b == 2 || b == 3
  else (decide (a = 6 ∨ a = 7) && decide (b = 6 ∨ b = 7)) || (decide (a = 8 ∨ a = 9) && decide (a = b))

/-- Whether a format may be a tensor element of a vector command: an operand format, S32 or FP32 (R270, R272). -/
def elemFmt (a : Nat) : Bool := isOperand a || a == 10 || a == 11

/-- Whether OUT_FMT fits an accumulator: itself, an operand format, or FP32 from S32 (R210, R214, R259). -/
def outOk (out acc : Nat) : Bool := isOperand out || out == acc || (out == 11 && acc == 10)

/-- A value in range, as a condition of RANGE. -/
def inRange (v lo hi byte : Nat) : List Flaw := need (decide (lo ≤ v ∧ v ≤ hi)) 4 byte

/-- The conditions of the common tail: threshold, widening shift, tile shape (R256, R257). -/
def tailFlaws (d : List Byte) (widen : Bool) (lim : Nat) : List Flaw :=
  inRange (dWsh d) 0 8 4 ++ (if widen then need (decide (outFmt d = 1)) 5 4
    else need (decide (dLe d 61 2 = 0)) 4 61 ++ need (decide (dWsh d = 0)) 4 4) ++ need (decide (dByte d 63 % 16 + dByte d 63 / 16 ≤ lim)) 4 63

/-- The conditions on the output of a requantising command with accumulator format `acc` (R258, R259). -/
def outFlaws (d : List Byte) (acc : Nat) : List Flaw :=
  let widen := bit (dByte d 2) 0
  need (outOk (outFmt d) acc) 5 4 ++
    (if outFmt d = acc then need (decide (dLe d 16 4 = 0)) 4 16 ++ need (!widen) 4 2 else []) ++
    need (decide ((dLe d 24 4 ≠ 0) = widen)) 4 24

/-- The conditions on the output of a width-preserving command, which does not use WSH (R254, R258, R263, R273). -/
def keepFlaws (d : List Byte) : List Flaw :=
  let im := bit (dByte d 2) 1
  need (decide (dWsh d = 0)) 1 4 ++ need (decide (outFmt d = aFmt d) || (decide (aFmt d = 1 ∧ outFmt d = 5) && im)) 5 4 ++ need (!bit (dByte d 2) 0) 4 2 ++
    need (decide (dLe d 16 4 = 0)) 4 16 ++ need (decide ((dLe d 24 4 ≠ 0) = im)) 4 24

/-- An IN_MAP flag is set exactly where its MAP field is nonzero (R258). -/
def mapFlaws (d : List Byte) (flag byte : Nat) : List Flaw := need (decide (bit (dByte d 2) flag = (dLe d byte 4 ≠ 0))) 4 2

/-- The conditions of GEOM at byte 40 (R255, R260). -/
def geomFlaws (d : List Byte) : List Flaw :=
  inRange (geomW d 40) 0 131072 40 ++ inRange (geomH d 40) 0 65536 42 ++ reservedBits d 44 3 5

/-- Whether the Shepherd may split a command (R346). -/
def Cmd.splits (x : Job) (c : Cmd) : Bool := x.hdr.openMode && !plCs c.place && isSplitOp (dOp c.desc)

/-- The parts of a command that has been placed (R346). -/
def partsOf (x : Job) (c : Cmd) : Nat := if c.splits x then c.cores else 1

/-- The map byte of an input: the byte of its MAP field where the flag is set. -/
def mapByte (d : List Byte) (flag byte : Nat) : Nat := if bit (dByte d 2) flag then byte else 0

/-- The tail's fields in a plan. -/
def Plan.tail (p : Plan) (d : List Byte) : Plan :=
  { p with
    c0 := dByte d 55, cn := dByte d 56, y0 := dLe d 57 2, yn := dLe d 59 2, thr := dLe d 61 2
    tx := dByte d 63 % 16, ty := dByte d 63 / 16, out := outFmt d, wsh := dWsh d }

/-- The kind of a requantising command's output (R259). -/
def reqKind (d : List Byte) (acc : Nat) : OutKind := if outFmt d = acc then .plain else .requant

/-! ## Weights -/

/-- The entry of core `k`'s codebook memory into which a TABLE of job `j` loaded the codebook at a core address (R274). -/
def State.bookAt (s : State) (k j a : Nat) : Option Nat :=
  let c := s.core k
  if c.book = some j then (List.range 256).find? (fun i => decide (Tab.get 0 c.books i = a + 1)) else none

/-- A code of the codebook at a core address: from the codebook memory where a TABLE of the job loaded it from there, else from memory
(R206, R274). -/
def State.bookCode (s : State) (k j a i : Nat) : Nat :=
  match s.bookAt k j a with
  | some n => (Tab.get 0 (s.core k).codebook (16 * n + i)).toNat
  | none => ofLe (s.corePeek k (a + i) 1)

/-- The codebooks among a list of core addresses that a command reads from memory. -/
def State.booksRead (s : State) (k j : Nat) (l : List Nat) : List (Nat × Nat) :=
  (l.eraseDups.filter fun a => (s.bookAt k j a).isNone).map fun a => (a, 16)

/-- A weight: element `i` of row `r` of rows of `n` elements, at an address, through its codebook (R206, R207, R261). -/
def State.weight (s : State) (k j wgt cb b n r i : Nat) : Num :=
  let row := wgt + r * ((n * fmtBits b + 7) / 8)
  if b = 2 ∨ b = 3 then
    let y := ofLe (s.corePeek k (row + i / 2) 1)
    let code := if i % 2 = 0 then y % 16 else y / 16
    if b = 2 then numOf 2 code else .int (sx 8 (s.bookCode k j (cb + 16 * (r / 64)) code))
  else numOf b (ofLe (s.corePeek k (row + i * fmtBytes b) (fmtBytes b)))

/-! ## CONV, DWCONV and POOL -/

/-- The conditions of the window layout (R260). -/
def winFlaws (d : List Byte) : List Flaw :=
  let mode := bits (dByte d 2) 2 3
  let g := readWin d
  need (decide (mode ≤ 5)) 4 2 ++ reservedBits d 2 7 1 ++ geomFlaws d ++ reservedBits d 48 6 2 ++
    inRange g.kh 1 31 45 ++ inRange g.kw 1 31 45 ++ inRange (dLe d 36 2) 1 16384 36 ++ inRange (dLe d 38 2) 1 16384 38 ++
    (if mode < 2 then (List.range 4).flatMap fun i => need (decide (dByte d (49 + i) = 0)) 4 (49 + i) else []) ++
    (if mode = 3 then need (decide (fmtBits (aFmt d) = 16) || decide (dByte d 54 = 0)) 4 54
      else need (decide (dByte d 53 = 0)) 4 53 ++ need (decide (dByte d 54 = 0)) 4 54) ++
    mapFlaws d 1 20 ++ tailFlaws d (bit (dByte d 2) 0) 8

/-- The conditions of CONV and DWCONV, which do not use POOL_OP (R254, R260 to R262). -/
def convFlaws (d : List Byte) (deep : Bool) : List Flaw :=
  winFlaws d ++ need (pairOk (aFmt d) (bFmt d)) 5 3 ++ need (decide (bits (dByte d 2) 5 2 = 0)) 1 2 ++
    (if bFmt d = 3 then [] else need (decide (dLe d 32 4 = 0)) 4 32) ++
    (if deep then need (decide (dLe d 38 2 = dLe d 36 2)) 4 38 else []) ++ outFlaws d (if isFloatFmt (aFmt d) then 11 else 10)

/-- The input of a window or vector command at byte 8, with its map at byte 20. -/
def srcIn (d : List Byte) (c h w : Nat) : TIn := ⟨8, mapByte d 1 20, aFmt d, c, h, w, 64, dByte d 63 % 16, dByte d 63 / 16⟩

/-- A plan with the fields that every command of the common tail has. -/
def basePlan (d : List Byte) (ins : List TIn) (c h w acc : Nat)
    (elem : (Nat → Nat → Nat → Nat → Num) → List Nat → Nat → Nat → Nat → Elem) : Plan :=
  Plan.tail
    { ins := ins, c := c, h := h, w := w, c0 := 0, cn := 0, y0 := 0, yn := 0, tx := 0, ty := 0, out := 0
      kind := reqKind d acc, fpAcc := decide (acc = 11), widen := bit (dByte d 2) 0, mapOut := decide (dLe d 24 4 ≠ 0), reqs := c
      reads := fun _ c y x => (c, y, x), elem := elem } d

/-- CONV and DWCONV: sums of input codes times weights over channels and taps (R261, R262). -/
def State.convPlan (s : State) (k j : Nat) (x : Job) (d : List Byte) (parts : Nat) (deep : Bool) : Plan :=
  let g := readWin d
  let ci := dLe d 36 2
  let co := dLe d 38 2
  let fp := isFloatFmt (aFmt d)
  let n := (if deep then 1 else ci) * g.kh * g.kw
  let rowBytes := (n * fmtBits (bFmt d) + 7) / 8
  let wgt := x.addr d 28
  let cb := x.addr d 32
  let p := basePlan d [srcIn d ci g.h g.w] co g.outH g.outW (if fp then 11 else 10) fun get proms c y xx =>
    let pad := padNum d g.mode (proms.headD 0)
    let terms := (if deep then [c] else List.range ci).flatMap fun i => g.taps (get 0 i) pad y xx
    .sum ((terms.zipIdx).map fun (v, i) => v.mul fp (s.weight k j wgt cb (bFmt d) n c i))
  { p with
    parts := parts
    extra := ⟨28, co * rowBytes, false⟩ :: (if bFmt d = 3 then [⟨32, 16 * ((co + 63) / 64), false⟩] else [])
    reads := fun _ cs ys xs => (if deep then cs else List.range ci, g.readY ys, g.readX xs)
    more := fun cs => (cs.map fun c => (wgt + c * rowBytes, rowBytes)) ++
      (if bFmt d = 3 then s.booksRead k j (cs.map fun c => cb + 16 * (c / 64)) else []) }

/-- The conditions of POOL (R260, R263). -/
def poolFlaws (d : List Byte) : List Flaw :=
  let op := bits (dByte d 2) 5 2
  winFlaws d ++ need (decide (op ≠ 3)) 4 2 ++ need (isOperand (aFmt d)) 5 3 ++ need (decide (bFmt d = 0)) 1 3 ++
    need (decide (dLe d 28 4 = 0)) 4 28 ++ need (decide (dLe d 32 4 = 0)) 4 32 ++ need (decide (dLe d 38 2 = dLe d 36 2)) 4 38 ++
    (if op = 2 then outFlaws d (if isFloatFmt (aFmt d) then 11 else 10) else keepFlaws d)

/-- Whether an element beats the one kept in a maximum or minimum: a NaN is larger than every value (R263). -/
def poolAbove (a b : Num) : Bool :=
  match a, b with
  | .int i, .int j => decide (j < i)
  | a, b => if b.toFp = .nan then false else if a.toFp = .nan then true else b.toFp.lt a.toFp

/-- The extreme of taps in order; the first of equals is kept (R263). -/
def poolExtreme (isMax : Bool) : List Num → Num
  | [] => .int 0
  | v :: l => l.foldl (fun b v => if (if isMax then poolAbove v b else poolAbove b v) then v else b) v

/-- POOL: the maximum, minimum or sum of each window of one channel (R263). -/
def poolPlan (d : List Byte) : Plan :=
  let g := readWin d
  let c := dLe d 36 2
  let op := bits (dByte d 2) 5 2
  let fp := isFloatFmt (aFmt d)
  let p := basePlan d [srcIn d c g.h g.w] c g.outH g.outW (if fp then 11 else 10) fun get proms c y xx =>
    let l := g.taps (get 0 c) (padNum d g.mode (proms.headD 0)) y xx
    if op = 2 then .sum l else .val (poolExtreme (decide (op = 0)) l)
  { p with
    kind := if op = 2 then p.kind else .preserve
    reads := fun _ cs ys xs => (cs, g.readY ys, g.readX xs) }

/-! ## MATMUL -/

/-- M, N and K (R264). -/
def mmDim (d : List Byte) (i : Nat) : Nat := bits (dLe d i 3) 0 17

/-- The conditions of MATMUL (R264). -/
def matmulFlaws (d : List Byte) : List Flaw :=
  let b := bFmt d
  let code := decide (b = 2 ∨ b = 3)
  reservedBits d 2 5 3 ++ need (pairOk (aFmt d) b) 5 3 ++ need (!code || (bit (dByte d 2) 3 && bit (dByte d 2) 4)) 4 2 ++
    (if b = 3 then [] else need (decide (dLe d 36 4 = 0)) 4 36) ++ mapFlaws d 1 20 ++ mapFlaws d 2 32 ++
    ([40, 43, 46].flatMap fun i => inRange (mmDim d i) 0 65536 i ++ reservedBits d (i + 2) 1 7) ++ inRange (dLe d 49 2) 1 65535 49 ++
    need (decide (dByte d 55 = 0)) 4 55 ++ need (decide (dByte d 56 = 0)) 4 56 ++
    tailFlaws d (bit (dByte d 2) 0) 14 ++ outFlaws d (if isFloatFmt (aFmt d) then 11 else 10)

/-- MATMUL: batched products over K in ascending order (R264). -/
def State.matmulPlan (s : State) (k j : Nat) (x : Job) (d : List Byte) (parts : Nat) : Plan :=
  let m := mmDim d 40
  let n := mmDim d 43
  let kk := mmDim d 46
  let batch := dLe d 49 2
  let fp := isFloatFmt (aFmt d)
  let tr := bit (dByte d 2) 3
  let bc := bit (dByte d 2) 4
  let code := decide (bFmt d = 2 ∨ bFmt d = 3)
  let tx := dByte d 63 % 16
  let ty := dByte d 63 / 16
  let rowBytes := (kk * fmtBits (bFmt d) + 7) / 8
  let wgt := x.addr d 28
  let cb := x.addr d 36
  let a : TIn := ⟨8, mapByte d 1 20, aFmt d, batch, m, kk, 1, tx, ty⟩
  let b : TIn := ⟨28, mapByte d 2 32, bFmt d, if bc then 1 else batch, if tr then n else kk, if tr then kk else n, 1, tx, ty⟩
  let p := basePlan d (if code then [a] else [a, b]) batch m n (if fp then 11 else 10) fun get _ bb mm nn =>
    .sum ((List.range kk).map fun i => (get 0 bb mm i).mul fp
      (if code then s.weight k j wgt cb (bFmt d) kk nn i
       else if tr then get 1 (if bc then 0 else bb) nn i else get 1 (if bc then 0 else bb) i nn))
  { p with
    parts := parts, ch := 1, c0 := dLe d 51 2, cn := dLe d 53 2, reqs := n, reqOf := fun _ xx => xx
    extra := (if code then [⟨28, n * rowBytes, false⟩] else []) ++ (if bFmt d = 3 then [⟨36, 16 * ((n + 63) / 64), false⟩] else [])
    ident := if kk = 0 ∧ 0 < m ∧ 0 < n then some .sum else none
    total := fun l => l.sum
    more := fun _ => if code then (wgt, n * rowBytes) :: (if bFmt d = 3 then s.booksRead k j ((List.range ((n + 63) / 64)).map fun g => cb + 16 * g) else []) else []
    reads := fun i bs ms ns =>
      if i = 0 then (bs, ms, List.range kk)
      else if tr then (if bc then [0] else bs, ns, List.range kk) else (if bc then [0] else bs, List.range kk, ns) }

/-! ## ELTW -/

/-- The conditions of ELTW (R265, R266). -/
def eltwFlaws (d : List Byte) : List Flaw :=
  let a := aFmt d
  let b := bFmt d
  let op := bits (dByte d 2) 3 3
  let fp := isFp a
  let zero (i : Nat) : List Flaw := need (decide (dLe d i 2 = 0)) 4 i
  let one (i : Nat) : List Flaw := need (decide (dLe d i 2 = 1)) 4 i
  need (decide (op ≤ 4)) 4 2 ++ need (decide (bits (dByte d 2) 6 2 ≠ 3)) 4 2 ++ reserved d 38 2 ++ reserved d 53 2 ++ geomFlaws d ++
    inRange (dLe d 36 2) 1 16384 36 ++ mapFlaws d 1 20 ++ mapFlaws d 2 32 ++ tailFlaws d (bit (dByte d 2) 0) 8 ++
    need ((isIntFmt a && isIntFmt b) || (isFloatFmt a && isFloatFmt b) || (decide (a = 11 ∧ b = 11)) || (decide (a = 10 ∧ b = 10 ∧ op = 0))) 5 3 ++
    (if a = 10 ∨ b = 10 then
      zero 45 ++ zero 47 ++ one 49 ++ one 51 ++ need (!bit (dByte d 2) 1) 4 2 ++ need (!bit (dByte d 2) 2) 4 2
    else if fp then zero 45 ++ zero 47 ++ zero 49 ++ zero 51
    else if op = 2 then one 49 ++ one 51 else []) ++ outFlaws d (if fp then 11 else 10)

/-- The element that ELTW forms from two (R266); `wa` and `wb` are the promotions. -/
def eltw (d : List Byte) (wa wb : Nat) (xa xb : Num) : Num :=
  let op := bits (dByte d 2) 3 3
  if aFmt d = 10 then .int (wrap32 (xa.toInt + xb.toInt))
  else if isFp (aFmt d) then
    let a := xa.toFp
    let b := xb.toFp
    .fp (match op with
      | 0 => fp32Add a b
      | 1 => fp32Add a b.neg
      | 2 => fp32Mul a b
      | 3 => fpExtreme true a b
      | _ => fpExtreme false a b)
  else
    let da := xa.toInt - sx 16 (dLe d 45 2) * 2 ^ wa
    let db := xb.toInt - sx 16 (dLe d 47 2) * 2 ^ wb
    let u := max wa wb
    let ta := da * sx 16 (dLe d 49 2) * 2 ^ (u - wa)
    let tb := db * sx 16 (dLe d 51 2) * 2 ^ (u - wb)
    .int (wrap32 (match op with
      | 0 => ta + tb
      | 1 => ta - tb
      | 2 => da * db
      | 3 => max ta tb
      | _ => min ta tb))

/-- ELTW: two tensors combined element by element (R265, R266). -/
def eltwPlan (d : List Byte) : Plan :=
  let c := dLe d 36 2
  let h := geomH d 40
  let w := geomW d 40
  let bc := bits (dByte d 2) 6 2
  let tx := dByte d 63 % 16
  let ty := dByte d 63 / 16
  let a := srcIn d c h w
  let b : TIn := ⟨28, mapByte d 2 32, bFmt d, if bc = 2 then 1 else c, if bc = 0 then h else 1, if bc = 0 then w else 1, 64, tx, ty⟩
  let p := basePlan d [a, b] c h w (if isFp (aFmt d) then 11 else 10) fun get proms c y xx =>
    .val (eltw d (proms[0]?.getD 0) (proms[1]?.getD 0) (get 0 c y xx)
      (get 1 (if bc = 2 then 0 else c) (if bc = 0 then y else 0) (if bc = 0 then xx else 0)))
  { p with
    total := fun l => if bits (dByte d 2) 3 3 = 2 then l.sum else l.foldl max 0
    reads := fun i cs ys xs =>
      if i = 0 ∨ bc = 0 then (cs, ys, xs) else if bc = 1 then (cs, [0], [0]) else ([0], [0], [0]) }

/-! ## ACT, SFU, REQ, RESIZE and REDUCE -/

/-- The conditions that the vector commands share (R267). -/
def vecFlaws (d : List Byte) : List Flaw :=
  need (elemFmt (aFmt d)) 5 3 ++ need (decide (bFmt d = 0)) 1 3 ++ inRange (dLe d 36 2) 1 16384 36 ++ reserved d 38 2 ++ geomFlaws d ++
    mapFlaws d 1 20 ++ tailFlaws d (bit (dByte d 2) 0) 8

/-- An input element as ACT and SFU take it: dequantised and rounded once to FP32 (R267). -/
def dequant (d : List Byte) (u : Nat) (x : Num) : Fp :=
  match x with
  | .int i => toFp32 (((Fp.ofInt (i - sx 16 (dLe d 45 2) * 2 ^ u)).mul (fpValue 11 (dLe d 47 4))).scale (-(u : Int)))
  | .fp x => toFp32 x

/-- The conditions of ACT and SFU: the function, IN_SCALE (R267 to R269). -/
def funcFlaws (d : List Byte) (top : Nat) : List Flaw :=
  vecFlaws d ++ need (decide (dByte d 2 / 4 ≤ top)) 4 2 ++
    (if isFp (aFmt d) then need (decide (dLe d 47 4 = 0)) 4 47
    else need (match fpValue 11 (dLe d 47 4) with
      | .num s m _ => !s && decide (m ≠ 0)
      | _ => false) 4 47) ++ reserved d 51 4 ++ outFlaws d 11

/-- ACT: an activation function in FP32 (R268). -/
def actPlan (d : List Byte) : Plan :=
  let p := basePlan d [srcIn d (dLe d 36 2) (geomH d 40) (geomW d 40)] (dLe d 36 2) (geomH d 40) (geomW d 40) 11 fun get proms c y xx =>
    .val (.fp (activate (dByte d 2 / 4) (fpValue 11 (dLe d 28 4)) (fpValue 11 (dLe d 32 4)) (dequant d (proms.headD 0) (get 0 c y xx))))
  { p with total := fun _ => 0 }

/-- SFU: a special function in FP32 (R269). -/
def sfuPlan (d : List Byte) : Plan :=
  let p := basePlan d [srcIn d (dLe d 36 2) (geomH d 40) (geomW d 40)] (dLe d 36 2) (geomH d 40) (geomW d 40) 11 fun get proms c y xx =>
    .val (.fp (sfu (dByte d 2 / 4) (dequant d (proms.headD 0) (get 0 c y xx))))
  { p with total := fun _ => 0 }

/-- The accumulator format of REQ, REDUCE and RESIZE (R270 to R272). -/
def vecAcc (d : List Byte) : Nat := if isFp (aFmt d) then 11 else 10

/-- The conditions of REQ (R270). -/
def reqFlaws (d : List Byte) : List Flaw := vecFlaws d ++ reservedBits d 2 2 6 ++ reserved d 28 8 ++ reserved d 47 8 ++ outFlaws d (vecAcc d)

/-- An element less its zero point at its promotion; floating-point elements as they are (R270 to R272). -/
def lessZp (d : List Byte) (u : Nat) (x : Num) : Num :=
  match x with
  | .int i => .int (i - sx 16 (dLe d 45 2) * 2 ^ u)
  | .fp x => .fp x

/-- An element of REQ and REDUCE: less its zero point, S32 elements as they are (R270, R272). -/
def centred (d : List Byte) (u : Nat) (x : Num) : Num := if aFmt d = 10 then x else lessZp d u x

/-- REQ: requantisation (R270). -/
def reqPlan (d : List Byte) : Plan :=
  basePlan d [srcIn d (dLe d 36 2) (geomH d 40) (geomW d 40)] (dLe d 36 2) (geomH d 40) (geomW d 40) (vecAcc d) fun get proms c y xx =>
    .val (centred d (proms.headD 0) (get 0 c y xx))

/-- The conditions of RESIZE (R271). -/
def resizeFlaws (d : List Byte) : List Flaw :=
  let none := decide (geomW d 40 = 0 ∨ geomH d 40 = 0)
  let ow := bits (dLe d 47 5) 0 18
  let oh := bits (dLe d 47 5) 18 17
  vecFlaws d ++ reservedBits d 2 3 5 ++ reserved d 28 8 ++ reservedBits d 51 3 5 ++ reserved d 52 3 ++
    (if none then inRange ow 0 0 47 ++ inRange oh 0 0 49 else inRange ow 1 131072 47 ++ inRange oh 1 65536 49) ++
    (if bit (dByte d 2) 2 then outFlaws d (vecAcc d) else keepFlaws d)

/-- The source of a bilinear output coordinate: its two elements and the fraction in 128ths (R271). -/
def bilinear (x n m : Nat) : Nat × Nat × Nat :=
  let q := (clampI 0 (((n : Int) - 1) * 65536) ((((2 * x + 1) * n * 65536 / (2 * m) : Nat) : Int) - 32768)).toNat
  (q / 65536, min (q / 65536 + 1) (n - 1), (rne ((q % 65536 : Nat) : Int) 9).toNat)

/-- RESIZE: nearest or bilinear (R271). -/
def resizePlan (d : List Byte) : Plan :=
  let c := dLe d 36 2
  let h := geomH d 40
  let w := geomW d 40
  let ow := bits (dLe d 47 5) 0 18
  let oh := bits (dLe d 47 5) 18 17
  let lin := bit (dByte d 2) 2
  let near (x n m : Nat) : Nat := (2 * x + 1) * n / (2 * m)
  let fp := isFp (aFmt d)
  let p := basePlan d [srcIn d c h w] c oh ow (vecAcc d) fun get proms c y xx =>
    if lin then
      let (y0, y1, fy) := bilinear y h oh
      let (x0, x1, fx) := bilinear xx w ow
      let term (yy xs wy wx : Nat) : Num := (lessZp d (proms.headD 0) (get 0 c yy xs)).mul fp (.int ((wy * wx : Nat) : Int))
      .sum [term y0 x0 (128 - fy) (128 - fx), term y0 x1 (128 - fy) fx, term y1 x0 fy (128 - fx), term y1 x1 fy fx]
    else .val (get 0 c (near y h oh) (near xx w ow))
  { p with
    kind := if lin then p.kind else .preserve
    reads := fun _ cs ys xs =>
      if lin then (cs, (ys.flatMap fun y => [(bilinear y h oh).1, (bilinear y h oh).2.1]).eraseDups,
        (xs.flatMap fun x => [(bilinear x w ow).1, (bilinear x w ow).2.1]).eraseDups)
      else (cs, (ys.map fun y => near y h oh).eraseDups, (xs.map fun x => near x w ow).eraseDups) }

/-- The conditions of REDUCE (R272). -/
def reduceFlaws (d : List Byte) : List Flaw :=
  vecFlaws d ++ reservedBits d 2 7 1 ++ need (decide (bits (dByte d 2) 2 3 ≤ 4)) 4 2 ++ reserved d 28 8 ++ reserved d 47 8 ++
    (if bits (dByte d 2) 5 2 = 3 then need (decide (dByte d 55 = 0)) 4 55 ++ need (decide (dByte d 56 = 1)) 4 56 else []) ++
    (if aFmt d = 10 then need (decide (dLe d 45 2 = 0)) 4 45 ++ need (!bit (dByte d 2) 1) 4 2 else []) ++ outFlaws d (vecAcc d)

/-- REDUCE over terms: SUM and MEAN, MAX, MIN, SUMSQ (R272). -/
def reduceTerms (fp : Bool) (op : Nat) (l : List Num) : Elem :=
  match op with
  | 0 | 1 => .sum l
  | 4 => .sum (l.map fun t => t.mul fp t)
  | _ =>
    match l with
    | [] => .val (.int 0)
    | t :: l =>
      if fp then .val (.fp (l.foldl (fun a b => fpExtreme (decide (op = 2)) a b.toFp) t.toFp))
      else .val (.int (l.foldl (fun a b => if op = 2 then max a b.toInt else min a b.toInt) t.toInt))

/-- REDUCE: a reduction over the chosen axes (R272, R297). -/
def reducePlan (d : List Byte) (parts : Nat) : Plan :=
  let c := dLe d 36 2
  let h := geomH d 40
  let w := geomW d 40
  let op := bits (dByte d 2) 2 3
  let ax := bits (dByte d 2) 5 2
  let p := basePlan d [srcIn d c h w] (if ax = 3 then 1 else c) (if ax = 1 ∨ ax = 2 then 1 else h) (if ax = 0 ∨ ax = 2 then 1 else w)
    (vecAcc d) fun get proms co y xx =>
      let at_ (i j l : Nat) : Num := centred d (proms.headD 0) (get 0 i j l)
      let terms := match ax with
        | 0 => (List.range w).map fun i => at_ co y i
        | 1 => (List.range h).map fun i => at_ co i xx
        | 2 => (List.range h).flatMap fun j => (List.range w).map fun i => at_ co j i
        | _ => (List.range c).map fun i => at_ i y xx
      reduceTerms (isFp (aFmt d)) op terms
  let gone : Bool := match ax with
    | 0 => decide (w = 0)
    | 1 => decide (h = 0)
    | 2 => decide (w = 0 ∨ h = 0)
    | _ => false
  { p with
    parts := parts
    ident := if gone && !p.empty then some (if op = 2 then .max else if op = 3 then .min else .sum) else none
    total := fun l => if op = 4 then 2 * l.headD 0 else l.headD 0
    reads := fun _ cs ys xs =>
      match ax with
      | 0 => (cs, ys, List.range w)
      | 1 => (cs, List.range h, xs)
      | 2 => (cs, List.range h, List.range w)
      | _ => (List.range c, ys, xs) }

/-! ## COPY -/

/-- The conditions of COPY (R273). -/
def copyFlaws (d : List Byte) : List Flaw :=
  let ow := bits (dLe d 45 5) 0 18
  let oh := bits (dLe d 45 5) 18 17
  let x0 := bits (dLe d 50 5) 0 18
  let y0 := bits (dLe d 50 5) 18 17
  need (elemFmt (aFmt d)) 5 3 ++ need (decide (bFmt d = 0)) 1 3 ++ need (decide (bits (dByte d 2) 0 1 = 0)) 1 2 ++ reservedBits d 2 2 6 ++
    reserved d 16 4 ++ reserved d 28 8 ++ reserved d 38 2 ++ inRange (dLe d 36 2) 1 16384 36 ++ geomFlaws d ++
    reservedBits d 49 3 5 ++ reservedBits d 54 3 5 ++ inRange ow 0 131072 45 ++ inRange oh 0 65536 47 ++
    need (decide (x0 + ow ≤ geomW d 40)) 4 50 ++ need (decide (y0 + oh ≤ geomH d 40)) 4 52 ++ mapFlaws d 1 20 ++
    tailFlaws d false 8 ++ keepFlaws d

/-- COPY: a window of the input, unchanged (R273). -/
def copyPlan (d : List Byte) : Plan :=
  let x0 := bits (dLe d 50 5) 0 18
  let y0 := bits (dLe d 50 5) 18 17
  let p := basePlan d [srcIn d (dLe d 36 2) (geomH d 40) (geomW d 40)] (dLe d 36 2) (bits (dLe d 45 5) 18 17) (bits (dLe d 45 5) 0 18) 10
    fun get _ c y xx => .val (get 0 c (y0 + y) (x0 + xx))
  { p with
    kind := .preserve, widen := false
    reads := fun _ cs ys xs => (cs, ys.map (y0 + ·), xs.map (x0 + ·)) }

/-! ## NEAR -/

/-- The conditions of NEAR (R276). -/
def nearFlaws (d : List Byte) : List Flaw :=
  let merge := bit (dByte d 2) 0
  reservedBits d 2 1 7 ++ need (decide (aFmt d = 1)) 5 3 ++ need (decide (bFmt d = 10)) 5 3 ++ need (decide (outFmt d = 10)) 5 4 ++
    need (decide (dWsh d = 0)) 1 4 ++ reserved d 20 16 ++ reserved d 38 2 ++ reserved d 47 8 ++ geomFlaws d ++
    inRange (dLe d 36 2) 1 256 36 ++ (if merge then inRange (dByte d 46) 2 16 46 else inRange (dByte d 46) 1 255 46) ++
    need (decide (dByte d 55 = 0)) 4 55 ++ need (decide (dByte d 56 = 0)) 4 56 ++ need (decide (dLe d 61 2 = 0)) 4 61 ++
    need (decide (dByte d 63 % 16 + dByte d 63 / 16 ≤ 8)) 4 63

/-- A segment of a bank (R275): address, first index, count. -/
structure Segment where
  addr : Nat
  first : Nat
  count : Nat
deriving DecidableEq, Repr

/-- Segment `i` of the bank table at a core address. -/
def State.segment (s : State) (k a i : Nat) : Segment :=
  let b := s.corePeek k (a + 64 + 16 * i) 16
  ⟨dLe b 0 8, dLe b 8 4, dLe b 12 4⟩

/-- Whether a bank table is legal and fits the descriptor: D, and SEG0 and NSEG within its segments (R275, R276). -/
def State.bankOk (s : State) (k a : Nat) : Bool :=
  let b := s.corePeek k a 64
  let n := dLe b 8 2
  decide (dByte b 0 = 1 ∧ dByte b 1 = 0 ∧ 1 ≤ dLe b 2 2 ∧ dLe b 2 2 ≤ 256 ∧ dLe b 4 4 ≤ 1048576 ∧ 1 ≤ n ∧ n ≤ 256) && dZero b 10 54 &&
    (List.range n).all fun i =>
      let g := s.segment k a i
      decide (g.addr % 64 = 0 ∧ g.addr < 2 ^ 38 ∧ g.first + g.count ≤ dLe b 4 4)

/-- Bytes of a bank vector (R275). -/
def vecBytes (n : Nat) : Nat := 64 * ((n + 63) / 64)

/-- The nearer of two results: lower distance, then lower index (R277). -/
def nearer (a b : Nat × Nat) : Nat × Nat := if b.1 < a.1 ∨ (b.1 = a.1 ∧ b.2 < a.2) then b else a

/-- The output plan of NEAR: two S32 planes in one channel tile. -/
def nearPlan (d : List Byte) (f : Nat → Nat → Nat × Nat) (ins : List TIn) (extra : List Ext) : Plan :=
  let p := basePlan d ins 2 (geomH d 40) (geomW d 40) 10 fun _ _ c y xx =>
    .val (.int (sx 32 (if c = 0 then (f y xx).1 else (f y xx).2)))
  { p with kind := .plain, widen := false, mapOut := false, extra := extra }

/-- NEAR_SEARCH: the nearest bank vector for each query; the conditions on its bank and its plan (R277). -/
def State.searchPlan (s : State) (k : Nat) (x : Job) (d : List Byte) : List Flaw × Plan :=
  let bank := x.addr d 16
  let n := dLe (s.corePeek k bank 64) 8 2
  let dim := dLe d 36 2
  let segs := (tileSpan (dByte d 45) (dByte d 46) n).map (s.segment k bank)
  let q : TIn := ⟨8, 0, 1, dim, geomH d 40, geomW d 40, 64, dByte d 63 % 16, dByte d 63 / 16⟩
  let v : TView := ⟨q, x.addr d 8, 0, []⟩
  let dist (y xx a : Nat) : Nat := ((List.range dim).map fun j =>
    let e := (s.element k v 0 j y xx).toInt - sx 8 (ofLe (s.corePeek k (a + j) 1))
    (e * e).toNat).sum
  let f (y xx : Nat) : Nat × Nat := segs.foldl (fun b g => (List.range g.count).foldl (fun b j =>
    nearer b (dist y xx (g.addr + j * vecBytes dim), (g.first + j) % 2 ^ 32)) b) (0x7FFFFFFF, 0xFFFFFFFF)
  let tableOk := s.coreBad k bank 64 || s.bankOk k bank
  let bankExt : Ext := ⟨16, 64 + 16 * n, false⟩
  let read := x.extOk d bankExt && s.bankOk k bank
  let p0 := nearPlan d f [q] [bankExt]
  let p : Plan := { p0 with
    reads := fun _ _ ys xs => (List.range dim, ys, xs)
    more := fun _ => (bank, 64 + 16 * n) :: segs.map fun g => (g.addr, g.count * vecBytes dim) }
  let dst := x.addr d 12
  ((if x.extOk d ⟨16, 64, false⟩ then need tableOk 4 16 else []) ++
    (if read then
      need (decide (dim = dLe (s.corePeek k bank 64) 2 2)) 4 36 ++ need (decide (dByte d 45 + dByte d 46 ≤ n)) 4 46 ++
        (segs.flatMap fun g => need (decide (g.count = 0) || coreMay false g.addr (g.count * vecBytes dim)) 7 16 ++
          need (!(decide (0 < p.c * p.h * p.row) && decide (dst < g.addr + g.count * vecBytes dim ∧ g.addr < dst + p.c * p.h * p.row))) 6 12)
    else []), p)

/-- NEAR_SEARCH as a core carries it out. -/
def State.nearSearch (s : State) (k : Nat) (x : Job) (d : List Byte) (flaws : List Flaw) : State × Ran :=
  let (more, p) := s.searchPlan k x d
  s.runPlan k x d p (flaws ++ more)

/-- NEAR_MERGE: shard results merged by lowest distance, then lowest index; its plan (R277). -/
def State.mergePlan (s : State) (k : Nat) (x : Job) (d : List Byte) : Plan :=
  let n := dByte d 46
  let h := geomH d 40
  let w := geomW d 40
  let q : TIn := ⟨8, 0, 10, 2 * n, h, w, 64, dByte d 63 % 16, dByte d 63 / 16⟩
  let v : TView := ⟨q, x.addr d 8, 0, []⟩
  let code (c y xx : Nat) : Nat := toU 32 (s.element k v 0 c y xx).toInt
  let f (y xx : Nat) : Nat × Nat :=
    ((List.range n).map fun i => (code (2 * i) y xx, code (2 * i + 1) y xx)).foldl (fun (b : Option (Nat × Nat)) r =>
      match b with
      | some a => some (if sx 32 r.1 < sx 32 a.1 ∨ (r.1 = a.1 ∧ r.2 < a.2) then r else a)
      | none => some r) none |>.getD (0, 0)
  { (nearPlan d f [q] []) with reads := fun _ _ ys xs => (List.range (2 * n), ys, xs) }

/-- NEAR_MERGE as a core carries it out. -/
def State.nearMerge (s : State) (k : Nat) (x : Job) (d : List Byte) (flaws : List Flaw) : State × Ran :=
  s.runPlan k x d (s.mergePlan k x d) flaws

/-! ## The plan of a command -/

/-- The conditions and the plan of a tensor command that is no NEAR (R253). -/
def State.planOf (s : State) (k j : Nat) (x : Job) (c : Cmd) : Option (List Flaw × Plan) :=
  let d := c.desc
  match dOp d with
  | 0x01 => some (convFlaws d false, s.convPlan k j x d (partsOf x c) false)
  | 0x02 => some (convFlaws d true, s.convPlan k j x d (partsOf x c) true)
  | 0x03 => some (matmulFlaws d, s.matmulPlan k j x d (partsOf x c))
  | 0x04 => some (poolFlaws d, poolPlan d)
  | 0x05 => some (eltwFlaws d, eltwPlan d)
  | 0x06 => some (funcFlaws d 10, actPlan d)
  | 0x07 => some (reqFlaws d, reqPlan d)
  | 0x08 => some (resizeFlaws d, resizePlan d)
  | 0x09 => some (reduceFlaws d, reducePlan d (partsOf x c))
  | 0x0A => some (funcFlaws d 3 ++ reserved d 28 8, sfuPlan d)
  | 0x0D => some (copyFlaws d, copyPlan d)
  | _ => none

/-- The groups in the reduction of one output element (R204, R346). -/
def groupCount (d : List Byte) : Nat :=
  let g := readWin d
  let n := match dOp d with
    | 0x01 => dLe d 36 2 * g.kh * g.kw
    | 0x02 => g.kh * g.kw
    | 0x03 => mmDim d 46
    | _ => match bits (dByte d 2) 5 2 with
      | 0 => geomW d 40
      | 1 => geomH d 40
      | 2 => geomH d 40 * geomW d 40
      | _ => dLe d 36 2
  (n + 63) / 64

end Sys2Proof.Machine
end

