-- ==== Sys2Proof/Machine/LambConv.lean ====
section
/-! DEFINITION. Lamb engine layers: the LB_CONV descriptor, its conditions, and what a layer computes and writes (R224 to R228, R235, R236,
R240). -/

namespace Sys2Proof.Machine

/-! ## Descriptors -/

/-- The fields of an LB_CONV descriptor (R240). -/
structure LbConv where
  stream : Bool
  emit : Bool
  relu : Bool
  pool : Bool
  mode : Nat
  tile : Bool
  inMap : Bool
  aFmt : Nat
  wFmt : Nat
  out : Nat
  kh : Nat
  kw : Nat
  stride : Nat
  same : Bool
  ci : Nat
  co : Nat
  w : Nat
  h : Nat
  src : Nat
  dst : Nat
  wgt : Nat
  req : Nat
  map : Nat
deriving DecidableEq, Repr

/-- The fields read from 64 bytes. -/
def readLb (d : List Byte) : LbConv :=
  let f := dByte d 2
  { stream := bit f 0, emit := bit f 1, relu := bit f 2, pool := bit f 3, mode := bits f 4 2, tile := bit f 6, inMap := bit f 7
    aFmt := dByte d 3 % 16, wFmt := dByte d 3 / 16, out := dByte d 4 % 16, kh := bits (dByte d 5) 0 3, kw := bits (dByte d 5) 3 3
    stride := 2 ^ bits (dByte d 6) 0 2, same := bit (dByte d 6) 2, ci := dLe d 8 2, co := dLe d 10 2, w := dLe d 12 4, h := dLe d 16 4
    src := dLe d 20 8, dst := dLe d 28 8, wgt := dLe d 36 8, req := dLe d 44 8, map := dLe d 52 8 }

/-- Bytes of the weights, packed without rows (R224, R225). -/
def LbConv.weightBytes (g : LbConv) : Nat := (g.co * g.ci * g.kh * g.kw * fmtBits g.wFmt + 7) / 8

/-- The conditions of an LB_CONV descriptor by itself; `slot` for a stem slot, the only place of STREAM = 1 (R224, R225, R235, R240). -/
def lbConvFlaws (d : List Byte) (slot : Bool) : List Flaw :=
  let g := readLb d
  let odd (n : Nat) : Bool := n == 1 || n == 3 || n == 5 || n == 7
  let head := decide (4 < g.ci)
  need (decide (bits (dByte d 1) 0 4 = 1)) 2 1 ++ reservedBits d 1 4 4 ++ reservedBits d 4 4 4 ++ reservedBits d 5 6 2 ++ reservedBits d 6 3 5 ++
    reserved d 7 1 ++ reserved d 60 4 ++ need (isIntFmt g.aFmt && (g.wFmt == 1 || g.wFmt == 2)) 5 3 ++ need (isIntFmt g.out) 5 4 ++
    need (decide (g.stream = slot)) 4 2 ++ need (!(g.stream && g.inMap)) 4 2 ++ need (decide (g.mode ≠ 3)) 4 2 ++
    need (decide (g.mode = 0) || head) 4 2 ++ need (odd g.kh && odd g.kw) 4 5 ++ need (decide (g.stride ≠ 8)) 4 6 ++
    inRange g.ci 1 1024 8 ++ inRange g.co 1 (if head then 32 else 64) 10 ++ need (decide (g.weightBytes ≤ 32768)) 4 8 ++
    (if g.stream then need (decide (g.src = 0)) 4 20 ++ need (decide (g.dst = 0)) 4 28
    else if g.tile then [] else inRange g.w 1 131072 12 ++ inRange g.h 1 65536 16) ++
    (if g.inMap then [] else need (decide (g.map = 0)) 4 52)

/-- The words of a race's stem slot (R245). -/
def State.stemDesc (s : State) (r : Nat) : List Byte := (List.range 16).flatMap fun i => leBytes 4 (s.fld (LB_RSTEM_DESC r i))

/-- The window of a Lamb engine layer over an input of `h` rows of `w` (R224). -/
def LbConv.win (g : LbConv) (h w : Nat) : Win :=
  let (pt, pb) := if g.same then samePad h g.kh 1 g.stride else (0, 0)
  let (pl, pr) := if g.same then samePad w g.kw 1 g.stride else (0, 0)
  ⟨g.kh, g.kw, g.stride, g.stride, 1, 1, pt, pb, pl, pr, if g.same then 1 else 0, h, w⟩

/-- Rows and columns of the written output, after POOL (R228). -/
def LbConv.outH (g : LbConv) (h w : Nat) : Nat := let n := (g.win h w).outH; if g.pool then n / 2 else n
def LbConv.outW (g : LbConv) (h w : Nat) : Nat := let n := (g.win h w).outW; if g.pool then n / 2 else n

/-- Bytes that the output takes: its planes under the output mode (R235, R240). -/
def LbConv.planeBytes (g : LbConv) (h w bytes : Nat) : Nat := up64 (g.outW h w * bytes) * g.outH h w
def LbConv.outBytes (g : LbConv) (h w : Nat) : Nat :=
  match g.mode with
  | 0 => g.co * g.planeBytes h w (fmtBytes g.out)
  | 1 => g.planeBytes h w 1
  | _ => g.planeBytes h w 1 + g.planeBytes h w (fmtBytes g.out)

/-- Rows of zero padding above the input: `h` is its height, and where that is not yet known there is an answer only if every height gives the
same (R291). -/
def LbConv.padTop (g : LbConv) (h : Option Nat) : Option Nat :=
  if !g.same then some 0
  else match h with
    | some h => some (samePad h g.kh 1 g.stride).1
    | none =>
      let p := (samePad g.stride g.kh 1 g.stride).1
      if (List.range g.stride).all fun i => decide ((samePad (g.stride + i) g.kh 1 g.stride).1 = p) then some p else none

/-- Cycles of FAB that a unit takes for one output row over an input of `w` columns (R226). -/
def LbConv.rowCycles (g : LbConv) (w : Nat) : Nat :=
  ((g.win 1 w).outW * g.co * g.ci * g.kh * g.kw * (fmtBits g.aFmt / 8) + 1023) / 1024 + 16

/-! ## The layer -/

/-- A weight: its place in the order [output channel][input channel][ky][kx] (R225). -/
def State.lbWeight (s : State) (g : LbConv) (i : Nat) : Int :=
  (s.weight 0 0 g.wgt 0 g.wFmt (g.co * g.ci * g.kh * g.kw) 0 i).toInt

/-- The value of an output element after requantisation and RELU, before POOL (R225, R228). -/
def State.lbElem (s : State) (g : LbConv) (win : Win) (get : Nat → Nat → Nat → Int) (u c y x : Nat) : Int :=
  let n := g.kh * g.kw
  let terms := (List.range g.ci).flatMap fun i => win.taps (fun a b => .int (get i a b)) (.int 0) y x
  let acc := wrap32 (((terms.zipIdx).map fun (v, i) => v.toInt * s.lbWeight g (c * g.ci * n + i)).sum)
  let e := readReq (s.peekN (g.req + 16 * c) 16)
  let v := (numOf g.out (requant e g.out u 0 (.int acc)).1).toInt
  if g.relu then max v e.zp else v

/-- The value of a written element: pooled 2 × 2 where POOL is set (R228). -/
def State.lbValue (s : State) (g : LbConv) (win : Win) (get : Nat → Nat → Nat → Int) (u c y x : Nat) : Int :=
  if g.pool then
    max (max (s.lbElem g win get u c (2 * y) (2 * x)) (s.lbElem g win get u c (2 * y) (2 * x + 1)))
      (max (s.lbElem g win get u c (2 * y + 1) (2 * x)) (s.lbElem g win get u c (2 * y + 1) (2 * x + 1)))
  else s.lbElem g win get u c y x

/-- The channel with the largest value, the lowest where several have it, and the value (R235). -/
def argmax (l : List Int) : Nat × Int :=
  match l with
  | [] => (0, 0)
  | v :: r => (r.zipIdx).foldl (fun b (x, i) => if b.2 < x then (i + 1, x) else b) (0, v)

/-- A row of the convolution before POOL, as values by column and channel (R231): `pad` rows of padding stand above an input of `h` rows. -/
def State.lbRow (s : State) (g : LbConv) (pad h w : Nat) (get : Nat → Nat → Int) (y : Nat) : List (List Int) :=
  let win : Win := { g.win h w with pt := pad }
  (List.range win.outW).map fun x => (List.range g.co).map fun c => s.lbElem g win (fun _ => get) 0 c y x

/-- Two rows pooled 2 × 2 (R228). -/
def poolRows (a b : List (List Int)) : List (List Int) :=
  let at_ (l : List (List Int)) (x c : Nat) : Int := ((l[x]?.getD [])[c]?).getD 0
  (List.range (a.length / 2)).map fun x => (List.range (a.headD []).length).map fun c =>
    max (max (at_ a (2 * x) c) (at_ a (2 * x + 1) c)) (max (at_ b (2 * x) c) (at_ b (2 * x + 1) c))

/-- The rows that are written, from the rows computed (R228, R231). -/
def LbConv.written (g : LbConv) (l : List (List (List Int))) : List (List (List Int)) :=
  if g.pool then (List.range (l.length / 2)).map fun k => poolRows (l[2 * k]?.getD []) (l[2 * k + 1]?.getD []) else l

/-- The values of a layer's output by row, column and channel. -/
def State.lbValues (s : State) (g : LbConv) (h w u : Nat) (get : Nat → Nat → Nat → Int) : List (List (List Int)) :=
  let win := g.win h w
  (List.range (g.outH h w)).map fun y => (List.range (g.outW h w)).map fun x => (List.range g.co).map fun c => s.lbValue g win get u c y x

/-- The output planes under the output mode: what is written from DST on (R235). -/
def LbConv.planes (g : LbConv) (v : List (List (List Int))) : List (List (List Nat)) :=
  let code (i : Int) : Nat := toU (fmtBits g.out) i
  match g.mode with
  | 0 => (List.range g.co).map fun c => v.map (·.map fun l => code (l[c]?.getD 0))
  | 1 => [v.map (·.map fun l => (argmax l).1)]
  | _ => [v.map (·.map fun l => (argmax l).1), v.map (·.map fun l => code (argmax l).2)]

/-- The planes are written, row by row; bytes between a row's end and the next row are left: `false` where a part-write is refused. -/
def State.lbWrite (s : State) (g : LbConv) (dst h w : Nat) (v : List (List (List Int))) : State × Bool :=
  let put (bytes base : Nat) (q : State × Bool) (rows : List (List Nat)) : State × Bool :=
    (rows.zipIdx).foldl (fun (q : State × Bool) (r, y) =>
      if q.2 then q.1.write (base + y * up64 (g.outW h w * bytes)) (r.flatMap (leBytes bytes)) else q) q
  ((g.planes v).zipIdx).foldl (fun q (rows, i) =>
    match g.mode with
    | 0 => put (fmtBytes g.out) (dst + i * g.planeBytes h w (fmtBytes g.out)) q rows
    | _ => if i = 0 then put 1 dst q rows else put (fmtBytes g.out) (dst + g.planeBytes h w 1) q rows) (s, true)

/-- Rows of one output plane in TENSOR mode are written, the first of them row `y0`: `false` where a part-write is refused. -/
def State.lbPlane (s : State) (g : LbConv) (base y0 c : Nat) (rows : List (List (List Int))) : State × Bool :=
  let n := fmtBytes g.out
  (rows.zipIdx).foldl (fun (q : State × Bool) (r, y) =>
    if q.2 then q.1.write (base + (y0 + y) * up64 (r.length * n)) (r.flatMap fun l => leBytes n (toU (fmtBits g.out) (l[c]?.getD 0))) else q)
    (s, true)

/-- The largest value with its channel, ties to the lowest channel (R236). -/
def lbBest (v : List (List (List Int))) : Option (Nat × Int) :=
  v.flatten.foldl (fun (b : Option (Nat × Int)) l =>
    let m := argmax l
    match b with
    | none => some m
    | some n => if n.2 < m.2 ∨ (n.2 = m.2 ∧ m.1 < n.1) then some m else some n) none

/-- Whether the Lamb engine may read, or write, an extent: DDR5, and the shared weight store to read (R237, R240). -/
def lbMay (wr : Bool) (a n : Nat) : Bool :=
  decide (n = 0) || decide (a + n ≤ ddrSize) || (!wr && decide (swsBase ≤ a ∧ a + n ≤ swsBase + 0x800000))

/-- Whether a stem slot holds a legal descriptor for an input of `w` columns and the heights known so far (R211, R224, R240). -/
def State.stemRuns (s : State) (d : List Byte) (h w : Nat) : Bool :=
  let g := readLb d
  decide (dOp d = 0xC0) && (firstFlaw (lbConvFlaws d true)).isNone && decide (1 ≤ w ∧ w ≤ 131072 ∧ h ≤ 65536) &&
    lbMay false g.wgt g.weightBytes && lbMay false g.req (16 * g.co) &&
    (List.range g.co).all fun c => s.coreBad 0 (g.req + 16 * c) 16 || reqOk false g.out (s.peekN (g.req + 16 * c) 16)

end Sys2Proof.Machine
end

