-- ==== Sys2Proof/Machine/Pixel.lean ====
section
/-! DEFINITION. The pixel pipeline: line store, correction, illumination gain, segmentation, tiles, Graze calibration
(R153 to R175). -/

namespace Sys2Proof.Machine

/-! ## Access -/

/-- View `v` beside its registers. -/
def State.view (s : State) (v : Nat) : View := Tab.get {} s.px.views v

/-- View `v`, set. -/
def State.setView (s : State) (v : Nat) (x : View) : State := { s with px := { s.px with views := Tab.set {} s.px.views v x } }

/-- Race `r` beside its registers. -/
def State.raceSt (s : State) (r : Nat) : RaceSt := Tab.get {} s.px.races r

/-- Race `r`, set. -/
def State.setRace (s : State) (r : Nat) (x : RaceSt) : State := { s with px := { s.px with races := Tab.set {} s.px.races r x } }

/-- The tile of Tally slot `i`, while its part's rows are gathered or its tile is not yet written. -/
def State.tileOf (s : State) (i : Nat) : Option Tile := Tab.get none s.px.tiles i

/-- The tile of slot `i`, set. -/
def State.setTile (s : State) (i : Nat) (x : Option Tile) : State := { s with px := { s.px with tiles := Tab.set none s.px.tiles i x } }

/-- The streams of a view: those set up for it (R118). -/
def State.viewStreams (s : State) (v : Nat) : List Nat :=
  (List.range 16).filter fun n => decide (s.fld (IN_STRCFG_VIEW n) = v) && decide (s.fld (IN_STRGEOM_WIDTH n) ≠ 0)

/-- The streams of a view that are enabled. -/
def State.liveStreams (s : State) (v : Nat) : List Nat := (s.viewStreams v).filter fun n => s.isOn (IN_STRCFG_EN n)

/-- The stream that covers pixel `x` of a view (R154). -/
def State.streamAt (s : State) (v x : Nat) : Option Nat :=
  (s.viewStreams v).find? fun n =>
    decide (s.fld (IN_STRGEOM_X_OFS n) ≤ x) && decide (x < s.fld (IN_STRGEOM_X_OFS n) + s.fld (IN_STRGEOM_WIDTH n))

/-- The width of a view in pixels. -/
def State.viewWidth (s : State) (v : Nat) : Nat :=
  (s.viewStreams v).foldl (fun m n => max m (s.fld (IN_STRGEOM_X_OFS n) + s.fld (IN_STRGEOM_WIDTH n))) 0

/-- The pixel format of a view. -/
def State.viewFmt (s : State) (v : Nat) : Nat := match s.viewStreams v with | n :: _ => s.fld (IN_STRCFG_PIXFMT n) | [] => 0

/-- The view of entry `i` of a race's view list. -/
def State.rview (s : State) (r i : Nat) : Nat := s.fld (PX_RVIEW_VIEW r i)

/-- The segmentation view of a race (R167). -/
def State.segView (s : State) (r : Nat) : Nat := s.rview r (s.fld (PX_RCFG_SEG_N r))

/-- Whether a view delivers in PTP mode (R126). -/
def State.ptpView (s : State) (v : Nat) : Bool := s.isOn (IN_VIEWCFG_TAGMODE v)

/-- Y_OFS of a view. -/
def State.yOfs (s : State) (v : Nat) : Int := s.sfld (IN_VIEWYOFS_Y_OFS v)

/-- Row pitch of a view in 48.16 counts (R172): D of its trigger output, or PX_VPITCH. -/
def State.pitch16 (s : State) (v : Nat) : Nat :=
  if s.ptpView v then s.fld (PX_VPITCH_PITCH v) else s.trigD (s.fld (IN_VIEWCFG_TRG_OUT v))

/-- The difference of two line numbers: trigger numbers run modulo 2^32. -/
def numDiff (a b : Int) : Int := sx 32 (toU 32 (a - b))

/-- The difference of two 48.16 positions (R18). -/
def diff16 (a b : Int) : Int := sx 64 (toU 64 (a - b))

/-- The integer part of a 48.16 position in counts. -/
def int16 (p : Int) : Int := pos48 (p / 65536)

/-! ## Correction -/

/-- The largest code of a pixel format (R157). -/
def cmaxOf (fmt : Nat) : Nat := if fmt = 0 then 255 else if fmt = 1 then 1023 else if fmt = 2 then 4095 else 65535

/-- The key of a pixel in the tables. -/
def pxKey (bank v x : Nat) : Nat := bank * 2 ^ 21 + v * 2 ^ 17 + x

/-- Gain and dark offset of a pixel in a bank. -/
def State.gainOf (s : State) (bank v x : Nat) : Nat := Tab.get 16384 s.px.gain (pxKey bank v x)
def State.darkOf (s : State) (bank v x : Nat) : Int := Tab.get 0 s.px.dark (pxKey bank v x)

/-- Whether a pixel is defective in a bank (R159). -/
def State.defect (s : State) (bank v x : Nat) : Bool :=
  Tab.get false s.px.static_ (pxKey 0 v x) || Tab.get false s.px.dyn (pxKey bank v x)

/-- The bank that holds an epoch. -/
def State.bankOf (s : State) (e : Nat) : Nat := if Tab.get 0 s.px.epochs s.px.cur = e then s.px.cur else 1 - s.px.cur

/-- The raw code of pixel `x` of a line, 0 where it holds none. -/
def Line.code (l : Line) (x : Nat) : Nat := l.px[x]?.getD 0

/-- Whether pixel `x` of a line was delivered: covered by a stream whose gap bit is clear (R154). -/
def State.lives (s : State) (v : Nat) (l : Line) (x : Nat) : Bool :=
  match s.streamAt v x with
  | some n => !l.gap.testBit n
  | none => false

/-- One pixel corrected (R157). -/
def State.correct (s : State) (v bank : Nat) (l : Line) (x : Nat) : Nat :=
  let t : Int := (l.code x : Int) - s.darkOf bank v x
  (clampI 0 (cmaxOf (s.viewFmt v)) (rne (t * s.gainOf bank v x * l.gain) 28)).toNat

/-- One pixel as every consumer reads it: 0 where nothing was delivered, corrected, a defective one replaced from its nearest good
neighbours (R154, R157, R159). -/
def State.readPx (s : State) (v bank : Nat) (l : Line) (x : Nat) : Nat :=
  if !s.lives v l x then 0
  else if !s.isOn (PX_VCFG_COR_EN v) then l.code x
  else if !s.defect bank v x then s.correct v bank l x
  else
    let good (y : Nat) : Bool := s.lives v l y && !s.defect bank v y
    let left := (List.range x).reverse.find? good
    let right := ((List.range (s.viewWidth v - x - 1)).map fun d => x + 1 + d).find? good
    match left, right with
    | some a, some b => (rneDiv (((s.correct v bank l a * (b - x) + s.correct v bank l b * (x - a)) : Nat) : Int) (b - a)).toNat
    | some a, none => s.correct v bank l a
    | none, some b => s.correct v bank l b
    | none, none => 0

/-- Pixels [x0, x0 + w) of a line as read with a bank. -/
def State.readRow (s : State) (v bank : Nat) (l : Line) (x0 w : Nat) : List Nat :=
  (List.range w).map fun i => s.readPx v bank l (x0 + i)

/-- The bank of the newest epoch that a race has adopted (R158): the current one from the first adoption on. -/
def State.adoptedBank (s : State) : Nat :=
  let e := Tab.get 0 s.px.epochs s.px.cur
  if (List.range 16).any fun r => decide ((s.raceSt r).epoch = e) then s.px.cur else 1 - s.px.cur

/-- The illumination gain of an arriving line (R160). -/
def State.illuminate (s : State) (v : Nat) (l : Line) : State × Nat :=
  if !s.isOn (PX_VCFG_IL_EN v) then (s.setFld (PX_VSTAT_H_CUR v) 16384, 16384)
  else
    let k := s.fld (PX_VSTRIP_SW_LOG2 v)
    let x0 := s.fld (PX_VSTRIP_SX0 v)
    let code (x : Nat) : Nat := if s.lives v l x then l.code x else 0
    let a : Int := ((List.range (2 ^ k)).map fun i => (code (x0 + i) : Int) - s.darkOf s.adoptedBank v (x0 + i)).sum
    let m := rne a k
    let w := s.view v
    let sm := match w.sm with
      | none => m * 65536
      | some q => q + (m * 65536 - q) / 2 ^ s.fld (PX_VCFG_IL_K v)
    let s := s.setView v { w with sm := some sm }
    let s := if sm ≤ 0 then s.bump (PX_VSTAT_STRIP_BAD v) else s
    let h := if sm > 0 then (clampI 4096 65535 (rneDiv ((s.fld (PX_VSET_IL_TGT v) * 2 ^ 30 : Nat) : Int) sm.toNat)).toNat else 16384
    (s.setFld (PX_VSTAT_H_CUR v) h, h)

/-! ## The places of the line store -/

/-- Of how many pixels a line of a format must be a multiple (R120). -/
def widthStep (fmt : Nat) : Nat := if fmt = 1 then 4 else if fmt = 2 then 2 else 1

/-- Pixels of a view that some stream covers. -/
def State.covered (s : State) (v : Nat) : Nat := ((s.viewStreams v).map fun n => s.fld (IN_STRGEOM_WIDTH n)).sum

/-- Bytes of a slot of a view's ring: the header and the line, its width rounded up (R154). -/
def State.slotBytes (s : State) (v : Nat) : Nat :=
  64 + (s.viewWidth v * (if s.viewFmt v = 0 then 1 else 2) + 63) / 64 * 64

/-- Bytes of a view's tables, 12.5 for a covered pixel, and of its ring (R154). -/
def State.tableBytes (s : State) (v : Nat) : Nat := (25 * s.covered v + 1) / 2
def State.ringBytes (s : State) (v : Nat) : Nat := if s.viewStreams v = [] then 0 else s.fld (PX_VLS_LS_LINES v) * s.slotBytes v

/-- The place of slot `k` of view `v` in the line store (R155): the tables of every view first, then the rings in view order. -/
def State.slotPlace (s : State) (v k : Nat) : Nat :=
  ((((List.range 16).map s.tableBytes).sum + 63) / 64 * 64) + ((List.range v).map s.ringBytes).sum + k * s.slotBytes v

/-! ## Races, rows and tiles -/

/-- Entry `i` of a race's list as a range of pixels. -/
def State.rangeOf (s : State) (r i : Nat) : Nat × Nat := (s.fld (PX_RVIEW_X0 r i), s.fld (PX_RGEOM_W r))

/-- The streams that overlap the range of entry `i` of race `r`. -/
def State.raceStreams (s : State) (r i : Nat) : List Nat :=
  let p := s.rangeOf r i
  (s.viewStreams (s.rview r i)).filter fun n =>
    decide (s.fld (IN_STRGEOM_X_OFS n) < p.1 + p.2) &&
      decide (p.1 < s.fld (IN_STRGEOM_X_OFS n) + s.fld (IN_STRGEOM_WIDTH n))

/-- Whether some stream over the range of entry `i` has its bit in a mask. -/
def State.overlaps (s : State) (r i mask : Nat) : Bool := (s.raceStreams r i).any mask.testBit

/-- The largest number of rows of a race's tile (R172). -/
def State.hMax (s : State) (r : Nat) : Nat :=
  let n := s.pitch16 (s.segView r) / 65536
  (s.fld (PX_RLEN_LMAX r) + n - 1) / max 1 n + 1 + s.fld (PX_RCFG_MARGIN_PRE r) + s.fld (PX_RCFG_MARGIN_POST r)

/-- Rows of a tile whose run has ended. -/
def State.rowsOf (s : State) (r : Nat) (t : Tile) : Nat :=
  (numDiff t.n1 t.n0).toNat + 1 + s.fld (PX_RCFG_MARGIN_PRE r) + s.fld (PX_RCFG_MARGIN_POST r)

/-- Bytes from row to row of a race's tiles (R172). -/
def State.rowStride (s : State) (r : Nat) : Nat := (s.fld (PX_RGEOM_W r) * s.raceBytes r + 63) / 64 * 64

/-- The address of tile slot `t` of a race. -/
def State.tileAddr (s : State) (r t : Nat) : Nat := 0x100000 * s.fld (PX_RTILE_BASE r) + 0x10000 * (t * s.fld (PX_RTILE_SLOT_64K r))

/-- Where row 0 of a plane lies among its view's line numbers (R171). -/
inductive Row0
  /-- a line beyond Y0 has not yet arrived -/
  | undecided
  /-- the trigger is no longer in the log -/
  | missing
  | num (n : Int)
deriving DecidableEq, Repr

/-- The reference position, in 48.16, of a logged trigger of a view's output (R128). -/
def State.logPos (s : State) (v : Nat) (e : TrigLog) : Int := sx 64 (toU 64 ((e.pos - s.yOfs v) * 65536))

/-- t0 in the trigger log: the trigger whose logged position minus Y_OFS is the greatest not above Y0. -/
def State.logRow0 (s : State) (v : Nat) (y0 : Int) : Row0 :=
  let best := (s.trigLog (s.fld (IN_VIEWCFG_TRG_OUT v))).foldl (fun (b : Option TrigLog) e =>
    let q := s.logPos v e
    if diff16 y0 q < 0 then b
    else match b with
      | none => some e
      | some f => if diff16 q (s.logPos v f) > 0 then some e else some f) none
  match best with
  | some e => .num e.num
  | none => .missing

/-- Row 0 of entry `p` of race `r` for a tile. -/
def State.row0 (s : State) (r p : Nat) (t : Tile) : Row0 :=
  let v := s.rview r p
  if v = s.segView r ∨ s.ptpView v then .num (t.n0 - s.fld (PX_RCFG_MARGIN_PRE r))
  else
    match (s.view v).newest with
    | none => .undecided
    | some (_, top) =>
      if diff16 top t.y0 ≤ 0 then .undecided
      else
        match ((s.view v).ring.filter fun l => decide (diff16 t.y0 l.pos ≥ 0)).getLast? with
        | some l => .num l.num
        | none => s.logRow0 v t.y0

/-- The line of a view with a number, while it stands in the line store. -/
def State.lineAt (s : State) (v : Nat) (n : Int) : Option Line :=
  (s.view v).ring.find? fun l => decide (numDiff l.num n = 0) && !l.full

/-- The epoch whose bank corrects a row at position `pos` of slot `i` (R158, R166). -/
def State.rowEpoch (s : State) (i : Nat) (t : Tile) (pos : Int) : Nat :=
  match t.swap with
  | some (p, old) => if diff16 pos p < 0 then old else (s.slot i).epoch
  | none => (s.slot i).epoch

/-- A row of pixels as bytes, padded to the row stride. -/
def State.rowBytes (s : State) (r : Nat) (px : List Nat) : List Byte :=
  let b := px.flatMap fun p => leBytes (s.raceBytes r) p
  b ++ leBytes (s.rowStride r - b.length) 0

/-- Pixels of entry `p` of race `r` on a line, for slot `i`: zero on a gap row. -/
def State.partRow (s : State) (i r p : Nat) (t : Tile) (l : Line) : List Nat :=
  let v := s.rview r p
  let g := s.rangeOf r p
  s.readRow v (s.bankOf (s.rowEpoch i t l.pos)) l g.1 g.2

/-- A line of plane 0's view is written into the tile of slot `i` as it arrives (R172). -/
def State.captureRow (s : State) (i : Nat) (l : Line) : State :=
  match s.tileOf i, (s.slot i).tile with
  | some t, some ts =>
    let r := (s.slot i).race
    match s.row0 r 0 t with
    | .num n =>
      let y := numDiff l.num n
      let top := if t.ended then s.rowsOf r t else s.hMax r
      if l.full ∨ y < 0 ∨ (top : Int) ≤ y ∨ t.rows0.contains y.toNat then s
      else
        let s := s.setTile i (some { t with rows0 := y.toNat :: t.rows0 })
        let s := if s.overlaps r 0 l.filled then s.setSlot i { s.slot i with hasFilled := true } else s
        if s.writesTile r then
          let a := s.tileAddr r ts + 64 + y.toNat * s.rowStride r
          if 64 + (y.toNat + 1) * s.rowStride r ≤ 0x10000 * s.fld (PX_RTILE_SLOT_64K r) then
            (s.write a (s.rowBytes r (s.partRow i r 0 t l))).1
          else s
        else s
    | _ => s
  | _, _ => s

/-- The Tally slots of a race whose rows are gathered or whose tile is not yet written. -/
def State.raceTiles (s : State) (r : Nat) : List Nat :=
  (s.px.tiles.map Prod.fst).filter fun i => decide ((s.slot i).race = r) && decide ((s.slot i).st ≠ .free)

/-- The line read by every part of a race for plane 0; where row 0 of plane 0 has only now been decided, the lines that wait in the line store
with it (R171, R172). -/
def State.feedParts (s : State) (r v : Nat) (l : Line) : State :=
  if s.rview r 0 ≠ v then s
  else (s.raceTiles r).foldl (fun s i =>
    match s.tileOf i with
    | some t => if t.rows0 = [] then (s.view v).ring.foldl (fun s k => s.captureRow i k) s else s.captureRow i l
    | none => s) s

/-! ## Streams (R230 to R233) -/

/-- The number of a tile's row 0 in its segmentation view. -/
def State.segRow0 (s : State) (r : Nat) (t : Tile) : Int := t.n0 - s.fld (PX_RCFG_MARGIN_PRE r)

/-- Whether row `y` of a tile has arrived from the segmentation view. -/
def State.rowHere (s : State) (r : Nat) (t : Tile) (y : Nat) : Bool :=
  match (s.view (s.segView r)).newest with
  | some (n, _) => decide (numDiff n (s.segRow0 r t + (y : Int)) ≥ 0)
  | none => false

/-- The running stream of slot `i`. -/
def State.runOf (s : State) (i : Nat) : Option StreamRun := Tab.get none s.lamb.runs i
def State.setRun (s : State) (i : Nat) (x : StreamRun) : State :=
  { s with lamb := { s.lamb with runs := Tab.set none s.lamb.runs i (some x) } }

/-- The stream of slot `i` has met an uncorrectable error: its part becomes UNJUDGED (DATA_ERROR) and it is abandoned (R233). -/
def State.streamError (s : State) (i : Nat) : State := (s.abandonStream i).reasonAndCancel i .dataError

/-- Input rows from `lo` to `hi − 1` of slot `i`'s tile, read from the line store and corrected; a row that has no line there reads as zero
(R158, R231). -/
def State.streamRows (s : State) (i r lo hi : Nat) (t : Tile) : List (Nat × List Nat) :=
  (List.range (hi - lo)).map fun d =>
    (lo + d, match s.lineAt (s.segView r) (s.segRow0 r t + ((lo + d : Nat) : Int)) with
      | some l => s.partRow i r (s.fld (PX_RCFG_SEG_N r)) t l
      | none => [])

/-- The written rows of plane 0 that are new since the last write are written to the stream's output slot; the place of the further planes
depends on the tile's height (R240). -/
def State.streamPut (s : State) (i : Nat) (g : LbConv) (x : StreamRun) : State :=
  let rows := g.written x.out
  match (s.slot i).tile with
  | none => s
  | some t =>
    match s.lbPlane g (s.stemAddr (s.slot i).race t) x.put 0 (rows.drop x.put) with
    | (s, true) => s.setRun i { x with put := rows.length }
    | (s, false) => s.streamError i

/-- The next output row of slot `i`'s stream is computed, where every input row of its window is present, the unit is free and the row could begin
at or before nanosecond `limit` (R226, R231); `ready`: when the newest input row came. -/
def State.streamRow (s : State) (i ready : Nat) (limit : Option Nat) : Option State :=
  match s.runOf i, s.tileOf i with
  | some x, some t =>
    let r := (s.slot i).race
    let g := readLb (s.stemDesc r)
    let known := s.rowsOf r t
    let w := s.fld (PX_RGEOM_W r)
    let start := max x.free ready
    let soon : Bool := match limit with | some n => decide (start ≤ n) | none => true
    match g.padTop (if t.ended then some known else none) with
    | none => none
    | some pad =>
      let reach := x.next * g.stride + g.kh - pad
      let rows := if t.ended then min reach known else reach
      let left := !t.ended || decide (x.next < (g.win known w).outH)
      if !soon || !left || decide (known < rows) || !(decide (rows = 0) || s.rowHere r t (rows - 1)) then none
      else
        let held := x.rows ++ s.streamRows i r x.top rows t
        let px (y xx : Nat) : Int := match held.find? fun q => decide (q.1 = y) with
          | some q => (numOf g.aFmt (q.2[xx]?.getD 0)).toInt
          | none => (numOf g.aFmt 0).toInt
        let row := s.lbRow g pad (if t.ended then known else reach + 1) w px x.next
        let y : StreamRun := { x with
          rows := held.filter fun q => decide ((x.next + 1) * g.stride ≤ q.1 + pad)
          top := max x.top rows, next := x.next + 1, free := start + g.rowCycles w, out := x.out ++ [row] }
        some (s.streamPut i g y)
  | _, _ => none

/-- The stream of slot `i` computes the output rows that it can. -/
def State.streamRun : Nat → State → Nat → Nat → Option Nat → State
  | 0, s, _, _, _ => s
  | fuel + 1, s, i, ready, limit =>
    match s.streamRow i ready limit with
    | some t => State.streamRun fuel t i ready limit
    | none => s

/-- FAB's present cycle: nanoseconds since the cold start began (R576). -/
def State.fabNow (s : State) : Nat := 5 * s.clk.enc

/-- The rows that a stream may still compute. -/
def State.streamFuel (s : State) (i : Nat) : Nat :=
  match s.tileOf i with | some t => s.rowsOf (s.slot i).race t + 1 | none => 0

/-- The running streams over a view compute the rows that they can by now; `ready`: when their newest input row came. -/
def State.runStreams (s : State) (v ready : Nat) : State :=
  (s.lamb.runs.map Prod.fst).foldl (fun s i =>
    if s.segView (s.slot i).race = v then State.streamRun (s.streamFuel i) s i ready (some s.fabNow) else s) s

/-! ## Opening and ending a part -/

/-- A new run is not opened (R26, R172): the event names the race and the run's first position. -/
def State.refuseRun (s : State) (r code : Nat) (pos : Int) : State :=
  (s.bump FO_STAT_FULL_CNT).raise code r (toU 32 (int16 pos))

/-- Y0 of a part that opens on a line (R171): the position of the line MARGIN_PRE lines before. -/
def State.y0Of (s : State) (r : Nat) (l : Line) : Int :=
  let v := s.segView r
  let m := s.fld (PX_RCFG_MARGIN_PRE r)
  let n := l.num - m
  if s.ptpView v then sx 64 (toU 64 (n * s.fld (PX_VPITCH_PITCH v)))
  else match (s.view v).ring.find? fun k => decide (numDiff k.num n = 0) with
    | some k => k.pos
    | none =>
      match s.trigLookup (s.fld (IN_VIEWCFG_TRG_OUT v)) (toU 32 n) with
      | some e => s.logPos v e
      | none => sx 64 (toU 64 (l.pos - (m * s.pitch16 v : Nat)))

/-- A part opens on a line (R23, R165): a Tally slot and a tile slot are taken, or the run is refused; its margin rows are read from
the line store; with FEED = LAMB a stream begins to wait for a unit (R230). -/
def State.openPart (s : State) (r : Nat) (l : Line) : State :=
  let rs := s.raceSt r
  match s.allocSlot r with
  | none => (s.setRace r { rs with mode := .blocked, absent := 0 }).refuseRun r 0x0901 l.pos
  | some (i, pool) =>
    match s.freeTiles r with
    | [] => (s.setRace r { rs with mode := .blocked, absent := 0 }).refuseRun r 0x0503 l.pos
    | ts :: _ =>
      let y0 := s.y0Of r l
      let s := s.setRace r { rs with mode := .run i, absent := 0, spans := (rs.spans ++ [Span.mk y0 none none]).drop (rs.spans.length - 15) }
      let s := s.setSlot i { st := .opened, race := r, epoch := rs.epoch, pStart := int16 l.pos, pEnd := int16 l.pos, fromPool := pool,
                             tile := some ts }
      let s := (s.holdTile r ts).noteUsed
      let s := s.setTile i (some { n0 := l.num, n1 := l.num, p0 := l.pos, p1 := l.pos, y0 := y0 })
      let s : State := if s.isOn (PX_RCFG_FEED r) then
          let s := if s.lamb.units.length + s.lamb.streams.length < 4 then s else s.bump LB_STREAMCNT_WAITED
          { s with lamb := { s.lamb with streams := s.lamb.streams ++ [i] } } else s
      (s.view (s.rview r 0)).ring.foldl (fun s k => s.captureRow i k) s

/-- The span of the run that has just ended: the number of its last row. -/
def endSpan (n : Int) : List Span → List Span
  | [] => []
  | [x] => [{ x with last := some n }]
  | x :: t => x :: endSpan n t

/-- The spans of a race whose last row's line has arrived are closed at its position (R161); `pitch` carries the position back from a later line
where that line itself never came. -/
def closeSpans (pitch : Nat) (l : Line) (spans : List Span) : List Span :=
  spans.map fun x => match x.hi, x.last with
    | none, some n => if numDiff l.num n ≥ 0 then { x with hi := some (l.pos - numDiff l.num n * pitch) } else x
    | _, _ => x

/-- A part that is freed while OPEN: its Tally slot, tile slot and stream are returned (R169). -/
def State.freePart (s : State) (i : Nat) : State :=
  let x := s.slot i
  let s := match x.tile with | some t => s.dropTile x.race t | none => s
  ((s.abandonStream i).setTile i none |>.setSlot i {}).noteUsed

/-- The run of slot `i` ends with its last part line at number `n`, position `p` (R167, R169): too short a run frees its slot. -/
def State.endRun (s : State) (r i : Nat) (n : Int) (p : Int) (next : SegMode) : State :=
  let rs := s.raceSt r
  let v := s.segView r
  let spans := endSpan (n + s.fld (PX_RCFG_MARGIN_POST r)) rs.spans
  let spans := (s.view v).ring.foldl (fun x l => closeSpans (s.pitch16 v) l x) spans
  let s := s.setRace r { rs with mode := next, absent := 0, spans := spans }
  let x := s.slot i
  let s := s.setSlot i { x with pEnd := int16 p }
  let s := match s.tileOf i with | some t => s.setTile i (some { t with n1 := n, p1 := p, ended := true }) | none => s
  if posDiff (int16 p) x.pStart < (s.fld (PX_RLEN_LMIN r) : Int) then (s.freePart i).bump (PX_RSTAT_SHORT r) else s

/-! ## Closing -/

/-- Whether the last row of the tile of slot `i` has arrived from entry `p`'s view (R23, R171). -/
def State.viewDone (s : State) (r p h : Nat) (t : Tile) : Bool :=
  match s.row0 r p t with
  | .undecided => false
  | .missing => true
  | .num n =>
    match (s.view (s.rview r p)).newest with
    | none => false
    | some (m, _) => decide (numDiff m (n + (h : Int) - 1) ≥ 0)

/-- Whether a part row of some plane is absent, or a view's t0 is no longer in the log (R171). -/
def State.rowsLost (s : State) (r : Nat) (t : Tile) : Bool :=
  let m := s.fld (PX_RCFG_MARGIN_PRE r)
  let n := (numDiff t.n1 t.n0).toNat + 1
  (s.raceViews r).any fun p =>
    if s.rview r p = s.segView r then false
    else match s.row0 r p t with
      | .num q => (List.range n).any fun y =>
          if p = 0 then !t.rows0.contains (m + y) else (s.lineAt (s.rview r p) (q + ((m + y : Nat) : Int))).isNone
      | _ => true

/-- PART_CLOSE (R21, R23, R27): PSN, fire position, aim point and deadline are fixed; the part is QUEUED with its jobs submitted, or
JUDGED by the reason it carries. -/
def State.closePart (s : State) (i : Nat) : State :=
  let (s, psn) := s.takePsn
  let x := s.slot i
  let r := x.race
  let f := firePosOf x.pStart x.pEnd (s.fld (FO_RGEOM_EJECT_DIST r))
  let m := s.fld (PX_RCFG_MARGIN_PRE r)
  let (rows, parts) := match s.tileOf i with
    | some t => (s.rowsOf r t, (numDiff t.n1 t.n0).toNat + 1)
    | none => (0, 0)
  let s := s.setSlot i { x with
    st := .closed, psn := psn, firePos := f, tileH := rows, partRow0 := m, partRows := parts
    model := match s.clientOf 0 r with | some c => Tab.get 0 s.shep.model c | none => 0 }
  let s := s.reAim i
  if x.reason ≠ .none then s.judge i .unjudged x.reason
  else ((s.submitPart i).lateCheck i).cancelReasoned

/-- Slots in ascending P_start (R21). -/
def State.byStart (s : State) (l : List Nat) : List Nat :=
  l.foldl (fun l i =>
    (l.takeWhile fun k => decide (posDiff (s.slot k).pStart (s.slot i).pStart ≤ 0)) ++ [i] ++
      (l.dropWhile fun k => decide (posDiff (s.slot k).pStart (s.slot i).pStart ≤ 0))) []

/-- The parts of a race whose tile's last line has arrived from every view close, in ascending P_start (R21). -/
def State.closeParts (s : State) (r : Nat) : State :=
  let ready := (s.raceTiles r).filter fun i =>
    match s.tileOf i with
    | some t => decide ((s.slot i).st = .opened) && t.ended && ((s.raceViews r).all fun p => s.viewDone r p (s.rowsOf r t) t)
    | none => false
  (s.byStart ready).foldl (fun s i =>
    let lost := match s.tileOf i with | some t => s.rowsLost r t | none => false
    let s := if lost then (s.giveReason i .truncated).cancelReasoned else s
    s.closePart i) s

/-- The parts that are ready close, in ascending race index, whatever line closed each of them (R21). -/
def State.closeReady (s : State) : State := (List.range 16).foldl State.closeParts s

/-! ## Segmentation -/

/-- An OPEN part becomes UNJUDGED for a reason. -/
def State.spoil (s : State) (i : Nat) (why : Reason) : State := (s.giveReason i why).cancelReasoned

/-- Every OPEN part of a race over whose positions a gap marker stands becomes TRUNCATED (R131). -/
def State.gapSweep (s : State) (r : Nat) : State :=
  (s.raceTiles r).foldl (fun s i =>
    match s.tileOf i with
    | some t =>
      if (s.slot i).st = .opened ∧ ((s.raceSt r).gaps.any fun g => decide (diff16 g t.p0 ≥ 0) && decide (diff16 g t.p1 ≤ 0)) then s.spoil i .truncated
      else s
    | none => s) s

/-- Whether a line of view `v` carries a gap over the race's range in any entry of its list that names the view. -/
def State.gapOn (s : State) (r v : Nat) (l : Line) : Bool :=
  (s.raceViews r).any fun p => decide (s.rview r p = v) && s.overlaps r p l.gap

/-- A line's gap marker over a race's range is kept, as far back as a part of the race can reach, and truncates the parts OPEN at its position
(R131). -/
def State.gapParts (s : State) (r v : Nat) (l : Line) : State :=
  if s.gapOn r v l then
    let rs := s.raceSt r
    let far : Int := 65536 * (s.fld (FO_RGEOM_SPAN r) : Int)
    (s.setRace r { rs with gaps := (rs.gaps.filter fun g => decide (diff16 l.pos g ≤ far)) ++ [l.pos] }).gapSweep r
  else s

/-- The race adopts the current epoch on this line, or counts towards a forced swap (R165, R166). -/
def State.adopt (s : State) (r : Nat) (l : Line) : State :=
  let rs := s.raceSt r
  let e := Tab.get 0 s.px.epochs s.px.cur
  if rs.epoch = e then s
  else
    let openTiles := (s.raceTiles r).filter fun i => decide ((s.slot i).st = .opened)
    if openTiles.isEmpty then s.setRace r { rs with epoch := e, defer := 0 }
    else if rs.defer ≥ s.fld PX_DEFER_MAXDEFER then
      let s := s.setRace r { rs with epoch := e, defer := 0 }
      let s := openTiles.foldl (fun s i =>
        match s.tileOf i with
        | some t =>
          let x := s.slot i
          (s.setTile i (some { t with swap := some (l.pos, x.epoch) })).setSlot i { x with epoch := e, mixedEpoch := true }
        | none => s) s
      (s.bump (PX_RSTAT_FORCED r)).raise 0x0502 r e
    else s.setRace r { rs with defer := rs.defer + 1 }

/-- Whether a line is present in a race (R167). -/
def State.present (s : State) (r : Nat) (l : Line) : Bool :=
  let p := s.fld (PX_RCFG_SEG_N r)
  let v := s.rview r p
  let g := s.rangeOf r p
  let b := s.bankOf (s.raceSt r).epoch
  let n := ((List.range g.2).filter fun i =>
    let x := g.1 + i
    s.lives v l x && (let y := s.readPx v b l x; decide (y ≤ s.fld (PX_RTHR_T_LO r)) || decide (y ≥ s.fld (PX_RTHR_T_HI r)))).length
  decide (n ≥ s.fld (PX_RSEG_MINPIX r))

/-- A line belongs to the run of slot `i`; beyond LMAX it ends the part as OVERLONG (R169). -/
def State.extendRun (s : State) (r i : Nat) (l : Line) : State :=
  let x := s.slot i
  let s := s.setRace r { s.raceSt r with absent := 0 }
  let s := s.setSlot i { x with pEnd := int16 l.pos }
  let s := match s.tileOf i with | some t => s.setTile i (some { t with n1 := l.num, p1 := l.pos }) | none => s
  let s := s.gapSweep r
  if posDiff (int16 l.pos) x.pStart > (s.fld (PX_RLEN_LMAX r) : Int) then
    let s := (s.spoil i .overlong).bump (PX_RSTAT_OVERLONG r)
    s.endRun r i l.num l.pos .blocked
  else s

/-- THRESHOLD segmentation of a line (R167, R169). -/
def State.segThreshold (s : State) (r : Nat) (l : Line) : State :=
  let rs := s.raceSt r
  let here := s.present r l
  match rs.mode with
  | .idle =>
    if here then
      let s := (s.openPart r l).gapSweep r
      match (s.raceSt r).mode with
      | .run i => if rs.fresh then s.spoil i .truncated else s
      | _ => s
    else s
  | .run i =>
    let s := if s.gapOn r (s.segView r) l then s.spoil i .truncated else s
    if here then s.extendRun r i l
    else
      let n := rs.absent + 1
      if n ≥ s.fld (PX_RSEG_SEG_GAP r) then
        match s.tileOf i with
        | some t => s.endRun r i t.n1 t.p1 .idle
        | none => s.setRace r { rs with mode := .idle, absent := 0 }
      else s.setRace r { s.raceSt r with absent := n }
  | .blocked =>
    let n := if here then 0 else rs.absent + 1
    if n ≥ s.fld (PX_RSEG_SEG_GAP r) then s.setRace r { rs with mode := .idle, absent := 0 }
    else s.setRace r { rs with absent := n }

/-- The sensor edges that a line meets (R168): a rising edge at or before its position opens a part on the line, a falling edge before it ends the
run at the previous line. -/
def State.segEdges : Nat → State → Nat → Line → State
  | 0, s, _, _ => s
  | fuel + 1, s, r, l =>
    let rs := s.raceSt r
    match rs.edges with
    | [] => s
    | (true, q) :: t =>
      if diff16 l.pos (q * 65536) ≥ 0 then
        let s := s.setRace r { rs with edges := t }
        let s := if rs.mode = .idle then s.openPart r l else s
        let s := match rs.fresh, (s.raceSt r).mode with | true, .run i => s.spoil i .truncated | _, _ => s
        State.segEdges fuel s r l
      else s
    | (false, q) :: t =>
      if diff16 l.pos (q * 65536) > 0 then
        let s := s.setRace r { rs with edges := t }
        let s := match rs.mode with
          | .run i =>
            match s.tileOf i with
            | some tl => s.endRun r i tl.n1 tl.p1 .idle
            | none => s
          | _ => s.setRace r { s.raceSt r with mode := .idle }
        State.segEdges fuel s r l
      else s

/-- SENSOR segmentation of a line (R168). -/
def State.segSensor (s : State) (r : Nat) (l : Line) : State :=
  let s := State.segEdges ((s.raceSt r).edges.length + 1) s r l
  match (s.raceSt r).mode with
  | .run i => s.extendRun r i l
  | _ => s

/-- MG_WARM_GAP: the positions from a race's last line before a warm start to its first line after it (R585). -/
def State.warmGap (s : State) (r : Nat) (p : Int) : State :=
  match Tab.get none s.start.gapFrom r with
  | some q =>
    let n := posDiff p q
    let s := s.raise 0x0E05 (0x1000000 * r + min (if n < 0 then 0 else n.toNat) 0xFFFFFF) (toU 32 q)
    { s with start := { s.start with gapFrom := Tab.set none s.start.gapFrom r none } }
  | none => s

/-- A line of a race's segmentation view (R161, R165 to R169). -/
def State.segLine (s : State) (r : Nat) (l : Line) : State :=
  let s := s.adopt r l
  let s := s.setRace r { s.raceSt r with spans := closeSpans (s.pitch16 (s.segView r)) l (s.raceSt r).spans }
  let s := if s.isOn (PX_RCFG_SEGMODE r) then s.segSensor r l else s.segThreshold r l
  let s := if (s.raceSt r).fresh then s.warmGap r (int16 l.pos) else s
  s.setRace r { s.raceSt r with fresh := false, lastPos := some (int16 l.pos) }

/-- A line of a view at a race: its gaps, its segmentation, the rows read from it (R131, R167, R172). -/
def State.raceLine (s : State) (v : Nat) (l : Line) (r : Nat) : State :=
  if !s.raceOn r then s
  else
    let ps := (s.raceViews r).filter fun p => decide (s.rview r p = v)
    if ps.isEmpty then s
    else
      let s := if s.segView r = v then s.segLine r l else s
      (s.gapParts r v l).feedParts r v l

/-! ## Freeing lines, and Graze -/

/-- The largest MARGIN_PRE of the races that draw on a view (R156). -/
def State.marginPre (s : State) (v : Nat) : Nat :=
  (List.range 16).foldl (fun m r =>
    if s.raceOn r && ((s.raceViews r).any fun p => decide (s.rview r p = v)) then max m (s.fld (PX_RCFG_MARGIN_PRE r)) else m) 0

/-- Whether a stream of slot `i` has yet to read a line of its segmentation view (R232). -/
def State.streamHolds (s : State) (i v : Nat) (l : Line) : Bool :=
  match s.tileOf i with
  | none => false
  | some t =>
    let r := (s.slot i).race
    let y := numDiff l.num (s.segRow0 r t)
    let top : Int := match s.runOf i with | some x => x.top | none => 0
    s.hasStream i && decide (s.segView r = v) && decide (top ≤ y) && (!t.ended || decide (y < (s.rowsOf r t : Int)))

/-- Whether a tile still reads a line from the line store (R156, R172, R232): a plane beyond the first until the tile is written, plane 0 until
its row 0 is decided, a stream. Until a line beyond Y0 has come, the newest line is the one that may turn out to be row 0. -/
def State.lineHeld (s : State) (v : Nat) (l : Line) : Bool :=
  (s.px.tiles.map Prod.fst).any fun i =>
    match s.tileOf i with
    | none => false
    | some t =>
      let x := s.slot i
      let r := x.race
      let within (p : Nat) : Bool := match s.row0 r p t with
        | .num n => decide (p ≠ 0) && decide (numDiff l.num n ≥ 0) && (!t.ended || decide (numDiff l.num n < (s.rowsOf r t : Int)))
        | .undecided => (match (s.view v).newest with | some (n, _) => decide (numDiff l.num n = 0) | none => false)
        | .missing => false
      decide (x.st ≠ .free) &&
        ((s.writesTile r && !x.tileDone && ((s.raceViews r).any fun p => decide (s.rview r p = v) && within p)) || s.streamHolds i v l)

/-- The gap-line key of a race segment. -/
def segKey (r p : Nat) : Nat := 4 * r + p

/-- Whether a race can decide on a line (R161): MARGIN_PRE later lines of its segmentation view have arrived. -/
def State.decided (s : State) (r : Nat) (l : Line) : Bool :=
  let w := s.view (s.segView r)
  decide ((w.ring.filter fun k => decide (diff16 k.pos l.pos > 0)).length ≥ max 1 (s.fld (PX_RCFG_MARGIN_PRE r))) ||
    (match w.freed with | some p => decide (diff16 p l.pos > 0) | none => false)

/-- Whether a line is a gap line for entry `p` of race `r` (R161). -/
def State.isGapLine (s : State) (r p : Nat) (l : Line) : Bool :=
  !l.full && !s.overlaps r p (l.filled ||| l.gap) &&
    !((s.raceSt r).spans.any fun x => decide (diff16 l.pos x.lo ≥ 0) && (match x.hi with | some h => decide (diff16 l.pos h ≤ 0) | none => true))

/-- A gap line of entry `p` of race `r` is added to the accumulators (R161). -/
def State.accumulate (s : State) (r p v : Nat) (l : Line) : State :=
  let n := Tab.get 0 s.px.gapLines (segKey r p)
  if n ≥ 2 ^ s.fld (PX_VCFG_GZ_LOG2N v) then s
  else
    let g := s.rangeOf r p
    let acc := (List.range g.2).foldl (fun t i =>
      let x := g.1 + i
      let k := pxKey 0 v x
      let u := clampI 0 65535 (rne (((l.code x : Int) - s.darkOf s.px.cur v x) * l.gain) 14)
      Tab.set 0 t k (Tab.get 0 t k + u.toNat)) s.px.acc
    { s with px := { s.px with acc := acc, gapLines := Tab.set 0 s.px.gapLines (segKey r p) (n + 1) } }

/-- Graze decides on a line for race `r`, once it can. -/
def State.grazeLine (s : State) (v : Nat) (l : Line) (r : Nat) : State × Line :=
  if l.grazed.testBit r || !s.raceOn r || !s.decided r l then (s, l)
  else
    let ps := (s.raceViews r).filter fun p => decide (s.rview r p = v)
    if ps.isEmpty then (s, l)
    else
      let s := if s.isOn (PX_VCFG_GZ_EN v) && decide (s.px.cycle = 1) then
          ps.foldl (fun s p => if s.isGapLine r p l then s.accumulate r p v l else s) s
        else s
      (s, { l with grazed := l.grazed ||| 2 ^ r })

/-- Whether every race that uses a view has decided on a line; views without Graze have nothing to decide. -/
def State.grazeDone (s : State) (v : Nat) (l : Line) : Bool :=
  !s.isOn (PX_VCFG_GZ_EN v) || (List.range 16).all fun r =>
    l.grazed.testBit r || !s.raceOn r || !((s.raceViews r).any fun p => decide (s.rview r p = v))

/-- Graze goes over the lines of a view's ring. -/
def State.grazeView (s : State) (v : Nat) : State :=
  if !s.isOn (PX_VCFG_GZ_EN v) then s
  else
    let (s, ring) := (s.view v).ring.foldl (fun (q : State × List Line) l =>
      let (s, l) := (List.range 16).foldl (fun (q : State × Line) r => q.1.grazeLine v q.2 r) (q.1, l)
      (s, q.2 ++ [l])) (s, [])
    s.setView v { s.view v with ring := ring }

/-- The oldest lines of a view are freed, in arrival order, while nothing holds them (R156). -/
def State.freeLines : Nat → State → Nat → State
  | 0, s, _ => s
  | fuel + 1, s, v =>
    let w := s.view v
    match w.ring with
    | [] => s
    | l :: rest =>
      if decide ((rest.filter fun k => !k.full).length ≥ s.marginPre v) && !s.lineHeld v l && s.grazeDone v l then
        State.freeLines fuel (s.setView v { w with ring := rest, freed := some l.pos }) v
      else s

/-- Slots of a view's ring in use. -/
def State.lsUsed (s : State) (v : Nat) : Nat := ((s.view v).ring.filter fun l => !l.full).length

/-- Whether a row remains to be read with an epoch: by a tile not yet written, by a stream not yet ended. -/
def State.epochInUse (s : State) (e : Nat) : Bool :=
  (s.px.tiles.map Prod.fst).any fun i =>
    match s.tileOf i with
    | none => false
    | some t =>
      let x := s.slot i
      decide (x.st ≠ .free) && (decide (x.st = .opened) || (s.writesTile x.race && !x.tileDone) || s.hasStream i) &&
        (decide (x.epoch = e) || (match t.swap with | some (_, o) => decide (o = e) | none => false))

/-- Whether some view learns. -/
def State.learning (s : State) : Bool := (List.range 16).any fun v => s.isOn (PX_VCFG_GZ_EN v)

/-- A phase of the build cycle begins; STATE is IDLE while no view learns (R163). -/
def State.setCycle (s : State) (c : Nat) : State :=
  ({ s with px := { s.px with cycle := c } }).setFld PX_EPOCH_STATE (if s.learning then c else 0)

/-- A build begins: accumulators cleared (R163). -/
def State.beginBuild (s : State) : State := ({ s with px := { s.px with acc := [], gapLines := [] } }).setCycle 1

/-- SWAPPING ends when every race has adopted the current epoch and no row remains to be read with the older bank (R163). -/
def State.grazeAdvance (s : State) : State :=
  if s.px.cycle = 3 then
    let e := Tab.get 0 s.px.epochs s.px.cur
    let old := Tab.get 0 s.px.epochs (1 - s.px.cur)
    if ((List.range 16).all fun r => decide ((s.raceSt r).epoch = e)) && !s.epochInUse old then s.beginBuild else s
  else s

/-- SWAPPING begins: the shadow bank becomes current, and a race with EN = 0 adopts at once (R163, R165). -/
def State.beginSwap (s : State) : State :=
  let s := { s with px := { s.px with cur := 1 - s.px.cur } }
  let e := Tab.get 0 s.px.epochs s.px.cur
  let s := (List.range 16).foldl (fun s r =>
    s.setRace r (if s.raceOn r then { s.raceSt r with defer := 0 } else { s.raceSt r with epoch := e, defer := 0 })) s
  (s.setCycle 3).grazeAdvance

/-- The epoch after `e` (R164). -/
def nextEpoch (e : Nat) : Nat := if e = 0xFFFF then 1 else e + 1

/-- The new epoch is published (R163): EPOCH, PX_EPOCH_PUB, then READY under approval or SWAPPING. -/
def State.publish (s : State) (approve : Bool) : State :=
  let e := nextEpoch (s.fld PX_EPOCH_EPOCH)
  let s := s.setFld PX_EPOCH_EPOCH e
  let s := { s with px := { s.px with epochs := Tab.set 0 s.px.epochs (1 - s.px.cur) e } }
  let s := s.raise 0x0501 e
  if approve then s.setCycle 2 else s.beginSwap

/-- The race segments that learn: entry `p` of race `r` on a view with GZ_EN. -/
def State.grazeSegs (s : State) : List (Nat × Nat) :=
  (List.range 16).flatMap fun r => if s.raceOn r then
    ((s.raceViews r).filter fun p => s.isOn (PX_VCFG_GZ_EN (s.rview r p))).map fun p => (r, p) else []

/-- The new gain and the dynamic bit of a pixel (R162). -/
def State.newGain (s : State) (v x : Nat) : Nat × Bool :=
  let old := s.gainOf s.px.cur v x
  let w := rne (Tab.get 0 s.px.acc (pxKey 0 v x) : Nat) (s.fld (PX_VCFG_GZ_LOG2N v))
  if w ≤ 0 then (16384, true)
  else
    let gs := rneDiv ((s.fld (PX_VSET_BG_TGT v) * 16384 : Nat) : Int) w.toNat
    if gs < 4096 ∨ gs > 65535 then (old, true)
    else
      let sl : Int := s.fld (PX_VCFG_SLEW v)
      ((clampI 4096 65535 (clampI ((old : Int) - sl) ((old : Int) + sl) gs)).toNat, false)

/-- The current bank's entries of a pixel table copied into the shadow bank. -/
def copyBank {α : Type} [DecidableEq α] (d : α) (cur : Nat) (t : Tab α) : Tab α :=
  let keep := t.filter fun p => decide (p.1 / 2 ^ 21 = cur)
  keep.foldl (fun u p => Tab.set d u (pxKey (1 - cur) 0 0 + p.1 % 2 ^ 21) p.2) keep

/-- GRAZE_BUILD_DONE (R162): every segment has its full count of gap lines; new gains and dynamic bits go into the shadow bank, and the
epoch is published. -/
def State.grazeBuild (s : State) : State :=
  let segs := s.grazeSegs
  let full := segs.all fun q => decide (Tab.get 0 s.px.gapLines (segKey q.1 q.2) ≥ 2 ^ s.fld (PX_VCFG_GZ_LOG2N (s.rview q.1 q.2)))
  if s.px.cycle ≠ 1 ∨ segs.isEmpty ∨ !full then s
  else
    let c := s.px.cur
    let px := { s.px with gain := copyBank 16384 c s.px.gain, dark := copyBank 0 c s.px.dark, dyn := copyBank false c s.px.dyn }
    let (px, bad) := segs.foldl (fun (q : Pixels × Tab Nat) g =>
      let v := s.rview g.1 g.2
      let w := s.rangeOf g.1 g.2
      (List.range w.2).foldl (fun (q : Pixels × Tab Nat) i =>
        let x := w.1 + i
        let (gn, dy) := s.newGain v x
        ({ q.1 with
            gain := Tab.set 16384 q.1.gain (pxKey (1 - c) v x) gn
            dyn := Tab.set false q.1.dyn (pxKey (1 - c) v x) dy },
          if dy then Tab.set 0 q.2 v (Tab.get 0 q.2 v + 1) else q.2)) q) (px, [])
    let s := { s with px := px }
    let s := (List.range 16).foldl (fun s v =>
      if s.isOn (PX_VCFG_GZ_EN v) then s.setFld (PX_VSTAT_DEF_DYN v) (min 0xFFFF (Tab.get 0 bad v)) else s) s
    s.publish (s.isOn PX_EPOCH_APPROVE_REQ)

/-- APPROVE in READY begins SWAPPING (R178). -/
def State.approve (s : State) : State := if s.fld PX_EPOCH_STATE = 2 then s.beginSwap else s

/-- DISCARD in READY drops the candidate and returns to BUILDING (R163, R178). -/
def State.discard (s : State) : State := if s.fld PX_EPOCH_STATE = 2 then s.beginBuild else s

/-- STATE follows a change of GZ_EN: IDLE while no view learns; a build begins anew where none was under way (R163). -/
def State.grazeIdle (s : State) : State :=
  if s.fld PX_EPOCH_STATE = 0 ∧ s.px.cycle = 1 then s.beginBuild else s.setCycle s.px.cycle

/-! ## Lines into the line store -/

/-- The oldest slot of a view's full ring is held by a stream that has fallen behind: LB_STREAM_BEHIND once per stream (R232). -/
def State.streamBehind (s : State) (v : Nat) : State :=
  match (s.view v).ring.find? fun l => !l.full with
  | none => s
  | some l =>
    match s.slotsInUse.find? fun i => !s.lamb.behind.contains i && s.streamHolds i v l with
    | none => s
    | some i =>
      let s := { s with lamb := { s.lamb with behind := i :: s.lamb.behind } }
      (s.bump LB_STREAMCNT_BEHIND).raise 0x0701 (s.slot i).race (toU 32 (s.slot i).pStart)

/-- Lines of every view are freed where nothing holds them. -/
def State.freeAll (s : State) : State := (List.range 16).foldl (fun s w => State.freeLines ((s.view w).ring.length) s w) s

/-- Every race reads a line; streams compute; Graze decides; lines are freed. -/
def State.lineRead (s : State) (v : Nat) (l : Line) : State :=
  let s := (List.range 16).foldl (fun s r => s.raceLine v l r) s
  let s := s.runStreams v s.fabNow
  ((List.range 16).foldl State.grazeView s).freeAll.grazeAdvance

/-- A line enters the line store (R154, R156, R160): with its illumination gain where a slot is free, otherwise as a missing line with
cause LS_FULL (R132). -/
def State.enterLine (s : State) (v : Nat) (l : Line) : State :=
  let s := (s.runStreams v 0).freeAll
  let w := s.view v
  if s.lsUsed v ≥ s.fld (PX_VLS_LS_LINES v) then
    let s := s.streamBehind v
    let l := { l with px := [], gap := 0xFFFF, filled := 0, full := true, gain := 16384 }
    let s := s.bump (IN_VIEWSTAT_MISSING v)
    let s := if w.fullRun then s else s.raise 0x0203 (0x80000000 + v) (toU 32 (int16 l.pos))
    let w := s.view v
    let s := s.setView v { w with fullRun := true, ring := w.ring ++ [l], newest := some (l.num, l.pos) }
    s.lineRead v l
  else
    let (s, h) := s.illuminate v l
    let w := s.view v
    let l := { l with gain := h, slot := w.nextSlot }
    let s := s.setView v { w with
      fullRun := false, ring := w.ring ++ [l], newest := some (l.num, l.pos)
      nextSlot := (w.nextSlot + 1) % max 1 (s.fld (PX_VLS_LS_LINES v)) }
    let s := s.setFld (PX_VSTAT_LS_HIWAT v) (max (s.fld (PX_VSTAT_LS_HIWAT v)) (s.lsUsed v))
    let s := if s.lsUsed v ≥ s.fld (PX_VLS_LS_LINES v) then s.streamBehind v else s
    s.lineRead v l

/-- Grid positions between two accepted lines (R170): indices j with pa ≤ j × PITCH < pb. -/
def gridBetween (pa pb : Int) (pitch : Nat) : List Int :=
  let d : Int := max 1 pitch
  let a := -((-pa) / d)
  let b := -((-pb) / d)
  (List.range (b - a).toNat).map fun (i : Nat) => a + (i : Int)

/-- A grid line between two accepted lines (R170); the positions of `a` and `b` are carried on across the wrap of R18, the grid line's own is
not. -/
def gridLine (a b : Line) (pitch : Nat) (j : Int) : Line :=
  let g := j * (pitch : Int)
  let w := ((g - a.pos) * 65536 / (b.pos - a.pos)).toNat
  let far := decide (b.pos - a.pos > 8 * (pitch : Int))
  { num := j, pos := sx 64 (toU 64 g), gain := 16384, filled := a.filled ||| b.filled, gap := if far then 0xFFFF else a.gap ||| b.gap,
    px := (a.px.zip b.px).map fun p => (rne (((p.1 * (65536 - w) + p.2 * w) : Nat) : Int) 16).toNat }

/-- A view line leaves the Intake (R132, R170): as it is in TRIGGER mode; in PTP mode it is resampled onto the grid. -/
def State.pixelLine (s : State) (v : Nat) (l : Line) : State :=
  if !s.ptpView v then s.enterLine v l
  else
    let w := s.view v
    match w.prev with
    | none => s.setView v { w with prev := some l }
    | some a =>
      if diff16 l.pos a.pos ≤ 0 then s
      else
        let pitch := s.fld (PX_VPITCH_PITCH v)
        let l := { l with pos := a.pos + diff16 l.pos a.pos }
        let s := s.setView v { w with prev := some l }
        (gridBetween a.pos l.pos pitch).foldl (fun s j => s.enterLine v (gridLine a l pitch j)) s

/-! ## The part sensor -/

/-- The line of a view nearest to a position that has already passed, on one side of it, where it no longer stands in the line store: its number
and position from the trigger log in TRIGGER mode, from the grid in PTP mode, and by the pitch from a line `l` where the log is silent (R168). -/
def State.pastLine (s : State) (v : Nat) (after : Bool) (q : Int) (l : Int × Int) : Int × Int :=
  let p := s.pitch16 v
  let count (d : Int) : Int := if after then d / (max 1 p : Nat) else -((-d) / (max 1 p : Nat))
  let guess : Int × Int := let k := count (diff16 l.2 q); (l.1 - k, sx 64 (toU 64 (l.2 - k * p)))
  if s.ptpView v then guess
  else
    let good (e : TrigLog) : Bool := if after then decide (diff16 (s.logPos v e) q ≥ 0) else decide (diff16 (s.logPos v e) q ≤ 0)
    let best := ((s.trigLog (s.fld (IN_VIEWCFG_TRG_OUT v))).filter good).foldl (fun (b : Option TrigLog) e => match b with
      | none => some e
      | some f => if decide (diff16 (s.logPos v e) (s.logPos v f) > 0) = after then some f else some e) none
    match best with
    | some e => (e.num, s.logPos v e)
    | none => guess

/-- The first line of a view at or after a position, or the last at or before it, when the newest line has already reached it: the line's number and
position, and the line itself while it stands in the line store. -/
def State.metLine (s : State) (v : Nat) (after : Bool) (q : Int) : Option (Int × Int × Option Line) :=
  let w := s.view v
  match w.newest with
  | none => none
  | some n =>
    let gone : Bool := match w.freed with
      | some p => if after then decide (diff16 p q ≥ 0) else w.ring.all fun l => decide (diff16 l.pos q > 0)
      | none => false
    let here := if after then w.ring.find? fun l => decide (diff16 l.pos q ≥ 0)
      else (w.ring.filter fun l => decide (diff16 l.pos q ≤ 0)).getLast?
    match gone, here with
    | false, some l => some (l.num, l.pos, some l)
    | _, _ => let p := s.pastLine v after q n; some (p.1, p.2, none)

/-- A rising edge whose line has already arrived: the part opens at once on that line, and is TRUNCATED where the line has left the line store
(R168). -/
def State.lateRising (s : State) (r : Nat) (q : Int) : State :=
  let v := s.segView r
  match s.metLine v true q with
  | none => s
  | some (n, p, l) =>
    let s := s.openPart r (l.getD { num := n, pos := p, gain := 16384, filled := 0, gap := 0, px := [] })
    match (s.raceSt r).mode with
    | .run i =>
      let s := if l.isNone then s.spoil i .truncated else s
      let s := ((s.view v).ring.filter fun k => decide (diff16 k.pos p ≥ 0)).foldl (fun s k => s.gapParts r v k) s
      match (s.view v).ring.getLast? with
      | some k => if diff16 k.pos p > 0 then s.extendRun r i k else s
      | none => s
    | _ => s

/-- A falling edge whose line has already arrived: P_end is the last line at or before its position (R168). -/
def State.lateFalling (s : State) (r : Nat) (q : Int) : State :=
  match (s.raceSt r).mode with
  | .run i =>
    match s.metLine (s.segView r) false q, s.tileOf i with
    | some (n, p, _), some t => if numDiff n t.n0 ≥ 0 then s.endRun r i n p .idle else s.endRun r i t.n0 t.p0 .idle
    | none, some t => s.endRun r i t.n0 t.p0 .idle
    | _, none => s
  | _ => s.setRace r { s.raceSt r with mode := .idle }

/-- An edge of a race's part sensor (R168): ignored while DIR is reverse; kept with its target position, or met at once where the lines
have already arrived. -/
def State.sensorEdge (s : State) (rising : Bool) (r : Nat) : State :=
  let e := s.raceEnc r
  if !s.raceOn r || !s.isOn (PX_RCFG_SEGMODE r) || !s.forward e then s
  else
    let rs := s.raceSt r
    let q := pos48 (s.posOf e + s.sfld (PX_RSENS_SENS_DIST r))
    let late := match (s.view (s.segView r)).newest with | some (_, p) => decide (diff16 p (q * 65536) ≥ 0) | none => false
    if !late || !rs.edges.isEmpty then s.setRace r { rs with edges := rs.edges ++ [(rising, q)] }
    else if rising then (if rs.mode ≠ .idle then s else s.lateRising r (q * 65536))
    else s.lateFalling r (q * 65536)

/-- The edges that a valid uplink frame reports (R168, R494). -/
def State.sensorEdges (s : State) (up down : Nat) : State :=
  (List.range 16).foldl (fun s r =>
    let i := s.fld (PX_RCFG_SENS_IN r)
    let s := if up.testBit i then s.sensorEdge true r else s
    if down.testBit i then s.sensorEdge false r else s) s

/-- What follows from edges met at once: streams go on, complete parts close. -/
def State.sensorSettle (s : State) : State :=
  ((List.range 16).foldl (fun s v => s.runStreams v s.fabNow) s).freeAll.closeReady

/-- UPLINK_FRAME_RECEIVE: the frame is taken, and the edges of its inputs reach the races that segment by sensor (R168, R486). -/
def State.uplinkReceive (s : State) (err : BitVec 96) : State :=
  let (s, up, down) := s.uplinkFrame err
  if up = 0 ∧ down = 0 then s else (s.sensorEdges up down).sensorSettle

/-- EN of a race changes (R45, R187): its encoder counts as bound from then on; a race with EN = 0 adopts at once (R165). -/
def State.raceEnable (s : State) (r : Nat) (on : Bool) : State :=
  let s := (s.setFlag (PX_RCFG_EN r) on).encHold
  if on then s else (s.setRace r { s.raceSt r with epoch := Tab.get 0 s.px.epochs s.px.cur, defer := 0 }).grazeAdvance

/-! ## Writing a tile -/

/-- The 64-byte tile header (R172). -/
def State.tileHeader (s : State) (r : Nat) (replay mixed filled ptp : Bool) (id h epoch : Nat) (y0 : Int) (row0 rows pitch : Nat) : List Byte :=
  let st := s.rowStride r
  leBytes 1 1 ++ leBytes 1 (s.raceBytes r - 1) ++ leBytes 1 (s.raceViews r).length ++
    leBytes 1 (b2n replay + 2 * b2n mixed + 4 * b2n filled + 8 * b2n ptp) ++ leBytes 4 id ++ leBytes 4 (s.fld (PX_RGEOM_W r)) ++
    leBytes 4 h ++ leBytes 2 epoch ++ leBytes 1 r ++ leBytes 1 0 ++ leBytes 4 st ++ leBytes 4 (st * h) ++ leBytes 4 0 ++
    leBytes 8 (toU 64 y0) ++ leBytes 4 row0 ++ leBytes 4 rows ++ leBytes 8 pitch ++ leBytes 8 0

/-- TILE_WRITE_DONE (R172): the rows of plane 0 that never arrived, the further planes and the header of a closed part's tile are
written; its lines are released, and its job may dispatch. -/
def State.tileWrite (s : State) (i : Nat) : State :=
  let x := s.slot i
  let r := x.race
  match s.tileOf i, x.tile with
  | some t, some ts =>
    if x.st = .free ∨ x.st = .opened ∨ x.tileDone ∨ !s.writesTile r then s
    else
      let h := x.tileH
      let st := s.rowStride r
      let a := s.tileAddr r ts
      let s := (List.range h).foldl (fun s y =>
        if t.rows0.contains y then s else (s.write (a + 64 + y * st) (leBytes st 0)).1) s
      let s := ((s.raceViews r).filter fun p => decide (p ≠ 0)).foldl (fun s p =>
        (List.range h).foldl (fun s y =>
          let line := match s.row0 r p t with | .num n => s.lineAt (s.rview r p) (n + (y : Int)) | _ => none
          let bytes := match line with
            | some l => s.rowBytes r (s.partRow i r p t l)
            | none => leBytes st 0
          let s := match line with
            | some l => if s.overlaps r p l.filled then s.setSlot i { s.slot i with hasFilled := true } else s
            | none => s
          (s.write (a + 64 + p * st * h + y * st) bytes).1) s) s
      let y := s.slot i
      let s := (s.write a (s.tileHeader r false y.mixedEpoch y.hasFilled (s.ptpView (s.segView r)) y.psn h y.epoch t.y0 y.partRow0 y.partRows
        (s.pitch16 (s.segView r)))).1
      let s := s.setSlot i { s.slot i with tileDone := true }
      let s := if s.hasStream i then s else s.setTile i none
      s.freeAll.grazeAdvance.tryRetire i
  | _, _ => s

end Sys2Proof.Machine
end

