-- ==== Sys2Proof/Machine/Sched.lean ====
section
/-! DEFINITION. The Shepherd's schedule: entry into the job table, the scoreboard, ranks, passes and slices, placement,
pre-emption, completion, and the commands it executes itself (R307 to R323). -/

namespace Sys2Proof.Machine

/-! ## Rotating choice -/

/-- The indices 0 to n − 1 in rotating order from `p` (R316). -/
def rotate (n p : Nat) : List Nat := (List.range n).map fun i => (p + i) % n

/-! ## Entry into the job table -/

/-- The program header's address of a waiting job. -/
def State.progAddr (s : State) (q : JobReq) : Nat := if q.prog = 0 then s.fld (SH_CPROG_PROG q.client) else q.prog

/-- The lowest free scratch slot of a client (R307). -/
def State.freeScratch (s : State) (c : Nat) : Option Nat :=
  let used := s.shep.jobs.filterMap fun p => match p.2 with
    | some x => if x.client = c then x.scratchSlot else none
    | none => none
  (List.range (s.fld (SH_CSCR_SLOTS c))).find? fun i => !used.contains i

/-- The lowest free entry of the job table. -/
def State.freeJob (s : State) : Option Nat := (List.range 256).find? fun j => (s.job j).isNone

/-- The first waiting job of each source that could enter, in submission order. -/
def State.entryHeads (s : State) : List JobReq :=
  s.shep.waiting.filter fun q =>
    (s.shep.waiting.find? fun p => decide (p.client = q.client)) = some q && (s.freeScratch q.client).isSome

/-- The job that enters the table next: REALTIME ahead of every other class, clients in rotating order (R307, R316). -/
def State.nextEntry (s : State) : Option JobReq :=
  let pick (rt : Bool) := (rotate 64 s.shep.entryPtr).findSome? fun c =>
    s.entryHeads.find? fun q => decide (q.client = c) && (decide (q.cls = .realtime) == rt)
  match pick true with
  | some q => some q
  | none => pick false

/-- The stride of a client's scratch slots: SCRATCH of the client's own program, in units of 64 KiB (R336). -/
def State.scratchStride (s : State) (c : Nat) : Nat := ((decodeHdr (s.peekN (s.fld (SH_CPROG_PROG c)) 64)).map ProgHdr.scratch).getD 0

/-- The base table of a job (R304). -/
def State.baseTable (s : State) (q : JobReq) (h : ProgHdr) (scratch : Nat) (tmpl : List Byte) : List Base :=
  let r := s.fld (SH_CCFG_RACE q.client)
  let lines (u : Nat) : Nat := u * 1024
  let tile (t : Nat) : Base :=
    ⟨0x100000 * s.fld (PX_RTILE_BASE r) + 0x10000 * (t * s.fld (PX_RTILE_SLOT_64K r)), lines (s.fld (PX_RTILE_SLOT_64K r)), false⟩
  let stem (t : Nat) : Base :=
    if s.isOn (PX_RCFG_FEED r) then
      ⟨0x100000 * s.fld (LB_RSTEMOUT_BASE r) + 0x10000 * (t * s.fld (LB_RSTEMOUT_SLOT_64K r)),
        lines (s.fld (LB_RSTEMOUT_SLOT_64K r)), false⟩
    else {}
  let scr : Base := ⟨0x100000 * s.fld (SH_CSCR_BASE q.client) + 0x10000 * (scratch * s.scratchStride q.client), lines h.scratch, true⟩
  let own : Base × Base :=
    match q.origin with
    | .part i => match (s.slot i).tile with | some t => (tile t, stem t) | none => ({}, {})
    | .sample t _ _ => (tile t, {})
    | .host => ({}, {})
  [own.1, own.2, scr] ++ ((List.range 11).map fun i => decodeBase tmpl (i + 3)) ++
    [⟨0x2000000000, lines h.foot, true⟩, ⟨0x2000280000, 0x160000 / 64, false⟩]

/-- A client that becomes active takes the lowest pass among the active clients, and banks no credit (R313). -/
def State.activate (s : State) (c : Nat) : State :=
  let active := s.shep.jobs.filterMap fun p => p.2.bind fun x => if x.cls = .realtime then none else some x.client
  if active.contains c then s
  else
    let low := active.foldl (fun (b : Option Nat) a =>
      let p := s.passOf a
      match b with
      | none => some p
      | some m => if sx 64 (toU 64 ((p : Int) - m)) < 0 then some p else some m) none
    match low with
    | none => s
    | some v =>
      let p := s.passOf c
      if sx 64 (toU 64 ((v : Int) - p)) > 0 then { s with shep := { s.shep with pass := Tab.set 0 s.shep.pass c v } } else s

/-- A waiting job enters the job table (R302, R304, R307): its header and template are read and checked, its part becomes
QUEUED, its result table entry is cleared. An uncorrectable line ends the job with DATA_ERROR, a bad header is a job fault. -/
def State.enterJob (s : State) (q : JobReq) (j scratch : Nat) : State :=
  let s := { s with shep := { s.shep with
    waiting := s.shep.waiting.erase q, entryPtr := (q.client + 1) % 64, nextSeq := s.shep.nextSeq + 1 } }
  let s := if q.cls = .realtime then s else s.activate q.client
  let s := s.clearResults j
  let blank : Job := { client := q.client, cls := q.cls, jobId := q.jobId, origin := q.origin, hdr := { ncmd := 0 }, bases := [],
                       scratchSlot := some scratch, seq := s.shep.nextSeq,
                       emptyMark := match q.origin with
                         | .part i => s.lamb.empties.contains i
                         | _ => false }
  let s := s.setJob j (some blank)
  let s := match q.origin, q.cls with
    | .part i, .trial => s.setSlot i { s.slot i with trJob := some j }
    | .part i, _ => s.setSlot i { s.slot i with
        rtJob := some j, st := if (s.slot i).st = PartState.closed then PartState.queued else (s.slot i).st }
    | _, _ => s
  match s.read (s.progAddr q) 64 with
  | (s, none) => s.endJob j .dataError
  | (s, some hb) =>
    match decodeHdr hb with
    | none => s.jobFault j 8
    | some h =>
      match (s.setJob j (some { blank with hdr := h })).read h.bases 256 with
      | (s, none) => s.endJob j .dataError
      | (s, some t) =>
        if templateOk t then s.setJob j (some { blank with hdr := h, bases := s.baseTable q h scratch t })
        else s.jobFault j 8

/-- JOB_TABLE_ENTER: a waiting job enters the table when an entry and a scratch slot are free (R307); not while a flush runs. -/
def State.jobTableEnter (s : State) : State :=
  if s.shep.flush.isSome then s
  else match s.nextEntry, s.freeJob with
    | some q, some j =>
      match s.freeScratch q.client with
      | some k => s.enterJob q j k
      | none => s
    | _, _ => s

/-! ## Submissions of host software -/

/-- The consumer index of a ring advances by one. -/
def State.consume (s : State) (r : Nat) : State :=
  let x := s.ring r
  s.putRing r { x with cons := (x.cons + 1) % 2 ^ 32 }

/-- The next entry of a ring that the module consumes is read: absent where the ring is empty or the rings are out of service;
an uncorrectable entry is skipped with DM_RING_ERR (R443). -/
def State.takeEntry (s : State) (r : Nat) : State × Option (List Byte) :=
  let x := s.ring r
  if x.empty || !s.ringsUp then (s, none)
  else match s.read (x.entryAddr x.cons) (2 ^ x.esize) with
    | (s, some b) => (s.consume r, some b)
    | (s, none) => ((s.consume r).raise 0x0B02 r, none)

/-- Whether a submission entry is legal under R10 and R16, its PROGRAM on the 64-byte boundary of a program header (R302, R308). -/
def submissionOk (b : List Byte) : Bool :=
  decide (dByte b 0 = 1) && decide (dByte b 1 < 64) && dZero b 2 2 && dZero b 16 48 && decide (dLe b 8 8 % 64 = 0)

/-- A submission is refused: the completion goes to client `c`'s ring, behind those that wait there for room (R308, R441). -/
def State.refuse (s : State) (c n jobId : Nat) : State :=
  let e := (s.fld (SH_CRING_CPL_RING c), completionBytes jobId n .refused s.clk.dev)
  { s with shep := { s.shep with refused := s.shep.refused ++ [e] } }.postRefused

/-- A submission for client `n` through client `c` is queued, or refused where it is illegal or `n` takes none (R306, R308). -/
def State.takeSubmission (s : State) (c n jobId prog : Nat) (legal : Bool) : State :=
  if legal && s.isOn (SH_CCFG_EN n) && !s.suspect n && s.clientClass n == .housekeeping then
    s.submit ⟨n, .housekeeping, jobId, .host, prog⟩
  else s.refuse (if n < 64 then n else c) n jobId

/-- HOUSEKEEPING_SUBMIT: a job of client `c` that the control processors submit, its JOB_ID and PROGRAM given, or else the next entry of its
submission ring (R306, R308). -/
def State.housekeepingSubmit (s : State) (c : Nat) (own : Option (Nat × Nat)) : State :=
  if s.inWarm || s.clientClass c != .housekeeping then s
  else match own with
    | some (id, prog) => s.takeSubmission c c id prog (decide (prog % 64 = 0))
    | none =>
      match s.takeEntry (s.fld (SH_CRING_SUB_RING c)) with
      | (s, none) => s
      | (s, some b) => s.takeSubmission c (dByte b 1) (dLe b 4 4) (dLe b 8 8) (submissionOk b)

/-! ## The scoreboard -/

/-- Index of the oldest incomplete command of a job (R309). -/
def Job.oldest (x : Job) : Nat := x.cmds.foldl (fun m c => min m c.idx) x.next

/-- Whether command `i` of a job has completed. -/
def Job.complete (x : Job) (i : Nat) : Bool := decide (i < x.next) && !(x.cmds.any fun c => decide (c.idx = i))

/-- Commands in the scoreboard. -/
def State.sbUsed (s : State) : Nat := (s.shep.jobs.map fun p => match p.2 with | some x => x.cmds.length | none => 0).sum

/-- The bytes at which a core command's descriptor holds address fields (R260, R264, R265, R267, R273, R274, R276, R280). -/
def addrFields (op : Nat) : List Nat :=
  match op with
  | 0x01 | 0x02 | 0x04 | 0x05 => [8, 12, 16, 20, 24, 28, 32]
  | 0x03 => [8, 12, 16, 20, 24, 28, 32, 36]
  | 0x06 | 0x07 | 0x08 | 0x09 | 0x0A => [8, 12, 16, 20, 24]
  | 0x0B => [8, 12, 16]
  | 0x0D => [8, 12, 20, 24]
  | 0x0C | 0x22 => [8]
  | _ => []

/-- Whether a command addresses the job's footprint, base 14 (R303). -/
def namesFoot (d : List Byte) : Bool := (addrFields (dOp d)).any fun i => decide (dLe d i 4 / 2 ^ 28 = 14)

/-- SCOREBOARD_ADMIT: job `j`'s next command enters the scoreboard while its window and the scoreboard have room (R309). Its placement is
checked: a run stays unbroken and ends within the job, and only a run addresses the footprint (R303); an uncorrectable line ends the job with
DATA_ERROR (R433). -/
def State.scoreboardAdmit (s : State) (j : Nat) (up : Upsets) : State :=
  let s := s.upset up
  match s.job j with
  | none => s
  | some x =>
    if s.shep.flush.isSome || x.ended.isSome || decide (x.next ≥ x.hdr.ncmd) || decide (x.next - x.oldest ≥ 64) || decide (s.sbUsed ≥ 512) then s
    else match s.read (x.hdr.place + x.next) 1 with
      | (s, none) => s.endJob j .dataError
      | (s, some pb) =>
        match s.read (x.hdr.cmds + 64 * x.next) 64 with
        | (s, none) => s.endJob j .dataError
        | (s, some d) =>
          let p := dByte pb 0
          let first := x.openRun.getD x.next
          let run := if plCs p && !plEnd p then some first else none
          if !plOk p (dOp d) || (x.openRun.isSome && !plCs p) || (run.isSome && decide (x.next + 1 ≥ x.hdr.ncmd)) ||
              (!plCs p && namesFoot d) then s.jobFault j 8
          else
            let c : Cmd := { idx := x.next, place := p, desc := d, run := if plCs p then first else 0, cores := s.coresUp.length }
            s.setJob j (some { x with next := x.next + 1, cmds := x.cmds ++ [c], openRun := run })

/-- Whether a job's first command may start: its part's stream has ended and its tile is written in full (R234, R309). -/
def State.firstReady (s : State) (x : Job) : Bool :=
  match x.origin with
  | .part i =>
    let p := s.slot i
    (!s.isOn (PX_RCFG_FEED p.race) || s.lamb.ended.contains i) && (!s.writesTile p.race || p.tileDone)
  | _ => true

/-- Credits of a class that jobs have reserved and flits already queued will spend (R104, R323). -/
def State.boundCredits (s : State) (cls : Nat) : Nat :=
  (s.shep.jobs.map fun p => match p.2 with | some x => if x.hdr.linkClass = cls then x.credits else 0 | none => 0).sum +
    (Tab.get [] s.drove.queue cls).length

/-- Credits of a class that no job has reserved and no half-verdict waits for (R323, R406). -/
def State.freeCredits (s : State) (cls : Nat) : Nat :=
  Tab.get 0 s.drove.credits cls -
    (s.boundCredits cls + (s.pair.toSend.filter fun h => decide (2 + h.race = cls)).length)

/-- Whether a job can hold its link credits: it does, or they are free, or the link is not UP (R323). -/
def State.creditOk (s : State) (x : Job) : Bool :=
  x.hdr.linkClass = 0 || x.credited || !s.linkUp || decide (x.hdr.linkCred ≤ s.freeCredits x.hdr.linkClass)

/-- Whether an admitted command is eligible (R234, R309); a Lamb engine descriptor has no dependency fields (R240). -/
def State.eligible (s : State) (x : Job) (c : Cmd) : Bool :=
  let dep (n : Nat) : Bool := n = 0 || decide (n > c.idx) || x.complete (c.idx - n)
  decide (c.st = .waiting) && x.ended.isNone &&
    (isLambOp (dOp c.desc) || (dep (dDepA c.desc) && dep (dDepB c.desc) && (!dFence c.desc || decide (x.oldest ≥ c.idx)))) &&
    s.firstReady x && s.creditOk x

/-- The lowest eligible command of a job that meets a test (R312). -/
def State.firstEligible (s : State) (x : Job) (f : Cmd → Bool) : Option Cmd :=
  x.cmds.foldl (fun b c =>
    if s.eligible x c && f c then
      match b with
      | none => some c
      | some d => if c.idx < d.idx then some c else some d
    else b) none

/-! ## Rank, standing and passes -/

/-- Slack S = D − P of a part in 48.16 counts (R29). -/
def State.slack (s : State) (i : Nat) : Int :=
  let x := s.slot i
  sx 64 (toU 64 (x.d - s.posOf (s.raceEnc x.race) * 65536))

/-- Slack time in units of 1/16 µs (R31, R312). -/
def State.slackTime (s : State) (i : Nat) : Int :=
  let v := s.speedOf (s.raceEnc (s.slot i).race)
  if v.1 > 0 then min ((s.slack i * v.2 * 16) / (v.1 * 65536)) (2 ^ 32 - 2) else 2 ^ 32 - 1

/-- Whether a REALTIME job ranks above another (R312). -/
def State.ranksAbove (s : State) (a b : Job) : Bool :=
  match a.origin, b.origin with
  | .part i, .part k =>
    let x := s.slot i
    let y := s.slot k
    if x.late ≠ y.late then y.late
    else if x.late then decide (x.psn < y.psn)
    else if s.slackTime i ≠ s.slackTime k then decide (s.slackTime i < s.slackTime k)
    else if s.raceEnc x.race = s.raceEnc y.race ∧ s.slack i ≠ s.slack k then decide (s.slack i < s.slack k)
    else decide (x.psn < y.psn)
  | _, _ => false

/-- Whether a job is blocked on a WAIT for a semaphore. -/
def Job.blockedOn (x : Job) (i : Nat) : Bool := x.cmds.any fun c => decide (c.st = .pending) && decide (dByte c.desc 8 = i)

/-- Whether a job has a command running on a core or a Lamb engine unit. -/
def State.running (s : State) (j : Nat) : Bool :=
  (s.cores.any fun p => p.2.queue.head?.any fun q => decide (q.job = j)) ||
    s.lamb.units.any fun p => match p.2 with
      | .command e => decide (e.job = j)
      | _ => false

/-- The job with whose standing job `j` is placed (R322): that of a job blocked on a semaphore it holds, a REALTIME one first,
while it has no command running; the rule passes on along blocked holders. -/
def State.standing (s : State) : Nat → Nat → Nat
  | 0, j => j
  | fuel + 1, j =>
    match s.job j with
    | none => j
    | some x =>
      if s.running j then j
      else
        let blocked := s.jobIds.filter fun b => decide (b ≠ j) && (match s.job b with
          | some y => x.holds.any y.blockedOn
          | none => false)
        let rt := blocked.find? fun b => match s.job b with | some y => decide (y.cls = .realtime) | none => false
        match rt with
        | some b => s.standing fuel b
        | none => match blocked with
          | b :: _ => s.standing fuel b
          | [] => j

/-- The job whose standing job `j` has. -/
def State.standingJob (s : State) (j : Nat) : Option Job := s.job (s.standing 256 j)

/-- The client under which job `j` is placed and charged; none with REALTIME standing (R313, R322). -/
def State.payer (s : State) (j : Nat) : Option Nat :=
  match s.standingJob j with
  | some y => if y.cls = .realtime then none else some y.client
  | none => none

/-! ## Placement -/

/-- Whether a core can take a placement: in service, no transfer, fewer than QAHEAD commands unstarted, room in its queue
(R310). -/
def State.canTake (s : State) (k : Nat) : Bool :=
  let c := s.core k
  s.inService k && decide (c.xfer = .none) && decide (c.queue.length - 1 < s.fld SH_CFG_QAHEAD) && decide (c.queue.length < 32)

/-- Whether core `k` is the run core of an open run. -/
def State.hasRun (s : State) (k : Nat) : Bool :=
  s.shep.jobs.any fun p => match p.2 with
    | some x => x.runs.any fun r => decide (r.core = some k)
    | none => false

/-- The lowest free save slot (R318). -/
def State.freeSave (s : State) : Option Nat :=
  let used := s.shep.jobs.flatMap fun p => match p.2 with
    | some x => x.runs.filterMap Run.slot ++ x.cmds.filterMap Cmd.slot
    | none => []
  (List.range (s.fld SH_SAVE_SLOTS)).find? fun i => !used.contains i

/-- The save slot of a command: its run's, or its own; whether its context stands saved there (R317). -/
def Job.slotOf (x : Job) (c : Cmd) : Option Nat := if plCs c.place then (x.runOf c).bind Run.slot else c.slot
def Job.isSaved (x : Job) (c : Cmd) : Bool := if plCs c.place then (x.runOf c).any Run.saved else c.saved

/-- The parts of a command that is to be placed (R346, R347): as many as it was saved with; otherwise the lesser of its groups and the cores
that were in service at its admission, counted again after a fence or where fewer are left. -/
def State.partCount (s : State) (x : Job) (c : Cmd) : Nat :=
  if !c.splits x then 1
  else if c.saved then c.cores
  else
    let up := s.coresUp.length
    max 1 (min (if c.cores = 0 then up else min c.cores up) (groupCount c.desc))

/-- Whether core `k` can take a command: a saved context is restored only on a core whose queue is empty (R317). -/
def State.takes (s : State) (x : Job) (c : Cmd) (k : Nat) : Bool := s.canTake k && (!x.isSaved c || (s.core k).queue.isEmpty)

/-- The cores that can take a command, in rotating order from the Shepherd's pointer. -/
def State.takers (s : State) (x : Job) (c : Cmd) : List Nat := (rotate 16 s.shep.corePtr).filter (s.takes x c)

/-- Whether a command may be placed on core `k`: a run command on its run core, a new or saved run on a core without an open run, a split command
while enough cores can take its parts, work outside REALTIME only with a save slot (R303, R310, R317, R346). -/
def State.fits (s : State) (x : Job) (c : Cmd) (k : Nat) : Bool :=
  !isShepOp (dOp c.desc) && !isLambOp (dOp c.desc) &&
  (if plCs c.place then
    match (x.runOf c).bind Run.core with
    | some k' => decide (k = k')
    | none => !s.hasRun k
   else decide (s.partCount x c ≤ (s.takers x c).length)) &&
  (!x.isSaved c || (s.core k).queue.isEmpty) &&
  (decide (x.cls = .realtime) || (x.slotOf c).isSome || s.freeSave.isSome)

/-- The eligible command of job `j` that core `k` could take. -/
def State.offer (s : State) (k j : Nat) : Option Cmd :=
  match s.job j with
  | none => none
  | some x => s.firstEligible x fun c => s.fits x c k

/-- The jobs placed with REALTIME standing that offer work to core `k`, best rank first kept (R312, R314). -/
def State.bestRealtime (s : State) (k : Nat) : Option (Nat × Cmd) :=
  (rotate 256 s.shep.rankPtr).foldl (fun b j =>
    match s.offer k j, s.standingJob j with
    | some c, some y =>
      if y.cls ≠ .realtime then b
      else match b with
        | none => some (j, c)
        | some (j', c') =>
          match s.standingJob j' with
          | some y' => if s.ranksAbove y y' then some (j, c) else some (j', c')
          | none => some (j, c)
    | _, _ => b) none

/-- The oldest job of a client that offers work to core `k` (R314). -/
def State.oldestOffer (s : State) (k c : Nat) : Option (Nat × Cmd) :=
  (s.jobIds.foldl (fun b j =>
    if s.payer j ≠ some c then b
    else match s.offer k j, s.job j with
      | some cm, some x =>
        match b with
        | none => some (x.seq, j, cm)
        | some (q, j', cm') => if x.seq < q then some (x.seq, j, cm) else some (q, j', cm')
      | _, _ => b) none).map fun p => (p.2.1, p.2.2)

/-- The active client with the lowest pass among those that have eligible work for core `k`, and `own`, which has work on it already; in
rotating order among equals (R314, R316). -/
def State.lowestPass (s : State) (k : Nat) (own : Option Nat) : Option Nat :=
  (rotate 64 s.shep.slicePtr).foldl (fun b c =>
    if own ≠ some c ∧ s.oldestOffer k c = none then b
    else match b with
      | none => some c
      | some m =>
        if sx 64 (toU 64 ((s.passOf c : Int) - (s.passOf m : Int))) < 0 then some c else some m) none

/-- A job's first placement or execution of a command: its part passes from QUEUED to JUDGING, its link credits are
reserved (R310, R323). -/
def State.beginJob (s : State) (j : Nat) : State :=
  match s.job j with
  | none => s
  | some x =>
    let s := match x.origin, x.cls with
      | .part i, .realtime =>
        if (s.slot i).st = PartState.queued then s.setSlot i { s.slot i with st := PartState.judging } else s
      | _, _ => s
    if x.hdr.linkClass ≠ 0 ∧ !x.credited then
      s.setJob j (some { x with begun := true, credited := true, credits := if s.linkUp then x.hdr.linkCred else 0 })
    else s.setJob j (some { x with begun := true })

/-- The run record of a run command that is placed on core `k`, with its save slot (R310, R317, R320). -/
def Job.placeRun (x : Job) (c : Cmd) (k : Nat) (save : Option Nat) : List Run :=
  if !plCs c.place then x.runs
  else if (x.runOf c).isSome then x.runs.map fun r => if r.first = c.run then { r with core := some k, slot := save } else r
  else x.runs ++ [{ first := c.run, core := some k, slot := save }]

/-- An entry stands on core `k`: behind the commands already queued, or as a restore where its context stands saved (R310, R317). -/
def State.standOn (s : State) (k : Nat) (e : QEnt) (saved : Bool) : State :=
  let q := s.core k
  if saved then s.setCore k { q with xfer := .restore e } else s.setCore k { q with queue := q.queue ++ [e] }

/-- Command `c` of job `j` is placed on core `k`, and the further parts of a split command on the next cores in rotating order that can take
them (R310, R346); the core pointer moves past the last (R316). -/
def State.placeOn (s : State) (k j : Nat) (c : Cmd) (payer : Option Nat) : State :=
  match s.job j with
  | none => s
  | some x =>
    let n := s.partCount x c
    let ks := k :: ((s.takers x c).filter fun m => decide (m ≠ k)).take (n - 1)
    let s := s.beginJob j
    let x := (s.job j).getD x
    let save := if x.cls = .realtime then x.slotOf c else (match x.slotOf c with | some v => some v | none => s.freeSave)
    let saved := x.isSaved c
    let s := s.setJob j (some { x with
      cmds := x.cmds.map fun d =>
        if d.idx = c.idx then { d with st := CmdState.queued, cores := n, slot := if plCs c.place then d.slot else save } else d
      runs := x.placeRun c k save })
    let s := (ks.zipIdx).foldl (fun s (m, i) => s.standOn m ⟨j, c.idx, i, payer⟩ saved) s
    { s with shep := { s.shep with corePtr := (ks.getLastD k + 1) % 16 } }

/-- A slice of core `k` begins for client `m`; the slice arbiter's pointer moves past it (R314, R316). -/
def State.beginSlice (s : State) (k m : Nat) : State :=
  let s := s.setCore k { s.core k with slice := some (m, s.clk.enc + 200 * s.fld SH_CFG_TSLICE_US), sliceStart := s.clk.enc }
  { s with shep := { s.shep with slicePtr := (m + 1) % 64 } }

/-- What core `k` takes: REALTIME work, else its slice owner's work, else a new slice (R314). -/
def State.serveCore (s : State) (k : Nat) : Option State :=
  if !s.canTake k then none
  else match s.bestRealtime k with
    | some (j, c) =>
      let s := s.placeOn k j c none
      some { s with shep := { s.shep with rankPtr := (j + 1) % 256 } }
    | none =>
      let owner : Option (Nat × Nat × Cmd) := match (s.core k).slice with
        | some (o, e) => if s.clk.enc < e then (s.oldestOffer k o).map fun p => (o, p) else none
        | none => none
      match owner with
      | some (o, j, c) => some (s.placeOn k j c (some o))
      | none =>
        match s.lowestPass k none with
        | none => none
        | some m => (s.oldestOffer k m).map fun p => ((s.endSlice k).beginSlice k m).placeOn k p.1 p.2 (some m)

/-- An eligible Lamb engine command goes to the Lamb engine's queue, in rotating order of job-table entries (R310, R315, R316); outside REALTIME
only while there are save slots (R331). -/
def State.serveLamb (s : State) : Option State :=
  (rotate 256 s.lamb.jobPtr).findSome? fun j =>
    match s.job j with
    | none => none
    | some x =>
      if (s.payer j).isSome ∧ s.fld SH_SAVE_SLOTS = 0 then none
      else (s.firstEligible x fun c => isLambOp (dOp c.desc)).map fun c =>
        let s := (s.setCmd j c.idx .queued).beginJob j
        { s with lamb := { s.lamb with queue := s.lamb.queue ++ [{ job := j, cmd := c.idx }], jobPtr := (j + 1) % 256 } }

/-! ## Pre-emption -/

/-- The cores on which the parts of a command stand in the queues, and whether each has its part at its head, ready to run (R346). -/
def State.partCores (s : State) (e : QEnt) : List Nat :=
  (s.cores.filter fun p => p.2.queue.any fun q => decide (q.job = e.job ∧ q.cmd = e.cmd)).map Prod.fst
def State.partsReady (s : State) (e : QEnt) (x : Job) (c : Cmd) : Bool :=
  decide ((s.partCores e).length = partsOf x c) && (s.partCores e).all fun k =>
    decide ((s.core k).xfer = .none) && (s.core k).queue.head?.any fun q => decide (q.job = e.job ∧ q.cmd = e.cmd)

/-- The open run outside REALTIME between whose commands core `k` is idle: the entry of its next command, and its job (R317). -/
def State.idleRun (s : State) (k : Nat) : Option (QEnt × Job) :=
  if !(s.core k).queue.isEmpty then none
  else s.jobIds.findSome? fun j => (s.job j).bind fun x =>
    if x.cls = .realtime then none
    else (x.runs.find? fun r => decide (r.core = some k)).map fun r =>
      let i := (x.cmds.filter fun c => plCs c.place && decide (c.run = r.first)).foldl (fun m c => min m c.idx) x.next
      (⟨j, i, 0, (s.core k).slice.map Prod.fst⟩, x)

/-- Whether core `k` can be pre-empted: the command at its head has no REALTIME standing, has not taken effect and is no EMIT, or the core is idle
between the commands of an open run (R312, R317, R319). -/
def State.preemptible (s : State) (k : Nat) : Bool :=
  s.inService k && decide ((s.core k).xfer = .none) &&
    match s.headCmd k with
    | some (e, x, c) => decide (x.cls ≠ .realtime) && e.payer.isSome && decide (c.st = .queued) && decide (dOp c.desc ≠ 0x22)
    | none => (s.idleRun k).isSome

/-- An unstarted command returns to the scoreboard (R317). A run of which no command has started gives up its core and its save slot. -/
def Job.withdraw (x : Job) (i : Nat) : Job :=
  let cmds := x.cmds.map fun d => if d.idx = i then d.back else d
  let idle (r : Run) : Bool := r.done.isEmpty && !r.saved && cmds.all fun d => !(plCs d.place && decide (d.run = r.first)) || decide (d.st = .waiting)
  { x with
    cmds := cmds
    runs := match (x.cmds.find? fun d => decide (d.idx = i)).bind x.runOf with
      | some r => x.runs.filter fun q => !(decide (q.first = r.first) && idle r)
      | none => x.runs }

/-- An unstarted command leaves its core, or its cores, for the scoreboard. -/
def State.withdrawEnt (s : State) (e : QEnt) : State :=
  let s := match s.job e.job with
    | some x => s.setJob e.job (some (x.withdraw e.cmd))
    | none => s
  s.cores.foldl (fun s p => s.clearCore p.1 fun q => decide (q.job = e.job ∧ q.cmd = e.cmd)) s

/-- Where a pre-empted command stops: instructions done, steps done of the next, and the groups that those have summed (R251, R345). -/
abbrev Boundary := Nat × Nat × Nat

/-- A tensor command at the head of core `k` comes as far as a boundary: the tiles before are written, and every core with a part of it holds its
progress. One that cannot come so far stands before its first instruction, or where it was restored. -/
def State.progressTo (s : State) (k : Nat) (e : QEnt) (x : Job) (c : Cmd) (b : Boundary) : State :=
  match s.planOf k e.job x c with
  | none => s
  | some (fl, p) =>
    match s.runUpTo k x c.desc p (headFlaws c.desc c.idx ++ fl) b.1 b.2.1 b.2.2 with
    | none => s
    | some (s, pr, wide) => (s.partCores e).foldl (fun s m => s.setCore m { s.core m with prog := pr }) (s.markJob e.job false wide)

/-- Core `k` begins to save the context of an entry's job: unstarted commands of the displaced client return to the scoreboard, its slice ends, and
the save is charged to it (R313, R314, R317). -/
def State.beginSave (s : State) (k : Nat) (e : QEnt) : State :=
  let mine (q : QEnt) : Bool := decide (q.job = e.job ∧ q.cmd = e.cmd)
  let s := ((s.core k).queue.filter fun q => !mine q && decide (q.payer = e.payer)).foldl State.withdrawEnt s
  let part := (((s.core k).queue.find? mine).map QEnt.part).getD 0
  let q := s.core k
  let s := s.setCore k { q with
    queue := q.queue.filter fun x => !mine x, xfer := .save { e with part := part }, owed := e.payer.map fun o => (o, s.clk.enc) }
  s.endSlice k

/-- Core `k` is pre-empted (R317): the parts of a split command stop together (R347); one whose parts do not all stand at their cores' heads has
not started, and is withdrawn. -/
def State.preempt (s : State) (k : Nat) (b : Boundary) : State :=
  match s.headCmd k with
  | some (e, x, c) =>
    if s.partsReady e x c then
      let ks := s.partCores e
      ks.foldl (fun s m => s.beginSave m e) (s.progressTo k e x c b)
    else s.withdrawEnt e
  | none =>
    match s.idleRun k with
    | some (e, _) => s.beginSave k e
    | none => s

/-- The core pre-empted for REALTIME work: the one whose slice's owner has the highest pass (R314). -/
def State.victim (s : State) : Option Nat :=
  ((rotate 16 s.shep.corePtr).filter s.preemptible).foldl (fun b k =>
    let p (k : Nat) : Nat := match (s.core k).slice with
      | some (o, _) => s.passOf o
      | none => match s.headCmd k with
        | some (e, x, _) => s.passOf (e.payer.getD x.client)
        | none => 0
    match b with
    | none => some k
    | some m => if sx 64 (toU 64 ((p k : Int) - p m)) > 0 then some k else some m) none

/-- Transfers that make room for REALTIME work: saves in progress. -/
def State.savesRunning (s : State) : Nat := (s.cores.filter fun p => match p.2.xfer with | .save _ => true | _ => false).length

/-- Eligible core commands with REALTIME standing that wait (R314, R322). -/
def State.realtimeWaiting (s : State) : Nat :=
  (s.jobIds.map fun j => match s.job j, s.standingJob j with
    | some x, some y => if y.cls = .realtime then
        (x.cmds.filter fun c => s.eligible x c && !isShepOp (dOp c.desc) && !isLambOp (dOp c.desc)).length else 0
    | _, _ => 0).sum

/-- COMMAND_PLACE (R310, R314): the first core in rotating order that can take work takes it; otherwise a Lamb engine command is
queued; otherwise, where REALTIME work finds no core, one core is pre-empted, at boundary `b`. -/
def State.commandPlace (s : State) (b : Boundary) : State :=
  if s.shep.flush.isSome then s
  else
    let rt := (rotate 16 s.shep.corePtr).findSome? fun k =>
      if s.canTake k && (s.bestRealtime k).isSome then s.serveCore k else none
    match rt with
    | some t => t
    | none =>
      if s.savesRunning < s.realtimeWaiting ∧ s.victim.isSome then
        match s.victim with
        | some k => s.preempt k b
        | none => s
      else match (rotate 16 s.shep.corePtr).findSome? s.serveCore with
        | some t => t
        | none => (s.serveLamb).getD s

/-! ## Completion -/

/-- Command `i` of job `j` completes (R309): its dependants are released; the end of a run frees its core and save slot; the last
command ends the job. -/
def State.completeCmd (s : State) (j i : Nat) : State :=
  match s.job j with
  | none => s
  | some x =>
    match x.cmds.find? fun c => decide (c.idx = i) with
    | none => s
    | some c =>
      let rest := x.cmds.filter fun d => decide (d.idx ≠ i)
      let runs :=
        if !plCs c.place then x.runs
        else if plEnd c.place then x.runs.filter fun r => decide (r.first ≠ c.run)
        else x.runs.map fun r => if r.first = c.run then { r with done := r.done ++ [c] } else r
      let s := s.setJob j (some { x with cmds := rest, runs := runs })
      if rest.isEmpty ∧ x.next ≥ x.hdr.ncmd then s.finishJob j else s

/-- A command leaves the cores on which its parts stand; a slice that ended while it could not be pre-empted ends now, and one whose owner
has nothing left on the core (R314, R319). -/
def State.popCommand (s : State) (e : QEnt) : State :=
  (s.partCores e).foldl (fun s k =>
    let s := s.clearCore k fun q => decide (q.job = e.job ∧ q.cmd = e.cmd)
    match (s.core k).slice with
    | some (_, due) => if due ≤ s.clk.enc then s.endSlice k else s
    | none => s) s

/-- A core command ends with DATA_ERROR (R252, R433): its job ends early. -/
def State.dataErrorJob (s : State) (j : Nat) : State := (s.endJob j .dataError).cancelReasoned

/-- A command whose effect has taken place completes on core `k`, with all its parts (R309, R346). -/
def State.coreComplete (s : State) (k : Nat) : State :=
  match s.headCmd k with
  | some (e, _, c) =>
    if c.st = .executed ∧ e.part = 0 then
      (((s.popCommand e).bump (CR_PERF_CMD_DONE k)).completeCmd e.job c.idx).cancelReasoned
    else s
  | none => s

/-- A result joins a collector FIFO. -/
def State.pushResult (s : State) (f : Nat) (r : Result) : State :=
  { s with fold := { s.fold with fifos := Tab.set [] s.fold.fifos f (Tab.get [] s.fold.fifos f ++ [r]) } }

/-- Room in a collector FIFO of 64 results (R355). -/
def State.fifoRoom (s : State) (f : Nat) : Bool := decide ((Tab.get [] s.fold.fifos f).length < 64)

/-- A command whose effect has taken place completes on Lamb engine unit `u`, once the collector has room for the result it sends
(R236, R309, R355). -/
def State.unitComplete (s : State) (u : Nat) : State :=
  match Tab.get LambWork.idle s.lamb.units u with
  | .command e =>
    match (s.job e.job).bind fun x => x.cmds.find? fun c => decide (c.idx = e.cmd) with
    | some c =>
      let out : Option Result := Tab.get none s.lamb.emits u
      if c.st = .executed ∧ (out.isNone ∨ s.fifoRoom 16) then
        let s := s.idleUnits fun w => decide (w = .command e)
        let s : State := { s with lamb := { s.lamb with emits := Tab.set none s.lamb.emits u none } }
        let s := match out with
          | some r => s.pushResult 16 r
          | none => s
        (s.completeCmd e.job e.cmd).cancelReasoned
      else s
    | none => s
  | _ => s

/-- CORE_COMMAND_COMPLETE: every write of the command at an engine's head has been acknowledged (R309). -/
def State.commandComplete (s : State) (e : Engine) : State :=
  match e with
  | .core k => s.coreComplete k
  | .lamb u => s.unitComplete u

/-! ## SEM and WAIT -/

/-- The eligible command of job `j` that the Shepherd executes next, if its opcode and operation are as asked. -/
def State.shepNext (s : State) (j : Nat) (f : List Byte → Bool) : Option (Job × Cmd) :=
  if s.shep.flush.isSome then none
  else match s.job j with
    | none => none
    | some x =>
      match s.firstEligible x fun c => isShepOp (dOp c.desc) with
      | some c => if f c.desc then some (x, c) else none
      | none => none

/-- A SEM or WAIT that is legal is carried out; otherwise it is a job fault (R259, R321, R324). -/
def State.shepExec (s : State) (j : Nat) (f : List Byte → Bool) (act : State → Job → Cmd → State) : State :=
  match s.shepNext j f with
  | none => s
  | some (x, c) =>
    match shepCheck c.desc c.idx with
    | some cause => s.jobFault j cause
    | none =>
      if !(decide (dOp c.desc = 0x20) && decide (dByte c.desc 2 % 4 = 2)) && !s.semAllowed x.client (dByte c.desc 8) then s.jobFault j 7
      else act (s.beginJob j) x c

/-- The job no longer holds semaphore `i` (R322). -/
def State.releaseSem (s : State) (j i : Nat) : State :=
  match s.job j with
  | none => s
  | some x => s.setJob j (some { x with holds := x.holds.filter fun h => decide (h ≠ i) })

/-- SEM_SET and SEM_ADD: the semaphore changes and the command completes (R278); a SEM of operation 3 is found illegal there. -/
def State.semCmd (s : State) (j op : Nat) : State :=
  s.shepExec j (fun d => decide (dOp d = 0x20) && decide (dByte d 2 % 4 = op ∨ dByte d 2 % 4 = 3)) fun s _ c =>
    ((s.semOp c.desc).releaseSem j (dByte c.desc 8)).completeCmd j c.idx

/-- A producer index is set by host software or a job: refused with DM_RING_ERR where it would make the ring overfull (R443). -/
def State.setProd (s : State) (r v : Nat) : State :=
  let x := s.ring r
  if idxDiff v x.cons > 2 ^ x.size then s.raise 0x0B02 r
  else s.putRing r { x with prod := v % 2 ^ 32 }

/-- DOORBELL: the producer index of a ring is set to INDEX (R278, R443). -/
def State.doorbell (s : State) (j : Nat) : State :=
  s.shepExec j (fun d => decide (dOp d = 0x20) && decide (dByte d 2 % 4 = 2)) fun s _ c =>
    (s.setProd (dLe c.desc 16 2) (dLe c.desc 20 4)).completeCmd j c.idx

/-- Whether a WAIT's condition holds (R279). -/
def State.waitHolds (s : State) (d : List Byte) : Bool :=
  let v := s.fld (SH_SEM_VALUE (dByte d 8))
  if dByte d 2 % 4 = 0 then decide (v ≥ dLe d 12 4) else decide (v = dLe d 12 4)

/-- A WAIT whose condition holds completes, subtracting VALUE where DEC is set; the job then holds the semaphore (R279, R322). -/
def State.finishWait (s : State) (j : Nat) (c : Cmd) : State :=
  let i := dByte c.desc 8
  let s := if bit (dByte c.desc 2) 2 then
      let s := s.setFld (SH_SEM_VALUE i) (s.fld (SH_SEM_VALUE i) - dLe c.desc 12 4)
      match s.job j with
      | some x => s.setJob j (some { x with holds := i :: x.holds })
      | none => s
    else s
  s.completeCmd j c.idx

/-- WAIT: a job waits on a semaphore condition; one that holds already completes at once (R279). -/
def State.waitCmd (s : State) (j : Nat) : State :=
  s.shepExec j (fun d => decide (dOp d = 0x21)) fun s _ c =>
    if s.waitHolds c.desc then s.finishWait j c else s.setCmd j c.idx .pending

/-- The pending WAITs whose conditions hold, in rotating order of job-table entries (R279, R316). -/
def State.readyWait (s : State) : Option (Nat × Cmd) :=
  (rotate 256 s.shep.waitPtr).findSome? fun j =>
    match s.job j with
    | none => none
    | some x => (x.cmds.find? fun c => decide (c.st = .pending) && s.waitHolds c.desc).map fun c => (j, c)

/-- WAIT_SATISFY: the first pending WAIT whose condition holds completes (R279). -/
def State.waitSatisfy (s : State) : State :=
  if s.shep.flush.isSome then s
  else match s.readyWait with
    | none => s
    | some (j, c) => ({ s with shep := { s.shep with waitPtr := (j + 1) % 256 } }).finishWait j c

/-! ## Slices, saves and restores -/

/-- The slice of core `k` has run out for client `m`: the new slice goes to the active client with the lowest pass, `m`'s own work on the core
among it; where another wins, `m`'s running command is pre-empted at boundary `b` and its queued ones return to the scoreboard
(R314). -/
def State.newSlice (s : State) (k m : Nat) (b : Boundary) : State :=
  let t := s.endSlice k
  match t.lowestPass k (some m) with
  | none => t
  | some w =>
    if w = m then t.beginSlice k m
    else match t.headCmd k with
      | some (e, _, _) =>
        if e.payer = some m then t.preempt k b
        else ((t.core k).queue.filter fun q => decide (q.payer = some m)).foldl State.withdrawEnt t
      | none => t.preempt k b

/-- SLICE_EXPIRY: core `k`'s slice has expired (R314); where a command of its owner runs that cannot be pre-empted, the end takes effect when it
completes (R319). -/
def State.sliceExpiry (s : State) (k : Nat) (b : Boundary) : State :=
  match (s.core k).slice with
  | none => s
  | some (m, due) =>
    let s := s.advanceTo due
    match s.headCmd k with
    | some (e, _, _) => if e.payer = some m ∧ !s.preemptible k then s else s.newSlice k m b
    | none => s.newSlice k m b

/-- The address of a save slot (R318). -/
def State.saveAddr (s : State) (n : Nat) : Nat := 0x100000 * s.fld SH_SAVE_BASE + 0x300000 * n

/-- The header of a save slot (R318). -/
def saveHdr (run : Bool) (client core jobId cmd foot time : Nat) (pr : Progress) : List Byte :=
  leBytes 1 1 ++ leBytes 1 (b2n run + 2 * b2n (0 < pr.groups)) ++ leBytes 1 client ++ leBytes 1 core ++ leBytes 4 jobId ++ leBytes 4 cmd ++
    leBytes 4 pr.instr ++ leBytes 2 pr.step ++ leBytes 2 (if run then foot else 0) ++ leBytes 8 time ++ leBytes 36 0

/-- The unspent credits of a job return to the pool while every command of it that has been placed stands pre-empted (R323). -/
def Job.returnCredits (x : Job) : Job :=
  if x.cmds.all fun c => decide (c.st = .waiting ∨ c.st = .pending) then { x with credits := 0, credited := false } else x

/-- The open run that an entry of core `k` belongs to, none outside a run (R317). -/
def Job.runFor (x : Job) (k i : Nat) : Option Run :=
  match x.cmds.find? fun c => decide (c.idx = i) with
  | some c => x.runOf c
  | none => x.runs.find? fun r => decide (r.core = some k)

/-- The save slot of an entry of core `k`. -/
def Job.slotFor (x : Job) (k i : Nat) : Nat :=
  match x.runFor k i with
  | some r => r.slot.getD 0
  | none => ((x.cmds.find? fun c => decide (c.idx = i)).bind Cmd.slot).getD 0

/-- The address of part `part`'s context in a save slot (R318, R347). -/
def State.partAddr (s : State) (slot part : Nat) : Nat := s.saveAddr slot + 0x22000 * part

/-- The bytes of core `k`'s context for an entry, of its run's where `run` stands (R318). The encodings of the control state and of the
accumulators' place in their area are not stated: the accumulators' words stand first, and the other bytes are free. -/
def State.contextBytes (s : State) (k : Nat) (e : QEnt) (x : Job) (run : Bool) : State × List Byte :=
  let c := s.core k
  let (s, ctl) := s.drawBlock 4032
  let words := c.prog.acc.flatMap (leBytes 4)
  let (s, rest) := s.drawBlock (0x20000 - words.length)
  let cb := (List.range 4096).map (Tab.get 0 c.codebook)
  let foot := if run then s.peekN (coreBase k) (0x10000 * x.hdr.foot) else []
  (s, saveHdr run x.client k x.jobId e.cmd x.hdr.foot s.clk.dev c.prog ++ ctl ++ cb ++ words ++ rest ++ foot)

/-- The last part of a command stands saved: its run gives up its core, or the command returns to the scoreboard (R317). -/
def Job.savedOff (x : Job) (k : Nat) (e : QEnt) : Job :=
  let cmds := x.cmds.map fun d => if d.idx = e.cmd then { d with st := CmdState.waiting, saved := !plCs d.place } else d
  Job.returnCredits (match x.runFor k e.cmd with
    | some r => { x with cmds := cmds, runs := x.runs.map fun q => if q.first = r.first then { q with core := none, saved := true } else q }
    | none => { x with cmds := cmds })

/-- The context of core `k`, saved for an entry of a job. -/
def State.saveOut (s : State) (k : Nat) (e : QEnt) (x : Job) : State :=
  let slot := x.slotFor k e.cmd
  let (s, b) := s.contextBytes k e x (x.runFor k e.cmd).isSome
  let s := (s.write (s.partAddr slot e.part) b).1
  let c := s.core k
  let s : State := { s with shep := { s.shep with saves := Tab.set {} s.shep.saves (16 * slot + e.part) ⟨c.prog.groups, c.books⟩ } }
  let s := (s.setCore k { c with xfer := .none, prog := {}, codebook := [], book := none, books := [] }).payOwed k
  if s.cores.any fun p => match p.2.xfer with
    | .save q => decide (q.job = e.job ∧ q.cmd = e.cmd)
    | _ => false
  then s else s.setJob e.job (some (x.savedOff k e))

/-- SAVE_COMPLETE: the context of core `k`'s displaced job stands in its save slot (R317, R318). -/
def State.saveComplete (s : State) (k : Nat) : State :=
  match (s.core k).xfer with
  | .save e =>
    match s.job e.job with
    | none => (s.setCore k { s.core k with xfer := .none }).payOwed k
    | some x => s.saveOut k e x
  | _ => s

/-- What a core goes on from, as its save slot's bytes give it (R318, R345). -/
def readProgress (b : List Byte) (groups : Nat) : Progress :=
  { instr := dLe b 12 4, step := dLe b 16 2, groups := groups
    acc := if groups = 0 then [] else (List.range 0x8000).map fun i => dLe b (0x2000 + 4 * i) 4 }

/-- The last part of a command stands restored: its context is no longer the saved one (R317). -/
def Job.restored (x : Job) (e : QEnt) : Job :=
  let first := ((x.cmds.find? fun c => decide (c.idx = e.cmd)).bind x.runOf).map Run.first
  { x with
    cmds := x.cmds.map fun d => if d.idx = e.cmd then { d with saved := false } else d
    runs := x.runs.map fun r => if some r.first = first then { r with saved := false } else r }

/-- RESTORE_COMPLETE: the saved context stands on core `k`, and the job continues from the saved instruction and step (R317). An uncorrectable
line ends the job with DATA_ERROR (R433). -/
def State.restoreComplete (s : State) (k : Nat) : State :=
  match (s.core k).xfer with
  | .restore e =>
    match s.job e.job with
    | none => s.setCore k { s.core k with xfer := .none }
    | some x =>
      let slot := x.slotFor k e.cmd
      let a := s.partAddr slot e.part
      let run := (x.runFor k e.cmd).isSome
      match s.read a (0x22000 + (if run then 0x10000 * x.hdr.foot else 0)) with
      | (s, none) => (s.setCore k { s.core k with xfer := .none }).dataErrorJob e.job
      | (s, some b) =>
        let cb := (b.drop 0x1000).take 0x1000
        let ctl := Tab.get {} s.shep.saves (16 * slot + e.part)
        let s := if run then s.pokeL (coreBase k) (b.drop 0x22000) else s
        let q := s.core k
        let s := s.setCore k { q with
          xfer := .none, queue := e :: q.queue, prog := readProgress b ctl.groups
          codebook := (List.range 4096).foldl (fun t n => Tab.set 0 t n (cb[n]?.getD 0)) []
          book := some e.job, books := ctl.books }
        if s.cores.any fun p => match p.2.xfer with
          | .restore q => decide (q.job = e.job ∧ q.cmd = e.cmd)
          | _ => false
        then s else s.setJob e.job (some (x.restored e))
  | _ => s

/-- FLUSH_RESUME: after the flush, placement resumes (R324). -/
def State.flushResume (s : State) : State := { s with shep := { s.shep with flush := none, flushed := [] } }

/-- READMIT: SUSPECT and the flush history of a client are cleared (R326, R339). -/
def State.readmit (s : State) (c : Nat) : State :=
  let s := { s with shep := { s.shep with history := Tab.set [] s.shep.history c [] } }
  (s.setFld (SH_CSTAT_SUSPECT c) 0).setFld (SH_CSTAT_FLUSHES c) 0

/-- FLUSH_HISTORY_EXPIRY: flushes older than 10 s leave a client's history (R338). -/
def State.flushExpiry (s : State) (c : Nat) : State :=
  let l := s.recentFlushes c
  let s := { s with shep := { s.shep with history := Tab.set [] s.shep.history c l } }
  s.setFld (SH_CSTAT_FLUSHES c) (min 3 l.length)

/-! ## The collector -/

/-- COLLECTOR_ACCEPT: the collector accepts the oldest result of the next non-empty FIFO in rotating order and merges it into its
job's entry; an EMIT completes on acceptance; results of HOUSEKEEPING jobs and of jobs no longer in the table are discarded
(R356, R357). -/
def State.collectorAccept (s : State) : State :=
  match (rotate 18 s.fold.fifoPtr).find? fun f => !(Tab.get [] s.fold.fifos f).isEmpty with
  | none => s
  | some f =>
    match Tab.get [] s.fold.fifos f with
    | [] => s
    | r :: rest =>
      let s := { s with fold := { s.fold with fifos := Tab.set [] s.fold.fifos f rest, fifoPtr := (f + 1) % 18 } }
      match r.job with
      | none => s
      | some j =>
        match s.job j with
        | none => s
        | some x =>
          let s := if x.cls = .housekeeping then s else s.storeResult j r
          match r.cmd with
          | some i => s.setCmd j i .executed
          | none => s

end Sys2Proof.Machine
end

