-- ==== Sys2Proof/Machine/Drove.lean ====
section
/-! DEFINITION. The drove link: its states, flits, retry and credits, the Bellwether counter and launches, and the half-verdicts of
paired races (R97 to R106, R399 to R409). -/

namespace Sys2Proof.Machine

/-! ## The partition policy -/

/-- Owner parts that wait for their half and that the partition policy settles are settled (R409). -/
def State.settleWaiting (s : State) : State :=
  s.slotsInUse.foldl (fun s i => if (s.slot i).waitHalf && s.partitioned i then s.settlePart i else s) s

/-- A transition of the link to DOWN reaches the pairing (R409): parts in flight count as opened before it, held half-verdicts are
discarded, the partition may be reported again, waiting parts are settled. -/
def State.pairDown (s : State) : State :=
  let s := s.slotsInUse.foldl (fun s i => s.setSlot i { s.slot i with beforeDown := true }) s
  let s := s.pair.held.foldl (fun s h => s.bump (TM_RPSTAT_HALF_DISC h.race)) s
  ({ s with pair := { s.pair with held := [], reported := false } }).settleWaiting

/-! ## States of the link -/

/-- The link returns to ALIGN (or, with EN clear, to DOWN). -/
def State.linkAlign (s : State) : State :=
  { (s.setFld LN_DRVSTAT_STATE (if s.isOn LN_DRVCFG_EN then 1 else 0)) with
    drove := { s.drove with markers := [], fifo := [], partnerInit := false } }

/-- DROVE_LINK_DOWN (R106): unacknowledged flits and credits are discarded, the cause is recorded, LN_DROVE_DOWN is raised, and the link
returns to ALIGN while EN is set; a follower of the Bellwether counter falls free (R400). Causes: 1 LOCK, 2 SKEW, 3 ORDER, 4 RETRY,
5 PROTO. -/
def State.linkDown (s : State) (cause : Nat) : State :=
  let up := s.linkUp
  let s : State := { s with drove := { s.drove with
    window := [], nextSeq := 0, expSeq := 0, nakSent := false, nakDue := false, replay := none, retries := 0, credits := [], seen := [],
    freed := [], told := [] } }
  let s : State := s.jobIds.foldl (fun s j =>
    match s.job j with
    | some x => s.setJob j (some { x with credits := 0 })
    | none => s) s
  let s : State := (((s.bump LN_DRVSTAT_DOWN_CNT).setFld LN_DRVSTAT_DOWN_SEEN 1).setFld LN_DRVSTAT_CAUSE cause).raise 0x0103 cause
  let s : State := s.linkAlign.pairDown
  if up && decide (s.fld TM_BWCFG_BW_ROLE = 2 ∧ s.fld TM_BWSTAT_TRACK ≠ 0) then
    let s : State := { s with bell := { s.bell with exch := [], minTrip := none } }
    (s.setFld TM_BWSTAT_TRACK 0).raise 0x0406 (toU 32 (s.sfld TM_BWSTAT_BW_ERR))
  else s

/-- The loss of block lock on a drove lane, or a test setting on one, takes a link in INIT or UP DOWN with cause LOCK (R89, R106). -/
def State.droveLockLost (s : State) : State :=
  if s.isOn LN_DRVCFG_EN ∧ 2 ≤ s.fld LN_DRVSTAT_STATE then s.linkDown 1
  else { s with drove := { s.drove with markers := [], fifo := [] } }

/-- The link enters INIT (R102). -/
def State.linkInit (s : State) : State :=
  { (s.setFld LN_DRVSTAT_STATE 2) with
    drove := { s.drove with
      partnerInit := false, initTime := s.clk.dev, nextSeq := 0, expSeq := 0, window := [], replay := none, retries := 0,
      nakSent := false, nakDue := false, credits := [], seen := [], freed := [], told := [] } }

/-- The link enters UP (R102, R106): LN_DROVE_UP carries SKEW; the credits are those of the partner's INIT. -/
def State.linkEnterUp (s : State) : State :=
  (s.setFld LN_DRVSTAT_STATE 3).raise 0x0102 (s.fld LN_DRVSTAT_SKEW)

/-! ## Flits -/

/-- A flit's header fields (R100). -/
structure Flit where
  crdCnt : Nat
  crdClass : Nat
  ack : Nat
  seq : Nat
  len : Nat
  cls : Nat
  ver : Nat
  kind : Nat
  rsv : Nat
  data : List Byte
deriving DecidableEq, Repr

/-- The header of a flit read from its bytes. -/
def readFlit (b : List Byte) : Flit :=
  let h := dLe b 0 8
  { crdCnt := bits h 50 6, crdClass := bits h 45 5, ack := bits h 33 12, seq := bits h 21 12, len := bits h 13 8, cls := bits h 8 5,
    ver := bits h 4 4, kind := bits h 0 4, rsv := bits h 56 8, data := (b.drop 8).take (bits h 13 8) }

/-- Whether a flit of 256 bytes has a good CRC (R101). -/
def flitCrcOk (b : List Byte) : Bool := decide (b.length = 256) && decide (dLe b 252 4 = crc32 (b.take 252))

/-- Whether a flit with a good CRC is legal (R101). -/
def Flit.legal (f : Flit) : Bool :=
  decide (f.ver = 1 ∧ f.kind < 4 ∧ f.rsv = 0 ∧ f.len ≤ 244 ∧ f.cls < 18 ∧ f.crdClass < 18)

/-- The 256 bytes of a flit (R97, R100, R101). -/
def Flit.bytes (f : Flit) : List Byte :=
  let b := leBytes 8 (f.kind + f.ver * 2 ^ 4 + f.cls * 2 ^ 8 + f.len * 2 ^ 13 + f.seq * 2 ^ 21 + f.ack * 2 ^ 33 +
    f.crdClass * 2 ^ 45 + f.crdCnt * 2 ^ 50 + f.rsv * 2 ^ 56) ++ (f.data ++ leBytes (244 - f.data.length) 0).take 244
  b ++ leBytes 4 (crc32 b)

/-- A flit leaves the transmitter, carrying ACK and the next class's freed credits in rotating order, striped over the four lanes (R97, R98, R100, R104). -/
def State.sendFlit (s : State) (kind seq cls : Nat) (data : List Byte) : State :=
  let d := s.drove
  let c := d.tellPtr % 18
  let f : Flit := ⟨Tab.get 0 d.freed c % 64, c, (d.expSeq + 4095) % 4096, seq, data.length, cls, 1, kind, 0, data⟩
  let s : State := { s with drove := { d with
    lastFlit := f.bytes, told := Tab.set 0 d.told c (Tab.get 0 d.freed c), tellPtr := (c + 1) % 18 } }
  [12, 13, 14, 15].foldl (fun s l => s.sendStripe f.bytes l) s

/-- A payload is submitted to a class (R105). -/
def State.submitFlit (s : State) (cls : Nat) (data : List Byte) : State :=
  { s with drove := { s.drove with queue := Tab.set [] s.drove.queue cls (Tab.get [] s.drove.queue cls ++ [data]) } }

/-- A class's sink has consumed a flit: one credit is freed (R104). -/
def State.freeCredit (s : State) (cls : Nat) : State :=
  { s with drove := { s.drove with freed := Tab.set 0 s.drove.freed cls (Tab.get 0 s.drove.freed cls + 1) } }

/-- A class-0 message of `n` bytes with its three 8-byte words (R399). -/
def bellMsg (kind : Nat) (w : List Nat) : List Byte := leBytes 8 kind ++ w.flatMap (leBytes 8)

/-! ## Launch -/

/-- The launch actions (R401): trigger outputs and races are enabled, positions are latched, ARM is cleared, LAUNCHED set, TM_LAUNCH
raised with the low half of L. -/
def State.launchActions (s : State) : State :=
  let trg := s.fld TM_LAUNCHCFG_TRG_MASK
  let races := s.fld TM_LAUNCHCFG_RACE_MASK
  let s := (List.range 8).foldl (fun s t => if trg.testBit t then s.enableTrig t true else s) s
  let s := (List.range 16).foldl (fun s r => if races.testBit r then s.raceEnable r true else s) s
  let s := (List.range 4).foldl (fun s e =>
    if s.encFitted e && s.isOn (PS_ENCCFG_EN e) then
      (s.setSFld (TM_LPOS_POS e) (s.posOf e)).setFlag (TM_LPOS_VALID e) (!s.isOn (PS_ENCSTAT_FAILED e))
    else s) s
  let s := (List.range 4).foldl (fun s e => s.setFld (TM_PAIROFS_PAIR_VALID e) 0) s
  let s := ((s.setFld TM_LAUNCHCFG_ARM 0).setFld TM_BWSTAT_LAUNCHED 1).encHold
  let s := { s with bell := { s.bell with check := none, go := none, sendAfter := false } }
  (s.raise 0x0404 (s.fld TM_LAUNCH_L)).settleWaiting

/-- A launch is missed (R402). -/
def State.launchMiss (s : State) : State :=
  let s := ((s.setFld TM_LAUNCHCFG_ARM 0).setFld TM_BWSTAT_MISSED 1).encHold
  let s := { s with bell := { s.bell with check := none, sendAfter := false } }
  s.raise 0x0405 (s.fld TM_LAUNCH_L)

/-- LAUNCH is sent with L (R402). -/
def State.sendLaunch (s : State) : State := s.submitFlit 0 (bellMsg 3 [s.fld TM_LAUNCH_L, 0, 0])

/-- LAUNCH_POS is sent with L and the four latches (R403). -/
def State.sendLaunchPos (s : State) : State :=
  let latch (e : Nat) : Nat := s.fld (TM_LPOS_POS e) + s.fld (TM_LPOS_VALID e) * 2 ^ 63
  s.submitFlit 0 (bellMsg 4 [s.fld TM_LAUNCH_L, 0, 0, latch 0, latch 1, latch 2, latch 3])

/-- The pair offsets follow from the partner's latches, where both sides are VALID (R403). -/
def State.pairOffsets (s : State) (l : List Nat) : State :=
  let s := (List.range 4).foldl (fun s e =>
    let p := l[e]?.getD 0
    if s.isOn (TM_LPOS_VALID e) && bit p 63 then
      (s.setSFld (TM_PAIROFS_OFS e) (posDiff (s.sfld (TM_LPOS_POS e)) (sx 48 p))).setFld (TM_PAIROFS_PAIR_VALID e) 1
    else s) s
  { s with bell := { s.bell with posDue := none, partnerPos := none } }

/-- LAUNCH_CHECK: at L − 100,000 a paired module that is armed checks that it holds a matching LAUNCH (R402). -/
def State.launchCheck (s : State) : State :=
  if s.isOn TM_LAUNCHCFG_ARM && s.isOn TM_BWCFG_PAIRED && decide (s.fld TM_BWCFG_BW_ROLE ≠ 3) then
    let s := s.advanceBw (s.fld TM_LAUNCH_L - 100000)
    { s with bell := { s.bell with check := some (decide (s.bell.partnerL = some (s.fld TM_LAUNCH_L))) } }
  else s

/-- LAUNCH: the counter reaches L while ARM is set (R401, R402); a paired module launches only where its check held, and
exchanges positions only where the link is UP (R403). -/
def State.launch (s : State) : State :=
  if !s.isOn TM_LAUNCHCFG_ARM || decide (s.fld TM_BWCFG_BW_ROLE = 3) then s
  else
    let l := s.fld TM_LAUNCH_L
    let paired := s.isOn TM_BWCFG_PAIRED
    let s := if paired ∧ s.bell.check = none then s.launchCheck else s
    let ok := !paired || decide (s.bell.check = some true)
    let s := s.advanceBw l
    if !ok then s.launchMiss
    else
      let s := s.launchActions
      if !paired then s
      else
        let s : State := { s with bell := { s.bell with partnerL := none, posDue := if s.linkUp then some l else none } }
        if !s.linkUp then s
        else match s.bell.partnerPos with
          | some (m, p) => if m = l then s.sendLaunchPos.pairOffsets p else s.sendLaunchPos
          | none => s.sendLaunchPos

/-- LAUNCH_POS_TIMEOUT: 10 ms after L no LAUNCH_POS has arrived: PAIR_VALID stays 0 (R403). -/
def State.launchPosTimeout (s : State) : State :=
  match s.bell.posDue with
  | none => s
  | some l =>
    let s := s.advanceBw (1000000 + l)
    ({ s with bell := { s.bell with posDue := none } }).settleWaiting

/-- LAUNCH_ARM: a write to TM_LAUNCHCFG (R402, R404, R422): ARM is taken where L lies at least 1 ms ahead; a follower in FREE aligns first;
an armed paired module sends LAUNCH, one in BARRIER role sends READY. -/
def State.launchArm (s : State) (v : Nat) : State :=
  let was := s.isOn TM_LAUNCHCFG_ARM
  let s := (s.setFld TM_LAUNCHCFG_TRG_MASK (bits v 16 8)).setFld TM_LAUNCHCFG_RACE_MASK (bits v 0 16)
  if was then (if bit v 31 then s else s.setFld TM_LAUNCHCFG_ARM 0).encHold
  else if !bit v 31 then s.encHold
  else
    let role := s.fld TM_BWCFG_BW_ROLE
    if role = 3 then
      ((s.setFld TM_LAUNCHCFG_ARM 1).submitFlit 1 (leBytes 1 1 ++ leBytes 1 (s.fld TM_BWCFG_BAR_ID) ++ leBytes 30 0)).encHold
    else if s.fld TM_LAUNCH_L < 100000 + s.clk.bw then (s.setFld TM_BWSTAT_MISSED 1).encHold
    else
      let s := s.setFld TM_LAUNCHCFG_ARM 1
      let s := { s with bell := { s.bell with check := none, posDue := none, sendAfter := false } }
      let s :=
        if role = 2 ∧ s.fld TM_BWSTAT_TRACK = 0 then
          { (s.setFld TM_BWSTAT_TRACK 1) with
            bell := { s.bell with exch := [], minTrip := none, lastReq := s.clk.dev, sendAfter := s.isOn TM_BWCFG_PAIRED } }
        else if s.isOn TM_BWCFG_PAIRED then s.sendLaunch else s
      s.encHold

/-- BARRIER_LAUNCH: 64 ticks after GO the launch actions are performed (R404). -/
def State.barrierLaunch (s : State) : State :=
  match s.bell.go with
  | none => s
  | some g => if s.isOn TM_LAUNCHCFG_ARM then (s.advanceBw g).launchActions else { s with bell := { s.bell with go := none } }

/-! ## Alignment of the Bellwether counter -/

/-- ALIGN_EXCHANGE_TIMER: the interval of 10 µs (aligning) or 1 ms (tracking) expires and the follower sends ALIGN_REQ (R400). -/
def State.alignTimer (s : State) : State :=
  let t := s.fld TM_BWSTAT_TRACK
  if s.fld TM_BWCFG_BW_ROLE = 2 ∧ s.linkUp ∧ t ≠ 0 then
    let s := s.advanceDev (s.bell.lastReq + (if t = 1 then 10000 else 1000000))
    ({ s with bell := { s.bell with lastReq := s.clk.dev } }).submitFlit 0 (bellMsg 1 [0, 0, 0])
  else s

/-- Half of twice an error, in whole ticks. -/
def halfTicks (e2 : Int) : Int := e2 / 2

/-- The exchange with the smallest round trip. -/
def bestExchange : List (Int × Int) → Option (Int × Int)
  | [] => none
  | x :: t =>
    match bestExchange t with
    | none => some x
    | some y => if x.1 ≤ y.1 then some x else some y

/-- An exchange at the follower (R400): sixteen align the counter by a step, later ones trim it where the round trip is near the
smallest. The trim that tracking chooses is a free value within ±200 ppm. -/
def State.alignExchange (s : State) (trip err2 : Int) : State :=
  let s := s.setSFld TM_BWSTAT_BW_ERR (clampI (-32768) 32767 (halfTicks err2))
  let b := s.bell
  let low := match b.minTrip with | some m => min m trip | none => trip
  if s.fld TM_BWSTAT_TRACK = 1 then
    let l := b.exch ++ [(trip, err2)]
    if l.length < 16 then { s with bell := { b with exch := l, minTrip := some low } }
    else
      let e := match bestExchange l with | some x => halfTicks x.2 | none => 0
      let s := { (s.setFld TM_BWSTAT_TRACK 2) with
        clk := { s.clk with bw := toU 64 ((s.clk.bw : Int) + e) }
        bell := { b with exch := [], minTrip := some low, sendAfter := false } }
      if b.sendAfter then s.sendLaunch else s
  else if s.fld TM_BWSTAT_TRACK = 2 then
    let s := { s with bell := { b with minTrip := some low } }
    if trip ≤ low + 20 then
      let (s, n) := s.drawFree 32
      { s with clk := { s.clk with bwTrim := ((n % 400001 : Nat) : Int) - 200000 } }
    else s
  else s

/-- A class-0 message is consumed (R399 to R403). -/
def State.bellReceive (s : State) (p : List Byte) : State :=
  let w (i : Nat) : Nat := dLe p (8 * i) 8
  let s := s.freeCredit 0
  match dByte p 0 with
  | 1 => if s.fld TM_BWCFG_BW_ROLE = 1 then s.submitFlit 0 (bellMsg 2 [w 3, s.clk.bw, 0]) else s
  | 2 =>
    if s.fld TM_BWCFG_BW_ROLE = 2 then
      let t1 : Int := w 1
      let t2 : Int := w 2
      let t3 : Int := w 3
      let t4 : Int := s.clk.bw
      s.alignExchange ((t4 - t1) - (t3 - t2)) ((t2 - t1) - (t4 - t3))
    else s
  | 3 => { s with bell := { s.bell with partnerL := some (w 1) } }
  | 4 =>
    let l := [w 4, w 5, w 6, w 7]
    if s.bell.posDue = some (w 1) then s.pairOffsets l
    else { s with bell := { s.bell with partnerPos := some (w 1, l) } }
  | _ => s

/-- A class-1 message is consumed (R404): the first GO after READY sets the launch count; every other message is discarded. -/
def State.barrierReceive (s : State) (p : List Byte) : State :=
  let s := s.freeCredit 1
  if s.fld TM_BWCFG_BW_ROLE = 3 ∧ s.isOn TM_LAUNCHCFG_ARM ∧ dByte p 0 = 2 ∧ s.bell.go = none then
    { s with bell := { s.bell with go := some (s.clk.bw + 64) } }
  else s

/-! ## Half-verdicts -/

/-- The payload of a half-verdict (R406). -/
def Half.bytes (h : Half) : List Byte :=
  leBytes 4 h.psn ++ leBytes 1 h.race ++ leBytes 1 (computedCode h.computed + 16 * h.reason.code) ++
    leBytes 2 (b2n h.widened + 2 * b2n h.mixedEpoch + 8 * b2n h.doubt + 128 * b2n h.scored) ++ leBytes 4 h.score ++
    leBytes 2 (h.cls % 4096) ++ leBytes 2 h.model ++ leBytes 6 (toU 48 h.pStart) ++ leBytes 2 0 ++ leBytes 8 h.bw

/-- The reason of a code (R373). -/
def reasonOf (n : Nat) : Reason :=
  match n with
  | 1 => .late | 2 => .dataError | 3 => .jobLost | 4 => .positionDoubt | 5 => .tooShort | 6 => .truncated | 7 => .overlong
  | 8 => .partition | 9 => .notDecoded | _ => .none

/-- COMPUTED of a code (R373). -/
def computedOf (n : Nat) : Option Verdict := if n = 0 then some .accept else if n < 8 then some (.bin n) else if n = 8 then some .unjudged else none

/-- A half-verdict read from its payload; the race is that of its class. -/
def readHalf (r : Nat) (p : List Byte) : Half :=
  { psn := dLe p 0 4, race := r, computed := computedOf (dByte p 5 % 16), reason := reasonOf (dByte p 5 / 16),
    widened := bit (dLe p 6 2) 0, mixedEpoch := bit (dLe p 6 2) 1, doubt := bit (dLe p 6 2) 3, scored := bit (dLe p 6 2) 7,
    score := dLe p 8 4, cls := dLe p 12 2 % 4096, model := dLe p 14 2, pStart := sx 48 (dLe p 16 6), bw := dLe p 24 8 }

/-- The waiting owner part that a half-verdict matches best: smallest difference, then lowest PSN (R407). -/
def State.bestWaiting (s : State) (h : Half) : Option Nat :=
  (s.slotsInUse.filter fun i => (s.slot i).waitHalf && s.halfMatches i h).foldl (fun b i =>
    match b with
    | none => some i
    | some j =>
      if s.halfGap i h < s.halfGap j h ∨ (s.halfGap i h = s.halfGap j h ∧ (s.slot i).psn < (s.slot j).psn) then some i else some j) none

/-- HALF_VERDICT_RECEIVE: a half-verdict meets a waiting part or is held (R407); a race without OWNER role discards it. -/
def State.halfReceive (s : State) (r : Nat) (p : List Byte) : State :=
  let h := readHalf r p
  if s.pairRole r ≠ 1 then s.freeCredit (2 + r)
  else match s.bestWaiting h with
    | some i => (s.freeCredit (2 + r)).combineHalf i h
    | none => { s with pair := { s.pair with held := s.pair.held ++ [h] } }

/-- HALF_VERDICT_SEND: the oldest half-verdict that waits is submitted once a credit of its class is available (R406). -/
def State.halfSend (s : State) : State :=
  match s.pair.toSend with
  | [] => s
  | h :: rest =>
    let s' := { s with pair := { s.pair with toSend := rest } }
    if !s.linkUp then s'.bump (TM_RPSTAT_HALF_DROP h.race)
    else if Tab.get 0 s.drove.credits (2 + h.race) ≤ s.boundCredits (2 + h.race) then s
    else s'.submitFlit (2 + h.race) h.bytes

/-! ## Retry -/

/-- An acknowledgement of every flit up to `seq` (R103). -/
def State.flitAck (s : State) (seq : Nat) : State :=
  let d := s.drove
  if d.window.any fun f => decide (f.seq = seq) then
    let rest := (d.window.dropWhile fun f => decide (f.seq ≠ seq)).drop 1
    let rep := match d.replay with
      | some q => if rest.any fun f => decide (f.seq = q) then some q else rest.head?.map SentFlit.seq
      | none => none
    { s with drove := { d with window := rest, replay := rep, retries := 0, ackTime := s.clk.dev } }
  else s

/-- Credits reported by the partner (R104). -/
def State.flitCredits (s : State) (c n : Nat) : State :=
  let d := s.drove
  let new := (n + 64 - Tab.get 0 d.seen c % 64) % 64
  { s with drove := { d with
    seen := Tab.set 0 d.seen c (n % 64), credits := Tab.set 0 d.credits c (Tab.get 0 d.credits c + new) } }

/-- A replay starts from `seq` (R103); RETRY_LIMIT replays without ACK advance take the link DOWN. -/
def State.startReplay (s : State) (seq : Nat) : State :=
  if !(s.drove.window.any fun f => decide (f.seq = seq)) then s
  else
    let n := s.drove.retries + 1
    let s := { s with drove := { s.drove with replay := some seq, retries := n, ackTime := s.clk.dev } }
    let s := s.bump LN_DRVCNT_RETRY_CNT
    if n ≥ s.fld LN_DRVCFG_RETRY_LIMIT then s.linkDown 4 else s

/-- A NAK falls due, once until the next flit accepted in order (R103). -/
def State.oweNak (s : State) : State :=
  if s.drove.nakSent then s else { s with drove := { s.drove with nakSent := true, nakDue := true } }

/-- DROVE_FLIT_BAD_CRC: the flit is discarded and counted (R101); in UP the receiver owes a NAK (R103). -/
def State.flitBadCrc (s : State) : State :=
  if s.fld LN_DRVSTAT_STATE < 2 then s
  else
    let s := s.bump LN_DRVCNT_CRC_ERR
    if s.linkUp then s.oweNak else s

/-- What every received flit meets first (R101, R102): CRC, legality; `f` is what a good flit of the expected type does. -/
def State.recvFlit (s : State) (b : List Byte) (kind : Nat) (f : Flit → State → State) : State :=
  if s.fld LN_DRVSTAT_STATE < 2 then s
  else if !flitCrcOk b then s.flitBadCrc
  else if !(readFlit b).legal then s.linkDown 5
  else if (readFlit b).kind = kind then f (readFlit b) s
  else s

/-- DROVE_INIT_FLIT: in INIT the partner's initial credits are taken; in UP the partner has restarted (R102). -/
def State.initFlit (s : State) (b : List Byte) : State :=
  s.recvFlit b 3 fun f s =>
    if s.linkUp then s.linkDown 5
    else { s with drove := { s.drove with
      partnerInit := true
      credits := (List.range 18).foldl (fun t c => Tab.set 0 t c (dByte f.data c)) [] } }

/-- A side in INIT that has the partner's INIT enters UP on a good NOP or DATA flit (R102). -/
def State.maybeUp (s : State) : State := if s.fld LN_DRVSTAT_STATE = 2 ∧ s.drove.partnerInit then s.linkEnterUp else s

/-- DROVE_NOP_FLIT: ACK and credits; it may bring the link UP (R102 to R104). -/
def State.nopFlit (s : State) (b : List Byte) : State :=
  s.recvFlit b 0 fun f s =>
    let s := s.maybeUp
    if s.linkUp then (s.flitAck f.ack).flitCredits f.crdClass f.crdCnt else s

/-- A DATA flit's payload reaches its class's sink. -/
def State.deliverFlit (s : State) (f : Flit) : State :=
  if f.cls = 0 then s.bellReceive f.data
  else if f.cls = 1 then s.barrierReceive f.data
  else s.halfReceive (f.cls - 2) f.data

/-- DROVE_DATA_FLIT: accepted in sequence, or discarded with a NAK (R103). -/
def State.dataFlit (s : State) (b : List Byte) : State :=
  s.recvFlit b 1 fun f s =>
    let s := s.maybeUp
    if !s.linkUp then s
    else
      let s := (s.flitAck f.ack).flitCredits f.crdClass f.crdCnt
      if f.seq = s.drove.expSeq then
        ({ s with drove := { s.drove with expSeq := (f.seq + 1) % 4096, nakSent := false, nakDue := false } }).deliverFlit f
      else s.oweNak

/-- DROVE_NAK_FLIT: everything before its SEQ is acknowledged and a replay starts from that SEQ (R103). -/
def State.nakFlit (s : State) (b : List Byte) : State :=
  s.recvFlit b 2 fun f s =>
    if !s.linkUp then s
    else (((s.flitAck f.ack).flitCredits f.crdClass f.crdCnt).flitAck ((f.seq + 4095) % 4096)).startReplay f.seq

/-- A flit that the four lanes have carried block by block arrives: it does what its own command does. -/
def State.flitArrives (s : State) (b : List Byte) : State :=
  if !flitCrcOk b then s.flitBadCrc
  else match (readFlit b).kind with
    | 0 => s.nopFlit b
    | 1 => s.dataFlit b
    | 2 => s.nakFlit b
    | _ => s.initFlit b

/-- DROVE_ACK_TIMEOUT: no ACK advance for ACK_TIMEOUT ns, and a replay starts from the oldest outstanding flit (R103). -/
def State.ackTimeout (s : State) : State :=
  if !s.linkUp then s
  else match s.drove.window with
    | [] => s
    | f :: _ => (s.advanceDev (s.drove.ackTime + s.fld LN_DRVCFG_ACK_TIMEOUT)).startReplay f.seq

/-! ## Transmission -/

/-- The class whose flit is sent next: 0, then 1, then 2 to 17 in rotation, each with a payload waiting and a credit held (R105). -/
def State.nextClass (s : State) : Option Nat :=
  let d := s.drove
  let ready (c : Nat) : Bool := (Tab.get [] d.queue c).length != 0 && decide (0 < Tab.get 0 d.credits c)
  if ready 0 then some 0 else if ready 1 then some 1
  else ((List.range 16).map fun i => 2 + (d.classPtr - 2 + i) % 16).find? ready

/-- The Bellwether count is inserted into an alignment message as its first block is serialised (R399). -/
def State.stampBell (s : State) (cls : Nat) (data : List Byte) : List Byte :=
  if cls = 0 ∧ (dByte data 0 = 1 ∨ dByte data 0 = 2) then data.take 24 ++ leBytes 8 s.clk.bw ++ data.drop 32 else data

/-- A new DATA flit of class `c` is sent: it spends a credit and joins the window. -/
def State.sendNew (s : State) (c : Nat) : State :=
  match Tab.get [] s.drove.queue c with
  | [] => s
  | p :: rest =>
    let d := s.drove
    let p := s.stampBell c p
    let q := d.nextSeq
    let s := { s with drove := { d with
      queue := Tab.set [] d.queue c rest, credits := Tab.set 0 d.credits c (Tab.get 0 d.credits c - 1)
      window := d.window ++ [SentFlit.mk q c p], nextSeq := (q + 1) % 4096
      ackTime := if d.window = [] then s.clk.dev else d.ackTime
      classPtr := if 2 ≤ c then 2 + (c - 1) % 16 else d.classPtr } }
    s.sendFlit 1 q c p

/-- DROVE_FLIT_TRANSMIT: a NAK that is due, a replayed flit, a new flit by class order, or a NOP (R102, R103, R105). -/
def State.flitTransmit (s : State) : State :=
  let d := s.drove
  if s.fld LN_DRVSTAT_STATE = 2 then (if d.partnerInit then s.sendFlit 0 0 0 [] else s)
  else if !s.linkUp then s
  else if d.nakDue then ({ s with drove := { d with nakDue := false } }).sendFlit 2 d.expSeq 0 []
  else match d.replay.bind fun q => d.window.find? fun f => decide (f.seq = q) with
    | some f =>
      let next := ((d.window.dropWhile fun g => decide (g.seq ≠ f.seq)).drop 1).head?.map SentFlit.seq
      ({ s with drove := { d with replay := next } }).sendFlit 1 f.seq f.cls f.data
    | none =>
      if d.window.length ≥ 128 then s.sendFlit 0 0 0 []
      else match s.nextClass with
        | some c => s.sendNew c
        | none => s.sendFlit 0 0 0 []

/-- DROVE_INIT_SEND: every 1 µs in INIT an INIT flit with the side's initial credits is sent (R102). -/
def State.initSend (s : State) : State :=
  if s.fld LN_DRVSTAT_STATE ≠ 2 then s
  else
    let t := s.drove.initTime
    let s := s.advanceDev (t + ((s.clk.dev - t) / 1000 + 1) * 1000)
    s.sendFlit 3 0 0 ((List.range 18).flatMap fun c => leBytes 1 (Tab.get 0 s.drove.initial c))

/-- DROVE_INIT_TIMEOUT: after more than 10 ms in INIT the link returns to ALIGN (R102). -/
def State.initTimeout (s : State) : State :=
  if s.fld LN_DRVSTAT_STATE ≠ 2 then s else (s.advanceDev (10000001 + s.drove.initTime)).linkAlign

end Sys2Proof.Machine
end

