-- ==== Sys2Proof/Machine/Intake.lean ====
section
/-! DEFINITION. The Intake: GVSP blocks, line tags, missing lines and the fill policy, the release of view lines
(R118 to R132, R137, R634). -/

namespace Sys2Proof.Machine

/-! ## View lines -/

/-- The view line with a number, created where it is not yet there, in the order of numbers. -/
def putPart (num : Nat) (tag : Int) (n : Nat) (p : LinePart) : List ViewLine → List ViewLine
  | [] => [{ num := num, tag := tag, parts := Tab.set none [] n (some p) }]
  | x :: t =>
    if x.num = num then { x with parts := Tab.set none x.parts n (some p) } :: t
    else if numDiff num x.num < 0 then { num := num, tag := tag, parts := Tab.set none [] n (some p) } :: x :: t
    else x :: putPart num tag n p t

/-- Whether a view waits for a stream to give the line with a number (R129, R132, R634): in TRIGGER mode while the stream expects it, in PTP mode
while its next line is that one or an earlier one. -/
def State.awaits (s : State) (v n num : Nat) : Bool :=
  let x := s.stream n
  if s.ptpView v then x.seq.any fun q => decide (numDiff q num ≤ 0)
  else x.expect.any fun e => decide (e.num = num)

/-- Whether every enabled stream of a view that owes it a line has given the line (R132). -/
def State.lineComplete (s : State) (v : Nat) (x : ViewLine) : Bool :=
  (s.liveStreams v).all fun n => (Tab.get none x.parts n).isSome || !s.awaits v n x.num

/-- The view line stitched from its streams (R154): its reference-frame position, FILLED and gap bits, pixels. -/
def State.stitch (s : State) (v : Nat) (x : ViewLine) : Line :=
  let part (n : Nat) : Option LinePart := if s.isOn (IN_STRCFG_EN n) then Tab.get none x.parts n else none
  let ns := s.viewStreams v
  { num := x.num
    pos := sx 64 (toU 64 (x.tag - s.yOfs v * 65536))
    gain := 16384
    filled := ns.foldl (fun m n => match part n with | some (.pixels _ true) => m ||| 2 ^ n | _ => m) 0
    gap := ns.foldl (fun m n => match part n with | some (.pixels _ _) => m | _ => m ||| 2 ^ n) 0
    px := (List.range (s.viewWidth v)).map fun i =>
      match s.streamAt v i with
      | some n => match part n with
        | some (.pixels px _) => px[i - s.fld (IN_STRGEOM_X_OFS n)]?.getD 0
        | _ => 0
      | none => 0 }

/-- VIEW_LINE_RELEASE (R132): the oldest view lines are released while they are complete. -/
def State.releaseLines : Nat → State → Nat → State
  | 0, s, _ => s
  | fuel + 1, s, v =>
    let w := s.view v
    match w.pendingLines with
    | [] => s
    | x :: rest =>
      if s.lineComplete v x then
        let s := s.setView v { w with pendingLines := rest, released := some x.num }
        State.releaseLines fuel (s.pixelLine v (s.stitch v x)) v
      else s

/-- A stream has resolved a line of its view. -/
def State.givePart (s : State) (n num : Nat) (tag : Int) (p : LinePart) : State :=
  let v := s.fld (IN_STRCFG_VIEW n)
  let w := s.view v
  let s := s.setView v { w with pendingLines := putPart num tag n p w.pendingLines }
  State.releaseLines (s.view v).pendingLines.length s v

/-- A line is delivered: a run of missing lines ends (R130). -/
def State.deliverLine (s : State) (n num : Nat) (tag : Int) (px : List Nat) : State :=
  let x := s.stream n
  (s.setStream n { x with last := some px, run := 0, runTold := false }).givePart n num tag (.pixels px false)

/-- A line is missing (R129 to R131): among the first MAX_FILL of its run it is filled with a copy of the last delivered line,
otherwise it is a gap; IN_LINE_MISSING for the first gap of a run. -/
def State.missLine (s : State) (n num : Nat) (tag : Int) : State :=
  let v := s.fld (IN_STRCFG_VIEW n)
  let s := s.bump (IN_VIEWSTAT_MISSING v)
  let x := s.stream n
  let run := x.run + 1
  let x := { x with run := run, runPos := if run = 1 then tag - s.yOfs v * 65536 else x.runPos }
  let s := s.setStream n x
  match x.last with
  | some px =>
    if run ≤ s.fld (IN_VIEWCFG_MAX_FILL v) then (s.bump (IN_VIEWSTAT_FILLED v)).givePart n num tag (.pixels px true)
    else
      let s := if x.runTold then s else (s.setStream n { x with runTold := true }).raise 0x0203 n (toU 32 (int16 x.runPos))
      s.givePart n num tag .gap
  | none =>
    let s := if x.runTold then s else (s.setStream n { x with runTold := true }).raise 0x0203 n (toU 32 (int16 x.runPos))
    s.givePart n num tag .gap

/-- A line tagged invalid is counted; IN_TAG_INVALID at most once per view per millisecond (R127). -/
def State.tagInvalid (s : State) (n : Nat) : State :=
  let v := s.fld (IN_STRCFG_VIEW n)
  let s := s.bump (IN_VIEWSTAT_TAG_INV v)
  let w := s.view v
  if w.tagTime = 0 ∨ 1000000 + w.tagTime ≤ s.clk.dev + 1 then
    (s.setView v { w with tagTime := s.clk.dev + 1 }).raise 0x0202 v
  else s

/-! ## TRIGGER mode -/

/-- An expected line becomes missing (R129). -/
def State.missExpected (s : State) (n : Nat) (e : Expect) : State :=
  let x := s.stream n
  (s.setStream n { x with expect := x.expect.filter fun f => decide (f.num ≠ e.num) }).missLine n e.num (e.pos * 65536)

/-- Expected lines before trigger `k` become missing, in order (R129). -/
def State.missUpTo (s : State) (n k : Nat) : State :=
  ((s.stream n).expect.filter fun e => decide (numDiff e.num k < 0)).foldl (fun s e => s.missExpected n e) s

/-- A line with trigger number `k` arrives on a stream (R126, R127, R129). -/
def State.triggerLine (s : State) (n k : Nat) (px : List Nat) : State :=
  let v := s.fld (IN_STRCFG_VIEW n)
  let mine := (s.stream n).expect.find? fun e => decide (e.num = k)
  match s.trigLookup (s.fld (IN_VIEWCFG_TRG_OUT v)) k with
  | none =>
    let s := s.tagInvalid n
    match mine with
    | some e => (s.missUpTo n k).missExpected n e
    | none => s
  | some g =>
    match mine with
    | some _ =>
      let s := s.missUpTo n k
      let x := s.stream n
      (s.setStream n { x with expect := x.expect.filter fun e => decide (e.num ≠ k) }).deliverLine n k (g.pos * 65536) px
    | none => s.bump (IN_VIEWSTAT_LATE_LINE v)

/-! ## PTP mode -/

/-- The encoder whose track history tags a view's lines (R126). -/
def State.viewEnc (s : State) (v : Nat) : Nat :=
  match (List.range 16).find? fun r => (s.raceViews r).any fun p => decide (s.rview r p = v) with
  | some r => s.raceEnc r
  | none => s.fld (PS_TRGCFG_ENC_SEL (s.fld (IN_VIEWCFG_TRG_OUT v)))

/-- The number of the view line that a stream's first line in PTP mode joins: a line still unreleased whose tag lies within half a pitch, the nearest;
else the one that the pitch gives from the view's newest line (DEDUCED: the spec does not say how lines of several streams meet). -/
def State.joinNum (s : State) (v n : Nat) (tag : Int) : Nat :=
  let w := s.view v
  let far (x : ViewLine) : Nat := (diff16 x.tag tag).natAbs
  let best := w.pendingLines.foldl (fun (b : Option ViewLine) x =>
    if (Tab.get none x.parts n).isSome ∨ 2 * far x > w.ptpPitch.natAbs then b
    else match b with
      | some y => if far x < far y then some x else b
      | none => some x) none
  match best, w.ptpLast with
  | some x, _ => x.num
  | none, none => 0
  | none, some (m, t) =>
    let d := if w.ptpPitch < 0 then -(diff16 tag t) else diff16 tag t
    toU 32 ((m : Int) + (if w.ptpPitch = 0 then 1 else rneDiv d w.ptpPitch.natAbs))

/-- The number of a stream's next line in PTP mode; none where that view line is already released. -/
def State.nextSeq (s : State) (n : Nat) (tag : Int) : State × Option Nat :=
  let x := s.stream n
  let v := s.fld (IN_STRCFG_VIEW n)
  let q := x.seq.getD (s.joinNum v n tag)
  let s := s.setStream n { x with seq := some ((q + 1) % 2 ^ 32) }
  (s, if (s.view v).released.any fun r => decide (numDiff q r ≤ 0) then none else some q)

/-- A line becomes missing in PTP mode: its position is the previous tag plus the last measured pitch (R130). One of a stream that has not delivered
yet has no place in the view. -/
def State.missPtp (s : State) (n : Nat) : State :=
  let x := s.stream n
  let v := s.fld (IN_STRCFG_VIEW n)
  if x.seq.isNone then s.bump (IN_VIEWSTAT_MISSING v)
  else
    let tag := x.lastTag + (if x.pitch = 0 then (s.view v).ptpPitch else x.pitch)
    match (s.setStream n { x with lastTag := tag }).nextSeq n tag with
    | (s, some q) => s.missLine n q tag
    | (s, none) => s.bump (IN_VIEWSTAT_MISSING v)

/-- Whether PTP lines are valid: not within 100 ms of a step (R397). -/
def State.ptpLinesOk (s : State) : Bool := decide (s.clk.dev ≥ s.ptpHold)

/-- A view notes the newest line that its streams have given, and the tag difference from line to line. -/
def View.note (w : View) (q : Nat) (tag : Int) : View :=
  match w.ptpLast with
  | none => { w with ptpLast := some (q, tag) }
  | some (m, t) =>
    let d := numDiff q m
    if d ≤ 0 then w else { w with ptpLast := some (q, tag), ptpPitch := diff16 tag t / d }

/-- A PTP line with a known tag is delivered; one whose view line is gone is late. -/
def State.tagPtp (s : State) (n : Nat) (tag : Int) (px : List Nat) : State :=
  let x := s.stream n
  let v := s.fld (IN_STRCFG_VIEW n)
  let x := { x with pitch := if x.seq.isSome ∧ x.run = 0 then diff16 tag x.lastTag else x.pitch, lastTag := tag }
  match (s.setStream n x).nextSeq n tag with
  | (s, some q) => (s.setView v ((s.view v).note q tag)).deliverLine n q tag px
  | (s, none) => s.bump (IN_VIEWSTAT_LATE_LINE v)

/-- The held lines of a stream are looked up in order (R62); a missing line among them takes its turn. -/
def State.resumeHeld : Nat → State → Nat → State
  | 0, s, _ => s
  | fuel + 1, s, n =>
    match (s.stream n).held with
    | [] => s
    | h :: rest =>
      let drop (s : State) : State := s.setStream n { s.stream n with held := rest }
      match h.px with
      | none => State.resumeHeld fuel ((drop s).missPtp n) n
      | some px =>
        match s.trackLookup (s.viewEnc (s.fld (IN_STRCFG_VIEW n))) h.time with
        | (s, .wait) => s
        | (s, .invalid) => State.resumeHeld fuel (((drop s).tagInvalid n).missPtp n) n
        | (s, .at48 p) => State.resumeHeld fuel ((drop s).tagPtp n p px) n

/-- Lines join a stream's held lines, and what can be looked up is. -/
def State.holdLines (s : State) (n : Nat) (l : List HeldLine) : State :=
  let s := s.setStream n { s.stream n with held := (s.stream n).held ++ l }
  State.resumeHeld (s.stream n).held.length s n

/-- A PTP line arrives: exposed at PTP time `ts` plus EXPO_OFS, converted to device time (R126, R391). -/
def State.ptpLine (s : State) (n ts : Nat) (px : List Nat) : State :=
  let v := s.fld (IN_STRCFG_VIEW n)
  let t := toU 64 ((ts : Int) + s.sfld (IN_VIEWEXPO_EXPO_OFS v) - s.fld TM_PTPOFS_PTP_OFS)
  let x := s.stream n
  let s := s.setStream n { x with
    period := (match x.lastTime with | some q => s.clk.dev - q | none => x.period), lastTime := some s.clk.dev, silent := 0 }
  if s.ptpLinesOk then s.holdLines n [⟨t, some px⟩] else (s.tagInvalid n).holdLines n [⟨t, none⟩]

/-- How far block ID `id` lies behind `prev`: `none` for an ID that is not newer. In standard ID mode block ID 0 is skipped (R129). -/
def blockStep (ext : Bool) (prev id : Nat) : Option Nat :=
  if ext then (if prev < id then some (id - prev) else none)
  else
    let f (x : Nat) : Nat := (x + 65534) % 65535
    let d := (f id + 65535 - f prev) % 65535
    if 1 ≤ d ∧ d ≤ 32767 then some d else none

/-- A line of a complete block arrives in PTP mode (R129): the lines that its block ID skips become missing; one that has itself become missing,
or is older, is late. -/
def State.ptpBlock (s : State) (n id : Nat) (ext : Bool) (ts : Nat) (px : List Nat) : State :=
  let x := s.stream n
  let v := s.fld (IN_STRCFG_VIEW n)
  let step := match x.lastBlock with
    | some p => blockStep ext p id
    | none => some (x.missed + 1)
  match step with
  | none => s.bump (IN_VIEWSTAT_LATE_LINE v)
  | some g =>
    if g ≤ x.missed then s.bump (IN_VIEWSTAT_LATE_LINE v)
    else
      let s := s.setStream n { x with lastBlock := some id, missed := 0 }
      (s.holdLines n (List.replicate (g - 1 - x.missed) ⟨0, none⟩)).ptpLine n ts px

/-! ## Blocks -/

/-- A GVSP packet's header: status, extended ID mode, format, block ID, packet ID, payload (R120). -/
structure GvspPkt where
  status : Nat
  ext : Bool
  fmt : Nat
  block : Nat
  pid : Nat
  body : List Byte
deriving DecidableEq, Repr

/-- A GVSP packet read from a UDP payload: an 8-byte header in standard ID mode, a 20-byte header in extended mode (PRESUMED: the byte
places are those of GigE Vision 2.x). -/
def readGvsp (b : List Byte) : Option GvspPkt :=
  let f := dByte b 4
  if bit f 7 then
    if b.length < 20 then none
    else some ⟨ofBe (b.take 2), true, f % 16, ofBe ((b.drop 8).take 8), ofBe ((b.drop 16).take 4), b.drop 20⟩
  else if b.length < 8 then none
  else some ⟨ofBe (b.take 2), false, f % 16, ofBe ((b.drop 2).take 2), ofBe ((b.drop 5).take 3), b.drop 8⟩

/-- The leader's fields: payload type, timestamp, PFNC code, sizes, and whether offsets and padding are zero. -/
structure Leader where
  kind : Nat
  stamp : Nat
  pfnc : Nat
  w : Nat
  h : Nat
  plain : Bool
deriving DecidableEq, Repr

/-- An image leader (PRESUMED: the byte places are those of GigE Vision 2.x). -/
def readLeader (b : List Byte) : Option Leader :=
  if b.length < 36 then none
  else
    let g (i n : Nat) : Nat := ofBe ((b.drop i).take n)
    some ⟨g 2 2, g 4 8, g 12 4, g 16 4, g 20 4, decide (g 24 12 = 0)⟩

/-- The PFNC code of a pixel format (R120). -/
def pfncOf (fmt : Nat) : Nat := if fmt = 0 then 0x01080001 else if fmt = 1 then 0x010A0046 else if fmt = 2 then 0x010C0047 else 0x01100007

/-- Bytes of a line of `w` pixels (R120). -/
def lineBytes (fmt w : Nat) : Nat := if fmt = 0 then w else if fmt = 1 then w * 5 / 4 else if fmt = 2 then w * 3 / 2 else 2 * w

/-- Bits of a pixel as packed. -/
def pxBits (fmt : Nat) : Nat := if fmt = 0 then 8 else if fmt = 1 then 10 else if fmt = 2 then 12 else 16

/-- A line's pixels unpacked, least significant bit first (R120). -/
def unpackLine (fmt w : Nat) (b : List Byte) : List Nat :=
  (List.range w).map fun i =>
    let o := i * pxBits fmt
    bits (dLe b (o / 8) 3) (o % 8) (pxBits fmt)

/-- The last chunk of a list: where it begins, its ID and its bytes (R122). -/
def lastChunk (b : List Byte) : Option (Nat × Nat × List Byte) :=
  let n := b.length
  let len := ofBe (b.drop (n - 4))
  if n < 8 + len then none else some (n - 8 - len, ofBe ((b.drop (n - 8)).take 4), (b.drop (n - 8 - len)).take len)

/-- The chunk with an ID, walking the list backwards from the end of the data (R122). -/
def findChunk : Nat → List Byte → Nat → Option (List Byte)
  | 0, _, _ => none
  | fuel + 1, b, id =>
    match lastChunk b with
    | none => none
    | some (at_, cid, c) => if cid = id then some c else findChunk fuel (b.take at_) id

/-- Whether the chunk list, walked backwards, ends where the image of `size` bytes ends, up to three bytes of padding behind it; the image may stand in
a chunk of its own. Otherwise the block's data exceeds what its leader implies (R121; DEDUCED: the spec does not say where the chunk list
begins). -/
def chunksFit : Nat → List Byte → Nat → Bool
  | 0, _, _ => false
  | fuel + 1, b, size =>
    if size ≤ b.length ∧ b.length ≤ size + 3 then true
    else match lastChunk b with
      | none => false
      | some (at_, _, c) => if at_ = 0 then decide (size ≤ c.length ∧ c.length ≤ size + 3) else chunksFit fuel (b.take at_) size

/-- The trigger numbers of a block, one per line, or none where the chunk is absent or of another length (R122). Each is read most significant byte
first, as the chunk's tag is (DEDUCED: R119 speaks of headers and chunk tags). -/
def State.chunkNums (s : State) (n : Nat) (data : List Byte) : Option (List Nat) :=
  let h := s.fld (IN_STRCFG_BLK_H n)
  match findChunk (data.length + 1) data (s.fld (IN_STRCHUNK_TRIG_CHUNK_ID n)) with
  | some c => if c.length = 4 * h then some ((List.range h).map fun i =>
      (ofBe ((c.drop (4 * i)).take 4) + s.fld (IN_STRBIAS_TRG_BIAS n)) % 2 ^ 32) else none
  | none => none

/-- The payload data of a block: its packets 1 to `top` joined, those absent left out. -/
def Block.data (b : Block) : List Byte := b.pkts.flatMap Prod.snd

/-- The data after the last absent packet: what can be walked backwards. -/
def Block.tail (b : Block) (top : Nat) : List Byte :=
  ((List.range top).foldl (fun (acc : List Byte) i => match Tab.find? b.pkts (i + 1) with | some p => acc ++ p | none => []) [])

/-- Whether the leader, every payload packet implied and the trailer have arrived (R121). -/
def Block.complete (b : Block) : Bool :=
  match b.trailer, b.leader with
  | some t, some _ => (List.range (t - 1)).all fun i => (Tab.find? b.pkts (i + 1)).isSome
  | _, _ => false

/-- Whether the packet IDs fit: 0 for the leader, then the payload packets, then the trailer (R121). -/
def Block.ordered (b : Block) : Bool :=
  match b.trailer with
  | some t => decide (1 ≤ t) && b.pkts.all fun p => decide (1 ≤ p.1 ∧ p.1 < t)
  | none => b.pkts.all fun p => decide (1 ≤ p.1)

/-- Packets absent from a block that is abandoned (R121). -/
def Block.absent (b : Block) : Nat :=
  let n := match b.trailer with | some t => t + 1 | none => b.top + 2
  n - (b.pkts.length + b2n b.leader.isSome + b2n b.trailer.isSome)

/-- Whether a complete block lies within the subset of R120, R121 and R122; a block of a PTP view whose stream has BLK_H other than 1 does not
(DEDUCED: R121 says only that it must be 1). -/
def State.blockOk (s : State) (n : Nat) (b : Block) : Bool :=
  match b.leader.bind readLeader with
  | none => false
  | some l =>
    let fmt := s.fld (IN_STRCFG_PIXFMT n)
    let h := s.fld (IN_STRCFG_BLK_H n)
    let ptp := s.ptpView (s.fld (IN_STRCFG_VIEW n))
    let size := h * lineBytes fmt l.w
    let sizes := (b.pkts.map fun p => p.2.length).dropLast
    !b.bad && (decide (l.kind = 0x4001) || (ptp && decide (l.kind = 1))) && decide (l.pfnc = pfncOf fmt) &&
      decide (l.w = s.fld (IN_STRGEOM_WIDTH n) ∧ l.w % widthStep fmt = 0) && decide (l.h = h) && l.plain &&
      (match sizes with | [] => true | z :: t => t.all fun y => decide (y = z)) &&
      (if l.kind = 1 then decide (b.data.length = size)
      else chunksFit (b.data.length + 1) b.data size && (s.chunkNums n b.data).isSome) && (!ptp || decide (h = 1))

/-- A block leaves assembly; its later packets are discarded, and counted as duplicates where it had all (R121). -/
def State.closeBlock (s : State) (n : Nat) (b : Block) : State :=
  let x := s.stream n
  s.setStream n { x with blocks := x.blocks.filter fun k => decide (k.id ≠ b.id), closed := ((b.id, b.complete) :: x.closed).take 16 }

/-- The lines that a discarded or abandoned block is known to have named become missing (R129). -/
def State.loseBlock (s : State) (n : Nat) (b : Block) : State :=
  if s.ptpView (s.fld (IN_STRCFG_VIEW n)) then s
  else
    let top := match b.trailer with | some t => t - 1 | none => b.top
    match s.chunkNums n (b.tail top) with
    | some ks => ks.foldl (fun s k =>
        match (s.stream n).expect.find? fun e => decide (e.num = k) with
        | some e => s.missExpected n e
        | none => s) s
    | none => s

/-- GVSP_BLOCK_ABANDON: the older incomplete block is abandoned (R121). -/
def State.abandonBlock (s : State) (n : Nat) (b : Block) : State :=
  let s := (s.closeBlock n b).bump (IN_STRSTAT_BLK_ABANDON n)
  (s.setFld (IN_STRSTAT_LOST_PKT n) (s.fld (IN_STRSTAT_LOST_PKT n) + b.absent)).loseBlock n b

/-- A block outside the subset is discarded whole (R120). -/
def State.discardBlock (s : State) (n : Nat) (b : Block) : State :=
  ((s.closeBlock n b).bump (IN_STRSTAT_FMT_ERR n)).loseBlock n b

/-- GVSP_BLOCK_COMPLETE: a complete block's lines are extracted and tagged (R121, R126). -/
def State.finishBlock (s : State) (n : Nat) (b : Block) (ext : Bool) : State :=
  if !s.blockOk n b then s.discardBlock n b
  else
    let v := s.fld (IN_STRCFG_VIEW n)
    let fmt := s.fld (IN_STRCFG_PIXFMT n)
    let w := s.fld (IN_STRGEOM_WIDTH n)
    let lb := lineBytes fmt w
    let s := s.closeBlock n b
    let data := b.data
    if !s.isOn (IN_VIEWCFG_EN v) then s
    else if s.ptpView v then
      match b.leader.bind readLeader with
      | some l => s.ptpBlock n b.id ext l.stamp (unpackLine fmt w data)
      | none => s
    else
      match s.chunkNums n data with
      | some ks => ks.zipIdx.foldl (fun s p => s.triggerLine n p.1 (unpackLine fmt w ((data.drop (p.2 * lb)).take lb))) s
      | none => s

/-- A block with a packet put into it. -/
def Block.put (k : Block) (p : GvspPkt) : Block :=
  let k := { k with top := max k.top p.pid }
  let k := if p.fmt = 1 then { k with leader := some p.body } else if p.fmt = 2 then { k with trailer := some p.pid }
    else { k with pkts := Tab.put k.pkts p.pid p.body }
  { k with bad := k.bad || decide (p.status ≠ 0) || !([1, 2, 3].contains p.fmt) || (p.fmt = 1 && decide (p.pid ≠ 0)) || !k.ordered }

/-- Whether a block already holds a packet. -/
def Block.has (k : Block) (p : GvspPkt) : Bool :=
  (p.fmt = 1 && k.leader.isSome) || (p.fmt = 2 && k.trailer.isSome) || (p.fmt = 3 && (Tab.find? k.pkts p.pid).isSome)

/-- A packet joins its block; a third block abandons the older; duplicates are counted (R121). A packet too short for its own header belongs to no
block and counts as a block outside the subset (DEDUCED: R120 speaks of blocks). -/
def State.takePacket (s : State) (n : Nat) (b : List Byte) : State :=
  match readGvsp b with
  | none => s.bump (IN_STRSTAT_FMT_ERR n)
  | some p =>
    let x := s.stream n
    match x.closed.find? fun c => decide (c.1 = p.block) with
    | some (_, whole) => if whole then s.bump (IN_STRSTAT_DUP_PKT n) else s
    | none =>
      let s := if (x.blocks.any fun k => decide (k.id = p.block)) || decide (x.blocks.length < 2) then s
        else match x.blocks with | o :: _ => s.abandonBlock n o | [] => s
      let x := s.stream n
      let old := (x.blocks.find? fun k => decide (k.id = p.block)).getD { id := p.block }
      if old.has p then s.bump (IN_STRSTAT_DUP_PKT n)
      else
        let k := old.put p
        let others := x.blocks.filter fun j => decide (j.id ≠ p.block)
        let pos := (x.blocks.takeWhile fun j => decide (j.id ≠ p.block)).length
        let s := s.setStream n { x with blocks := others.take pos ++ [k] ++ others.drop pos }
        if k.bad then s.discardBlock n k
        else if k.complete then s.finishBlock n k p.ext else s

/-- A GVSP packet arrives on a stream; the parts that its lines complete close (R21, R120, R121). -/
def State.gvspPacket (s : State) (n : Nat) (b : List Byte) : State := (s.takePacket n b).closeReady

/-! ## Timeouts and enables -/

/-- A stream in PTP mode has been silent for a further multiple of its line period: a line becomes missing, unless the encoder stands. A stream that
has no period yet is waited for no longer (R129, R132). -/
def State.ptpSilent (s : State) (n tmo : Nat) : State :=
  let v := s.fld (IN_STRCFG_VIEW n)
  let x := s.stream n
  let e := s.viewEnc v
  match x.lastTime with
  | none => s
  | some t =>
    if s.isOn (PS_SPEED_STILL e) ∨ s.fld (PS_SPEED_COUNT e) = 0 then s
    else if x.period = 0 then
      let s := s.advanceDev (t + tmo)
      let s := s.setStream n { s.stream n with seq := none, lastTime := none }
      State.releaseLines (s.view v).pendingLines.length s v
    else
      let m := max (x.silent + 1) ((tmo + x.period - 1) / x.period)
      let s := s.advanceDev (t + m * x.period)
      let y := s.stream n
      (s.setStream n { y with silent := m, missed := y.missed + 1 }).holdLines n [⟨0, none⟩]

/-- LINE_TIMEOUT (R129): the oldest expected line of a stream has not come LINE_TMO µs after its trigger; in PTP mode the stream has
been silent for a further multiple of its line period. -/
def State.lineTimeout (s : State) (n : Nat) : State :=
  let v := s.fld (IN_STRCFG_VIEW n)
  let tmo := s.fld (IN_VIEWCFG_LINE_TMO v) * 1000
  if !s.isOn (IN_STRCFG_EN n) || !s.isOn (IN_VIEWCFG_EN v) || !s.intakeUp then s
  else if s.ptpView v then (s.ptpSilent n tmo).closeReady
  else
    match (s.stream n).expect with
    | [] => s
    | e :: _ => ((s.advanceDev (e.time + tmo)).missExpected n e).closeReady

/-- A stream's expectations and PTP measures begin anew (R634); what it last delivered is kept, and a new run of missing lines begins (DEDUCED: the
spec does not say whether a run goes on). -/
def Stream.rejoin (x : Stream) : Stream :=
  { x with expect := [], seq := none, lastBlock := none, missed := 0, lastTime := none, silent := 0, held := [], run := 0, runTold := false }

/-- A stream begins anew with its next block: the blocks in assembly are dropped without being counted, and their later packets with them
(R137, R634). -/
def Stream.restart (x : Stream) : Stream :=
  { x.rejoin with blocks := [], closed := ((x.blocks.map fun b => (b.id, false)) ++ x.closed).take 16 }

/-- A stream after a warm start: it has nothing to copy (R130, R137). -/
def Stream.warm (x : Stream) : Stream := { x.restart with last := none }

/-- A view whose unreleased lines are dropped, and whose next line in PTP mode is numbered anew (R137, R634). -/
def View.renew (w : View) : View := { w with pendingLines := [], released := none, prev := none, ptpLast := none, ptpPitch := 0 }

/-- A change of EN of a stream (R634, R139); it does not begin with a width that is not configured or that its format does not pack (R120). -/
def State.streamEn (s : State) (n : Nat) (on : Bool) : State :=
  let was := s.isOn (IN_STRCFG_EN n)
  if on = was ∨ (on ∧ (s.fld (IN_STRGEOM_WIDTH n) = 0 ∨ s.fld (IN_STRGEOM_WIDTH n) % widthStep (s.fld (IN_STRCFG_PIXFMT n)) ≠ 0 ∨ (12 ≤ n ∧ s.isOn LN_DRVCFG_EN))) then s
  else
    let s := (s.setFlag (IN_STRCFG_EN n) on).setStream n (s.stream n).restart
    let v := s.fld (IN_STRCFG_VIEW n)
    if on then s else (State.releaseLines (s.view v).pendingLines.length s v).closeReady

/-- A change of EN of a view (R634): clearing it drops its unreleased lines, ends its expectations and truncates the OPEN parts of
the races that draw on it. -/
def State.viewEn (s : State) (v : Nat) (on : Bool) : State :=
  if on = s.isOn (IN_VIEWCFG_EN v) then s
  else
    let s := s.setFlag (IN_VIEWCFG_EN v) on
    let s := (s.viewStreams v).foldl (fun s n => s.setStream n (if on then (s.stream n).restart else (s.stream n).rejoin)) s
    let s := s.setView v (s.view v).renew
    if on then s
    else
      s.slotsInUse.foldl (fun s i =>
        let x := s.slot i
        if x.st = .opened ∧ ((s.raceViews x.race).any fun p => decide (s.rview x.race p = v)) then s.spoil i .truncated else s) s

/-- TRACK_SAMPLE: a microsecond tick samples the positions, and held lookups go on (R61, R62). -/
def State.trackSample (s : State) : State :=
  ((List.range 16).foldl (fun s n => State.resumeHeld (s.stream n).held.length s n) s.trackTick).closeReady

end Sys2Proof.Machine
end

