-- ==== Sys2Proof/Machine/Lanes.lean ====
section
/-! DEFINITION. The serial lanes and the camera ports: lane states, block lock, polarity, lane markers, low-power idle, reception and
transmission of frames (R82 to R99, R109, R115). -/

namespace Sys2Proof.Machine

/-! ## Configuration -/

/-- The lane's receive direction starts anew in a state: its lock windows are empty. -/
def State.laneEnter (s : State) (l st : Nat) : State :=
  (s.setLane l { s.lane l with goodRun := 0, badHdrs := 0, sinceFault := 0, inverted := 0 }).setFld (LN_LANESTAT_STATE l) st

/-- LANECFG_WRITE: EN, the restrictions on RATE and LPI_IDLE, polarity, low-power idle, test loop and pattern (R85, R88, R89, R109). A transmit
direction that sleeps when LPI_EN is cleared sleeps on until a frame is queued: the spec does not say that it wakes (log entry 169). -/
def State.laneCfgWrite (s : State) (l v : Nat) : State :=
  let was := s.isOn (LN_LANECFG_EN l)
  let oldLoop := s.laneLoop l
  let oldPat := s.lanePat l
  let s := if was then s else s.setFld (LN_LANECFG_RATE l) (bits v 30 1)
  let s := ((((s.setFld (LN_LANECFG_POL_AUTO l) (bits v 29 1)).setFld (LN_LANECFG_POL_INV_TX l) (bits v 28 1)).setFld
    (LN_LANECFG_LPI_EN l) (bits v 27 1)).setFld (LN_LANECFG_LOOP l) (bits v 24 3)).setFld (LN_LANECFG_TESTPAT l) (bits v 22 2)
  let s := if bits v 0 16 = 0 then s else s.setFld (LN_LANECFG_LPI_IDLE l) (bits v 0 16)
  let s := s.setFlag (LN_LANECFG_EN l) (bit v 31)
  if !bit v 31 then
    let s := (s.setLane l { s.lane l with rx := 0, rxLen := 0, rxSkip := false, wire := [] }).laneEnter l 0
    if was && s.droveLane l then s.droveLockLost else s
  else if !was then s.laneEnter l 1
  else if oldLoop ≠ s.laneLoop l ∨ oldPat ≠ s.lanePat l then
    let s := if s.laneState l ≥ 2 then s.laneEnter l 2 else s
    if s.droveLane l then s.droveLockLost else s
  else s

/-- ADAPT_CONVERGED: equalisation and clock recovery have converged (R85). -/
def State.adaptConverged (s : State) (l : Nat) : State := if s.laneState l = 1 then s.laneEnter l 2 else s

/-- Whether a camera port's receiver is powered down: its partner signals low-power idle and its stream is disabled (R92). -/
def State.rxDown (s : State) (l : Nat) : Bool :=
  s.isOn (LN_LANESTAT_LPI_RX l) && !s.isOn (IN_STRCFG_EN l) && !s.droveLane l

/-- LANE_SIGNAL_LOSS: no signal for 10 ms returns the lane to ADAPT (R85); the pins are ignored in the near-end loops (R88), and a receiver that is
powered down looks for no signal (DEDUCED from R92). -/
def State.signalLoss (s : State) (l : Nat) : State :=
  if s.laneState l < 2 ∨ s.laneLoop l = 1 ∨ s.laneLoop l = 2 ∨ s.rxDown l then s
  else
    let s := s.laneEnter l 1
    if s.droveLane l then s.droveLockLost else s

/-! ## Received blocks -/

/-- Whether a control block holds an ordered set that signals local fault (Clause 46): block types 0x4B, 0x55 and 0x66 in bytes 1 to 3,
0x2D and 0x55 in bytes 5 to 7; the order code of a sequence ordered set is 0. -/
def Coded.localFault (b : Coded) : Bool :=
  let at_ (i : Nat) : Bool := decide (b.byte i = 0 ∧ b.byte (i + 1) = 0 ∧ b.byte (i + 2) = 1)
  decide (b.hdr = 2#2) &&
    (((b.byte 0 == 0x4B || b.byte 0 == 0x55 || b.byte 0 == 0x66) && at_ 1 && b.byte 4 % 16 == 0) ||
      ((b.byte 0 == 0x2D || b.byte 0 == 0x55) && at_ 5 && b.byte 4 / 16 == 0))

/-- Whether a block signals low-power idle: a control block of eight LPI characters. -/
def Coded.lpi (b : Coded) : Bool :=
  decide (b.hdr = 2#2 ∧ b.byte 0 = 0x1E) && (List.range 8).all fun i => decide (bits b.data.toNat (8 + 7 * i) 7 = 6)

/-- A valid lane marker: its logical lane and its sequence (R98, R99). -/
def Coded.marker (b : Coded) : Option (Nat × Nat) :=
  if b.hdr = 2#2 ∧ b.byte 0 = 0x4B ∧ b.byte 1 = 0xD7 ∧ b.byte 2 < 4 ∧
      (List.range 4).all (fun i => decide (b.byte (i + 4) = 255 - b.byte i)) then some (b.byte 2, b.byte 3) else none

/-- Whether a block is the inverted idle pattern (R87). -/
def Coded.invIdle (b : Coded) : Bool := decide (b.hdr = 1#2 ∧ b.byte 0 = 0xE1) && (List.range 7).all fun i => decide (b.byte (i + 1) = 0xFF)

/-- The four lane numbers and their order (R99): normal, reversed, or neither. -/
def orderOf (l : List Nat) : Option Bool := if l = [0, 1, 2, 3] then some false else if l = [3, 2, 1, 0] then some true else none

/-- DROVE_ALIGN: valid markers of equal sequence on the four lanes fix lane order and skew; the link aligns, or goes DOWN with cause
ORDER or SKEW (R99, R102). A lane under a test setting keeps the link from leaving ALIGN (R89). -/
def State.droveAlign (s : State) : State :=
  match [12, 13, 14, 15].map fun l => Tab.get none s.drove.markers l with
  | [some a, some b, some c, some d] =>
    if a.2.1 = b.2.1 ∧ b.2.1 = c.2.1 ∧ c.2.1 = d.2.1 then
      let lo := min (min a.2.2 b.2.2) (min c.2.2 d.2.2)
      let hi := max (max a.2.2 b.2.2) (max c.2.2 d.2.2)
      match orderOf [a.1, b.1, c.1, d.1] with
      | none => s.linkDown 3
      | some rev =>
        if hi - lo > 64 then s.linkDown 2
        else
          let s := (s.setFlag LN_DRVSTAT_REVERSED rev).setFld LN_DRVSTAT_SKEW (hi - lo)
          if s.fld LN_DRVSTAT_STATE = 1 ∧ [12, 13, 14, 15].all (fun l => decide (s.laneState l = 3) && !s.laneTest l) then s.linkInit else s
    else s
  | _ => s

/-! ## Drove lanes -/

/-- The physical lane that carries a logical lane (R99). -/
def State.physLane (s : State) (n : Nat) : Nat := if s.isOn LN_DRVSTAT_REVERSED then 15 - n else 12 + n

/-- Data blocks that lane `l` has received since its marker. -/
def State.laneFifo (s : State) (l : Nat) : List (BitVec 64) := Tab.get [] s.drove.fifo l
def State.setFifo (s : State) (l : Nat) (q : List (BitVec 64)) : State := { s with drove := { s.drove with fifo := Tab.set [] s.drove.fifo l q } }

/-- Eight blocks of each logical lane make a flit: block j of it is the next on logical lane j mod 4 (R97). -/
def State.joinFlit (s : State) : State :=
  if 2 ≤ s.fld LN_DRVSTAT_STATE ∧ [12, 13, 14, 15].all fun l => decide (8 ≤ (s.laneFifo l).length) then
    let b := (List.range 32).flatMap fun j => leBytes 8 (((s.laneFifo (s.physLane (j % 4)))[j / 4]?).getD 0).toNat
    ([12, 13, 14, 15].foldl (fun s l => s.setFifo l ((s.laneFifo l).drop 8)) s).flitArrives b
  else s

/-- A data block of an aligned lane joins its flit (R97, R99). -/
def State.droveData (s : State) (l : Nat) (d : BitVec 64) : State :=
  if Tab.get none s.drove.markers l = none then s else (s.setFifo l (s.laneFifo l ++ [d])).joinFlit

/-- A control block on a drove lane ends what stands of a flit there: the next flit begins on the next data block (R97). -/
def State.droveControl (s : State) (l : Nat) : State :=
  let q := s.laneFifo l
  s.setFifo l (q.take (q.length / 8 * 8))

/-- A marker on a drove lane joins its column; `at_` is its arrival in block times. Until the lanes are aligned the data counts from it on. -/
def State.markerIn (s : State) (l n q at_ : Nat) : State :=
  let s := if s.fld LN_DRVSTAT_STATE < 2 then s.setFifo l [] else s.droveControl l
  ({ s with drove := { s.drove with markers := Tab.set none s.drove.markers l (some (n, q, at_)) } }).droveAlign

/-- A block on a drove lane: marker, other control block, or data. -/
def State.droveBlock (s : State) (l : Nat) (b : Coded) (at_ : Nat) : State :=
  match b.marker with
  | some (n, q) => s.markerIn l n q at_
  | none =>
    if b.hdr = 1#2 then s.droveData l b.data else s.droveControl l

/-! ## Lock and polarity -/

/-- Block lock is lost (R86). -/
def State.lockLost (s : State) (l : Nat) : State :=
  let s := (((s.laneEnter l 2).bump (LN_LANESTAT_LOCKLOSS_CNT l)).setFld (LN_LANESTAT_LOCKLOSS l) 1).raise 0x0101 l
  if s.droveLane l then s.droveLockLost else s

/-- Polarity detection (R87): after 32 consecutive inverted idle or marker blocks the receive polarity is inverted; a block that is not tested breaks
the sequence. -/
def State.polarity (s : State) (l : Nat) (b : Coded) : State :=
  if !s.isOn (LN_LANECFG_POL_AUTO l) || s.laneTest l then s.setLane l { s.lane l with inverted := 0 }
  else
    let x := s.lane l
    if b.invIdle || (s.droveLane l && b.inv.marker.isSome) then
      if x.inverted + 1 < 32 then s.setLane l { x with inverted := x.inverted + 1 }
      else (s.setLane l { x with inverted := 0 }).setFlag (LN_LANESTAT_RX_POL_INV l) (!s.isOn (LN_LANESTAT_RX_POL_INV l))
    else s.setLane l { x with inverted := 0 }

/-- Ones in a block: the bits that differ from the PRBS31 pattern while TESTPAT = 1. -/
def Coded.ones (b : Coded) : Nat := ((List.range 64).filter b.data.toNat.testBit).length + ((List.range 2).filter b.hdr.toNat.testBit).length

/-- A block in LOCKED or UP: the lock window, faults, low-power idle, markers, polarity (R85 to R92). -/
def State.blockLocked (s : State) (l : Nat) (b : Coded) (at_ : Nat) : State :=
  let x := s.lane l
  let win := (2 * x.badHdrs + b2n (!b.valid)) % 2 ^ 64
  let s := if b.valid then s else s.bump (LN_LANEERR_BADHDR_CNT l)
  let s := s.setLane l { x with badHdrs := win }
  if ((List.range 64).filter win.testBit).length ≥ 16 then s.lockLost l
  else
    let s := s.polarity l b
    if s.droveLane l then s.droveBlock l b at_
    else
      let s := s.setFlag (LN_LANESTAT_LPI_RX l) b.lpi
      if b.localFault then (s.setLane l { s.lane l with sinceFault := 0 }).setFld (LN_LANESTAT_STATE l) 3
      else
        let n := min 128 ((s.lane l).sinceFault + 1)
        let s := s.setLane l { s.lane l with sinceFault := n }
        if s.laneState l = 3 ∧ n = 128 ∧ !s.laneTest l then s.setFld (LN_LANESTAT_STATE l) 4
        else if s.laneTest l then s.setFld (LN_LANESTAT_STATE l) 3
        else s

/-- A block in HUNT (R86): 64 consecutive valid headers gain lock; an invalid one moves the candidate boundary by one bit. -/
def State.blockHunt (s : State) (l : Nat) (b : Coded) : State :=
  let x := s.lane l
  if !b.valid then (s.setLane l { x with goodRun := 0 }).slipBit l
  else if x.goodRun + 1 < 64 then s.setLane l { x with goodRun := x.goodRun + 1 }
  else s.laneEnter l 3

/-- A block at the candidate boundary: a far-end loop sends it again unchanged once locked (R88); then lock, faults, polarity, low-power idle and the
drove lanes. -/
def State.blockIn (s : State) (l : Nat) (b : Coded) (at_ : Nat) : State :=
  let s := if s.laneLoop l = 3 ∧ 3 ≤ s.laneState l then s.setLane l { s.lane l with wire := [b] } else s
  let (s, c) := s.rxBlock l b
  if s.laneState l = 2 then s.blockHunt l c else s.blockLocked l c at_

/-- LANE_BLOCK_RECEIVE: in one block time of a lane its pins receive 66 bits, written as header and payload, and its transmit direction sends a block
(R84 to R89, R97 to R99). In the near-end loops the lane receives what it sends. While TESTPAT = 1 the received bits stand for their
difference from the PRBS31 pattern. -/
def State.blockReceive (s : State) (l : Nat) (hdr : BitVec 2) (data : BitVec 64) (at_ : Nat) : State :=
  if s.laneState l = 0 then s
  else
    let (s, own) := s.blockTime l
    let near := decide (s.laneLoop l = 1 ∨ s.laneLoop l = 2)
    let pins : Coded := ⟨hdr, data⟩
    if s.laneState l < 2 then s
    else if s.lanePat l then (if near then s else s.setFld (LN_LANEERR_PRBS_ERR l) (s.fld (LN_LANEERR_PRBS_ERR l) + pins.ones))
    else
      let raw := if !near then pins else (if s.laneLoop l = 1 then (s.lane l).wire else own).head?.getD pins
      match s.takeBlock l raw with
      | (s, none) => s
      | (s, some b) => s.blockIn l b at_

/-! ## Transmission -/

/-- A frame is queued for transmission; in low-power idle it starts wake (R91). -/
def State.queueTx (s : State) (l : Nat) (f : TxFrame) : State :=
  let x := s.lane l
  let x := { x with txq := x.txq ++ [f] }
  if x.lpi = 1 then s.setLane l { x with lpi := 2, lpiTime := s.clk.enc } else s.setLane l x

/-- LPI_ENTRY: after LPI_IDLE µs with no frame queued the transmit direction sleeps (R90, R91). -/
def State.lpiEntry (s : State) (l : Nat) : State :=
  let x := s.lane l
  if !s.isOn (LN_LANECFG_LPI_EN l) || s.droveLane l || decide (s.laneState l ≠ 4) || decide (x.lpi ≠ 0) || decide (x.txq ≠ []) then s
  else
    let s := s.advanceTo (x.lpiTime + s.fld (LN_LANECFG_LPI_IDLE l) * 200)
    (s.setLane l { x with lpi := 1, lpiTime := s.clk.enc }).setFld (LN_LANESTAT_LPI_TX l) 1

/-- The PHY latencies of a lane in whole ns, so that a stamp refers to the lane pins (R394): 41.0 and 53.8 ns at 25GBASE-R, 89.6 and 115.2 ns at
10GBASE-R, rounded to the nearest ns (DESIGN CHOICE: a stamp counts whole ns). -/
def State.txLatency (s : State) (l : Nat) : Nat := if s.isOn (LN_LANECFG_RATE l) then 90 else 41
def State.rxLatency (s : State) (l : Nat) : Nat := if s.isOn (LN_LANECFG_RATE l) then 115 else 54

/-- The oldest composed frame leaves the port, stamped at its start-of-frame delimiter and coded onto the line (R84, R93). Which octets it has is open
where the spec does not say what the firmware writes. -/
def State.popTx (s : State) (l : Nat) : State :=
  match (s.lane l).txq with
  | [] => s
  | f :: rest =>
    let s := s.setLane l { s.lane l with txq := rest, sent := some f, lpiTime := s.clk.enc, txStamp := (s.clk.dev + s.txLatency l) % 2 ^ 64 }
    let (s, n) := s.drawFree 64
    s.sendBlocks l (frameBlocks (Config.frameOctets n))

/-- Bits [7:0] of a PTP message kind: 0 Sync, 1 Delay_Req, 8 Follow_Up, 9 Delay_Resp, 11 Announce (IEEE 1588). What a transmitted PTP
frame leaves behind: a Sync is followed by its Follow_Up with the transmit stamp, a Delay_Req keeps its stamp (R392, R394). -/
def State.stampTx (s : State) (l : Nat) : State :=
  match (s.lane l).sent with
  | some (.ptp 0 q _ _ _) => s.queueTx l (.ptp 8 q (s.isOn TM_CFG_TRANS) (((s.lane l).txStamp + s.fld TM_PTPOFS_PTP_OFS) % 2 ^ 64) [])
  | some (.ptp 1 q _ _ _) =>
    if s.ptp.delaySeq = q then { s with ptp := { s.ptp with req := some (q, (s.lane l).txStamp) } } else s
  | _ => s

/-- LPI_WAKE_DONE: 5.5 µs after wake begins the queued frame is sent (R91). -/
def State.lpiWake (s : State) (l : Nat) : State :=
  let x := s.lane l
  if x.lpi ≠ 2 then s
  else
    let s := s.advanceTo (x.lpiTime + 1100)
    let s := (s.setLane l { x with lpi := 0 }).setFld (LN_LANESTAT_LPI_TX l) 0
    if x.txq = [] ∨ s.laneState l ≠ 4 then s else (s.popTx l).stampTx l

/-- FRAME_TRANSMIT: the oldest frame that the control processors have composed for a port is sent while the port is UP (R95). -/
def State.frameTransmit (s : State) (l : Nat) : State :=
  let x := s.lane l
  if s.laneState l ≠ 4 ∨ s.droveLane l ∨ x.lpi ≠ 0 ∨ x.txq = [] then s else (s.popTx l).stampTx l

/-! ## Reception of frames -/

/-- The ones'-complement sum of 16-bit words (RFC 1071); an odd last byte stands in the high half. -/
def sum16 : List Byte → Nat
  | a :: b :: t => a.toNat * 256 + b.toNat + sum16 t
  | [a] => a.toNat * 256
  | [] => 0

/-- A sum folded to 16 bits. -/
def fold16 (n : Nat) : Nat := let m := n / 65536 + n % 65536; let m := m / 65536 + m % 65536; m / 65536 + m % 65536

/-- The MAC mapping of an IPv4 multicast group. -/
def mcastMac (ip : Nat) : Nat := 0x01005E000000 + ip % 2 ^ 23

/-- Row 3 of R94: the destination MAC is the port's, broadcast, or the mapping of MCAST. -/
def State.macForPort (s : State) (l m : Nat) : Bool :=
  let g := s.fld (LN_PORTIP_MCAST l)
  decide (m = s.fld (LN_PORTADDR_MAC l) ∨ m = 2 ^ 48 - 1) || (decide (g ≠ 0) && decide (m = mcastMac g))

/-- Row 6 of R94: an IPv4 header is acceptable at the port. -/
def State.ipForPort (s : State) (l : Nat) (b : List Byte) : Bool :=
  let dst := dBe b 30 4
  let g := s.fld (LN_PORTIP_MCAST l)
  decide (dByte b 14 = 0x45 ∧ fold16 (sum16 ((b.drop 14).take 20)) = 0xFFFF ∧ dBe b 20 2 % 16384 = 0) &&
    (decide (dst = s.fld (LN_PORTIP_IPV4 l) ∨ dst = 2 ^ 32 - 1) || (decide (g ≠ 0) && decide (dst = g)))

/-- Whether the UDP checksum of a frame is zero or good. -/
def udpOk (b : List Byte) : Bool :=
  let n := dBe b 38 2
  dBe b 40 2 = 0 || decide (fold16 (sum16 ((b.drop 26).take 8) + 17 + n + sum16 ((b.drop 34).take n)) = 0xFFFF)

/-- The classes of R94. -/
inductive FrameClass
  | badFcs | oversize | filtered | time | firmware | gvsp
deriving DecidableEq, Repr

/-- A received frame is classified by the first matching row of R94. -/
def State.classify (s : State) (l : Nat) (b : List Byte) : FrameClass :=
  let n := b.length
  let kind := dBe b 12 2
  if n < 18 ∨ dLe b (n - 4) 4 ≠ crc32 (b.take (n - 4)) then .badFcs
  else if n > 9018 then .oversize
  else if n < 64 then .filtered
  else if !s.macForPort l (dBe b 0 6) then .filtered
  else if kind = 0x88F7 then .time
  else if kind = 0x0806 then .firmware
  else if kind ≠ 0x0800 then .filtered
  else if !s.ipForPort l b then .filtered
  else if dByte b 23 = 17 then
    if dBe b 36 2 = s.fld (LN_PORTADDR_GVSP_PORT l) then (if udpOk b && s.isOn (IN_STRCFG_EN l) then .gvsp else .filtered)
    else if dBe b 36 2 = 319 ∨ dBe b 36 2 = 320 then .time
    else .firmware
  else if dByte b 23 = 1 then .firmware
  else .filtered

/-- Whether frames that a port receives are delivered at all: the port is UP and not under a test setting. -/
def State.portUp (s : State) (l : Nat) : Bool := decide (s.laneState l = 4) && !s.droveLane l && !s.laneTest l

/-- CAMERA_FRAME_RECEIVE: a frame, FCS included, is classified and passed on, or dropped and counted (R94, R95); during a warm start
every frame is dropped (R96). It is stamped with the device time at its start-of-frame delimiter (R93). A receiver that is powered down takes none
(R92). What a PTP frame does in the Time unit, the PTP commands say. -/
def State.frameReceive (s : State) (l : Nat) (b : List Byte) : State :=
  if !s.portUp l || s.rxDown l then s
  else
    let s := s.setLane l { s.lane l with rxStamp := s.clk.dev - s.rxLatency l }
    if !s.intakeUp then s.bump (LN_PORTCNT_FILTERED l)
  else match s.classify l b with
    | .badFcs => s.bump (LN_PORTCNT_FCS_ERR l)
    | .oversize => s.bump (LN_PORTCNT_OVERSIZE l)
    | .filtered => s.bump (LN_PORTCNT_FILTERED l)
    | .time => s
    | .firmware =>
      let x := s.lane l
      if x.fwq.length ≥ 64 then s.bump (LN_PORTCNT_FW_OVF l) else s.setLane l { x with fwq := x.fwq ++ [b] }
    | .gvsp => s.gvspPacket l ((b.drop 42).take (dBe b 38 2 - 8))

/-! ## The drove link's enable -/

/-- DRVCFG_WRITE: EN, RETRY_LIMIT and ACK_TIMEOUT under their restrictions; lanes 12 to 15 pass between camera ports and drove link
(R115). -/
def State.drvCfgWrite (s : State) (v : Nat) : State :=
  let was := s.isOn LN_DRVCFG_EN
  let on := bit v 31
  let busy := [12, 13, 14, 15].any fun n => s.isOn (IN_STRCFG_EN n)
  if on && !was && busy then s
  else
    let lim := bits v 16 8
    let tmo := bits v 0 16
    let s := if was ∨ lim = 0 then s else s.setFld LN_DRVCFG_RETRY_LIMIT lim
    let s := if was ∨ tmo < 100 then s else s.setFld LN_DRVCFG_ACK_TIMEOUT tmo
    if on && !was then
      let s := (s.setFld LN_DRVCFG_EN 1).linkAlign
      [12, 13, 14, 15].foldl (fun s l =>
        let s := s.setLane l { s.lane l with fwq := [], txq := [], lpi := 0 }
        let s := s.setFld (LN_LANESTAT_LPI_TX l) 0
        if s.laneState l = 4 then s.setFld (LN_LANESTAT_STATE l) 3 else s) s
    else if !on && was then
      let s := (s.setFld LN_DRVCFG_EN 0).linkDown 1
      [12, 13, 14, 15].foldl (fun s l => if s.laneState l ≥ 2 then s.laneEnter l 2 else s) s
    else s

end Sys2Proof.Machine
end

