-- ==== Sys2Proof/Machine/Camera.lean ====
section
/-! DEFINITION. What the firmware does on the camera ports: ARP and ICMP replies, GVCP commands, camera setup and heartbeats, and the
packet mailbox (R96, R123 to R125, R470, R471). -/

namespace Sys2Proof.Machine

/-! ## Frames of the firmware queue -/

/-- Whether a queued frame is an ARP request for the port's IPV4. -/
def State.isArp (s : State) (l : Nat) (b : List Byte) : Bool :=
  decide (dBe b 12 2 = 0x0806 ∧ dBe b 20 2 = 1 ∧ dBe b 38 4 = s.fld (LN_PORTIP_IPV4 l))

/-- Whether a queued frame is an ICMP echo request to the port's IPV4. -/
def State.isEcho (s : State) (l : Nat) (b : List Byte) : Bool :=
  decide (dBe b 12 2 = 0x0800 ∧ dByte b 23 = 1 ∧ dByte b 34 = 8 ∧ dBe b 30 4 = s.fld (LN_PORTIP_IPV4 l))

/-- Whether a queued frame is a GVCP acknowledgement: UDP from port 3956. -/
def isGvcpAck (b : List Byte) : Bool := decide (dBe b 12 2 = 0x0800 ∧ dByte b 23 = 17 ∧ dBe b 34 2 = 3956)

/-- Frames at the front of a port's queue that no firmware protocol answers are taken off. -/
def State.dropOther (s : State) (l : Nat) : State :=
  let x := s.lane l
  s.setLane l { x with fwq := x.fwq.dropWhile fun b => !(s.isArp l b || s.isEcho l b || isGvcpAck b) }

/-- Whether the firmware serves the ports: not while it is restarting (R96). -/
def State.firmwareUp (s : State) : Bool := s.intakeUp

/-- The front frame of a port's queue, taken where it meets a test. -/
def State.takeFrame (s : State) (l : Nat) (p : List Byte → Bool) : State × Option (List Byte) :=
  let s := s.dropOther l
  match (s.lane l).fwq with
  | b :: rest => if p b then (s.setLane l { s.lane l with fwq := rest }, some b) else (s, none)
  | [] => (s, none)

/-- ARP_REQUEST: an ARP request for IPV4 is answered (R96). -/
def State.arpRequest (s : State) (l : Nat) : State :=
  if !s.firmwareUp then s
  else match s.takeFrame l (s.isArp l) with
    | (s, some b) => s.queueTx l (.arpReply (dBe b 22 6) (dBe b 28 4))
    | (s, none) => s

/-- ICMP_ECHO: an echo request to IPV4 is answered with its own data (R96). -/
def State.icmpEcho (s : State) (l : Nat) : State :=
  if !s.firmwareUp then s
  else match s.takeFrame l (s.isEcho l) with
    | (s, some b) => s.queueTx l (.icmpReply (dBe b 6 6) (dBe b 26 4) ((b.drop 34).take (dBe b 16 2 - 20)))
    | (s, none) => s

/-! ## GVCP commands -/

/-- The bytes of a GVCP register write (PRESUMED: GigE Vision's WRITEREG). -/
def gvcpWrite (req addr val : Nat) : List Byte :=
  beBytes 1 0x42 ++ beBytes 1 1 ++ beBytes 2 0x82 ++ beBytes 2 8 ++ beBytes 2 req ++ beBytes 4 addr ++ beBytes 4 val

/-- A GVCP packet with its request ID replaced. -/
def gvcpWithId (b : List Byte) (req : Nat) : List Byte := b.take 6 ++ beBytes 2 req ++ b.drop 8

/-- A GVCP command is sent with the module's next request ID (R124). -/
def State.sendGvcp (s : State) (l : Nat) (use : GvcpUse) (body : Nat → List Byte) : State :=
  let x := s.lane l
  let req := x.nextReq
  let s := s.setLane l { x with
    nextReq := if req ≥ 65535 then 1 else req + 1
    gvcp := x.gvcp ++ [⟨use, req, 1, s.clk.enc, body req⟩] }
  s.queueTx l (.gvcp req (gvcpWithId (body req) req))

/-! ## Camera setup -/

/-- The registers that a step of R123 writes, in order: exclusive access; stream destination address and port; the record's writes;
acquisition start (PRESUMED: the addresses of GigE Vision's bootstrap registers). -/
def State.setupWrites (s : State) (l step : Nat) : List (Nat × Nat) :=
  match step with
  | 1 => [(0x0A00, 1)]
  | 2 => [(0x0D18, s.fld (LN_PORTIP_IPV4 l)), (0x0D00, s.fld (LN_PORTADDR_GVSP_PORT l))]
  | 3 => (s.lane l).writes
  | 4 => [(Config.acquisitionStart, 1)]
  | _ => []

/-- The setup of a stream has succeeded: the control channel stands open (R125), and the acquisition that has started numbers its blocks anew, so
that the first of them closes no gap (DEDUCED from R125's line counter). -/
def State.setupDone (s : State) (n : Nat) : State :=
  let s := s.setLane n { s.lane n with control := true, hbTime := s.clk.enc }
  let s := s.setStream n { s.stream n with lastBlock := none }
  ((s.setFld (IN_STRCTL_BUSY n) 0).setFld (IN_STRCTL_SETUP_FAIL n) 0).setFld (IN_STRCTL_FAIL_STEP n) 0

/-- The setup of a stream has failed in a step (R123, R125). -/
def State.setupFail (s : State) (n step : Nat) : State :=
  let s := s.setLane n { s.lane n with control := false }
  (((s.setFld (IN_STRCTL_BUSY n) 0).setFld (IN_STRCTL_SETUP_FAIL n) 1).setFld (IN_STRCTL_FAIL_STEP n) step).raise 0x0201 n step

/-- Setup goes on with write `idx` of a step, or with the steps after it (R123). -/
def State.setupGo : Nat → State → Nat → Nat → Nat → State
  | 0, s, n, _, _ => s.setupDone n
  | fuel + 1, s, n, step, idx =>
    match (s.setupWrites n step)[idx]? with
    | some w => s.sendGvcp n (.setup step idx) fun r => gvcpWrite r w.1 w.2
    | none => State.setupGo fuel s n (step + 1) 0

/-- Camera setup of a stream starts at step 1 (R123). -/
def State.setupStart (s : State) (n : Nat) : State := State.setupGo 4 (s.setFld (IN_STRCTL_BUSY n) 1) n 1 0

/-- STRCTL_SETUP: SETUP starts camera setup at once, unless BUSY (R125). -/
def State.strctlSetup (s : State) (n v : Nat) : State :=
  if bit v 0 && !s.isOn (IN_STRCTL_BUSY n) then s.setupStart n else s

/-- The heartbeat register is written (R123). -/
def State.sendHeartbeat (s : State) (l : Nat) (use : GvcpUse) : State :=
  (s.setLane l { s.lane l with hbTime := s.clk.enc }).sendGvcp l use fun r => gvcpWrite r 0x0938 (s.lane l).hbTimeout

/-- CAMERA_HEARTBEAT: one third of the heartbeat timeout after the last write, while the control channel stands open (R123); none during a
warm start (R124). -/
def State.cameraHeartbeat (s : State) (l : Nat) : State :=
  let x := s.lane l
  if !x.control || !s.firmwareUp then s
  else (s.advanceTo (200000 * x.hbTimeout / 3 + x.hbTime)).sendHeartbeat l .heartbeat

/-- The firmware checks the control channel of the camera of every enabled stream on return from a warm start (R125). -/
def State.probeCameras (s : State) : State :=
  (List.range 16).foldl (fun s l => if s.isOn (IN_STRCFG_EN l) then s.sendHeartbeat l .probe else s) s

/-- The processors' restart forgets the firmware's own commands in flight: a setup is cut off, as BUSY shows (R144), and the check of R125 finds what
became of the camera. A command of the host's stays in flight: the spec is silent on it (log entry 168). -/
def State.dropSetups (s : State) : State :=
  (List.range 16).foldl (fun s l => s.setLane l { s.lane l with
    gvcp := (s.lane l).gvcp.filter fun g => match g.use with | .mailbox _ => true | _ => false }) s

/-- The control channel of a stream's camera is found open. -/
def State.channelOpen (s : State) (l : Nat) : State := s.setLane l { s.lane l with control := true }

/-- CAMERA_SETUP_GIVE_UP: after 800 ms of cold-start step 9 the firmware gives up on a camera (R582). -/
def State.setupGiveUp (s : State) (n : Nat) : State :=
  if s.phase = .cold 9 ∧ s.isOn (IN_STRCTL_BUSY n) then
    let s := s.advanceTo (160000000 + s.start.tStep)
    let x := s.lane n
    let step := match x.gvcp.findSome? fun g => match g.use with | .setup k _ => some k | _ => none with
      | some k => k
      | none => 1
    let s := s.setLane n { x with gvcp := x.gvcp.filter fun g => match g.use with | .setup _ _ => false | _ => true }
    s.setupFail n step
  else s

/-! ## The packet mailbox -/

/-- The addresses of request slot `i` and of reply slot `i` (R470), and of MBOX_READY (R463). -/
def mboxReq (i : Nat) : Nat := penBase + 0x2000 + 0x400 * i
def mboxRep (i : Nat) : Nat := penBase + 0x4000 + 0x800 * i
def mboxReady : Nat := penBase + 0x40

/-- Bit `i` of MBOX_READY. -/
def State.setReady (s : State) (i : Nat) (b : Bool) : State :=
  s.poke mboxReady (BitVec.ofNat 8 (maskSet (s.peek mboxReady).toNat i b))

/-- A reply is written: status, lane, packet, then OWN, then its bit of MBOX_READY (R471). -/
def State.mboxReply (s : State) (i lane status : Nat) (pkt : List Byte) : State :=
  let p := pkt.take 2016
  let s := (s.write (mboxRep i + 1) (leBytes 1 lane ++ leBytes 1 status ++ leBytes 1 0 ++ leBytes 2 p.length ++ leBytes 26 0)).1
  let s := (s.write (mboxRep i + 32) p).1
  ((s.write (mboxRep i) (leBytes 1 1)).1).setReady i true

/-- The filled request slot that the firmware takes: the lowest whose reply slot is free (R471). -/
def State.mboxNext (s : State) : Option Nat :=
  (List.range 8).find? fun i => decide ((s.peek (mboxReq i)).toNat = 1) && decide ((s.peek (mboxRep i)).toNat = 0)

/-- MAILBOX_REQUEST: the firmware takes a filled request slot and sends its command on the module's own control channel, or answers with a
status (R124, R470, R471). -/
def State.mailboxRequest (s : State) : State :=
  if !s.firmwareUp || decide (s.phase ≠ .running) then s
  else match s.mboxNext with
    | none => s
    | some i =>
      let lane := (s.peek (mboxReq i + 1)).toNat
      let len := s.peekLe (mboxReq i + 4) 2
      let s := (s.write (mboxReq i) (leBytes 1 0)).1
      if 16 ≤ lane ∨ !s.portUp lane then s.mboxReply i (lane % 16) 2 []
      else if !s.isOn (IN_STRCFG_EN lane) then s.mboxReply i lane 3 []
      else if len < 8 ∨ 992 < len then s.mboxReply i lane 4 []
      else
        let pkt := s.peekN (mboxReq i + 32) len
        s.sendGvcp lane (.mailbox i) fun _ => pkt

/-- MAILBOX_REPLY_RELEASE: the host has written reply OWN = 0, and the bit of MBOX_READY is cleared (R471). -/
def State.mailboxRelease (s : State) (i : Nat) : State := (s.poke (mboxRep i) 0).setReady i false

/-! ## Acknowledgements and retries -/

/-- A GVCP command leaves the list of those in flight. -/
def State.dropGvcp (s : State) (l req : Nat) : State :=
  s.setLane l { s.lane l with gvcp := (s.lane l).gvcp.filter fun g => decide (g.req ≠ req) }

/-- A command has been acknowledged with a status and a packet (R123 to R125). -/
def State.gvcpAcked (s : State) (l : Nat) (g : Gvcp) (status : Nat) (pkt : List Byte) : State :=
  let s := s.dropGvcp l g.req
  match g.use with
  | .setup k i => if status = 0 then State.setupGo 4 s l k (i + 1) else s.setupFail l k
  | .heartbeat => if status = 0x8006 then s.setupStart l else s
  | .probe => if status = 0x8006 then s.setupStart l else s.channelOpen l
  | .mailbox i => s.mboxReply i l 0 (gvcpWithId pkt (dBe g.body 6 2))

/-- GVCP_ACK: the acknowledgement at the front of a port's queue completes the command with its ID (R124). -/
def State.gvcpAck (s : State) (l : Nat) : State :=
  if !s.firmwareUp then s
  else match s.takeFrame l isGvcpAck with
    | (s, none) => s
    | (s, some b) =>
      let pkt := (b.drop 42).take (dBe b 38 2 - 8)
      match (s.lane l).gvcp.find? fun g => decide (g.req = dBe pkt 6 2) with
      | some g => s.gvcpAcked l g (dBe pkt 0 2) pkt
      | none => s

/-- GVCP_RETRY_TIMEOUT: the oldest command of a port has had no acknowledgement for 200 ms: it is sent again, or after two retries reported
failed (R124, R125). -/
def State.gvcpTimeout (s : State) (l : Nat) : State :=
  if !s.firmwareUp then s
  else match (s.lane l).gvcp with
    | [] => s
    | g :: rest =>
      let s := s.advanceTo (40000000 + g.sent)
      if g.tries < 3 then
        (s.setLane l { s.lane l with gvcp := rest ++ [{ g with tries := g.tries + 1, sent := s.clk.enc }] }).queueTx l
          (.gvcp g.req (gvcpWithId g.body g.req))
      else
        let s := s.dropGvcp l g.req
        match g.use with
        | .setup k _ => s.setupFail l k
        | .heartbeat => s.sendHeartbeat l .probe
        | .probe => s.setupStart l
        | .mailbox i => s.mboxReply i l 1 []

end Sys2Proof.Machine
end

