-- ==== Sys2Proof/Machine/CameraCommands.lean ====
section
/-! DEFINITION. The meanings of the commands of the control processors' network services, camera setup, lines and the mailbox: one definition per row of the table. -/

namespace Sys2Proof.Machine

/-- The meaning of ARP_REQUEST (R96). -/
def execArpRequest (l : Fin 16) (s : State) : Out := s.whenOn fun s => s.arpRequest l.val

/-- The meaning of ICMP_ECHO (R96). -/
def execIcmpEcho (l : Fin 16) (s : State) : Out := s.whenOn fun s => s.icmpEcho l.val

/-- The meaning of GVCP_ACK (R124). -/
def execGvcpAck (l : Fin 16) (s : State) : Out := s.whenOn fun s => s.gvcpAck l.val

/-- The meaning of GVCP_RETRY_TIMEOUT (R124). -/
def execGvcpRetryTimeout (l : Fin 16) (s : State) : Out := s.whenOn fun s => s.gvcpTimeout l.val

/-- The meaning of STRCTL_SETUP (R125). -/
def execStrctlSetup (n : Fin 16) (v : BitVec 32) (s : State) : Out := s.whenOn fun s => s.strctlSetup n.val v.toNat

/-- The meaning of CAMERA_HEARTBEAT (R123). -/
def execCameraHeartbeat (l : Fin 16) (s : State) : Out := s.whenOn fun s => s.cameraHeartbeat l.val

/-- The meaning of CAMERA_SETUP_GIVE_UP (R582). -/
def execCameraSetupGiveUp (n : Fin 16) (s : State) : Out := s.whenOn fun s => s.setupGiveUp n.val

/-- The meaning of LINE_TIMEOUT (R129). -/
def execLineTimeout (n : Fin 16) (s : State) : Out := s.whenOn fun s => s.lineTimeout n.val

/-- The meaning of STREAM_EN_CHANGE (R634). -/
def execStreamEnChange (n : Fin 16) (en : Bool) (s : State) : Out := s.whenOn fun s => s.streamEn n.val en

/-- The meaning of VIEW_EN_CHANGE (R634). -/
def execViewEnChange (v : Fin 16) (en : Bool) (s : State) : Out := s.whenOn fun s => s.viewEn v.val en

/-- The meaning of MAILBOX_REQUEST (R471). -/
def execMailboxRequest (s : State) : Out := s.whenOn fun s => s.mailboxRequest

/-- The meaning of MAILBOX_REPLY_RELEASE (R471). -/
def execMailboxReplyRelease (i : Fin 8) (s : State) : Out := s.whenOn fun s => s.mailboxRelease i.val

end Sys2Proof.Machine
end

