-- ==== Sys2Proof/Machine/CoreOps.lean ====
section
/-! DEFINITION. The commands of the inspection cores as a core runs them (R251 to R253, R274 to R286). -/

namespace Sys2Proof.Machine

/-! ## TABLE and EMIT -/

/-- The conditions of TABLE (R274). -/
def tableFlaws (d : List Byte) : List Flaw := reserved d 2 3 ++ inRange (dLe d 12 2) 1 256 12 ++ reserved d 14 50

/-- TABLE: COUNT codebooks are loaded into the core's codebook memory (R274). -/
def State.tableCmd (s : State) (k j : Nat) (x : Job) (d : List Byte) (flaws : List Flaw) : State × Ran :=
  let n := 16 * dLe d 12 2
  match firstFlaw (flaws ++ x.regionFlaws d [⟨8, n, false⟩]) with
  | some f => (s, .flaw f)
  | none =>
    let a := x.addr d 8
    match s.readUnits (addUnits k [] a n) with
    | (s, false) => (s, .dataError false)
    | (s, true) =>
      let b := s.corePeek k a n
      let c := s.core k
      let own := decide (c.book = some j)
      (s.setCore k { c with
        codebook := (b.zipIdx).foldl (fun t (v, i) => Tab.set 0 t i v) (if own then c.codebook else [])
        book := some j
        books := (List.range (dLe d 12 2)).foldl (fun t i => Tab.set 0 t i (a + 16 * i + 1)) (if own then c.books else []) },
       .done false false)

/-- The conditions of EMIT (R280). -/
def emitFlaws (d : List Byte) : List Flaw :=
  reservedBits d 2 1 7 ++ need (elemFmt (aFmt d)) 5 3 ++ need (decide (bFmt d = 0)) 1 3 ++ reserved d 4 1 ++
    inRange (dLe d 12 2) 1 64 12 ++ inRange (dByte d 14) 0 15 14 ++ reserved d 15 49

/-- The largest element and its position: a NaN below every number, ties to the lowest position (R280). -/
def emitBest (l : List Num) : Num × Nat :=
  let above (a b : Num) : Bool := match a, b with
    | .int i, .int j => decide (j < i)
    | a, b => if a.toFp = .nan then false else if b.toFp = .nan then true else b.toFp.lt a.toFp
  match l with
  | [] => (.int 0, 0)
  | v :: r => (r.zipIdx).foldl (fun b (v, i) => if above v b.1 then (v, i + 1) else b) (v, 0)

/-- EMIT: the largest of N elements and its position go to the collector (R280). -/
def State.emitCmd (s : State) (k j : Nat) (x : Job) (c : Cmd) (flaws : List Flaw) : State × Ran :=
  let d := c.desc
  let n := dLe d 12 2 * fmtBytes (aFmt d)
  match firstFlaw (flaws ++ x.regionFlaws d [⟨8, n, false⟩]) with
  | some f => (s, .flaw f)
  | none =>
    let a := x.addr d 8
    match s.readUnits (addUnits k [] a n) with
    | (s, false) => (s, .dataError false)
    | (s, true) =>
      let l := (List.range (dLe d 12 2)).map fun i => numOf (aFmt d) (ofLe (s.corePeek k (a + i * fmtBytes (aFmt d)) (fmtBytes (aFmt d))))
      let (v, i) := emitBest l
      let fp := isFp (aFmt d)
      let score := match v with
        | .int i => toU 32 i
        | .fp x => fpCode 11 x
      (s.pushResult k { jobId := x.jobId, client := x.client, idx := dByte d 14, last := bit (dByte d 2) 0, fp := fp, cls := i, score := score,
                        job := some j, cmd := some c.idx }, .done false false)

/-! ## Execution -/

/-- Opcodes that a core executes (R253). -/
def isCoreOp (op : Nat) : Bool := (decide (1 ≤ op ∧ op ≤ 0x0D)) || op == 0x22

/-- CR_LASTERR and CR_ILLEGAL of an illegal descriptor or a region fault on core `k` (R259, R286). -/
def State.reportIllegal (s : State) (k : Nat) (x : Job) (c : Cmd) (f : Flaw) : State :=
  let s := ((((s.setFld (CR_LASTERR_OPCODE k) (dOp c.desc)).setFld (CR_LASTERR_CAUSE k) f.1).setFld (CR_LASTERR_BYTE k) f.2).setFld
    (CR_LASTERR_CLIENT k) x.client).setFld (CR_LASTERR_JOB_ID k) x.jobId
  s.raise 0x0601 k f.1

/-- The core's registers of a command with an empty output or extent (R298, R301). -/
def State.noteEmpty (s : State) (k : Nat) (x : Job) : State := (s.bump (CR_EMPTY_OUT_CNT k)).setFld (CR_EMPTY_JOB_ID k) x.jobId

/-- The command at the head of core `k`'s queue, ready to run: queued, with every part of it at its core's head (R346), and no flush. -/
def State.coreHead (s : State) (k : Nat) : Option (QEnt × Job × Cmd) :=
  if s.shep.flush.isSome then none
  else match s.headCmd k with
    | some (e, x, c) => if c.st = .queued ∧ e.part = 0 ∧ s.partsReady e x c then some (e, x, c) else none
    | none => none

/-- What the command at a core's head is to do: its opcode's conditions, and its run on a core for a job-table entry. -/
structure CoreAct where
  sel : List Byte → Bool
  flaws : List Byte → List Flaw
  run : State → Nat → Job → Cmd → List Flaw → State × Ran
  after : CmdState := .executed

/-- The end of a command's run on core `k` (R220, R252, R259, R298, R324): an illegal descriptor is a job fault, an uncorrectable datum ends the job,
and otherwise the command has taken effect and waits for its writes' acknowledgement. -/
def State.coreEnd (s : State) (k : Nat) (e : QEnt) (x : Job) (c : Cmd) (after : CmdState) (r : Ran) : State :=
  match r with
  | .flaw f => (s.reportIllegal k x c f).jobFault e.job f.1
  | .dataError wide => (s.markJob e.job false wide).dataErrorJob e.job
  | .done empty wide =>
    let s := (s.setCmd e.job c.idx after).markJob e.job empty wide
    if empty then s.noteEmpty k x else s

/-- A command that stood at core `k`'s head when a flush began in this very cycle faults too: it joins that flush (R325, R326). -/
def State.lateFault (s : State) (k : Nat) (a : CoreAct) : State :=
  match s.shep.flushed.find? fun p => decide (p.1 = k) with
  | some (_, j, x, c) =>
    if !s.flushNow ∨ c.st ≠ .queued ∨ (!a.sel c.desc && isCoreOp (dOp c.desc)) then s
    else
      let head := headFlaws c.desc c.idx
      let r := if !isCoreOp (dOp c.desc) then Ran.flaw ((firstFlaw (head ++ [(3, 0)])).getD (3, 0))
        else (a.run s j x c (head ++ a.flaws c.desc)).2
      match r with
      | .flaw f => (s.reportIllegal k x c f).faultAgain x f.1
      | _ => s
  | none => s

/-- A core executes the command at its head, where its opcode is the one asked for or none of a core's. An uncorrectable error in the core's state
fences it (R252, R327), a corrected one is counted (R285). -/
def State.coreRun (s : State) (k : Nat) (up : Upsets) (err : StateErr) (a : CoreAct) : State :=
  if err = .uncorrectable then (if s.inService k then (s.raise 0x0603 k).fence k 2 else s)
  else
    let s := if err = .corrected then s.bumpSat (CR_SERR_CORR k) else s
    match s.coreHead k with
    | none => s.lateFault k a
    | some (e, x, c) =>
      if !a.sel c.desc && isCoreOp (dOp c.desc) then s
      else
        let s := s.upset up
        let head := headFlaws c.desc c.idx
        if !isCoreOp (dOp c.desc) then s.coreEnd k e x c a.after (.flaw ((firstFlaw (head ++ [(3, 0)])).getD (3, 0)))
        else
          let r := a.run s e.job x c (head ++ a.flaws c.desc)
          r.1.coreEnd k e x c a.after r.2

/-- A tensor command of opcode `op`. -/
def State.tensorCmd (s : State) (k op : Nat) (up : Upsets) (err : StateErr) : State :=
  s.coreRun k up err
    { sel := fun d => decide (dOp d = op), flaws := fun _ => []
      run := fun s j x c fl => match s.planOf k j x c with
        | some (more, p) => s.runPlan k x c.desc p (fl ++ more)
        | none => (s, .flaw (3, 0)) }

/-- REDUCE MEAN over an empty extent sets EMPTY: CR_MEAN_EMPTY and MEAN_CNT (R298). -/
def State.meanEmpty (s : State) (k : Nat) (x : Job) : State := (s.bump (CR_EMPTY_MEAN_CNT k)).raise 0x0604 k 0 x.jobId

/-- REDUCE as a core runs it. -/
def State.reduceCmd (s : State) (k : Nat) (up : Upsets) (err : StateErr) : State :=
  s.coreRun k up err
    { sel := fun d => decide (dOp d = 9), flaws := reduceFlaws
      run := fun s _ x c fl =>
        let p := reducePlan c.desc (partsOf x c)
        match s.runPlan k x c.desc p fl with
        | (s, .done e w) => (if p.ident.isSome ∧ bits (dByte c.desc 2) 2 3 = 1 then s.meanEmpty k x else s, .done e w)
        | r => r }

/-- EMIT as a core runs it; it waits while the core's collector FIFO is full (R280, R355). -/
def State.emitRun (s : State) (k : Nat) (up : Upsets) (err : StateErr) : State :=
  s.coreRun k up err
    { sel := fun d => decide (dOp d = 0x22) && s.fifoRoom k, flaws := emitFlaws
      run := fun s j x c fl => s.emitCmd k j x c fl, after := .emitting }

/-- TABLE as a core runs it (R274). -/
def State.tableRun (s : State) (k : Nat) (up : Upsets) (err : StateErr) : State :=
  s.coreRun k up err
    { sel := fun d => decide (dOp d = 0x0C), flaws := tableFlaws, run := fun s j x c fl => s.tableCmd k j x c.desc fl }

/-- NEAR in SEARCH or MERGE mode, as a core runs it (R276, R277). -/
def State.nearRun (s : State) (k : Nat) (up : Upsets) (err : StateErr) (merge : Bool) : State :=
  s.coreRun k up err
    { sel := fun d => decide (dOp d = 0x0B) && decide (bit (dByte d 2) 0 = merge), flaws := nearFlaws
      run := fun s _ x c fl => if bit (dByte c.desc 2) 0 then s.nearMerge k x c.desc fl else s.nearSearch k x c.desc fl }

/-- CORE_WATCHDOG: a step, save or restore has not completed within 1 ms, so the core is fenced (R327), also where a flush has emptied it in this
very cycle (R325). -/
def State.coreWatchdog (s : State) (k : Nat) : State :=
  let c := s.core k
  if s.inService k && (!c.queue.isEmpty || decide (c.xfer ≠ .none) || (s.flushNow && s.shep.flushed.any fun p => decide (p.1 = k))) then s.fence k 3
  else s

end Sys2Proof.Machine
end

