-- ==== Sys2Proof/Machine/Ptp.lean ====
section
/-! DEFINITION. The Time unit's precision time protocol: roles, best master, the servo and its states, steps (R391 to R398, R411 to R417). -/

namespace Sys2Proof.Machine

/-! ## Roles, clocks and states -/

/-- MASTER role with PTP enabled (R393, R411). -/
def State.ptpMaster (s : State) : Bool := s.isOn TM_CFG_PTP_EN && !s.isOn TM_CFG_ROLE

/-- SLAVE role with PTP enabled. -/
def State.ptpSlave (s : State) : Bool := s.isOn TM_CFG_PTP_EN && s.isOn TM_CFG_ROLE

/-- The transport in use: UDP/IPv4, or Ethernet (R392). -/
def State.ptpUdp (s : State) : Bool := s.isOn TM_CFG_TRANS

/-- Whether a message for SLAVE role is the clock's own: the slave port, the domain, the transport, and firmware that runs (R392, R393, R398). -/
def State.slaveTakes (s : State) (l dom : Nat) (udp : Bool) : Bool :=
  s.ptpSlave && decide (l = s.fld TM_CFG_SLV_PORT ∧ dom = s.fld TM_CFG_DOMAIN ∧ udp = s.ptpUdp) && s.firmwareUp

/-- Whether a message for MASTER role is the clock's own. -/
def State.masterTakes (s : State) (l dom : Nat) (udp : Bool) : Bool :=
  s.ptpMaster && (s.fld TM_PORTS_PORT_EN).testBit l && decide (dom = s.fld TM_CFG_DOMAIN ∧ udp = s.ptpUdp) && s.firmwareUp

/-- An interval of 2^LOG s in ns, LOG signed (R392). -/
def logInterval (l : Int) : Nat := if l < 0 then 1000000000 / 2 ^ (-l).toNat else 1000000000 * 2 ^ l.toNat
def State.syncNs (s : State) : Nat := logInterval (s.sfld TM_CFG_LOG_SYNC)
def State.annNs (s : State) : Nat := logInterval (s.sfld TM_CFG_LOG_ANN)

/-- The firmware extends a 32-bit hardware stamp when it reads it; one more than 1 s old is discarded with its message (R395). -/
def State.extendStamp (s : State) (stamp : Nat) : Option Nat :=
  let age := (s.clk.dev + 2 ^ 32 - stamp % 2 ^ 32) % 2 ^ 32
  if age > 1000000000 ∨ age > s.clk.dev then none else some (s.clk.dev - age)

/-- TM_OFFSET as an event parameter. -/
def State.offsetWord (s : State) : Nat := s.fld TM_OFFSET_OFFSET

/-- STATE 1 MASTER, 2 ACQUIRE, 3 LOCKED, 4 HOLDOVER, 0 FREE (R413). -/
def State.ptpState (s : State) : Nat := s.fld TM_STAT_STATE

/-- Entry into HOLDOVER from ACQUIRE or LOCKED: the rate stays frozen, TM_HOLDOVER is raised and counted (R396). -/
def State.holdover (s : State) : State :=
  if s.ptpState = 2 ∨ s.ptpState = 3 then
    let s := { s with ptp := { s.ptp with good := 0 } }
    ((s.setFld TM_STAT_STATE 4).bump TM_STAT_HOLDOVER_CNT).raise 0x0402 s.offsetWord
  else s

/-- A step of PTP_OFS to a value: TM_STEP, STEP_SEEN, and lines of PTP views stay invalid for 100 ms of device time (R397). -/
def State.ptpStep (s : State) (v : Nat) : State :=
  let s := (s.setFld TM_PTPOFS_PTP_OFS v).setFld TM_STAT_STEP_SEEN 1
  let s := { s with ptpHold := 100000000 + s.clk.dev }
  s.raise 0x0403 s.offsetWord

/-! ## The servo -/

/-- The servo writes TM_RATE within its limit; the value it chooses is open (R396). -/
def State.servoRate (s : State) : State :=
  let (s, n) := s.drawFree 32
  s.setSFld TM_RATE_RATE (((n % 400001 : Nat) : Int) - 200000)

/-- The correction of a measured offset in ns: by rate up to 1 ms, by a step of PTP_OFS above (R397). -/
def State.servo (s : State) (off : Int) : State :=
  if s.ptpState = 2 ∧ 1000000 < off.natAbs then s.ptpStep (toU 64 ((s.fld TM_PTPOFS_PTP_OFS : Int) - off)) else s.servoRate

/-- The sixteenth consecutive offset below 1 µs locks the clock (R396). -/
def State.countGood (s : State) (off : Int) : State :=
  let s : State := { s with ptp := { s.ptp with good := if off.natAbs < 1000 then min 16 (s.ptp.good + 1) else 0 } }
  if s.ptpState = 2 ∧ s.ptp.good = 16 then (s.setFld TM_STAT_STATE 3).raise 0x0401 s.offsetWord else s

/-- A Sync is measured: master time `t1` with the corrections added, device time `rx` of its reception (R396, R397). -/
def State.measure (s : State) (t1 : Int) (rx : Nat) : State :=
  let off := sx 64 (toU 64 ((rx : Int) + (s.fld TM_PTPOFS_PTP_OFS : Int) - t1 - s.ptp.delay))
  let s : State := { s with ptp := { s.ptp with sync := some (t1, rx) } }
  let s := s.setSFld TM_OFFSET_OFFSET (clampI (-2147483648) 2147483647 off)
  if s.ptpState = 2 ∨ s.ptpState = 3 then (s.servo off).countGood off else s

/-- A valid Sync of the best master moves FREE and HOLDOVER to ACQUIRE (R396). -/
def State.acquire (s : State) : State := if s.ptpState = 0 ∨ s.ptpState = 4 then s.setFld TM_STAT_STATE 2 else s

/-- PTP_SYNC: a Sync on lane `l` from `src` with its 32-bit receive stamp; a two-step one waits for its Follow_Up (R392, R395, R396). -/
def State.ptpSync (s : State) (l dom src seq stamp : Nat) (udp : Bool) (twoStep : Bool) (t1 : Nat) (corr : Int) : State :=
  if !s.slaveTakes l dom udp then s
  else match s.extendStamp stamp, s.ptp.best with
    | none, _ => s
    | some _, none => { s with ptp := { s.ptp with early := some src } }
    | some rx, some m =>
      if m.src ≠ src then s
      else
        let s : State := { s with ptp := { s.ptp with lastSync := s.clk.dev } }
        let s := s.acquire
        if twoStep then { s with ptp := { s.ptp with pend := some (seq, rx, corr) } }
        else State.measure { s with ptp := { s.ptp with pend := none } } (t1 + corr) rx

/-- PTP_FOLLOW_UP: the transmit stamp of the two-step Sync that waits (R392). -/
def State.ptpFollowUp (s : State) (l dom src seq t1 : Nat) (udp : Bool) (corr : Int) : State :=
  if !s.slaveTakes l dom udp then s
  else match s.ptp.best, s.ptp.pend with
    | some m, some (q, rx, c) =>
      if m.src = src ∧ q = seq then State.measure { s with ptp := { s.ptp with pend := none } } (t1 + corr + c) rx else s
    | _, _ => s

/-! ## Best master selection -/

/-- The data set comparison of IEEE 1588-2019 (R392): whether the first master is better than the second. -/
def PtpMaster.better (a b : PtpMaster) : Bool :=
  let key (m : PtpMaster) : List Nat :=
    if a.gm = b.gm then [m.steps, m.src] else [m.prio1, m.cls, m.acc, m.var, m.prio2, m.gm]
  decide (key a < key b)

/-- The clock follows a master; one with another grandmaster identity sends it to HOLDOVER (R396). -/
def State.follow (s : State) (m : PtpMaster) : State :=
  let old := s.ptp.best
  let heard := s.ptp.early = some m.src
  let fresh := match old with
    | some b => decide (b.src ≠ m.src)
    | none => true
  let s : State := { s with ptp := { s.ptp with best := some m, early := none, lastAnn := s.clk.dev } }
  let s : State := if fresh then
      { s with ptp := { s.ptp with pend := none, sync := none, req := none, delay := 0, good := 0, lastSync := s.clk.dev } } else s
  match old with
  | some b => if b.gm ≠ m.gm then s.holdover else s
  | none => if heard then s.acquire else s

/-- PTP_ANNOUNCE: an Announce of a master; it is followed where it is the best master's own, where it is better, or where the best
master has been silent for three intervals. MASTER role never yields (R392, R393, R396). -/
def State.ptpAnnounce (s : State) (l dom : Nat) (udp : Bool) (m : PtpMaster) : State :=
  if !s.slaveTakes l dom udp then s
  else match s.ptp.best with
    | none => s.follow m
    | some b => if b.src = m.src ∨ m.better b ∨ s.ptp.lastAnn + 3 * s.annNs ≤ s.clk.dev then s.follow m else s

/-- PTP_TIMEOUT: three intervals without a Sync or an Announce; timeouts do not run in a warm start (R396, R398). -/
def State.ptpTimeout (s : State) : State :=
  if !s.ptpSlave || !(decide (s.ptpState = 2) || decide (s.ptpState = 3)) || !s.firmwareUp then s
  else (s.advanceDev (min (s.ptp.lastSync + 3 * s.syncNs) (s.ptp.lastAnn + 3 * s.annNs))).holdover

/-! ## Path delay -/

/-- PTP_DELAY_REQ_SEND: a Delay_Req to the master; its transmit stamp is taken as it leaves (R392). -/
def State.ptpDelayReqSend (s : State) : State :=
  if !s.ptpSlave || !s.firmwareUp || s.ptp.best.isNone then s
  else
    let q := (s.ptp.delaySeq + 1) % 65536
    let s : State := { s with ptp := { s.ptp with delaySeq := q, req := none } }
    s.queueTx (s.fld TM_CFG_SLV_PORT) (.ptp 1 q s.ptpUdp 0 [])

/-- PTP_DELAY_RESP: the mean path delay by the end-to-end mechanism (R392). -/
def State.ptpDelayResp (s : State) (l dom src seq t4 : Nat) (udp : Bool) (corr : Int) : State :=
  if !s.slaveTakes l dom udp then s
  else match s.ptp.best, s.ptp.req, s.ptp.sync with
    | some m, some (q, t3), some (t1, t2) =>
      if m.src = src ∧ q = seq then
        let o : Int := s.fld TM_PTPOFS_PTP_OFS
        let fwd := sx 64 (toU 64 ((t2 : Int) + o - t1))
        let back := sx 64 (toU 64 ((t4 : Int) - corr - t3 - o))
        { s with ptp := { s.ptp with delay := (fwd + back) / 2, req := none } }
      else s
    | _, _, _ => s

/-- PTP_DELAY_REQ: in MASTER role a Delay_Req is answered with its receive stamp in PTP time (R392, R395). -/
def State.ptpDelayReq (s : State) (l dom src seq stamp : Nat) (udp : Bool) : State :=
  if !s.masterTakes l dom udp then s
  else match s.extendStamp stamp with
    | some rx => s.queueTx l (.ptp 9 seq s.ptpUdp ((rx + s.fld TM_PTPOFS_PTP_OFS) % 2 ^ 64) (beBytes 10 src))
    | none => s

/-! ## Sending in MASTER role -/

/-- The lanes that carry PTP in MASTER role (R393, R412). -/
def State.ptpLanes (s : State) : List Nat := (List.range 16).filter (s.fld TM_PORTS_PORT_EN).testBit

/-- PTP_SYNC_SEND: a two-step Sync on every port of MASTER role once the interval has passed (R392, R398). -/
def State.ptpSyncSend (s : State) : State :=
  if !s.ptpMaster || s.inWarm || !s.firmwareUp then s
  else
    let s := s.advanceDev (s.ptp.sentSync + s.syncNs)
    let q := s.ptp.syncSeq
    let s : State := { s with ptp := { s.ptp with sentSync := s.clk.dev, syncSeq := (q + 1) % 65536 } }
    s.ptpLanes.foldl (fun s l => s.queueTx l (.ptp 0 q s.ptpUdp 0 [])) s

/-- PTP_ANNOUNCE_SEND: an Announce with clockClass 248 and timeSource 0xA0 once the interval has passed (R393, R398). -/
def State.ptpAnnounceSend (s : State) : State :=
  if !s.ptpMaster || s.inWarm || !s.firmwareUp then s
  else
    let s := s.advanceDev (s.ptp.sentAnn + s.annNs)
    let q := s.ptp.annSeq
    let s : State := { s with ptp := { s.ptp with sentAnn := s.clk.dev, annSeq := (q + 1) % 65536 } }
    s.ptpLanes.foldl (fun s l => s.queueTx l (.ptp 11 q s.ptpUdp 0 [248, 0xA0])) s

/-! ## Register writes -/

/-- PTP_OFS_WRITE: a write of TM_PTPOFS is a step in MASTER role and is ignored in SLAVE role (R397, R415). -/
def State.ptpOfsWrite (s : State) (v : Nat) : State := if s.isOn TM_CFG_ROLE then s else s.ptpStep (v % 2 ^ 64)

/-- A change of PTP_EN: STATE reads MASTER in MASTER role with PTP enabled; a slave starts FREE, with TM_RATE 0 (R396, R413). -/
def State.ptpRole (s : State) : State :=
  let s : State := { s with ptp := { syncSeq := s.ptp.syncSeq, annSeq := s.ptp.annSeq, delaySeq := s.ptp.delaySeq,
                                     sentSync := s.clk.dev, sentAnn := s.clk.dev } }
  let s := s.setFld TM_STAT_STATE (if s.ptpMaster then 1 else 0)
  if s.ptpSlave then s.setFld TM_RATE_RATE 0 else s

end Sys2Proof.Machine
end

