-- ==== Sys2Proof/Machine/Replay.lean ====
section
/-! DEFINITION. Fleece images, the replay decoder with its cache, and the Fleece encoder of the audit (R133 to R136, R149, R152,
R173, R174, R524 to R527). -/

namespace Sys2Proof.Machine

/-! ## The Fleece code -/

/-- Bits of a byte string, most significant bit of each byte first (R526). -/
def bitsOf (b : List Byte) : List Bool := b.flatMap fun x => [7, 6, 5, 4, 3, 2, 1, 0].map fun i => x.toNat.testBit i

/-- The bytes of a bit string, padded with zero bits to its byte boundary. -/
def bytesOfBits : Nat → List Bool → List Byte
  | 0, _ => []
  | _, [] => []
  | n + 1, l => BitVec.ofNat 8 (((l ++ List.replicate 7 false).take 8).foldl (fun a b => 2 * a + b2n b) 0) :: bytesOfBits n (l.drop 8)

/-- `n` bits of a number, most significant first. -/
def msbBits (n x : Nat) : List Bool := (List.range n).map fun i => x.testBit (n - 1 - i)

/-- The number that `n` bits spell, with the rest. -/
def readBits (n : Nat) (l : List Bool) : Option (Nat × List Bool) :=
  if l.length < n then none else some ((l.take n).foldl (fun a b => 2 * a + b2n b) 0, l.drop n)

/-- Leading zero bits, at most `n`. -/
def leadZeros : Nat → List Bool → Nat × List Bool
  | n + 1, false :: t => let (z, r) := leadZeros n t; (z + 1, r)
  | _, l => (0, l)

/-- The adaptive state of a stripe: acc and n (R526). -/
structure Adapt where
  acc : Nat
  n : Nat
deriving DecidableEq, Repr

/-- The state at a stripe's start. -/
def Adapt.start (depth : Nat) : Adapt := ⟨max 2 ((2 ^ depth + 32) / 64), 1⟩

/-- The parameter k. -/
def Adapt.k (a : Adapt) : Nat := ((List.range 16).find? fun k => decide (a.n * 2 ^ k ≥ a.acc)).getD 16

/-- The state after a code m. -/
def Adapt.next (a : Adapt) (m : Nat) : Adapt := if a.n + 1 = 64 then ⟨(a.acc + m) / 2, 32⟩ else ⟨a.acc + m, a.n + 1⟩

/-- The prediction from left, above and above left (R526). -/
def predict (a b c : Nat) : Nat := if c ≥ max a b then min a b else if c ≤ min a b then max a b else a + b - c

/-- The prediction at column x of a row: `prev` is the row above, absent on a stripe's first row; `left` the sample to the left. -/
def predAt (depth : Nat) (prev : Option (List Nat)) (left : Option Nat) (x : Nat) : Nat :=
  let up (i : Nat) (d : Nat) : Nat := match prev with | some p => p[i]?.getD d | none => d
  let a := match left with | some v => v | none => up 0 (2 ^ (depth - 1))
  let b := up x a
  let c := if x = 0 then b else up (x - 1) b
  predict a b c

/-- One code is read: k, zeros, and the escape (R526). -/
def readCode (depth k : Nat) (l : List Bool) : Option (Nat × List Bool) :=
  match leadZeros 24 l with
  | (z, true :: r) =>
    if z < 24 then (readBits k r).map fun p => (z * 2 ^ k + p.1, p.2)
    else (readBits (depth + 1) r).bind fun p => if p.1 > 2 * (2 ^ depth - 1) then none else some p
  | _ => none

/-- The signed value of a zigzag code. -/
def unzig (m : Nat) : Int := if m % 2 = 1 then -(((m + 1) / 2 : Nat) : Int) else ((m / 2 : Nat) : Int)

/-- The samples of one row of a coded stripe. -/
def decodeRow (depth q : Nat) (prev : Option (List Nat)) : Nat → Nat → List Nat → Adapt → List Bool → Option (List Nat × Adapt × List Bool)
  | 0, _, done, a, l => some (done.reverse, a, l)
  | w + 1, x, done, a, l =>
    match readCode depth a.k l with
    | none => none
    | some (m, r) =>
      let v := clampI 0 ((2 ^ depth - 1 : Nat) : Int) ((predAt depth prev done.head? x : Int) + unzig m * ((2 * q + 1 : Nat) : Int))
      decodeRow depth q prev w (x + 1) (v.toNat :: done) (a.next m) r

/-- The rows of a coded stripe, with the bits that remain. -/
def decodeRows (depth q w : Nat) : Nat → Option (List Nat) → Adapt → List Bool → Option (List (List Nat) × List Bool)
  | 0, _, _, l => some ([], l)
  | n + 1, prev, a, l =>
    match decodeRow depth q prev w 0 [] a l with
    | none => none
    | some (row, a', r) => (decodeRows depth q w n (some row) a' r).map fun p => (row :: p.1, p.2)

/-- A coded stripe of `rows` rows, or `none` where it is malformed (R526). -/
def decodeStripe (depth q w rows : Nat) (b : List Byte) : Option (List (List Nat)) :=
  match decodeRows depth q w rows none (Adapt.start depth) (bitsOf b) with
  | some (l, r) => if r.length ≤ 7 ∧ r.all (fun x => !x) then some l else none
  | none => none

/-- Samples of `n` bytes each. -/
def pixelsOf (n : Nat) : Nat → List Byte → List Nat
  | 0, _ => []
  | k + 1, b => ofLe (b.take n) :: pixelsOf n k (b.drop n)

/-- A list cut into rows of `w`. -/
def cutRows {α : Type} (w : Nat) : Nat → List α → List (List α)
  | 0, _ => []
  | n + 1, l => l.take w :: cutRows w n (l.drop w)

/-- The code of one sample with Q = 0 (R526): the escape where m >> k ≥ 24. -/
def writeCode (depth k m : Nat) : List Bool :=
  if m / 2 ^ k ≥ 24 then List.replicate 24 false ++ [true] ++ msbBits (depth + 1) m
  else List.replicate (m / 2 ^ k) false ++ [true] ++ msbBits k m

/-- The zigzag code of a signed value. -/
def zig (e : Int) : Nat := if e < 0 then (2 * -e - 1).toNat else (2 * e).toNat

/-- One row coded with Q = 0. -/
def encodeRow (depth : Nat) (prev : Option (List Nat)) : Nat → Option Nat → List Nat → Adapt → List Bool × Adapt
  | _, _, [], a => ([], a)
  | x, left, v :: t, a =>
    let m := zig ((v : Int) - (predAt depth prev left x : Int))
    let (r, a') := encodeRow depth prev (x + 1) (some v) t (a.next m)
    (writeCode depth a.k m ++ r, a')

/-- The rows of a stripe coded with Q = 0. -/
def encodeRows (depth : Nat) : Option (List Nat) → List (List Nat) → Adapt → List Bool
  | _, [], _ => []
  | prev, r :: t, a =>
    let (b, a') := encodeRow depth prev 0 none r a
    b ++ encodeRows depth (some r) t a'

/-- A stripe as the module's encoder stores it: RAW unless coding makes it smaller (R527). -/
def encodeStripe (depth : Nat) (rows : List (List Nat)) : Bool × List Byte :=
  let bits := encodeRows depth none rows (Adapt.start depth)
  let coded := bytesOfBits (bits.length / 8 + 1) bits
  let raw := rows.flatMap fun r => r.flatMap fun v => leBytes (if depth ≤ 8 then 1 else 2) v
  if coded.length < raw.length then (false, coded) else (true, raw)

/-! ## Fleece images -/

/-- A Fleece header (R525). -/
structure Fleece where
  depth : Nat
  planes : Nat
  q : Nat
  w : Nat
  h : Nat
  stripeH : Nat
  nstripe : Nat
  id : Nat
  race : Nat
  mixed : Bool
  filled : Bool
  epoch : Nat
  y0 : Int
  row0 : Nat
  rows : Nat
  pitch : Nat
deriving DecidableEq, Repr

/-- Bytes per sample. -/
def Fleece.bytes (f : Fleece) : Nat := if f.depth ≤ 8 then 1 else 2

/-- Stripes of a plane. -/
def Fleece.bands (f : Fleece) : Nat := (f.h + f.stripeH - 1) / f.stripeH

/-- Rows of stripe `i`. -/
def Fleece.rowsOf (f : Fleece) (i : Nat) : Nat := min f.stripeH (f.h - (i % f.bands) * f.stripeH)

/-- The header of 64 bytes, or `none` where a field is out of range, a reserved field is nonzero or HCRC fails (R525). -/
def readFleece (b : List Byte) : Option Fleece :=
  let f : Fleece :=
    { depth := dByte b 1, planes := dByte b 2, q := dByte b 3, w := dLe b 4 4, h := dLe b 8 4, stripeH := dLe b 12 2,
      nstripe := dLe b 16 4, id := dLe b 20 4, race := dByte b 24, mixed := bit (dByte b 25) 0, filled := bit (dByte b 25) 1,
      epoch := dLe b 26 2, y0 := sx 64 (dLe b 28 8), row0 := dLe b 36 4, rows := dLe b 40 4, pitch := dLe b 48 8 }
  if b.length = 64 ∧ dByte b 0 = 1 ∧ 8 ≤ f.depth ∧ f.depth ≤ 16 ∧ 1 ≤ f.planes ∧ f.planes ≤ 4 ∧ f.q < 16 ∧ 1 ≤ f.stripeH ∧
      f.stripeH ≤ 256 ∧ dZero b 14 2 ∧ f.race < 16 ∧ dByte b 25 < 4 ∧ dZero b 44 4 ∧ dZero b 56 4 ∧
      dLe b 60 4 = crc32 (b.take 60) ∧ f.nstripe = f.planes * f.bands then some f
  else none

/-- A stripe table entry: RAW, SLEN, SOFS (R525). -/
structure Stripe where
  raw : Bool
  len : Nat
  ofs : Nat
deriving DecidableEq, Repr

/-- The stripe table. -/
def stripesOf (n : Nat) (b : List Byte) : List Stripe :=
  (List.range n).map fun i => ⟨bit (dLe b (8 * i) 8) 63, bits (dLe b (8 * i) 8) 32 31, dLe b (8 * i) 4⟩

/-- Whether stripes lie in ascending order, without overlap, between `lo` and `hi`. -/
def stripesOk (hi : Nat) : Nat → List Stripe → Bool
  | _, [] => true
  | lo, x :: t => decide (lo ≤ x.ofs ∧ x.ofs + x.len ≤ hi) && stripesOk hi (x.ofs + x.len) t

/-- Whether the table agrees with its header (R525). -/
def Fleece.tableOk (f : Fleece) (srcLen : Nat) (l : List Stripe) : Bool :=
  stripesOk srcLen (64 + 8 * f.nstripe) l &&
    (List.range l.length).all fun i => match l[i]? with
      | some x => !x.raw || decide (x.len = f.rowsOf i * f.w * f.bytes)
      | none => true

/-- One stripe of an image whose bytes are `img`: its rows. -/
def Fleece.stripeRows (f : Fleece) (img : List Byte) (i : Nat) (x : Stripe) : Option (List (List Nat)) :=
  let b := (img.drop x.ofs).take x.len
  if x.raw then some (cutRows f.w (f.rowsOf i) (pixelsOf f.bytes (f.rowsOf i * f.w) b))
  else decodeStripe f.depth f.q f.w (f.rowsOf i) b

/-- All the rows of an image, plane by plane, or `none` where a stripe is malformed. -/
def Fleece.decode (f : Fleece) (img : List Byte) (l : List Stripe) : Option (List (List Nat)) :=
  (List.range l.length).foldl (fun acc i =>
    match acc, l[i]? with
    | some rows, some x => (f.stripeRows img i x).map fun r => rows ++ r
    | a, _ => a) (some [])

/-! ## Replay entries -/

/-- FLAGS of a replay entry. -/
def ReplayEnt.flipX (e : ReplayEnt) : Bool := bit e.flags 0
def ReplayEnt.flipY (e : ReplayEnt) : Bool := bit e.flags 1
def ReplayEnt.store (e : ReplayEnt) : Bool := bit e.flags 2
def ReplayEnt.load (e : ReplayEnt) : Bool := bit e.flags 3

/-- The fields of a replay entry (R133). -/
def readReplayEnt (b : List Byte) : ReplayEnt :=
  { flags := dByte b 1, cacheSlot := dLe b 2 2, sample := dLe b 4 4, src := dLe b 8 8, srcLen := dLe b 16 4, budget := dLe b 20 4,
    gain := dLe b 24 2, offset := sx 16 (dLe b 26 2), shiftX := sx 16 (dLe b 28 2), shiftY := sx 16 (dLe b 30 2), race := dByte b 32 }

/-- Check 1 of R134. -/
def State.replayEntryOk (s : State) (b : List Byte) : Bool :=
  let e := readReplayEnt b
  decide (dByte b 0 = 1 ∧ e.flags < 16 ∧ e.budget ≠ 0 ∧ e.race < 16) && dZero b 33 31 &&
    (!(e.store || e.load) || decide (e.cacheSlot < s.fld IN_RPLCACHE_SLOTS))

/-- The address of a cache slot (R136). -/
def State.cacheAddr (s : State) (n : Nat) : Nat :=
  0x100000 * s.fld IN_RPLCACHE_BASE + 0x100000 * (n * s.fld IN_RPLCACHE_SLOT_MIB)

/-- The 64-byte header of a cache slot: the fields that R136 names, and the Fleece fields that the tile header takes over. -/
def cacheHeader (sample : Nat) (f : Fleece) : List Byte :=
  leBytes 4 sample ++ leBytes 4 f.w ++ leBytes 4 f.h ++ leBytes 1 f.planes ++ leBytes 1 f.depth ++ leBytes 1 1 ++
    leBytes 1 (b2n f.mixed + 2 * b2n f.filled) ++ leBytes 2 f.epoch ++ leBytes 2 0 ++ leBytes 4 f.row0 ++ leBytes 4 f.rows ++
    leBytes 8 (toU 64 f.y0) ++ leBytes 8 f.pitch ++ leBytes 16 0

/-- A cache slot's header read back. -/
def readCache (b : List Byte) : Fleece :=
  { depth := dByte b 13, planes := dByte b 12, q := 0, w := dLe b 4 4, h := dLe b 8 4, stripeH := 1, nstripe := 0, id := dLe b 0 4,
    race := 0, mixed := bit (dByte b 15) 0, filled := bit (dByte b 15) 1, epoch := dLe b 16 2, y0 := sx 64 (dLe b 28 8),
    row0 := dLe b 20 4, rows := dLe b 24 4, pitch := dLe b 36 8 }

/-- Whether a cache slot is valid for a sample. -/
def cacheValid (b : List Byte) (sample : Nat) : Bool := bit (dByte b 14) 0 && decide (dLe b 0 4 = sample)

/-- Whether a decoded sample fits its race (R524). -/
def State.sampleFits (s : State) (r : Nat) (f : Fleece) : Bool :=
  decide (f.planes = (s.raceViews r).length ∧ f.w = s.fld (PX_RGEOM_W r) ∧ f.bytes = s.raceBytes r ∧ f.h ≤ s.hMax r)

/-- A read of an extent that must lie in DDR5. -/
def State.readDdr (s : State) (a n : Nat) : State × Option (List Byte) :=
  if a + n ≤ ddrSize then s.read a n else (s, none)

/-! ## The decoder -/

/-- Decode lane `n`. -/
def State.replayLane (s : State) (n : Nat) : Option DecodeLane := Tab.get none s.replay.lanes n

/-- Decode lane `n`, set. -/
def State.setReplayLane (s : State) (n : Nat) (x : Option DecodeLane) : State :=
  { s with replay := { s.replay with lanes := Tab.set none s.replay.lanes n x } }

/-- A sample ends NOT_DECODED with a sub-cause: counted, and recorded where its race exists (R134, R361). Where no header gave
the sample's epoch, the record's EPOCH is a free value. -/
def State.notDecoded (s : State) (e : ReplayEnt) (ep : Option Nat) (sub : Nat) : State :=
  let s := s.bump IN_RPLSTAT_NOTDEC
  if 16 ≤ e.race then s
  else
    let (s, n) := match ep with | some n => (s, n) | none => s.drawFree 16
    let c := (s.clientOf 2 e.race).getD 0
    s.replayRecord e.race e.sample n (.unjudged, .notDecoded) { model := Tab.get 0 s.shep.model c } sub

/-- A sample ends with DATA_ERROR (R433). -/
def State.sampleError (s : State) (e : ReplayEnt) : State :=
  let s := s.bump IN_RPLSTAT_DONE
  let (s, n) := s.drawFree 16
  let c := (s.clientOf 2 e.race).getD 0
  s.replayRecord e.race e.sample n (.unjudged, .dataError) { model := Tab.get 0 s.shep.model c } 0

/-- Whether a lane at work holds an entry on the cache slot of `e` that must finish first (R136). -/
def State.cacheBusy (s : State) (e : ReplayEnt) : Bool :=
  (e.store || e.load) && s.replay.lanes.any fun p => match p.2 with
    | some x => (x.ent.store || x.ent.load) && decide (x.ent.cacheSlot = e.cacheSlot) && (x.ent.store || e.store)
    | none => false

/-- The next free decode lane in rotating order (R133). -/
def State.freeLane (s : State) : Option Nat :=
  ((List.range 4).map fun i => (s.replay.lanePtr + i) % 4).find? fun n => (s.replayLane n).isNone

/-- The entry starts in a lane. -/
def State.startLane (s : State) (n : Nat) (e : ReplayEnt) (load : Bool) : State :=
  let s := s.setReplayLane n (some ⟨e, s.clk.enc, load, false⟩)
  { s with replay := { s.replay with lanePtr := (n + 1) % 4 } }

/-- Checks 3 and 4 of R134 and the test of R524, for an entry that is to be decoded. -/
def State.decodeChecks (s : State) (n : Nat) (e : ReplayEnt) : State :=
  if e.srcLen < 64 ∨ e.src + e.srcLen > ddrSize then s.notDecoded e none 3
  else match s.readDdr e.src 64 with
    | (s, none) => s.sampleError e
    | (s, some hb) =>
      match readFleece hb with
      | none => s.notDecoded e none 3
      | some f =>
        if 64 + 8 * f.nstripe > e.srcLen then s.notDecoded e (some f.epoch) 3
        else match s.readDdr (e.src + 64) (8 * f.nstripe) with
          | (s, none) => s.sampleError e
          | (s, some tb) =>
            if !f.tableOk e.srcLen (stripesOf f.nstripe tb) then s.notDecoded e (some f.epoch) 3
            else if f.w < 1 ∨ f.w > 65536 ∨ f.h < 1 ∨ f.h > 65536 ∨ f.w * f.h * f.planes > 64 * e.srcLen then
              s.notDecoded e (some f.epoch) 2
            else if !s.sampleFits e.race f then s.notDecoded e (some f.epoch) 3
            else s.startLane n e false

/-- REPLAY_ENTRY_TAKE: the next entry of the ring is taken onto a free lane after the checks of R134. -/
def State.replayTake (s : State) (up : Upsets) : State :=
  if !s.isOn IN_RPLCFG_EN || !s.intakeUp then s
  else match s.freeLane with
    | none => s
    | some n =>
      match (s.upset up).takeEntry (s.fld IN_RPLCFG_RING) with
      | (s', none) => s'
      | (s', some b) =>
        let e := readReplayEnt b
        if !s'.replayEntryOk b then s'.notDecoded e none 5
        else if s'.cacheBusy e then s
        else if e.load then
          match s'.readDdr (s'.cacheAddr e.cacheSlot) 64 with
          | (s', none) => s'.sampleError e
          | (s', some hb) =>
            if cacheValid hb e.sample then
              (if s'.sampleFits e.race (readCache hb) then s'.startLane n e true else s'.notDecoded e (some (readCache hb).epoch) 3)
            else if e.srcLen = 0 then s'.notDecoded e none 4
            else s'.decodeChecks n e
        else s'.decodeChecks n e

/-- The decoded image is stored in the cache (R136): image first, header last; one too large for a slot is not stored. -/
def State.cacheStore (s : State) (e : ReplayEnt) (f : Fleece) (rows : List (List Nat)) : State :=
  let a := s.cacheAddr e.cacheSlot
  if 64 + f.planes * f.h * f.w * f.bytes > 0x100000 * s.fld IN_RPLCACHE_SLOT_MIB then s.bump IN_RPLSTAT_CACHE_SKIP
  else
    let (s, _) := s.write (a + 64) (rows.flatMap fun r => r.flatMap fun v => leBytes f.bytes v)
    (s.write a (cacheHeader e.sample f)).1

/-- One augmented sample (R135). -/
def augmentPx (e : ReplayEnt) (w h pmax : Nat) (rows : List (List Nat)) (x y : Nat) : Nat :=
  let xs := if e.flipX then w - 1 - x else x
  let ys := if e.flipY then h - 1 - y else y
  let xs := (clampI 0 ((w : Int) - 1) ((xs : Int) - e.shiftX)).toNat
  let ys := (clampI 0 ((h : Int) - 1) ((ys : Int) - e.shiftY)).toNat
  let v := ((rows[ys]?.getD [])[xs]?).getD 0
  (clampI 0 (pmax : Int) (rne ((v * e.gain : Nat) : Int) 14 + e.offset)).toNat

/-- A plane augmented. -/
def augment (e : ReplayEnt) (w h pmax : Nat) (rows : List (List Nat)) : List (List Nat) :=
  (List.range h).map fun y => (List.range w).map fun x => augmentPx e w h pmax rows x y

/-- The sample is written to a tile slot of its race with REPLAY set, and its job is submitted (R135, R173, R306, R524). -/
def State.emitSample (s : State) (e : ReplayEnt) (f : Fleece) (rows : List (List Nat)) (ts : Nat) : State :=
  let r := e.race
  let a := s.tileAddr r ts
  let pmax := if f.depth ≤ 8 then 255 else 65535
  let planes := (List.range f.planes).flatMap fun p => augment e f.w f.h pmax ((rows.drop (p * f.h)).take f.h)
  let body := planes.flatMap (s.rowBytes r)
  let s := (s.write (a + 64) body).1
  let s := (s.write a (s.tileHeader r true f.mixed f.filled (s.ptpView (s.segView r)) e.sample f.h f.epoch f.y0 f.row0 f.rows f.pitch)).1
  let s := s.bump IN_RPLSTAT_DONE
  match s.clientOf 2 r with
  | some c =>
    if s.suspect c then s.replayRecord r e.sample f.epoch (.unjudged, .jobLost) { model := Tab.get 0 s.shep.model c } 0
    else (s.holdTile r ts).submit ⟨c, .replay, e.sample, .sample ts (int16 f.y0) f.epoch, 0⟩
  | none => s.replayRecord r e.sample f.epoch (.unjudged, .jobLost) {} 0

/-- The tile slot that a sample may take: only while more than N_r slots of the race remain free afterwards (R173). -/
def State.replaySlot (s : State) (r : Nat) : Option Nat :=
  match s.freeTiles r with
  | t :: rest => if rest.length > Tab.get 0 s.fold.quota r then some t else none
  | [] => none

/-- The decoded sample of a lane: an uncorrectable line, a malformed stream, or its header and rows. -/
inductive Decoded
  | error
  | malformed (epoch : Nat)
  | image (f : Fleece) (rows : List (List Nat))
deriving DecidableEq, Repr

/-- What a lane's decode or load gives. -/
def State.laneDecode (s : State) (x : DecodeLane) : State × Decoded :=
  let e := x.ent
  if x.load then
    match s.readDdr (s.cacheAddr e.cacheSlot) 64 with
    | (s, none) => (s, .error)
    | (s, some hb) =>
      let f := readCache hb
      match s.readDdr (s.cacheAddr e.cacheSlot + 64) (f.planes * f.h * f.w * f.bytes) with
      | (s, none) => (s, .error)
      | (s, some b) => (s, .image f (cutRows f.w (f.planes * f.h) (pixelsOf f.bytes (f.planes * f.h * f.w) b)))
  else
    match s.readDdr e.src e.srcLen with
    | (s, none) => (s, .error)
    | (s, some img) =>
      match readFleece (img.take 64) with
      | none => (s, .malformed 0)
      | some f =>
        match f.decode img (stripesOf f.nstripe (img.drop 64)) with
        | none => (s, .malformed f.epoch)
        | some rows => (s, .image f rows)

/-- The ENC cycle at which a lane's budget ends: BUDGET PIX cycles of 1.2 GHz, six to an ENC cycle (R134, R576). -/
def DecodeLane.deadline (x : DecodeLane) : Nat := x.start + (x.ent.budget + 5) / 6

/-- REPLAY_BUDGET_EXPIRE: a decode that has not finished within its budget ends NOT_DECODED, and its lane is free (R134). -/
def State.replayExpire (s : State) (n : Nat) : State :=
  match s.replayLane n with
  | none => s
  | some x =>
    if x.load ∨ x.ready then s
    else
      let s := s.advanceTo x.deadline
      let ep := (readFleece (s.peekN x.ent.src 64)).map Fleece.epoch
      (s.setReplayLane n none).notDecoded x.ent ep 1

/-- REPLAY_DECODE_DONE: a lane's sample is decoded or loaded, stored where STORE is set, augmented and emitted; it waits, holding
its lane, while no tile slot may be taken (R135, R136, R173). -/
def State.replayDone (s : State) (n : Nat) (up : Upsets) : State :=
  match s.replayLane n with
  | none => s
  | some x =>
    if !x.load ∧ !x.ready ∧ s.clk.enc > x.deadline then s.replayExpire n
    else
      let e := x.ent
      match (s.upset up).laneDecode x with
      | (s', .error) => (s'.setReplayLane n none).sampleError e
      | (s', .malformed ep) => (s'.setReplayLane n none).notDecoded e (some ep) 3
      | (s', .image f rows) =>
        match s'.replaySlot e.race with
        | none => s.setReplayLane n (some { x with ready := true })
        | some ts =>
          let s' := s'.setReplayLane n none
          let s' := if e.store && !x.load then s'.cacheStore e f rows else s'
          s'.emitSample e f rows ts

/-- REPLAY_ENABLE: a write to IN_RPLCFG (R149): RING is taken only while EN = 0; clearing EN abandons the pass. -/
def State.replayEnable (s : State) (v : Nat) : State :=
  let was := s.isOn IN_RPLCFG_EN
  let ring := bits v 32 16
  let s := if !was ∧ ring ≤ 8191 then s.setFld IN_RPLCFG_RING ring else s
  let s := s.setFlag IN_RPLCFG_EN (bit v 63)
  if was && !bit v 63 then { s with replay := { s.replay with lanes := [] } } else s

/-- REPLAY_CLR_STAT: the counters of IN_RPLSTAT are cleared together (R152). -/
def State.replayClear (s : State) (v : Nat) : State :=
  if bit v 0 then ((s.setFld IN_RPLSTAT_DONE 0).setFld IN_RPLSTAT_NOTDEC 0).setFld IN_RPLSTAT_CACHE_SKIP 0 else s

/-! ## The Fleece encoder -/

/-- DEPTH of a race's audit images (R527). -/
def State.fleeceDepth (s : State) (r : Nat) : Nat := pxBits (s.raceFmt r)

/-- The Fleece image of a tile from its header bytes and its rows (R525, R527). -/
def fleeceImage (depth planes w h : Nat) (hdr : List Byte) (rows : List (List Nat)) : List Byte :=
  let bands := (h + 15) / 16
  let stripes := (List.range (planes * bands)).map fun i =>
    encodeStripe depth ((rows.drop ((i / bands) * h + (i % bands) * 16)).take (min 16 (h - (i % bands) * 16)))
  let base := 64 + 8 * (planes * bands)
  let table := (stripes.foldl (fun (p : List Byte × Nat) x =>
    (p.1 ++ leBytes 8 (x.2.length * 2 ^ 32 + p.2 + (if x.1 then 2 ^ 63 else 0)), p.2 + x.2.length)) ([], base)).1
  let fl := dByte hdr 3
  let head := leBytes 1 1 ++ leBytes 1 depth ++ leBytes 1 planes ++ leBytes 1 0 ++ leBytes 4 w ++ leBytes 4 h ++ leBytes 2 16 ++
    leBytes 2 0 ++ leBytes 4 (planes * bands) ++ leBytes 4 (dLe hdr 4 4) ++ leBytes 1 (dByte hdr 18) ++
    leBytes 1 (b2n (bit fl 1) + 2 * b2n (bit fl 2)) ++ leBytes 2 (dLe hdr 16 2) ++ leBytes 8 (dLe hdr 32 8) ++
    leBytes 4 (dLe hdr 40 4) ++ leBytes 4 (dLe hdr 44 4) ++ leBytes 4 0 ++ leBytes 8 (dLe hdr 48 8) ++ leBytes 4 0
  head ++ leBytes 4 (crc32 head) ++ table ++ stripes.flatMap Prod.snd

/-- The audit ring entry of 32 bytes (R174). -/
def AuditReq.bytes (q : AuditReq) (addr len : Nat) : List Byte :=
  leBytes 4 q.psn ++ leBytes 1 q.race ++ leBytes 1 (b2n q.reject + 2 * b2n q.unjudged + 4 * b2n q.sampled + 8 * b2n q.mixed) ++
    leBytes 2 q.epoch ++ leBytes 8 addr ++ leBytes 4 len ++ leBytes 12 0

/-- The images whose ring entry has been consumed give their buffer space back (R174). -/
def State.auditPrune (s : State) : State :=
  let x := s.ring (s.fld PX_AUDCFG_RING)
  { s with audit := { s.audit with images := s.audit.images.filter fun p => decide (idxDiff p.1 x.cons < 2 ^ 31) } }

/-- An image is placed at the next 64-byte boundary of the audit buffer, never across its end, and its entry is posted; without
room for either the part is skipped (R174). -/
def State.auditPost (s : State) (q : AuditReq) (img : List Byte) : State :=
  let size := s.audSize
  let n := (img.length + 63) / 64 * 64
  let skip := if s.audit.wr + n > size then size - s.audit.wr else 0
  let at_ := if skip ≠ 0 then 0 else s.audit.wr
  let ring := s.fld PX_AUDCFG_RING
  if n > size ∨ s.audUsed + skip + n > size ∨ (s.ring ring).full ∨ !s.ringsUp then s.bump (PX_RSTAT_AUD_SKIP q.race)
  else
    let a := 0x100000 * s.fld PX_AUDCFG_BASE + at_
    let idx := (s.ring ring).prod
    let s := (s.write a img).1
    let s := match s.ringPost ring (q.bytes a img.length) with
      | (s, .lost l) => s.reportRefused l
      | (s, _) => s
    { s with audit := { s.audit with wr := (at_ + n) % size, images := s.audit.images ++ [(idx, skip + n)] } }

/-- Whether a tile slot still waits to be written in full. -/
def State.tilePending (s : State) (r t : Nat) : Bool :=
  s.slotsInUse.any fun i => let x := s.slot i; decide (x.race = r) && decide (x.tile = some t) && !x.tileDone && decide (x.st ≠ .free)

/-- FLEECE_ENCODE_DONE: the encoder finishes the image of the part at the front of its queue (R174, R527); an uncorrectable tile line
skips the part (R433). -/
def State.fleeceDone (s : State) (up : Upsets) : State :=
  match s.audit.queue with
  | [] => s
  | q :: rest =>
    if s.tilePending q.race q.tile then s
    else
      let s := ({ s with audit := { s.audit with queue := rest } }.auditPrune).upset up
      let a := s.tileAddr q.race q.tile
      let s := match s.read a 64 with
        | (s, none) => s.bump (PX_RSTAT_AUD_SKIP q.race)
        | (s, some hdr) =>
          let planes := dByte hdr 2
          let w := dLe hdr 8 4
          let h := dLe hdr 12 4
          let st := dLe hdr 20 4
          let n := if dByte hdr 1 = 0 then 1 else 2
          match s.read (a + 64) (planes * h * st) with
          | (s, none) => s.bump (PX_RSTAT_AUD_SKIP q.race)
          | (s, some b) =>
            let rows := (cutRows st (planes * h) b).map fun l => pixelsOf n w l
            s.auditPost q (fleeceImage (s.fleeceDepth q.race) planes w h hdr rows)
      (s.dropTile q.race q.tile)

end Sys2Proof.Machine
end

