-- ==== Sys2Proof/Machine/MemDma.lean ====
section
/-! DEFINITION. The patrol scrubber, the DMA channels, the sampling of the rings' indices, and the reports and effects of errors in the
on-chip stores (R431 to R444, R625). -/

namespace Sys2Proof.Machine

/-! ## Scrubber and reports -/

/-- SCRUB_READ: the next line of DDR5 is read; a corrected error is written back, an uncorrectable one is reported with source 1
(R431, R433). -/
def State.scrubRead (s : State) (up : Upsets) : State :=
  if !s.isOn MM_CFG_SCRUB_EN || !s.image.ddrUp then s
  else
    let s := s.upset up
    let n := s.fld MM_SCRUB_NEXT_LINE
    let s : State := match s.mark (64 * n) with
      | .clean => s
      | .corrected => (s.noteCorrected (64 * n)).setMark (64 * n) .clean
      | .uncorrectable => s.noteUncorrectable (64 * n) 1
    if n + 1 = 2 ^ 29 then (s.setFld MM_SCRUB_NEXT_LINE 0).bump MM_SCRUB_PASSES else s.setFld MM_SCRUB_NEXT_LINE (n + 1)

/-- MM_CE: once per second the corrections made since the previous report are reported (R432). -/
def State.mmCe (s : State) : State :=
  let s := match s.ev.ceTime with
    | some t => s.advanceDev (1000000000 + t)
    | none => s
  let n := s.fld MM_ECCSTAT_CORR
  if n = s.ev.ceCorr then s
  else
    let old := s.ev.ceCorr
    let s : State := { s with ev := { s.ev with ceCorr := n, ceTime := some s.clk.dev } }
    s.raise 0x0A01 (n - old)

/-- The corrected count of a store, by store code (R625). -/
def State.sramCount (s : State) (code : Nat) : Nat :=
  match code with
  | 1 => s.fld MG_SERR_SWS_CORR
  | 2 => s.fld MG_SERR_LS_CORR
  | 3 => s.fld MG_SERR_PEN_CORR
  | 4 => s.fld MG_SERR_CP_CORR
  | 5 => s.fld MG_SERR_TD_CORR
  | _ => 0

/-- MG_SRAM_CE: once per second the corrections of a store made since the previous report are reported (R625). -/
def State.sramCe (s : State) (code : Nat) : State :=
  let old := Tab.get 0 s.ev.sramCorr code
  let s := match Tab.find? s.ev.sramTime code with
    | some t => s.advanceDev (1000000000 + t)
    | none => s
  let n := s.sramCount code
  if n = old then s
  else
    let s : State := { s with ev := { s.ev with
        sramCorr := Tab.set 0 s.ev.sramCorr code n
        sramTime := Tab.put s.ev.sramTime code s.clk.dev } }
    s.raise 0x0E0C code (n - old)

/-! ## Errors of the Tally and ring descriptor store -/

/-- The CP hold until the next cold start (R623, R625). -/
def State.holdCpCold (s : State) : State :=
  State.hold { s with health := { s.health with cpUntilCold := true } } MG_HOLD_CP true

/-- The part of a withdrawn slot leaves: its jobs, its stream, its tile. An entry that stands in a fire queue still fires (R625). -/
def State.withdrawSlot (s : State) (i : Nat) : State :=
  let s : State := { s with fold := { s.fold with withdrawn := s.fold.withdrawn ++ [i] } }
  let x := s.slot i
  if x.st = .free ∨ x.arming = .queue then s
  else
    let s : State := { s with shep := { s.shep with waiting := s.shep.waiting.filter fun q => decide (q.origin ≠ .part i) } }
    let s := s.jobIds.foldl (fun s j => match s.job j with
      | some y => if y.origin = .part i then (s.withdrawJob j).setJob j none else s
      | none => s) s
    let s := s.abandonStream i
    let s := match x.tile with
      | some t => s.dropTile x.race t
      | none => s
    let z : RaceSt := Tab.get {} s.px.races x.race
    let s : State := if z.mode = .run i then
        { s with px := { s.px with races := Tab.set {} s.px.races x.race { z with mode := .blocked } } }
      else s
    let s : State := { s with px := { s.px with tiles := Tab.set none s.px.tiles i none } }
    (s.setSlot i {}).noteUsed

/-- An error in a Tally slot's word: corrected from its own code or the other copy, or uncorrectable in both copies (R625). -/
def State.tallyError (s : State) (i : Nat) (hard : Bool) : State :=
  if 4096 ≤ i then s
  else if !hard then s.bumpSat MG_SERR_TD_CORR
  else
    let s := ((s.bumpSat MG_SERR_TD_UNCORR).raise 0x0E0D 5 (0x80000 + 64 * i)).holdCpCold
    if s.fold.withdrawn.contains i then s else s.withdrawSlot i

/-- An error in a ring descriptor's word: corrected, or the ring goes out of service (R625). -/
def State.ringError (s : State) (r : Nat) (hard : Bool) : State :=
  if 8192 ≤ r then s
  else if !hard then s.bumpSat MG_SERR_TD_CORR
  else
    let s := (s.bumpSat MG_SERR_TD_UNCORR).setRing r { s.ring r with out := true }
    (s.raise 0x0E0D 5 (64 * r)).raise 0x0B02 r

/-! ## DMA channels -/

/-- A DMA descriptor (R437). -/
structure DmaDesc where
  op : Nat
  cpl : Bool
  tag : Nat
  src : Nat
  dst : Nat
  len : Nat
  value : Nat
deriving DecidableEq, Repr

/-- The fields of a descriptor. -/
def readDma (b : List Byte) : DmaDesc :=
  ⟨bits (dByte b 1) 0 2, bit (dByte b 1) 2, dLe b 4 4, dLe b 8 8, dLe b 16 8, dLe b 24 4, dLe b 28 4⟩

/-- Whether two extents of one length overlap. -/
def overlap (a b n : Nat) : Bool := decide (0 < n ∧ a < b + n ∧ b < a + n)

/-- Whether a descriptor is legal under R10, R15, R16, R437 and R438. -/
def DmaDesc.legal (d : DmaDesc) (b : List Byte) : Bool :=
  decide (dByte b 0 = 1 ∧ dByte b 1 < 8 ∧ d.op ≠ 3 ∧ d.src < 2 ^ 38 ∧ d.dst < 2 ^ 38) && dZero b 2 2 && dZero b 32 32 &&
    (if d.op = 1 then decide (d.src = 0) else decide (d.value = 0)) && !(decide (d.op = 0) && overlap d.src d.dst d.len)

/-- The resident area of every core in service (R437). -/
def inEveryCore (a : Nat) : Bool := decide (0x2500280000 ≤ a ∧ a < 0x25003E0000)

/-- Whether a channel may read, or write, `n` bytes from an address (R437). -/
def dmaMay (priv wr : Bool) (a n : Nat) : Bool :=
  let within (lo hi : Nat) : Bool := decide (lo ≤ a ∧ a + n ≤ hi)
  within 0 (if priv then ddrSize else 0x7F0000000) || (within swsBase (swsBase + 0x800000) && (priv || !wr)) ||
    within penBase (penBase + 0x200000) || (priv && wr && inEveryCore a && decide (a + n ≤ 0x25003E0000)) ||
    (priv && match inCore a with
      | some k => within (coreBase k + 0x280000) (coreBase k + 0x3E0000)
      | none => false)

/-- Whether a channel's map holds what a descriptor asks for. -/
def DmaDesc.inMap (d : DmaDesc) (priv : Bool) : Bool :=
  decide (d.len = 0) || ((decide (d.op = 1) || dmaMay priv false d.src d.len) && dmaMay priv (decide (d.op ≠ 2)) d.dst d.len)

/-- The 64-byte lines from line `lo` up to the one that holds byte `a` are read: `false` where one cannot be (R438). -/
def State.dmaLines (s : State) (lo a : Nat) : State × Bool :=
  (List.range (a / 64 + 1 - lo)).foldl (fun (p : State × Bool) i =>
    if p.2 then
      let (s, b) := p.1.read (64 * (lo + i)) 64
      (s, b.isSome)
    else p) (s, true)

/-- A DMA write of a piece of one line: to one place, or to the resident area of every core in service (R437). -/
def State.dmaWrite (s : State) (a : Nat) (bs : List Byte) : State × Bool :=
  if inEveryCore a then
    (s.coresUp.foldl (fun s k => (s.write (coreBase k + (a - 0x2500000000)) bs).1) s, true)
  else s.write a bs

/-- COPY line by line of the destination: bytes done, and whether it went through; `rd` is the first source line not yet read. -/
def dmaCopy : Nat → State → Nat → Nat → Nat → Nat → Nat → State × Nat × Bool
  | 0, s, _, _, _, done, _ => (s, done, true)
  | fuel + 1, s, src, dst, len, done, rd =>
    if len = 0 then (s, done, true)
    else
      let n := min len (64 - dst % 64)
      match s.dmaLines rd (src + n - 1) with
      | (s, false) => (s, done, false)
      | (s, true) =>
        match s.dmaWrite dst (s.peekN src n) with
        | (s, false) => (s, done, false)
        | (s, true) => dmaCopy fuel s (src + n) (dst + n) (len - n) (done + n) ((src + n - 1) / 64 + 1)

/-- FILL: byte DST + i takes byte (DST + i) mod 4 of VALUE. -/
def dmaFill : Nat → State → Nat → Nat → Nat → Nat → State × Nat × Bool
  | 0, s, _, _, _, done => (s, done, true)
  | fuel + 1, s, value, dst, len, done =>
    if len = 0 then (s, done, true)
    else
      let n := min len (64 - dst % 64)
      match s.dmaWrite dst ((List.range n).map fun i => BitVec.ofNat 8 (value >>> (8 * ((dst + i) % 4)))) with
      | (s, false) => (s, done, false)
      | (s, true) => dmaFill fuel s value (dst + n) (len - n) (done + n)

/-- The first place at which two byte strings differ. -/
def firstDiff : List Byte → List Byte → Option Nat
  | a :: l, b :: m => if a = b then (firstDiff l m).map (· + 1) else some 0
  | _, _ => none

/-- COMPARE: every line of both extents is read; `diff` is the first difference met. -/
def dmaCompare : Nat → State → Nat → Nat → Nat → Nat → Nat → Nat → Option Nat → State × Nat × Bool × Option Nat
  | 0, s, _, _, _, done, _, _, diff => (s, done, true, diff)
  | fuel + 1, s, src, dst, len, done, rs, rd, diff =>
    if len = 0 then (s, done, true, diff)
    else
      let n := min len (min (64 - src % 64) (64 - dst % 64))
      match s.dmaLines rs (src + n - 1) with
      | (s, false) => (s, done, false, diff)
      | (s, true) =>
        match s.dmaLines rd (dst + n - 1) with
        | (s, false) => (s, done, false, diff)
        | (s, true) =>
          let diff := match diff with
            | some d => some d
            | none => (firstDiff (s.peekN src n) (s.peekN dst n)).map (done + ·)
          dmaCompare fuel s (src + n) (dst + n) (len - n) (done + n) ((src + n - 1) / 64 + 1) ((dst + n - 1) / 64 + 1) diff

/-- A descriptor is carried out: its STATUS and OFFSET (R438, R439). -/
def State.dmaRun (s : State) (d : DmaDesc) : State × Nat × Nat :=
  let fuel := d.len / 32 + 3
  match d.op with
  | 0 =>
    let (s, n, ok) := dmaCopy fuel s d.src d.dst d.len 0 (d.src / 64)
    (s, if ok then 0 else 2, n)
  | 1 =>
    let (s, n, ok) := dmaFill fuel s d.value d.dst d.len 0
    (s, if ok then 0 else 2, n)
  | _ =>
    let (s, n, ok, diff) := dmaCompare fuel s d.src d.dst d.len 0 (d.src / 64) (d.dst / 64) none
    match ok, diff with
    | false, _ => (s, 2, n)
    | true, some k => (s, 1, k)
    | true, none => (s, 0, n)

/-- The completion entry of a descriptor. -/
def dmaEntry (c tag status ofs : Nat) : List Byte :=
  leBytes 4 tag ++ leBytes 1 c ++ leBytes 1 status ++ leBytes 2 0 ++ leBytes 4 ofs ++ leBytes 4 0

/-- A completion entry is posted, or waits for room in its ring (R441). -/
def State.dmaPost (s : State) (c : Nat) (e : List Byte) : State :=
  if !s.ringsUp then { s with dma := { s.dma with wait := Tab.set [] s.dma.wait c e } }
  else match s.ringPost (s.fld (DM_CHCFG_CPL_RING c)) e with
    | (s, .posted) => s
    | (s, .lost l) => s.reportRefused l
    | (s, .full) => { s with dma := { s.dma with wait := Tab.set [] s.dma.wait c e } }

/-- Completion entries that waited are posted where their rings have room. -/
def State.dmaPostWaiting (s : State) : State :=
  s.dma.wait.foldl (fun s p => State.dmaPost { s with dma := { s.dma with wait := Tab.set [] s.dma.wait p.1 [] } } p.1 p.2) s

/-- Whether channel `c` may start a descriptor: enabled, not halted, the completion of the one before posted (R437, R439, R441). -/
def State.dmaReady (s : State) (c : Nat) : Bool :=
  decide (c < 64) && s.isOn (DM_CHCFG_EN c) && decide (s.fld (DM_CHSTAT_STATE c) ≠ 2) && decide (Tab.get [] s.dma.wait c = []) &&
    s.ringsUp && !(s.ring (s.fld (DM_CHCFG_DESC_RING c))).empty

/-- A descriptor ends in an error: the channel halts with CAUSE, and the descriptor stays at the ring's front until RESUME (R439). -/
def State.dmaHalt (s : State) (c status : Nat) : State :=
  ((s.setFld (DM_CHSTAT_STATE c) 2).setFld (DM_CHSTAT_CAUSE c) status).raise 0x0B01 c status

/-- DMA_COPY, DMA_FILL and DMA_COMPARE: channel `c` takes the descriptor at the front of its ring, where that is of the operation
`op`; an illegal one halts it whichever command takes it (R437 to R439). -/
def State.dmaTake (s : State) (c op : Nat) (up : Upsets) : State :=
  if !s.dmaReady c then s
  else
    let ring := s.fld (DM_CHCFG_DESC_RING c)
    let x := s.ring ring
    let a := x.entryAddr x.cons
    let peeked := readDma (s.peekN a (2 ^ x.esize))
    if peeked.op ≠ op ∧ peeked.op ≠ 3 then s
    else
      let s := s.upset up
      match s.read a (2 ^ x.esize) with
      | (s, none) => (s.consume ring).raise 0x0B02 ring
      | (s, some b) =>
        let d := readDma b
        let (s, status, ofs) : State × Nat × Nat :=
          if !d.legal b then (s, 3, 0)
          else if !d.inMap (s.isOn (DM_CHCFG_PRIV c)) then (s, 4, 0)
          else s.dmaRun d
        let s := if status ≤ 1 then ((s.consume ring).bump (DM_CHSTAT_DONE c)) else s
        let s := if d.cpl then s.dmaPost c (dmaEntry c d.tag status ofs) else s
        if status ≤ 1 then s else s.dmaHalt c status

/-- DMA_RESUME: a halted channel skips the failed descriptor and continues (R439, R452). -/
def State.dmaResume (s : State) (c : Nat) : State :=
  if 64 ≤ c ∨ s.fld (DM_CHSTAT_STATE c) ≠ 2 then s
  else
    let ring := s.fld (DM_CHCFG_DESC_RING c)
    let s := if (s.ring ring).empty then s else s.consume ring
    s.setFld (DM_CHSTAT_STATE c) 0

/-- DMA_ABORT: the channel's descriptor ring is emptied (R439). -/
def State.dmaAbort (s : State) (c : Nat) : State :=
  if 64 ≤ c then s
  else
    let ring := s.fld (DM_CHCFG_DESC_RING c)
    let x := s.ring ring
    let s := if x.out then s else s.putRing ring { x with cons := x.prod }
    s.setFld (DM_CHSTAT_STATE c) 0

/-- STATE of DM_CHSTAT as it reads: RUN while an enabled channel has a descriptor or a completion to post. -/
def State.dmaState (s : State) (c : Nat) : Nat :=
  if s.fld (DM_CHSTAT_STATE c) = 2 then 2
  else if s.isOn (DM_CHCFG_EN c) && (!(s.ring (s.fld (DM_CHCFG_DESC_RING c))).empty || decide (Tab.get [] s.dma.wait c ≠ [])) then 1
  else 0

/-! ## The sampling of ring indices -/

/-- A ring index set by its host side: one that would overfill the ring, or move CONS beyond PROD, is ignored with DM_RING_ERR, once per
value (R443). -/
def State.hostIndex (s : State) (r v : Nat) : State :=
  let x := s.ring r
  let ok : Bool := if x.modProduces then decide (idxDiff v x.cons ≤ x.used) else decide (idxDiff v x.cons ≤ 2 ^ x.size)
  if ok then
    let y : Ring := if x.modProduces then { x with cons := v, bad := none } else { x with prod := v, bad := none }
    if y = x then s else s.putRing r y
  else if x.bad = some v then s
  else (s.setRing r { x with bad := some v }).raise 0x0B02 r

/-- The host's index of one ring is read from its index block. -/
def State.sampleRing (s : State) (r : Nat) : State :=
  let x := s.ring r
  if x.idxAddr = 0 ∨ x.out ∨ x.kind = 0 ∨ x.kind = 5 then s
  else match s.read (if x.modProduces then x.idxAddr + 4 else x.idxAddr) 4 with
    | (s, some b) => s.hostIndex r (ofLe b)
    | (s, none) => s

/-- RING_INDEX_SAMPLE: the host-written indices are sampled (R442), and what waited for room in a ring goes on. -/
def State.ringIndexSample (s : State) (descs up : Upsets) : State :=
  if !s.ringsUp then s
  else
    let s := descs.foldl (fun s p => s.ringError p.1 p.2) (s.upset up)
    let s := (s.rings.map Prod.fst).foldl State.sampleRing s
    s.postWaiting.dmaPostWaiting.auditPrune

end Sys2Proof.Machine
end

