-- ==== Sys2Proof/Machine/LambOps.lean ====
section
/-! DEFINITION. The Lamb engine: its units, streams from the line store, LB_CONV and LB_SORT (R224 to R240). -/

namespace Sys2Proof.Machine

/-! ## LB_CONV -/

/-- The size of the input: IN_W and IN_H, or the tile header's W and H. -/
def State.lbSize (s : State) (g : LbConv) : Nat × Nat := if g.tile then (s.peekLe (g.src + 8) 4, s.peekLe (g.src + 12) 4) else (g.w, g.h)

/-- The input as a view; a tile's planes begin behind its header (R172). -/
def State.lbView (s : State) (g : LbConv) (d : List Byte) : TView :=
  let (w, h) := s.lbSize g
  let (tx, ty) := Config.lambTile d
  let t : TIn := ⟨20, if g.inMap then 52 else 0, g.aFmt, g.ci, h, w, 64, tx % 16, ty % 16⟩
  ⟨t, if g.tile then g.src + 64 else g.src, s.peekLe (g.map + 1) 1 % 16,
    if g.inMap then (List.range (s.peekLe (g.map + 4) 4)).filter fun i => bit (s.peekLe (g.map + 16 + 4 * i) 4) 31 else []⟩

/-- The conditions that depend on memory and on extents (R211, R218, R224). -/
def State.lbDataFlaws (s : State) (g : LbConv) (d : List Byte) : List Flaw :=
  let (w, h) := s.lbSize g
  let v := s.lbView g d
  let n := s.peekLe (g.map + 4) 4
  (if g.tile then need (!lbMay false g.src 64 || s.coreBad 0 g.src 64 || decide (1 ≤ w ∧ w ≤ 131072 ∧ 1 ≤ h ∧ h ≤ 65536)) 4 20 else []) ++
    need (lbMay false v.addr v.t.size) 7 20 ++ need (lbMay true g.dst (g.outBytes h w)) 7 28 ++
    need (lbMay false g.wgt g.weightBytes) 7 36 ++ need (lbMay false g.req (16 * g.co)) 7 44 ++
    need ((List.range g.co).all fun i => !lbMay false (g.req + 16 * i) 16 || s.coreBad 0 (g.req + 16 * i) 16 ||
      reqOk false g.out (s.peekN (g.req + 16 * i) 16)) 4 44 ++
    (if g.inMap then
      need (lbMay false g.map (16 + 4 * n)) 7 52 ++
        need (s.coreBad 0 g.map (16 + 4 * n) || (decide (s.peekLe g.map 1 = 1 ∧ s.peekLe (g.map + 1) 1 ≤ 8 ∧ s.peekLe (g.map + 2) 2 = 0 ∧
          s.peekLe (g.map + 8) 8 = 0) && (List.range n).all fun i => decide (bits (s.peekLe (g.map + 16 + 4 * i) 4) 24 6 = 0))) 4 52
    else [])

/-- The units that the layer reads besides its input: weights and entries. -/
def LbConv.tableUnits (g : LbConv) : Units := addUnits 0 (addUnits 0 [] g.wgt g.weightBytes) g.req (16 * g.co)

/-- A convolution from memory: the result is a flaw, a data error, or the values of its output. -/
def State.lbConvRun (s : State) (x : Job) (c : Cmd) : State × Ran × Option Result :=
  let d := c.desc
  let g := readLb d
  match firstFlaw (lbConvFlaws d false ++ s.lbDataFlaws g d) with
  | some f => (s, .flaw f, none)
  | none =>
    let (w, h) := s.lbSize g
    let v := s.lbView g d
    let win := g.win h w
    let ys := win.readY (List.range win.outH)
    let xs := win.readX (List.range win.outW)
    let u0 := if g.inMap then addUnits 0 g.tableUnits g.map (16 + 4 * s.peekLe (g.map + 4) 4) else g.tableUnits
    let u0 := if g.tile then addUnits 0 u0 g.src 64 else u0
    let units := (List.range g.ci).foldl (fun u i => ys.foldl (fun u y => xs.foldl (fun u xx =>
      addUnits 0 u (v.place i y xx).1 (v.place i y xx).2) u) u) u0
    match s.readUnits units with
    | (s, false) => (s, .dataError false, none)
    | (s, true) =>
      let u := if v.wide = [] then 0 else v.wsh
      let vals := s.lbValues g h w u fun i y xx => (s.element 0 v u i y xx).toInt
      match s.lbWrite g g.dst h w vals with
      | (s, false) => (s, .dataError false, none)
      | (s, true) =>
        let out : Option Result := if g.emit then (lbBest vals).map fun b =>
            { jobId := x.jobId, client := x.client, idx := 15, last := false, fp := false, cls := b.1, score := toU 32 b.2, job := none } else none
        (s, .done (decide (g.outH h w = 0 ∨ g.outW h w = 0)) false, out)

/-! ## LB_SORT -/

/-- The conditions of an LB_SORT descriptor (R237, R238, R240). -/
def lbSortFlaws (x : Job) (d : List Byte) : List Flaw :=
  let n := dLe d 8 2
  let k := dLe d 10 2
  let src := dLe d 20 8
  let dst := dLe d 28 8
  let may (a m : Nat) : Bool := decide (a + m ≤ ddrSize) || decide (swsBase ≤ a ∧ a + m ≤ swsBase + 0x800000)
  need (decide (bits (dByte d 1) 0 4 = 1)) 2 1 ++ reservedBits d 1 4 4 ++ reserved d 2 6 ++ reserved d 12 8 ++ reserved d 36 28 ++
    need (decide (x.cls ≠ .realtime ∧ x.cls ≠ .trial)) 3 0 ++ inRange n 1 4096 8 ++ inRange k 1 n 10 ++
    need (!decide (src < dst + 8 * k ∧ dst < src + 8 * n)) 6 28 ++ need (may src (8 * n)) 7 20 ++ need (may dst (8 * k)) 7 28

/-- An entry of 8 bytes put behind every entry with a key not below its own. -/
def insertKey (e : List Byte) : List (List Byte) → List (List Byte)
  | [] => [e]
  | a :: t => if sx 32 (ofLe (a.take 4)) < sx 32 (ofLe (e.take 4)) then e :: a :: t else a :: insertKey e t

/-- Entries by descending key, entries of equal key in input order (R237). -/
def sortKeys (l : List (List Byte)) : List (List Byte) := l.foldl (fun t e => insertKey e t) []

/-- A sort from memory to memory. -/
def State.lbSortRun (s : State) (x : Job) (c : Cmd) : State × Ran × Option Result :=
  let d := c.desc
  match firstFlaw (lbSortFlaws x d) with
  | some f => (s, .flaw f, none)
  | none =>
    let n := dLe d 8 2
    match s.read (dLe d 20 8) (8 * n) with
    | (s, none) => (s, .dataError false, none)
    | (s, some b) =>
      match s.write (dLe d 28 8) (((sortKeys (piecesOf 8 (n + 1) b)).take (dLe d 10 2)).flatten) with
      | (s, true) => (s, .done false false, none)
      | (s, false) => (s, .dataError false, none)

/-! ## Units -/

/-- What unit `u` does, and the next free unit after the last assigned (R230). -/
def State.lambUnit (s : State) (u : Nat) : LambWork := Tab.get LambWork.idle s.lamb.units u
def State.freeUnit (s : State) : Option Nat := (rotate 4 s.lamb.unitPtr).find? fun u => decide (s.lambUnit u = .idle)

/-- Unit `u` takes work. -/
def State.takeUnit (s : State) (u : Nat) (w : LambWork) : State :=
  { s with lamb := { s.lamb with
      units := Tab.set LambWork.idle s.lamb.units u w, unitPtr := (u + 1) % 4, since := Tab.set 0 s.lamb.since u s.clk.enc } }

/-- The queued commands with REALTIME standing, best rank first kept in rotating order (R312, R315, R322). -/
def State.lambRealtime (s : State) : Option QEnt :=
  (rotate 256 s.lamb.jobPtr).foldl (fun b j =>
    match s.lamb.queue.find? fun q => decide (q.job = j), s.standingJob j with
    | some q, some y =>
      if y.cls ≠ .realtime then b
      else match b with
        | none => some q
        | some p => match s.standingJob p.job with
          | some z => if s.ranksAbove y z then some q else some p
          | none => some q
    | _, _ => b) none

/-- The oldest job's queued command among those that a client pays for (R315, R322). -/
def State.lambOf (s : State) (c : Nat) : Option QEnt :=
  (s.lamb.queue.filter fun q => decide (s.payer q.job = some c)).foldl (fun (b : Option QEnt) q =>
    let seq (q : QEnt) : Nat := ((s.job q.job).map Job.seq).getD 0
    match b with
    | none => some q
    | some p => if seq q < seq p then some q else some p) none

/-- The queued command that a unit takes next: a REALTIME one by rank, else one of the active client with the lowest pass, in rotating order among
equals (R315, R316). Its entry names the client that pays. -/
def State.nextLamb (s : State) : Option (QEnt × Job × Cmd) :=
  let found : Option QEnt := match s.lambRealtime with
    | some q => some q
    | none =>
      ((rotate 64 s.lamb.passPtr).foldl (fun (b : Option Nat) c =>
        if (s.lambOf c).isNone then b
        else match b with
          | none => some c
          | some m => if sx 64 (toU 64 ((s.passOf c : Int) - s.passOf m)) < 0 then some c else some m) none).bind s.lambOf
  found.bind fun q => (s.job q.job).bind fun x =>
    (x.cmds.find? fun c => decide (c.idx = q.cmd)).map fun c => ({ q with payer := s.payer q.job }, x, c)

/-- A free unit takes the next command of the Lamb engine's queue, where its opcode is `op` or none of the engine's, and carries it out.
Streams come first (R315). -/
def State.lambRun (s : State) (op : Nat) (up : Upsets) (run : State → Job → Cmd → State × Ran × Option Result) : State :=
  if s.shep.flush.isSome ∨ s.lamb.streams ≠ [] then s
  else match s.freeUnit, s.nextLamb with
    | some u, some (q, x, c) =>
      let known := decide (dOp c.desc = 0xC0 ∨ dOp c.desc = 0xC1)
      if dOp c.desc ≠ op ∧ known then s
      else
        let s := s.upset up
        let s : State := { s with lamb := { s.lamb with
            queue := s.lamb.queue.filter fun p => decide (¬(p.job = q.job ∧ p.cmd = q.cmd))
            passPtr := match q.payer with
              | some m => (m + 1) % 64
              | none => s.lamb.passPtr } }
        if !known then
          s.jobFault q.job ((firstFlaw (need (decide (bits (dByte c.desc 1) 0 4 = 1)) 2 1 ++ [(3, 0)])).getD (3, 0)).1
        else
          let s := s.takeUnit u (.command q)
          match run s x c with
          | (s, .flaw f, _) => s.jobFault q.job f.1
          | (s, .dataError _, _) => s.dataErrorJob q.job
          | (s, .done empty wide, out) =>
            let s := (s.setCmd q.job c.idx .executed).markJob q.job empty wide
            { s with lamb := { s.lamb with emits := Tab.set none s.lamb.emits u (out.map fun r => { r with job := some q.job }) } }
    | _, _ => s

/-! ## Streams -/

/-- The descriptor and the input width of slot `i`'s stream (R230). -/
def State.streamDesc (s : State) (i : Nat) : List Byte × Nat := (s.stemDesc (s.slot i).race, s.fld (PX_RGEOM_W (s.slot i).race))

/-- LAMB_STREAM_START: the oldest waiting stream takes the next free unit and computes the rows whose input is present (R230, R231). -/
def State.streamStart (s : State) : State :=
  match s.lamb.streams, s.freeUnit with
  | i :: rest, some u =>
    let s : State := { s with lamb := { s.lamb with streams := rest } }
    let s := (s.takeUnit u (.stream i)).bump LB_STREAMCNT_STREAMS
    let s := s.setRun i { free := s.fabNow }
    let (d, w) := s.streamDesc i
    if s.stemRuns d 1 w then (State.streamRun (s.streamFuel i) s i 0 (some s.fabNow)).freeAll else s.streamError i
  | _, _ => s

/-- The height of a stream's input, once its part's last tile row has arrived: the run has ended, and the newest line of the segmentation
view lies at or behind the last row. -/
def State.streamHeight (s : State) (i : Nat) : Option Nat :=
  match s.tileOf i with
  | none => none
  | some t =>
    let r := (s.slot i).race
    let h := s.rowsOf r t
    if t.ended && s.rowHere r t (h - 1) then some h else none

/-- The stream's unit is free, and its rows are gone. -/
def State.streamGone (s : State) (i : Nat) (empty : Bool) : State :=
  let s := s.dropStream i
  let s : State := { s with lamb := { s.lamb with
      ended := s.lamb.ended ++ [i]
      empties := if empty then s.lamb.empties ++ [i] else s.lamb.empties } }
  s.jobIds.foldl (fun s j => match s.job j with
    | some x => if x.origin = .part i then s.markJob j empty false else s
    | none => s) s

/-- The planes of a stream's output beyond the first are written: `false` where a part-write is refused (R240). -/
def State.streamPlanes (s : State) (i h : Nat) (g : LbConv) (x : StreamRun) : State × Bool :=
  match (s.slot i).tile with
  | none => (s, true)
  | some t =>
    let w := s.fld (PX_RGEOM_W (s.slot i).race)
    let dst := s.stemAddr (s.slot i).race t
    ((List.range g.co).drop 1).foldl (fun q c =>
      if q.2 then q.1.lbPlane g (dst + c * g.planeBytes h w (fmtBytes g.out)) 0 c (g.written x.out) else q) (s, true)

/-- The last output rows of slot `i`'s stream are computed, its planes stand written, and time has passed to the end of the last row. -/
def State.streamFinish (s : State) (i h : Nat) : State :=
  let (d, w) := s.streamDesc i
  let g := readLb d
  let s := State.streamRun (h + 1) s i 0 none
  match s.runOf i with
  | none => s
  | some x =>
    match s.streamPlanes i h g x with
    | (s, false) => s.streamError i
    | (s, true) => ((s.advanceTo ((x.free + 4) / 5)).streamGone i (decide (g.outH h w = 0 ∨ g.outW h w = 0))).freeAll

/-- LAMB_STREAM_END: unit `u`'s stream has computed its last output row and its writes are acknowledged; the part's job may go on
(R231, R234). -/
def State.streamEnd (s : State) (u : Nat) (up : Upsets) : State :=
  match s.lambUnit u with
  | .stream i =>
    match s.streamHeight i with
    | none => s
    | some h =>
      let s := s.upset up
      let (d, w) := s.streamDesc i
      if !s.stemRuns d h w then s.streamError i
      else match s.readUnits (readLb d).tableUnits with
        | (s, false) => s.streamError i
        | (s, true) => s.streamFinish i h
  | _ => s

end Sys2Proof.Machine
end

