-- ==== Sys2Proof/Machine/Image.lean ====
section
/-! DEFINITION. The configuration flash, the OTP, the image copy, and the checks of the image's headers, keys, signatures and hashes
(R536 to R547, R558 to R560). -/

namespace Sys2Proof.Machine

/-! ## Stores -/

/-- `n` bytes of the configuration flash (R536): an unlisted byte is erased. -/
def State.flashN (s : State) (a n : Nat) : List Byte := (List.range n).map fun i => Tab.get 0xFF s.image.flash (a + i)

/-- Bytes written to a table of bytes. -/
def putBytes (d : Byte) : Tab Byte → Nat → List Byte → Tab Byte
  | t, _, [] => t
  | t, a, b :: l => putBytes d (Tab.set d t a b) (a + 1) l

/-- Bytes programmed into the flash. -/
def State.setFlash (s : State) (a : Nat) (l : List Byte) : State :=
  { s with image := { s.image with flash := putBytes 0xFF s.image.flash a l } }

/-- `n` bytes of OTP (R558). -/
def State.otpN (s : State) (a n : Nat) : List Byte := (List.range n).map fun i => Tab.get 0 s.image.otp (a + i)

/-- Bits burnt into OTP: a bit once 1 stays 1. -/
def State.burn (s : State) (a : Nat) (l : List Byte) : State :=
  { s with image := { s.image with otp := putBytes 0 s.image.otp a ((l.zip (s.otpN a l.length)).map fun p => p.1 ||| p.2) } }

/-- `n` bytes of the ID EEPROM (R562). -/
def State.eepromN (s : State) (a n : Nat) : List Byte := (List.range n).map fun i => Tab.get 0 s.image.eeprom (a + i)

/-- The base of the verified image copy (R428). -/
def copyBase : Nat := 0x07F0000000

/-- `n` bytes of the image copy from a flash offset. -/
def State.copyN (s : State) (a n : Nat) : List Byte := s.peekN (copyBase + a) n

/-- The flash offsets of the two sections (R538), and the largest each may be. -/
def fwOfs : Nat := 0x10000
def custOfs : Nat := 0x1000000
def fwMax : Nat := 16320 * 1024
def custMax : Nat := 224 * 1024 * 1024

/-- SHA-256 as a list of 32 bytes. -/
def sha (b : List Byte) : List Byte := (List.range 32).map (Config.sha256 b)

/-! ## OTP generations -/

/-- The check bytes of a generation or a field: CRC-16, marker, reserved byte (R559). -/
def checkBytes (c : List Byte) : List Byte := leBytes 2 (crc16 c) ++ [0xA5, 0]

/-- The content of generation `g` of a field, `size` bytes at `base + stride × g`. -/
def State.genContent (s : State) (base stride size g : Nat) : List Byte := s.otpN (base + stride * g) size

/-- Whether a generation's marker and CRC are correct (R559). -/
def State.genOk (s : State) (base stride size g : Nat) : Bool :=
  s.otpN (base + stride * g + size) 3 == (checkBytes (s.genContent base stride size g)).take 3

/-- The generation in force (R559). -/
def State.genNow (s : State) (base stride size : Nat) : Option Nat := [3, 2, 1, 0].find? (s.genOk base stride size)

/-- Whether a generation is blank: every bit zero. -/
def State.genBlank (s : State) (base stride size g : Nat) : Bool := (s.otpN (base + stride * g) (size + 4)).all fun b => decide (b = 0)

/-- The next blank generation above the one in force. -/
def State.genNext (s : State) (base stride size : Nat) : Option Nat :=
  [0, 1, 2, 3].find? fun g => s.genBlank base stride size g && match s.genNow base stride size with
    | some f => decide (f < g)
    | none => true

/-- A generation is burnt with `content`; where it does not read back it stays without its check bytes, abandoned. `none` where no
generation is blank. The second component tells whether it reads back. -/
def State.burnGen (s : State) (base stride : Nat) (content : List Byte) (reads : Bool) : State × Bool :=
  match s.genNext base stride content.length with
  | none => (s, false)
  | some g => (s.burn (base + stride * g) (content ++ if reads then checkBytes content else []), reads)

/-- The lifecycle state in force; 0 where no generation is (R560). -/
def State.lifeNow (s : State) : Nat :=
  match s.genNow 0x200 8 4 with
  | some g => dByte (s.genContent 0x200 8 4 g) 0
  | none => 0

/-- The customer key hash in force (R558). -/
def State.custKey (s : State) : Option (List Byte) := (s.genNow 0x220 48 32).map (s.genContent 0x220 48 32)

/-- The factory fence map in force: 32 bytes, no fence where none is (R558, R559). -/
def State.fenceMap (s : State) : List Byte :=
  match s.genNow 0x2E0 112 96 with
  | some g => (s.genContent 0x2E0 112 96 g).take 32
  | none => List.replicate 32 0

/-- The vendor keys revoked (R558). -/
def State.revokedKeys (s : State) : Nat := (Tab.get 0 s.image.otp 0x4A0).toNat

/-- Vendor keys revoked by a mask (R544). -/
def State.burnRevoke (s : State) (m : Nat) : State := s.burn 0x4A0 [BitVec.ofNat 8 m]

/-- The OTP bytes that software reads: the hidden region is zero (R558, R568). -/
def State.otpShown (s : State) (i : Nat) : Byte := if 0x500 ≤ i ∧ i < 0x534 then 0 else Tab.get 0 s.image.otp i

/-- MG_LIFE loaded from OTP (R570). -/
def State.loadLife (s : State) : State :=
  let lc := s.genNow 0x200 8 4
  let ck := s.genNow 0x220 48 32
  let ft := s.genNow 0x2E0 112 96
  (((((s.setFld MG_LIFE_LIFECYCLE s.lifeNow).setFld MG_LIFE_LC_GEN (lc.getD 0)).setFlag MG_LIFE_CKEY_SET ck.isSome).setFld
    MG_LIFE_CKEY_GEN (ck.getD 0)).setFld MG_LIFE_FT_GEN (ft.getD 0)).setFld MG_LIFE_REVOKED s.revokedKeys

/-! ## Header copies -/

/-- A header copy (R539). -/
structure ImgHdr where
  seq : Nat
  fwLen : Nat
  custLen : Nat
  fwHash : List Byte
  custHash : List Byte
deriving DecidableEq, Repr

/-- A valid header copy, read from its first 256 bytes (R539). -/
def readHdr (b : List Byte) : Option ImgHdr :=
  if dLe b 0 4 = 0x3260F1A5 ∧ dByte b 4 = 1 ∧ dZero b 5 3 ∧ dZero b 20 4 ∧ dZero b 88 164 ∧ dLe b 252 4 = crc32 (b.take 252) ∧
      dLe b 12 4 ≤ fwMax ∧ dLe b 16 4 ≤ custMax then
    some ⟨dLe b 8 4, dLe b 12 4, dLe b 16 4, (b.drop 24).take 32, (b.drop 56).take 32⟩
  else none

/-- The bytes of a header copy (R539). -/
def ImgHdr.bytes (h : ImgHdr) : List Byte :=
  let b := leBytes 4 0x3260F1A5 ++ leBytes 4 1 ++ leBytes 4 h.seq ++ leBytes 4 h.fwLen ++ leBytes 4 h.custLen ++ leBytes 4 0 ++
    h.fwHash ++ h.custHash ++ List.replicate 164 0
  b ++ leBytes 4 (crc32 b)

/-- The header in force of two copies, and which copy it is: the one whose SEQ is ahead (R539). -/
def chooseHdr (a b : List Byte) : Option (ImgHdr × Nat) :=
  match readHdr a, readHdr b with
  | some x, some y => if sx 32 (toU 32 ((y.seq : Int) - x.seq)) > 0 then some (y, 1) else some (x, 0)
  | some x, none => some (x, 0)
  | none, some y => some (y, 1)
  | none, none => none

/-- The header in force on the flash. -/
def State.flashHdr (s : State) : Option (ImgHdr × Nat) := chooseHdr (s.flashN 0 256) (s.flashN 0x1000 256)

/-! ## Sections -/

/-- Result codes of R520 and R557. -/
def codeFormat : Nat := 3
def codeHash : Nat := 4
def codeSig : Nat := 5
def codeGen : Nat := 6
def codeKey : Nat := 14

/-- The signature that follows `len` bytes, where the bytes hold it (R541). -/
def sigAt (b : List Byte) (len n : Nat) : Option (List Byte) := if up64 len + n ≤ b.length then some ((b.drop (up64 len)).take n) else none

/-- The tree height of an LMS type that is accepted: LMS_SHA256_M32_H5 to H25, type codes of RFC 8554 (R543). -/
def lmsHeight (t : Nat) : Option Nat := if 5 ≤ t ∧ t ≤ 9 then some (5 * (t - 4)) else none

/-- The chains of an LM-OTS type that is accepted: LMOTS_SHA256_N32_W1, W2, W4, W8, type codes of RFC 8554 (R543). -/
def otsChains (t : Nat) : Option Nat := [265, 133, 67, 34][t - 1]?.filter fun _ => decide (1 ≤ t)

/-- The length of the LMS signature at `a` of a signature, where its types are accepted. -/
def lmsSigLen (g : List Byte) (a : Nat) : Option Nat :=
  match otsChains (dBe g (a + 4) 4) with
  | none => none
  | some p => (lmsHeight (dBe g (a + 4 + 36 + 32 * p) 4)).map fun h => 4 + 36 + 32 * p + 4 + 32 * h

/-- Whether `n` levels of an HSS signature, from byte `a` on, use accepted parameters only, and end within it: an LMS signature, and the public key
of the next level after each but the last (R543). -/
def hssLevelsOk (g : List Byte) : Nat → Nat → Bool
  | 0, _ => true
  | n + 1, a => match lmsSigLen g a with
    | none => false
    | some l =>
      if n = 0 then decide (a + l ≤ g.length)
      else (lmsHeight (dBe g (a + l) 4)).isSome && (otsChains (dBe g (a + l + 4) 4)).isSome && hssLevelsOk g n (a + l + 56)

/-- Whether a public key and a signature have the parameters of R543: 1 to 3 levels, the LMS and LM-OTS types that it lists, the signature within its
bytes. -/
def hssAccepts (pub g : List Byte) : Bool :=
  let n := dBe pub 0 4
  decide (pub.length = 60 ∧ 1 ≤ n ∧ n ≤ 3 ∧ dBe g 0 4 + 1 = n) && (lmsHeight (dBe pub 4 4)).isSome && (otsChains (dBe pub 8 4)).isSome &&
    hssLevelsOk g n 4

/-- Whether a signature verifies a message under a public key: accepted parameters, then RFC 8554 (R543). -/
def hssOk (pub m g : List Byte) : Bool := hssAccepts pub g && Config.hssVerify pub m g

/-- Whether a signature of the first `m` bytes verifies under a public key (R541, R543). -/
def sigOk (b pub : List Byte) (len n m : Nat) : Bool :=
  match sigAt b len n with
  | some g => hssOk pub (b.take m) g
  | none => false

/-- Whether the architecture generation lies in a range that starts at 1 or above (R14). -/
def genFits (lo hi : Nat) : Bool := decide (1 ≤ lo ∧ lo ≤ 1 ∧ 1 ≤ hi)

/-- The first failure of the firmware section's own checks: key, signature, hash, generation, then the REVOKE mask (R541, R544). -/
def State.fwFlaw (s : State) (b hash : List Byte) : Option Nat :=
  let v := dByte b 3 % 8
  let pub := (b.drop 48).take 60
  let len := dLe b 8 4
  let rev := dByte b 4
  if sha pub ≠ Config.vendorKey v ∨ s.revokedKeys.testBit v then some codeKey
  else if !sigOk b pub len (dLe b 12 4) 256 then some codeSig
  else if sha ((b.take len).drop 256) ≠ (b.drop 16).take 32 ∨ sha b ≠ hash then some codeHash
  else if !genFits (dByte b 1) (dByte b 2) then some codeGen
  else if rev.testBit v ∨ (s.revokedKeys ||| rev) % 256 = 255 then some codeFormat
  else none

/-- Fields of the customer section header (R542). -/
def custEnrol (b : List Byte) : Bool := bit (dByte b 3) 0
def custRoll (b : List Byte) : Bool := bit (dByte b 3) 1
def custPub (b : List Byte) : List Byte := (b.drop 64).take 60

/-- Whether the roll block is good (R546): generation 3 is not in force, OLD_PUB is the key in force, RSIG signs the new key. -/
def State.rollOk (s : State) (b : List Byte) : Bool :=
  let r := (b.take (dLe b 8 4)).drop (dLe b 28 4)
  let old := r.take 60
  let n := dLe r 60 4
  decide (s.genNow 0x220 48 32 ≠ some 3) && decide (s.custKey = some (sha old)) && decide (64 + n ≤ r.length) &&
    hssOk old (leBytes 4 0x32600001 ++ sha (custPub b)) ((r.drop 64).take n)

/-- The key check of a customer section by lifecycle state (R545). -/
def State.custKeyOk (s : State) (b : List Byte) : Bool :=
  match s.lifeNow with
  | 1 => (List.range 8).any fun k => decide (sha (custPub b) = Config.vendorKey k) && !s.revokedKeys.testBit k
  | 2 => custEnrol b
  | 3 => !custEnrol b && (decide (s.custKey = some (sha (custPub b))) || (custRoll b && s.rollOk b))
  | _ => false

/-- The first failure of a customer section's own checks: key, signature, hash, generation (R542, R545, R546). -/
def State.custFlaw (s : State) (b hash : List Byte) : Option Nat :=
  let len := dLe b 8 4
  if !s.custKeyOk b then some codeKey
  else if !sigOk b (custPub b) len (dLe b 12 4) 256 then some codeSig
  else if sha ((b.take len).drop 256) ≠ (b.drop 32).take 32 ∨ sha b ≠ hash then some codeHash
  else if !genFits (dByte b 1) (dByte b 2) then some codeGen
  else none

/-- Whether an accepted section calls for a roll: the key in force is not already the section's (R545, R546). -/
def State.rolls (s : State) (b : List Byte) : Bool := decide (s.lifeNow = 3) && decide (s.custKey ≠ some (sha (custPub b)))

/-- The burns that an accepted image calls for (R547): revocation, enrolment (key hash first, then SECURED), roll. The second component
tells whether every burn read back. -/
def State.imageBurns (s : State) (fw cust : List Byte) (reads : Bool) : State × Bool :=
  let rev := dByte fw 4
  let due := decide (s.revokedKeys ||| rev ≠ s.revokedKeys)
  let s : State := if due ∧ reads then s.burnRevoke rev else s
  if due ∧ !reads then (s, false)
  else if s.lifeNow = 2 ∧ custEnrol cust then
    match s.burnGen 0x220 48 (sha (custPub cust)) reads with
    | (s, true) => s.burnGen 0x200 8 [3, 0, 0, 0] reads
    | r => r
  else if s.rolls cust then s.burnGen 0x220 48 (sha (custPub cust)) reads
  else (s, true)

end Sys2Proof.Machine
end

