-- ==== Sys2Proof/Machine/Package.lean ====
section
/-! DEFINITION. Eppol model packages: layout, validity, the resolution of relocatable addresses, placement, and the writing of a client's
program, rules and stem slot (R516 to R518, R521, R523). -/

namespace Sys2Proof.Machine

/-! ## Layout -/

/-- A section of a package (R516). -/
structure Sect where
  kind : Nat
  ofs : Nat
  len : Nat
  dest : Nat
deriving DecidableEq, Repr

/-- A package header with its section table (R516). -/
structure Pack where
  variant : Nat
  model : Nat
  len : Nat
  sigLen : Nat
  hash : List Byte
  sects : List Sect
deriving DecidableEq, Repr

/-- Entry `i` of the section table. -/
def readSect (b : List Byte) (i : Nat) : Sect :=
  ⟨dByte b (128 + 32 * i), dLe b (132 + 32 * i) 4, dLe b (136 + 32 * i) 4, dLe b (140 + 32 * i) 4⟩

/-- A package as its bytes spell it. -/
def readPack (b : List Byte) : Pack :=
  ⟨dByte b 3, dLe b 4 2, dLe b 8 4, dLe b 12 4, (b.drop 16).take 32, (List.range (dByte b 6)).map (readSect b)⟩

/-- The bytes of a package, signature included. -/
def Pack.size (p : Pack) : Nat := up64 p.len + p.sigLen

/-- The first section of a kind. -/
def Pack.find (p : Pack) (kind : Nat) : Option Sect := p.sects.find? fun x => decide (x.kind = kind)

/-- The bytes of a section. -/
def Sect.bytes (x : Sect) (b : List Byte) : List Byte := (b.drop x.ofs).take x.len

/-! ## Validity -/

/-- Whether two extents are disjoint. -/
def apart (a n b m : Nat) : Bool := decide (a + n ≤ b) || decide (b + m ≤ a) || decide (n = 0) || decide (m = 0)

/-- Whether every two members of a list meet a test. -/
def pairsOk {α : Type} (f : α → α → Bool) : List α → Bool
  | [] => true
  | a :: t => t.all (f a) && pairsOk f t

/-- Whether a rule of a RULES section is legal, or not valid (R359). -/
def ruleLegal (b : List Byte) : Bool :=
  !bit (dByte b 0) 0 || (decide (dByte b 0 < 8) && decide (dByte b 1 < 32) && decide (1 ≤ dByte b 2 ∧ dByte b 2 ≤ 7) &&
    decide (dByte b 3 = 0) && dZero b 10 6)

/-- Whether a bank section is legal: the table within the section, its fields in range, DEST able to hold it, and the last segment a DDR5
segment that ends at TOTAL (R275, R516, R521). `me` is the SECT that names the section itself. -/
def bankLegal (x : Sect) (b : List Byte) (me : Nat) : Bool :=
  let t := x.bytes b
  let total := dLe t 4 4
  let n := dLe t 8 2
  let seg (i : Nat) : Segment := ⟨dLe t (64 + 16 * i) 8, dLe t (72 + 16 * i) 4, dLe t (76 + 16 * i) 4⟩
  decide (dByte t 0 = 1 ∧ dByte t 1 = 0 ∧ 1 ≤ dLe t 2 2 ∧ dLe t 2 2 ≤ 256 ∧ total ≤ x.dest ∧ x.dest ≤ 1048576 ∧ 1 ≤ n ∧ n ≤ 256 ∧
    64 + 16 * n ≤ x.len) && dZero t 10 54 && (List.range n).all (fun i => decide ((seg i).addr % 64 = 0 ∧ (seg i).first + (seg i).count ≤ total)) &&
    decide ((seg (n - 1)).addr / 2 ^ 56 = me ∧ (seg (n - 1)).first + (seg (n - 1)).count = total)

/-- Whether a section by itself is legal (R516, R518). -/
def sectLegal (p : Pack) (b : List Byte) (i : Nat) (x : Sect) : Bool :=
  decide (x.ofs % 64 = 0 ∧ 128 + 32 * p.sects.length ≤ x.ofs ∧ x.ofs + x.len ≤ p.len) && dZero b (129 + 32 * i) 3 &&
  dZero b (144 + 32 * i) 16 &&
  match x.kind with
  | 1 => decide (x.dest = 0 ∧ 64 ≤ x.len)
  | 2 => decide (x.dest = 0)
  | 3 => decide (x.dest + x.len ≤ 0x800000)
  | 4 => decide (x.dest + x.len ≤ 0x160000)
  | 5 => decide (x.dest = 0 ∧ x.len = 272) && decide (dByte (x.bytes b) 256 < 16) && dZero (x.bytes b) 257 15 &&
      (List.range 16).all fun k => ruleLegal ((x.bytes b).drop (16 * k))
  | 6 => decide (x.dest = 0 ∧ x.len = 64) && decide (dOp (x.bytes b) = 0xC0) && (lbConvFlaws (x.bytes b) true).isEmpty
  | 7 => bankLegal x b (i + 1)
  | _ => false

/-- Whether the header and the section table are legal (R516, R518). -/
def packLegal (b : List Byte) : Bool :=
  let p := readPack b
  decide (dByte b 0 = 1 ∧ p.variant ≤ 2 ∧ 1 ≤ p.model ∧ 1 ≤ p.sects.length ∧ p.sects.length ≤ 32 ∧ dByte b 7 = 0 ∧
    128 + 32 * p.sects.length ≤ p.len ∧ p.size ≤ b.length) && dZero b 54 74 &&
  p.sects.zipIdx.all (fun q => sectLegal p b q.2 q.1) && pairsOk (fun x y => apart x.ofs x.len y.ofs y.len) p.sects &&
  [1, 5, 6].all fun k => decide ((p.sects.filter fun x => decide (x.kind = k)).length ≤ 1)

/-! ## Placement -/

/-- Where a package is placed: the base of its DDR5 sections, the bank area (none: the banks stay with the other sections), the host
bases with their lengths. -/
structure Site where
  base : Nat
  bank : Option Nat
  hostA : Nat × Nat
  hostB : Nat × Nat
deriving DecidableEq, Repr

/-- The bytes that a bank takes in its area, sized for DEST vectors (R521). -/
def bankRoom (x : Sect) (b : List Byte) : Nat :=
  let t := x.bytes b
  let n := dLe t 8 2
  let last := 64 + 16 * (n - 1)
  up64 (max x.len (dLe t last 8 % 2 ^ 56 + (x.dest - dLe t (last + 8) 4) * vecBytes (dLe t 2 2)))

/-- The bytes that a package's banks take together. -/
def Pack.bankSize (p : Pack) (b : List Byte) : Nat := ((p.sects.filter fun x => decide (x.kind = 7)).map fun x => bankRoom x b).sum

/-- The placed address of section `i` in the core address space (R517): DDR5 sections keep their offsets, banks follow one another in
the bank area. -/
def Pack.placed (p : Pack) (b : List Byte) (t : Site) (i : Nat) (x : Sect) : Nat :=
  match x.kind with
  | 3 => swsBase + x.dest
  | 4 => 0x2000280000 + x.dest
  | 7 => match t.bank with
    | some a => a + (((p.sects.take i).filter fun y => decide (y.kind = 7)).map fun y => bankRoom y b).sum
    | none => t.base + x.ofs
  | _ => t.base + x.ofs

/-- A relocatable address resolved, for an extent of `n` bytes (R517). -/
def Pack.resolve (p : Pack) (b : List Byte) (t : Site) (v n : Nat) : Option Nat :=
  let k := v / 2 ^ 56
  let o := v % 2 ^ 56
  if k = 0 then (if n = 0 ∧ o = 0 then some 0 else none)
  else if k ≤ 32 then
    match p.sects[k - 1]? with
    | some x => if o + n ≤ x.len then some (p.placed b t (k - 1) x + o) else none
    | none => none
  else if k = 0xFE ∧ p.variant = 2 ∧ o + n ≤ t.hostA.2 then some (t.hostA.1 + o)
  else if k = 0xFF ∧ p.variant = 2 ∧ o + n ≤ t.hostB.2 then some (t.hostB.1 + o)
  else none

/-- A relocatable address's place within the package's own bytes. -/
def Pack.inside (p : Pack) (v : Nat) : Option Nat := (p.sects[v / 2 ^ 56 - 1]?).map fun x => x.ofs + v % 2 ^ 56

/-- A 64-bit word of a byte string, replaced. -/
def patch (b : List Byte) (a v : Nat) : List Byte := b.take a ++ leBytes 8 v ++ b.drop (a + 8)

/-- The relocatable addresses of a package: the place of each, and the bytes of its extent (R517). -/
def Pack.relocs (p : Pack) (b : List Byte) : List (Nat × Nat) :=
  let prog := match p.find 1 with
    | some x =>
      let n := dLe b (x.ofs + 4) 4
      let tmpl := match p.inside (dLe b (x.ofs + 24) 8) with
        | some t => (List.range 11).map fun i => (t + 16 * (i + 3), 64 * dLe b (t + 16 * (i + 3) + 8) 4)
        | none => []
      [(x.ofs + 8, 64 * n), (x.ofs + 16, n), (x.ofs + 24, 256)] ++ tmpl
    | none => []
  prog ++ (p.sects.filter fun x => decide (x.kind = 7)).flatMap fun x =>
    (List.range (dLe b (x.ofs + 8) 2)).map fun i =>
      (x.ofs + 64 + 16 * i, dLe b (x.ofs + 76 + 16 * i) 4 * vecBytes (dLe b (x.ofs + 2) 2))

/-- The package's bytes with every address resolved, or `none` where one does not resolve (R517). -/
def Pack.relocate (p : Pack) (b : List Byte) (t : Site) : Option (List Byte) :=
  (p.relocs b).foldl (fun (o : Option (List Byte)) r =>
    match o, p.resolve b t (dLe b r.1 8) r.2 with
    | some c, some v => some (patch c r.1 v)
    | _, _ => none) (some b)

/-- The program header and the base template of a resolved package are legal (R302, R304). -/
def Pack.programOk (p : Pack) (b c : List Byte) : Bool :=
  match p.find 1 with
  | some x => (decodeHdr (x.bytes c)).isSome && match p.inside (dLe b (x.ofs + 24) 8) with
    | some t => templateOk (c.drop t)
    | none => false
  | none => true

/-- A site that tests resolution alone: host bases of any length. -/
def anySite : Site := ⟨0, none, (0, 2 ^ 37), (0, 2 ^ 37)⟩

/-- The first failure of a package, as a code of R520: signature, hash, generation, then form (R518). -/
def packFlaw (b pub : List Byte) : Option Nat :=
  let p := readPack b
  if !sigOk b pub p.len p.sigLen 128 then some codeSig
  else if sha ((b.take p.len).drop 128) ≠ p.hash then some codeHash
  else if !genFits (dByte b 1) (dByte b 2) then some codeGen
  else if !packLegal b then some codeFormat
  else match p.relocate b anySite with
    | some c => if p.programOk b c then none else some codeFormat
    | none => some codeFormat

/-! ## Installing -/

/-- Bytes written by the loader: whole units, error marks cleared. -/
def State.place (s : State) (a : Nat) (l : List Byte) : State :=
  let s := s.pokeL a l
  (unitsOf a l.length).foldl (fun s u => s.setMark u .clean) s

/-- The resident area's bytes, written on every core in service (R304, R305). -/
def State.placeResident (s : State) (ofs : Nat) (l : List Byte) : State :=
  s.coresUp.foldl (fun s k => s.place (coreBase k + 0x280000 + ofs) l) s

/-- The sections of a resolved package placed (R517, R521); `banks` tells whether its banks are loaded too (R522). -/
def State.placePack (s : State) (p : Pack) (b c : List Byte) (t : Site) (banks : Bool) : State :=
  p.sects.zipIdx.foldl (fun s q =>
    let x := q.1
    match x.kind with
    | 3 => s.place (swsBase + x.dest) (x.bytes c)
    | 4 => s.placeResident x.dest (x.bytes c)
    | 7 => if banks then s.place (p.placed b t q.2 x) (x.bytes c) else s
    | _ => s.place (t.base + x.ofs) (x.bytes c)) s

/-- A client's program, rules, REPORT_IDX, model and package hash written from its package (R523, R550); a package without rules leaves an
empty table. -/
def State.installClient (s : State) (cl : Nat) (p : Pack) (b : List Byte) (t : Site) : State :=
  let prog := match p.find 1 with
    | some x => t.base + x.ofs
    | none => 0
  let rules := match p.find 5 with
    | some x => x.bytes b
    | none => []
  let s := s.setFld (SH_CPROG_PROG cl) prog
  let s := (List.range 64).foldl (fun s i => s.setFld (FO_RULE_RULE cl i) (dLe rules (4 * i) 4)) s
  let s := s.setFld (FO_CCFG_REPORT_IDX cl) (dByte rules 256)
  { s with
    shep := { s.shep with model := Tab.set 0 s.shep.model cl p.model }
    image := { s.image with pkgHash := Tab.set [] s.image.pkgHash cl p.hash } }

/-- A client's program cleared (R520). -/
def State.clearClient (s : State) (cl : Nat) : State :=
  let s := s.setFld (SH_CPROG_PROG cl) 0
  { s with image := { s.image with pkgHash := Tab.set [] s.image.pkgHash cl [] } }

/-- The stem slot of a race written from 64 bytes (R229, R550). -/
def State.writeStem (s : State) (r : Nat) (d : List Byte) : State :=
  (List.range 16).foldl (fun s i => s.setFld (LB_RSTEM_DESC r i) (dLe d (4 * i) 4)) s

/-- The VARIANT that a client's class asks for (R523, R550). -/
def variantOf : JobClass → Nat
  | .realtime => 0
  | .trial => 0
  | .replay => 1
  | .housekeeping => 2

end Sys2Proof.Machine
end

