-- ==== Sys2Proof/Machine/Records.lean ====
section
/-! DEFINITION. The records of a customer section and the range checks of an image: STRUCTURE, FIELD, VARIANT, CROSS, REGION
(R548 to R550, R553). -/

namespace Sys2Proof.Machine

/-! ## Registers by address -/

/-- Whether an address is that of one instance of a described register. -/
def RegDesc.hits (d : RegDesc) (a : Nat) : Bool :=
  decide (d.addr ≤ a) &&
    let x := a - d.addr
    let y := x % d.dim1.1
    decide (x / d.dim1.1 < d.dim1.2 ∧ y % d.dim2.1 = 0 ∧ y / d.dim2.1 < d.dim2.2)

/-- The description of the register at an address. -/
def descAt (a : Nat) : Option RegDesc := regDescs.find? fun d => d.hits a

/-- A described field at a register address. -/
def FDesc.fld (f : FDesc) (a : Nat) : Fld := ⟨a, f.lo, f.w, f.rst⟩

/-- The RW fields of the register at an address. -/
def rwFields (a : Nat) : List FDesc :=
  match descAt a with
  | some d => d.fields.filter fun f => decide (f.acc = Acc.rw)
  | none => []

/-- The bits of a register that RW fields cover. -/
def rwMask (a : Nat) : Nat := ((rwFields a).map fun f => (2 ^ f.w - 1) * 2 ^ f.lo).sum

/-- The word that a register's RW fields spell at reset. -/
def resetWord (a : Nat) : Nat := ((rwFields a).map fun f => f.rst * 2 ^ f.lo).sum

/-- The word that a register's RW fields spell now. -/
def State.rwWord (s : State) (a : Nat) : Nat := ((rwFields a).map fun f => s.fld (f.fld a) * 2 ^ f.lo).sum

/-- Every RW field of a register written without any restriction, but for the bits of a mask, which are written as 0. -/
def State.setWord (s : State) (a v off : Nat) : State :=
  (rwFields a).foldl (fun s f => s.setFld (f.fld a) (if off.testBit f.lo then 0 else bits v f.lo f.w)) s

/-! ## Records -/

/-- A record: type, index, offset in its section, body (R548). -/
structure Rec where
  typ : Nat
  idx : Nat
  ofs : Nat
  body : List Byte
deriving DecidableEq, Repr

/-- A failure as MG_CFGSTAT reports it (R569). -/
structure Bad where
  stage : Nat
  code : Nat
  check : Nat := 0
  typ : Nat := 0
  idx : Nat := 0
  ofs : Nat := 0
deriving DecidableEq, Repr

/-- A failed range check of a record. -/
def Rec.bad (r : Rec) (check : Nat) : Bad := ⟨5, codeFormat, check, r.typ, r.idx, r.ofs / 8⟩

/-- A register of a record: address, width, place of its EN bit. -/
structure RecReg where
  addr : Nat
  width : Nat
  en : Option Nat := none
deriving DecidableEq, Repr

/-- The registers of a record, in order (R549). -/
def recRegs (t i : Nat) : List RecReg :=
  match t with
  | 0x01 => [⟨SH_CFG, 32, none⟩, ⟨SH_SAVE, 64, none⟩, ⟨PX_EPOCH, 32, none⟩, ⟨PX_DEFER, 32, none⟩, ⟨PX_AUDCFG, 64, none⟩, ⟨IN_RPLCACHE, 64, none⟩,
      ⟨MM_CFG, 32, none⟩, ⟨HP_ATTNCFG, 32, some 31⟩, ⟨MG_CANDCFG, 64, none⟩] ++ [0, 1, 2, 3].map fun k => ⟨MG_EVROUTE k, 64, some 63⟩
  | 0x04 => [⟨DM_CHCFG i, 64, some 63⟩]
  | 0x05 => [⟨PS_ENCCFG i, 32, some 31⟩, ⟨PS_SPDCFG i, 32, none⟩, ⟨PS_IDXCHK i, 32, none⟩]
  | 0x06 => [⟨PS_THCFG, 32, none⟩, ⟨PS_THBASE, 64, none⟩]
  | 0x07 => [⟨PS_TRGCFG i, 32, some 31⟩, ⟨PS_TRGDIV i, 64, none⟩, ⟨PS_TRGSTART i, 64, none⟩, ⟨PS_TRGNUM i, 32, none⟩]
  | 0x08 => [⟨LN_LANECFG i, 32, some 31⟩, ⟨LN_PORTADDR i, 64, none⟩, ⟨LN_PORTIP i, 64, none⟩]
  | 0x09 => [⟨LN_DRVCFG, 32, some 31⟩]
  | 0x0A => [⟨TM_CFG, 32, some 31⟩, ⟨TM_PORTS, 32, none⟩, ⟨TM_BWCFG, 32, none⟩]
  | 0x0B => [⟨IN_STRCFG i, 32, some 31⟩, ⟨IN_STRGEOM i, 64, none⟩, ⟨IN_STRCHUNK i, 32, none⟩, ⟨IN_STRBIAS i, 32, none⟩]
  | 0x0D => [⟨IN_VIEWCFG i, 32, some 31⟩, ⟨IN_VIEWYOFS i, 32, none⟩, ⟨IN_VIEWEXPO i, 32, none⟩, ⟨PX_VCFG i, 32, none⟩, ⟨PX_VSTRIP i, 32, none⟩,
      ⟨PX_VSET i, 32, none⟩, ⟨PX_VLS i, 32, none⟩, ⟨PX_VPITCH i, 32, none⟩]
  | 0x0F => [⟨FO_OCFG i, 64, none⟩, ⟨FO_OPW i, 32, none⟩]
  | 0x10 => [⟨FI_INGRP, 32, none⟩, ⟨FI_OUTCFG, 32, none⟩] ++ (List.range 16).map fun k => ⟨FI_INCFG k, 32, none⟩
  | 0x12 => [⟨SH_CCFG i, 64, some 63⟩, ⟨SH_CSCR i, 64, none⟩, ⟨SH_CRING i, 32, none⟩]
  | 0x13 => [⟨PX_RCFG i, 32, some 31⟩] ++ ([0, 1, 2, 3].map fun k => ⟨PX_RVIEW i k, 32, none⟩) ++
      [⟨PX_RGEOM i, 32, none⟩, ⟨PX_RTHR i, 32, none⟩, ⟨PX_RSEG i, 32, none⟩, ⟨PX_RSENS i, 32, none⟩, ⟨PX_RLEN i, 64, none⟩, ⟨PX_RTILE i, 64, none⟩,
        ⟨PX_RAUD i, 32, none⟩, ⟨FO_RCFG i, 32, none⟩, ⟨FO_RGEOM i, 64, none⟩, ⟨FO_RBIN i, 64, none⟩, ⟨FO_RRING i, 64, none⟩, ⟨TM_RPAIR i, 32, none⟩,
        ⟨LB_RSTEMOUT i, 64, none⟩]
  | _ => []

/-- How many indices a record type has (R549). -/
def recCount (t : Nat) : Nat :=
  match t with
  | 0x01 | 0x02 | 0x06 | 0x09 | 0x0A | 0x10 => 1
  | 0x03 => 8192
  | 0x04 | 0x11 | 0x12 => 64
  | 0x05 => 4
  | 0x07 => 8
  | 0x08 | 0x0B | 0x0C | 0x0D | 0x0E | 0x0F | 0x13 => 16
  | _ => 0

/-- Bytes of a record's registers. -/
def regBytes (l : List RecReg) : Nat := (l.map fun r => r.width / 8).sum

/-- Whether a record's length is the one that its type states (R549, R550). -/
def Rec.lenOk (r : Rec) : Bool :=
  let n := r.body.length
  match r.typ with
  | 0x02 => decide (n = 1024)
  | 0x03 => decide (n % 64 = 0 ∧ 64 ≤ n)
  | 0x09 => decide (n = 36)
  | 0x0C => decide (8 ≤ n ∧ n = 8 + 8 * dLe r.body 4 4)
  | 0x0E => decide (8 ≤ n ∧ n = 8 + 4 * dLe r.body 4 4 + 4 * ((dLe r.body 4 4 + 31) / 32))
  | 0x11 => decide (n = 32)
  | t => decide (n = regBytes (recRegs t 0))

/-- The words of a record's registers. -/
def Rec.words (r : Rec) : List (RecReg × Nat) :=
  let go := (recRegs r.typ r.idx).foldl (fun (p : List (RecReg × Nat) × Nat) x =>
    (p.1 ++ [(x, dLe r.body p.2 (x.width / 8))], p.2 + x.width / 8)) ([], 0)
  go.1

/-- Whether a register word of a record enables its unit. -/
def enabledBy (p : RecReg × Nat) : Bool := match p.1.en with
  | some k => bit p.2 k
  | none => false

/-! ## STRUCTURE -/

/-- The records that lie in a section from `pos` to `stop`, `n` in number, or the failure (R548). -/
def parseRecs (b : List Byte) (stop : Nat) : Nat → Nat → Except Bad (List Rec)
  | 0, pos => if pos = stop then .ok [] else .error ⟨5, codeFormat, 1, 0, 0, pos / 8⟩
  | n + 1, pos =>
    let len := dLe b (pos + 4) 4
    let r : Rec := ⟨dByte b pos, dLe b (pos + 2) 2, pos, (b.drop (pos + 8)).take len⟩
    let next := pos + (8 + len + 7) / 8 * 8
    if decide (next ≤ stop ∧ dByte b (pos + 1) = 1 ∧ len % 4 = 0 ∧ recCount r.typ ≠ 0) && dZero b (pos + 8 + len) (next - (pos + 8 + len)) && r.lenOk then
      match parseRecs b stop n next with
      | .ok l => .ok (r :: l)
      | .error e => .error e
    else .error (r.bad 1)

/-- The first record that repeats the type and index of one before it. -/
def repeated : List Rec → List Rec → Option Rec
  | _, [] => none
  | seen, r :: t => if seen.any fun x => decide (x.typ = r.typ ∧ x.idx = r.idx) then some r else repeated (r :: seen) t

/-- The headers of both sections are well formed (R541, R542). -/
def headsOk (fw b : List Byte) : Bool :=
  decide (dByte fw 0 = 1 ∧ dByte fw 3 < 8) && dZero fw 5 3 && dZero fw 112 144 && decide (256 ≤ dLe fw 8 4 ∧ up64 (dLe fw 8 4) + dLe fw 12 4 ≤ fw.length) &&
  decide (dByte b 0 = 1 ∧ dByte b 3 < 4 ∧ dByte b 4 < 4) && dZero b 5 3 && dZero b 124 132 &&
  decide (256 ≤ dLe b 8 4 ∧ up64 (dLe b 8 4) + dLe b 12 4 ≤ b.length ∧ dLe b 20 4 % 8 = 0 ∧ 256 ≤ dLe b 20 4 ∧
    dLe b 20 4 + dLe b 24 4 ≤ dLe b 8 4) && (custRoll b || decide (dLe b 28 4 = 0)) && (!custRoll b || decide (dLe b 28 4 + 64 ≤ dLe b 8 4))

/-- The records of a customer section, or the first failure of check STRUCTURE. -/
def readRecs (b : List Byte) : Except Bad (List Rec) :=
  match parseRecs b (dLe b 20 4 + dLe b 24 4) (dLe b 16 4) (dLe b 20 4) with
  | .error e => .error e
  | .ok l => match repeated [] l with
    | some r => .error (r.bad 1)
    | none => .ok l

/-- Whether record `a` is applied before record `b` (R551). -/
def Rec.before (a b : Rec) : Bool := decide (a.typ < b.typ) || (decide (a.typ = b.typ) && decide (a.idx < b.idx))

/-- A record put in its place of a list in loading order. -/
def insertRec (r : Rec) : List Rec → List Rec
  | [] => [r]
  | x :: t => if r.before x then r :: x :: t else x :: insertRec r t

/-- The records in loading order. -/
def sortRecs (l : List Rec) : List Rec := l.foldr insertRec []

/-- The record of a type and index. -/
def findRec (l : List Rec) (t i : Nat) : Option Rec := l.find? fun r => decide (r.typ = t ∧ r.idx = i)

/-! ## FIELD -/

/-- A ring descriptor read from a record (R440). -/
def readRing (b : List Byte) : Ring :=
  { ver := dByte b 0, kind := dByte b 1 % 16, attn := bit (dByte b 1) 4, pen := bit (dByte b 1) 5, esize := dByte b 2, size := dByte b 3
    base := dLe b 8 8, idxAddr := dLe b 24 8 }

/-- Whether a ring descriptor's fields lie in their ranges (R440, R441, R616). -/
def ringFieldOk (b : List Byte) : Bool :=
  let x := readRing b
  decide (dByte b 0 = 1 ∧ dByte b 1 < 64 ∧ x.kind ≤ 7) && dZero b 4 4 && dZero b 16 8 && dZero b 32 32 &&
    (decide (x.kind = 0) || decide (4 ≤ x.esize ∧ x.esize ≤ 6 ∧ 4 ≤ x.size ∧ x.size ≤ 20 ∧ x.base % 2 ^ (x.esize + x.size) = 0 ∧
      x.idxAddr % 16 = 0 ∧ (x.kind ≠ 4 ∨ x.esize = 4)))

/-- Whether a register word of a record is in range: every RW field within its range, or at its reset value where the unit is left
disabled; every other bit zero (R8, R549, R553). -/
def wordOk (on : Bool) (p : RecReg × Nat) : Bool :=
  decide (p.2 &&& rwMask p.1.addr = p.2) &&
    (rwFields p.1.addr).all fun f => limOk f.lim f.w (bits p.2 f.lo f.w) || (!on && decide (bits p.2 f.lo f.w = f.rst))

/-- Whether a record passes check FIELD. SHARES of a REALTIME client is ignored and may be 0 (R334), and LB_RSTEMOUT of a race with
FEED = DDR5 belongs to a unit left disabled (R246): DEDUCED, in the log entry on ignored fields of a record. -/
def Rec.fieldOk (r : Rec) : Bool :=
  let on := r.words.any enabledBy
  let b := r.body
  decide (r.idx < recCount r.typ) &&
  match r.typ with
  | 0x01 => r.words.all fun p => wordOk (enabledBy p || (decide (p.1.addr = IN_RPLCACHE) && decide (bits p.2 40 16 ≠ 0)) ||
      (decide (p.1.addr = MG_CANDCFG) && decide (bits p.2 56 3 ≠ 0))) p
  | 0x02 => true
  | 0x03 => decide (r.idx + b.length / 64 ≤ 8192) && (List.range (b.length / 64)).all fun k => ringFieldOk ((b.drop (64 * k)).take 64)
  | 0x04 => r.words.all (wordOk on) && !bit (dLe b 0 8) 62
  | 0x08 => r.words.all (wordOk on) && !bit (dLe b 4 8) 40
  | 0x09 => r.words.all (wordOk on) && dZero b 22 14
  | 0x0B => r.words.all (wordOk on) && decide (bits (dLe b 4 8) 0 17 % widthStep (bits (dLe b 0 4) 20 2) = 0)
  | 0x0C => decide (500 ≤ dLe b 0 4 ∧ dLe b 0 4 ≤ 65535 ∧ dLe b 4 4 ≤ 1024)
  | 0x0E => decide (dLe b 0 4 + dLe b 4 4 ≤ 131072)
  | 0x0F => r.words.all (wordOk (decide (bits (dLe b 0 8) 62 2 ≠ 0)))
  | 0x11 => decide (dByte b 0 < 64 ∧ dLe b 4 4 % 64 = 0) && dZero b 1 3 && dZero b 28 4
  | 0x12 => r.words.all fun p => wordOk on (if p.1.addr = SH_CCFG r.idx ∧ bits p.2 61 2 = 0 ∧ bits p.2 38 10 = 0 then (p.1, p.2 + 2 ^ 38) else p)
  | 0x13 => r.words.all fun p => wordOk (on && (decide (p.1.addr ≠ LB_RSTEMOUT r.idx) || bit (dLe b 0 4) 29)) p
  | _ => r.words.all (wordOk on)

/-! ## The image's machine -/

/-- The package that a PACKAGE record names: its bytes in the section (R550). -/
def Rec.packBytes (r : Rec) (sec : List Byte) : List Byte := (sec.drop (dLe r.body 4 4)).take (dLe r.body 8 4)

/-- The site of a PACKAGE record; host bases as the registers hold them (R550). -/
def Rec.site (r : Rec) (hostA hostB : Nat × Nat) : Site :=
  ⟨0x100000 * dLe r.body 12 4, some (0x100000 * dLe r.body 20 4), hostA, hostB⟩

/-- The PACKAGE records with their packages. -/
def packRecs (l : List Rec) (sec : List Byte) : List (Rec × List Byte) :=
  (l.filter fun r => decide (r.typ = 0x11)).map fun r => (r, r.packBytes sec)

/-- The package of a client. -/
def packOf (l : List Rec) (sec : List Byte) (cl : Nat) : Option (Rec × List Byte) :=
  (packRecs l sec).find? fun p => decide (dByte p.1.body 0 = cl)

/-- The client of a class that the image enables for a race. -/
def State.imageClients (z : State) (cls r : Nat) : List Nat :=
  (List.range 64).filter fun c => z.isOn (SH_CCFG_EN c) && decide (z.fld (SH_CCFG_CLASS c) = cls) && decide (z.fld (SH_CCFG_RACE c) = r)

/-- The machine that an image describes: its register records with their EN bits, its rings and its stem slots, over reset values. The
cross checks read it. -/
def staged (v : Variant) (l : List Rec) (sec : List Byte) : State :=
  let z : State := { variant := v }
  let z := l.foldl (fun z r => r.words.foldl (fun z p => z.setWord p.1.addr p.2 0) z) z
  let z := l.foldl (fun z r => if r.typ = 0x03 then
      (List.range (r.body.length / 64)).foldl (fun z k => z.setRing (r.idx + k) (readRing (r.body.drop (64 * k)))) z
    else z) z
  (packRecs l sec).foldl (fun z p =>
    let c := dByte p.1.body 0
    if z.clientClass c = .realtime then
      match (readPack p.2).find 6 with
      | some x => z.writeStem (z.fld (SH_CCFG_RACE c)) (x.bytes p.2)
      | none => z
    else z) z

/-! ## VARIANT -/

/-- Whether a record suits FF-3260-N (R168, R553). -/
def Rec.variantOk (r : Rec) : Bool :=
  let w := dLe r.body 0 4
  match r.typ with
  | 0x10 => false
  | 0x05 => decide (r.idx < 2)
  | 0x06 => decide (w % 16 < 4)
  | 0x07 => decide (bits w 24 3 < 2)
  | 0x13 => decide (bits (dLe r.body 56 4) 29 3 < 2) && !bit w 30
  | _ => true

/-! ## CROSS -/

/-- Whether a race is configured: enabled, or given a width so that it may be enabled later. -/
def State.raceSet (z : State) (r : Nat) : Bool := z.isOn (PX_RCFG_EN r) || decide (z.fld (PX_RGEOM_W r) ≠ 0)

/-- The slot quota of a race (R26). -/
def State.quotaOf (z : State) (r : Nat) : Nat :=
  let p := (z.pitch16 (z.segView r) + 65535) / 65536
  let d := max 1 (z.fld (PX_RLEN_LMIN r) + p)
  (z.fld (FO_RGEOM_SPAN r) + d - 1) / d + 1

/-- The extent of a ring's entries; an EVENT ring holds its parameter area too (R616). -/
def Ring.extent (x : Ring) : Nat := let n := 2 ^ (x.esize + x.size); if x.kind = 4 then n + n / 2 else n

/-- Whether a ring suits a use by kind. -/
def State.ringIs (z : State) (r kind : Nat) : Bool := decide ((z.ring r).kind = kind)

/-- Whether a channel's descriptor ring may be of a ring's kind: host descriptors or firmware descriptors (R441). -/
def State.descRing (z : State) (r : Nat) : Bool := z.ringIs r 1 || z.ringIs r 5

/-- The outputs that a race's bins name on either side of R362 and R405. -/
def State.binsSet (z : State) (r : Nat) : Bool := !(z.raceOuts r).isEmpty

/-- LINK_CLASS and SCRATCH of a package's program. -/
def packLink (b : List Byte) : Nat := match (readPack b).find 1 with
  | some x => dByte b (x.ofs + 34)
  | none => 0
def packScratch (b : List Byte) : Nat := match (readPack b).find 1 with
  | some x => dLe b (x.ofs + 32) 2
  | none => 0

/-- Whether two packages' shared weight store and resident sections agree wherever they overlap (R518). -/
def sharedOk (a b : List Byte) : Bool :=
  [3, 4].all fun k =>
    ((readPack a).sects.filter fun x => decide (x.kind = k)).all fun x =>
      ((readPack b).sects.filter fun y => decide (y.kind = k)).all fun y =>
        let lo := max x.dest y.dest
        let hi := min (x.dest + x.len) (y.dest + y.len)
        decide (hi ≤ lo) || (((x.bytes a).drop (lo - x.dest)).take (hi - lo) == ((y.bytes b).drop (lo - y.dest)).take (hi - lo))

/-- The DDR5 regions that an image names, each with the record it comes from, as type, index, base and size (R428, R553). -/
def State.regions (z : State) (l : List Rec) (sec : List Byte) : List (Nat × Nat × Nat × Nat) :=
  let mib := 0x100000
  let races := ((List.range 16).filter fun r => (findRec l 0x13 r).isSome && z.raceSet r).flatMap fun r =>
    [(0x13, r, mib * z.fld (PX_RTILE_BASE r), 0x10000 * (z.fld (PX_RTILE_TSLOTS r) * z.fld (PX_RTILE_SLOT_64K r)))] ++
      if z.isOn (PX_RCFG_FEED r) then
        [(0x13, r, mib * z.fld (LB_RSTEMOUT_BASE r), 0x10000 * (z.fld (PX_RTILE_TSLOTS r) * z.fld (LB_RSTEMOUT_SLOT_64K r)))]
      else []
  let clients := ((List.range 64).filter fun c => (findRec l 0x12 c).isSome).map fun c =>
    (0x12, c, mib * z.fld (SH_CSCR_BASE c),
      0x10000 * (z.fld (SH_CSCR_SLOTS c) * (match packOf l sec c with | some p => packScratch p.2 | none => 0)))
  let packs := (packRecs l sec).flatMap fun p =>
    [(0x11, p.1.idx, mib * dLe p.1.body 12 4, mib * dLe p.1.body 16 4), (0x11, p.1.idx, mib * dLe p.1.body 20 4, mib * dLe p.1.body 24 4)]
  let rings := (z.rings.filter fun p => decide (p.2.kind ≠ 0) && inDdr p.2.base).map fun p => (0x03, p.1, p.2.base, p.2.extent)
  races ++ clients ++ packs ++ rings ++
    [(0x01, 0, mib * z.fld SH_SAVE_BASE, 0x300000 * z.fld SH_SAVE_SLOTS),
     (0x01, 0, mib * z.fld IN_RPLCACHE_BASE, mib * (z.fld IN_RPLCACHE_SLOTS * z.fld IN_RPLCACHE_SLOT_MIB)),
     (0x01, 0, mib * z.fld PX_AUDCFG_BASE, mib * z.fld PX_AUDCFG_BUF_MIB),
     (0x01, 0, mib * z.fld MG_CANDCFG_BASE, mib * (z.fld MG_CANDCFG_SLOTS * z.fld MG_CANDCFG_SLOT_MIB)),
     (0x06, 0, mib * z.fld PS_THBASE_BASE, if z.fld PS_THCFG_TH_EN = 0 then 0 else mib)]

/-- The stem check of a race, on the slot that the image's packages leave (R229). -/
def State.stemOk (z : State) (r : Nat) : Bool :=
  let d := z.stemDesc r
  if z.isOn (PX_RCFG_FEED r) then
    decide (dOp d = 0xC0) && (lbConvFlaws d true).isEmpty && decide ((readLb d).ci = 1) && decide ((z.raceViews r).length ≤ 1)
  else decide (dOp d = 0)

/-- The tile and stem output slots of a race are large and many enough (R172, R246). -/
def State.tilesOk (z : State) (r : Nat) : Bool :=
  decide (z.quotaOf r + 1 ≤ z.fld (PX_RTILE_TSLOTS r)) &&
    decide (64 + (z.raceViews r).length * z.rowStride r * z.hMax r ≤ 0x10000 * z.fld (PX_RTILE_SLOT_64K r)) &&
    decide (0x100000 * z.fld (PX_RTILE_BASE r) + 0x10000 * (z.fld (PX_RTILE_TSLOTS r) * z.fld (PX_RTILE_SLOT_64K r)) ≤ ddrSize)

def State.stemOutOk (z : State) (r : Nat) : Bool :=
  !z.isOn (PX_RCFG_FEED r) ||
    (decide ((readLb (z.stemDesc r)).outBytes (z.hMax r) (z.fld (PX_RGEOM_W r)) ≤ 0x10000 * z.fld (LB_RSTEMOUT_SLOT_64K r)) &&
      decide (0x100000 * z.fld (LB_RSTEMOUT_BASE r) + 0x10000 * (z.fld (PX_RTILE_TSLOTS r) * z.fld (LB_RSTEMOUT_SLOT_64K r)) ≤ ddrSize))

/-- The encoders of a race's views agree with its own (R126). -/
def State.encodersOk (z : State) (r : Nat) : Bool :=
  (z.raceViews r).all fun p =>
    let v := z.rview r p
    decide (z.fld (PS_TRGCFG_ENC_SEL (z.fld (IN_VIEWCFG_TRG_OUT v))) = z.raceEnc r) &&
      (List.range 16).all fun q => !z.raceSet q || !((z.raceViews q).any fun k => decide (z.rview q k = v)) || decide (z.raceEnc q = z.raceEnc r)

/-- The streams of a view fit together (R118). -/
def State.viewOk (z : State) (v : Nat) : Bool :=
  pairsOk (fun n m =>
    apart (z.fld (IN_STRGEOM_X_OFS n)) (z.fld (IN_STRGEOM_WIDTH n)) (z.fld (IN_STRGEOM_X_OFS m)) (z.fld (IN_STRGEOM_WIDTH m)) &&
      decide (z.fld (IN_STRCFG_PIXFMT n) = z.fld (IN_STRCFG_PIXFMT m) ∧ z.fld (IN_STRCFG_BLK_H n) = z.fld (IN_STRCFG_BLK_H m)))
    (z.viewStreams v) && decide (z.viewWidth v ≤ 131072)

/-- The rings that a record names are of kinds that fit (R440, R441). -/
def State.namedRingsOk (z : State) (t i : Nat) : Bool :=
  match t with
  | 0x01 => (decide (z.fld PX_AUDCFG_BUF_MIB = 0) || z.ringIs (z.fld PX_AUDCFG_RING) 6) &&
      [0, 1, 2, 3].all fun k => !z.isOn (MG_EVROUTE_EN k) || z.ringIs (z.fld (MG_EVROUTE_RING k)) 4
  | 0x04 => !z.isOn (DM_CHCFG_EN i) || (z.descRing (z.fld (DM_CHCFG_DESC_RING i)) && z.ringIs (z.fld (DM_CHCFG_CPL_RING i)) 2)
  | 0x12 => !z.isOn (SH_CCFG_EN i) || match z.clientClass i with
      | .realtime => true
      | .housekeeping => z.ringIs (z.fld (SH_CRING_CPL_RING i)) 2 && z.ringIs (z.fld (SH_CRING_SUB_RING i)) 1
      | _ => z.ringIs (z.fld (SH_CRING_CPL_RING i)) 2
  | 0x13 => !z.isOn (PX_RCFG_EN i) || (z.ringIs (z.fld (FO_RRING_LIVE_RING i)) 3 &&
      ((z.imageClients 1 i).isEmpty || z.ringIs (z.fld (FO_RRING_TRIAL_RING i)) 3) &&
      ((z.imageClients 2 i).isEmpty || z.ringIs (z.fld (FO_RRING_REPLAY_RING i)) 3))
  | _ => true

/-- A ring's own placement (R440, R472, R616). -/
def Ring.placedOk (x : Ring) : Bool :=
  decide (x.kind = 0) ||
    (decide (x.pen = inPen x.base) && (inDdr x.base || inPen x.base) &&
      (decide (x.idxAddr = 0) || (decide (penBase + 0x10000 ≤ x.base ∧ x.base + x.extent ≤ penBase + 0x100000) &&
        decide (penBase + 0x8000 ≤ x.idxAddr ∧ x.idxAddr + 16 ≤ penBase + 0x10000))))

/-- The races of an image that hold a record. -/
def racesOf (l : List Rec) : List Nat := (List.range 16).filter fun r => (findRec l 0x13 r).isSome

/-- The first index of a list that fails a test, as a type and index. -/
def failOn (t : Nat) (l : List Nat) (ok : Nat → Bool) : Option (Nat × Nat) := (l.find? fun i => !ok i).map fun i => (t, i)

/-- The first race at which the sum of the quotas passes 4,096 (R26). -/
def quotaOver (z : State) : Nat → List Nat → Option (Nat × Nat)
  | _, [] => none
  | n, r :: t => let m := n + z.quotaOf r; if 4096 < m then some (0x13, r) else quotaOver z m t

/-- The checks of CROSS in the order of R553: the type and index of the record that first fails one. -/
def State.crossBad (z : State) (l : List Rec) (sec : List Byte) : Option (Nat × Nat) :=
  let races := racesOf l
  let set := races.filter z.raceSet
  let on := races.filter fun r => z.isOn (PX_RCFG_EN r)
  let packs := packRecs l sec
  let outs := List.range 16
  let credits := match findRec l 0x09 0 with
    | some r => ((List.range 18).map fun c => dByte r.body (4 + c)).sum
    | none => 0
  let mib (a n : Nat) : Bool := decide (0x100000 * a + n ≤ ddrSize)
  [ quotaOver z 0 races
  , if credits ≤ 512 then none else some (0x09, 0)
  , failOn 0x0B [12, 13, 14, 15] fun n => !(z.isOn (IN_STRCFG_EN n) && z.isOn LN_DRVCFG_EN)
  , failOn 0x0D outs z.viewOk
  , failOn 0x13 set z.encodersOk
  , if mib (z.fld IN_RPLCACHE_BASE) (0x100000 * (z.fld IN_RPLCACHE_SLOTS * z.fld IN_RPLCACHE_SLOT_MIB)) then none else some (0x01, 0)
  , if z.slotPlace 16 0 ≤ 0x1000000 then none else some (0x0D, 0)
  , failOn 0x13 set fun r => ((z.raceViews r).filter fun p => z.ptpView (z.rview r p)).all fun p =>
      decide (z.fld (PX_VPITCH_PITCH (z.rview r p)) = z.fld (PX_VPITCH_PITCH (z.segView r)))
  , failOn 0x13 set fun r => (z.raceViews r).all fun p => decide (z.viewFmt (z.rview r p) = z.viewFmt (z.segView r))
  , failOn 0x13 set z.tilesOk
  , failOn 0x13 on fun r => decide (z.fld (PX_RLEN_LMIN r) ≠ 0 ∧ z.fld (PX_RLEN_LMIN r) ≤ z.fld (PX_RLEN_LMAX r))
  , failOn 0x13 outs z.stemOk
  , failOn 0x13 set z.stemOutOk
  , failOn 0x13 outs fun r => [0, 1, 2].all fun c => decide ((z.imageClients c r).length ≤ 1)
  , failOn 0x13 on fun r => decide ((z.imageClients 0 r).length = 1)
  , if mib (z.fld SH_SAVE_BASE) (0x300000 * z.fld SH_SAVE_SLOTS) then none else some (0x01, 0)
  , failOn 0x12 (List.range 64) fun c => mib (z.fld (SH_CSCR_BASE c))
      (0x10000 * (z.fld (SH_CSCR_SLOTS c) * (match packOf l sec c with | some p => packScratch p.2 | none => 0)))
  , failOn 0x13 races fun r => (z.raceOuts r).all fun o => decide (z.fld (FO_OCFG_MODE o) = 1) &&
      races.all fun q => !((z.raceOuts q).contains o) || decide (z.raceEnc q = z.raceEnc r)
  , failOn 0x13 races fun r => decide (z.fld (TM_RPAIR_ROLE r) ≠ 2) || (decide (z.fld (FO_RCFG_DEFAULT r) = 0) && !z.binsSet r)
  , failOn 0x13 races fun r => decide (z.fld (TM_RPAIR_ROLE r) = 0) || (z.imageClients 0 r).all fun c => match packOf l sec c with
      | some p => decide (packLink p.2 = 2 + r)
      | none => false
  , failOn 0x03 (z.rings.map Prod.fst) fun r => (z.ring r).placedOk
  , if pairsOk (fun p q => decide (p.2.kind = 0) || decide (q.2.kind = 0) || apart p.2.base p.2.extent q.2.base q.2.extent) z.rings then none else some (0x03, 0)
  , failOn 0x01 [0] (z.namedRingsOk 0x01)
  , failOn 0x04 (List.range 64) (z.namedRingsOk 0x04)
  , failOn 0x12 (List.range 64) (z.namedRingsOk 0x12)
  , failOn 0x13 races (z.namedRingsOk 0x13)
  , failOn 0x10 (List.range 8) fun k => !(z.fld FI_OUTCFG_PAIR).testBit k || (decide (z.fld (FO_OCFG_MODE (2 * k + 1)) = 0) &&
      races.all fun r => !((z.raceOuts r).contains (2 * k + 1)))
  , failOn 0x11 (packs.map fun p => p.1.idx) fun i => packs.all fun p => decide (p.1.idx ≠ i) ||
      (decide (0x100000 * dLe p.1.body 12 4 + (readPack p.2).len ≤ 0x100000 * (dLe p.1.body 12 4 + dLe p.1.body 16 4)) &&
        decide ((readPack p.2).bankSize p.2 ≤ 0x100000 * dLe p.1.body 24 4) &&
        (((readPack p.2).find 7).isSome || decide (dLe p.1.body 20 4 = 0)) &&
        decide ((readPack p.2).variant = variantOf (z.clientClass (dByte p.1.body 0))))
  , if pairsOk (fun p q => sharedOk p.2 q.2 && decide ((readPack p.2).model ≠ (readPack q.2).model) && decide (dByte p.1.body 0 ≠ dByte q.1.body 0)) packs
    then none else some (0x11, 0)
  , if mib (z.fld MG_CANDCFG_BASE) (0x100000 * (z.fld MG_CANDCFG_SLOTS * z.fld MG_CANDCFG_SLOT_MIB)) then none else some (0x01, 0) ].findSome? id

/-! ## REGION -/

/-- The first DDR5 region that leaves the memory below its top 256 MiB or overlaps one before it (R428). -/
def regionBad : List (Nat × Nat × Nat × Nat) → List (Nat × Nat × Nat × Nat) → Option (Nat × Nat)
  | _, [] => none
  | seen, x :: t =>
    let (ty, i, a, n) := x
    if decide (n = 0) || (decide (a + n ≤ copyBase) && seen.all fun y => apart a n y.2.2.1 y.2.2.2) then regionBad (x :: seen) t else some (ty, i)

/-! ## All checks -/

/-- The failure that a check reports at a record named by type and index. -/
def badAt (l : List Rec) (check : Nat) (p : Nat × Nat) : Bad :=
  match findRec l p.1 p.2 with
  | some r => r.bad check
  | none => ⟨5, codeFormat, check, p.1, p.2, 0⟩

/-- The range checks of R553 on the two sections: the first failure, if any. -/
def rangeBad (v : Variant) (fw sec : List Byte) : Option Bad :=
  if !headsOk fw sec then some ⟨5, codeFormat, 1, 0, 0, 0⟩
  else match readRecs sec with
    | .error e => some e
    | .ok l =>
      match l.find? fun r => !r.fieldOk with
      | some r => some (r.bad 2)
      | none =>
        if !bit (dByte sec 4) (if v = .f then 0 else 1) then some ⟨5, codeFormat, 3, 0, 0, 0⟩
        else match l.find? fun r => decide (v = .n) && !r.variantOk with
          | some r => some (r.bad 3)
          | none =>
            let z := staged v (sortRecs l) sec
            match z.crossBad l sec with
            | some p => some (badAt l 4 p)
            | none => (regionBad [] (z.regions l sec)).map (badAt l 5)

end Sys2Proof.Machine
end

