-- ==== Sys2Proof/Machine/Start.lean ====
section
/-! DEFINITION. What sets a start off: the beginning of a cold start, Paddock mode, failed starts and their escalation, the quiesce and the
drain of a warm start (R579 to R587, R601, R610). -/

namespace Sys2Proof.Machine

/-! ## Cold starts -/

/-- The profile that the straps set (R608): 3 is treated as P25. -/
def strapProfile (strap : Nat) : Nat := if strap ≤ 2 then strap else 0

/-- The profile registers at the straps, and the CORE step at the profile's cap (R608, R614, R615, R624). -/
def State.loadStraps (s : State) : State :=
  let p := strapProfile s.start.strap
  (((s.setFld MG_PWRCFG_PROFILE p).setFld MG_PWRSTAT_STRAP p).setFld MG_PWRSTAT_PROFILE p).setFld MG_THRSTAT_STEP (2 - p)

/-- The registers that a cold start keeps: the always-on store (R580, R588). MG_WDSTAT is reset with the rest of its domain, as R9 and R580 say of every
cold start, though R630 calls its counts those since power-on: the model's choice (log entry 166). -/
def keptCold (key : Nat) : Bool := decide (key / 64 = MG_START)

/-- The hold bits that stand with the reset values of the field side (R504, R507, R509). -/
def State.resetHolds (s : State) : State :=
  match s.variant with
  | .f => (s.setFld MG_HOLD_FIELD 1).setFld MG_HOLD_SUPPLY 1
  | .n => s

/-- The module with its power or its reset held (R581): what is left is the flash, the OTP, the EEPROM and the straps. -/
def State.bare (s : State) : State :=
  { pending := s.pending, variant := s.variant, regs := Tab.keep (fun k _ => keptCold k) s.regs, free := s.free
    image := { flash := s.image.flash, otp := s.image.otp, eeprom := s.image.eeprom, fitted := s.image.fitted }
    start := { powered := s.start.powered, strap := s.start.strap }
    host := { held := s.host.held } }

/-- A cold start begins (R580, R582): everything returns to reset but the always-on store; the straps are sampled. -/
def State.coldBegin (s : State) (cause : Nat) : State :=
  let s : State := { s.bare with phase := .cold 1 }
  (((s.setFld MG_START_KIND 1).setFld MG_START_CAUSE cause).loadStraps).resetHolds

/-- Power ends (R601): the next start clears the always-on store. -/
def State.powerOff (s : State) : State :=
  let s := s.bare
  { s with regs := [], start := { s.start with powered := false } }

/-- POWER_ON: the supply has risen and PWR_GOOD is asserted; a cold start with cause POWER_ON (R579, R600). -/
def State.powerOn (s : State) (strap : Nat) : State :=
  if s.start.powered then s
  else
    let s := s.powerOff
    State.coldBegin { s with start := { s.start with powered := true, strap := strap } } 1

/-- RESET_N is released after `ns` nanoseconds low (R579, R601): less than 10 µs is ignored; a module without power, or held by its
die temperature, stays as it is. -/
def State.resetN (s : State) (ns : Nat) : State := if ns < 10000 ∨ !s.start.powered ∨ s.health.tripped then s else s.coldBegin 2

/-- BROWNOUT: a cold start once the rails are back (R599). -/
def State.brownout (s : State) : State := if s.phase = .off then s else s.coldBegin 4

/-- THERMAL_TRIP: the die passes its trip point and reset is held (R610). -/
def State.thermalTrip (s : State) : State :=
  if s.phase = .off then s
  else
    let s := s.bare
    { s with health := { s.health with tripped := true } }

/-- THERMAL_RESET_RELEASE: the die has cooled below 95 °C, and the cold start with cause THERMAL begins (R610). -/
def State.thermalRelease (s : State) : State := if s.health.tripped ∧ s.start.powered then s.coldBegin 3 else s

/-! ## Paddock mode and failed cold starts -/

/-- Unit `u` fails its self-test: it sets its bit in FAIL_MASK and raises LB_SELFTEST_FAIL with the mask so far (R239, R243). -/
def State.unitFails (s : State) (u : Nat) : State :=
  let m := maskSet (s.fld LB_SELFTEST_FAIL_MASK) u true
  (s.setFld LB_SELFTEST_FAIL_MASK m).raise 0x0702 m

/-- The Lamb engine's self-test on each unit in turn, whose outcome for the units is `mask` (R239, R243). -/
def State.lambTest (s : State) (mask : Nat) : State :=
  let s := (s.setFld LB_SELFTEST_FAIL_MASK 0).setFld LB_SELFTEST_DONE 0
  (([0, 1, 2, 3].filter mask.testBit).foldl State.unitFails s).setFld LB_SELFTEST_DONE 1

/-- Paddock mode (R556): the recovery code runs, no ring and no event route is configured, the Lamb engine tests itself. -/
def State.enterPaddock (s : State) (mask : Nat) : State :=
  let s : State := { s with phase := .paddock, rings := [] }
  ([0, 1, 2, 3].foldl (fun s k => s.setFld (MG_EVROUTE_EN k) 0) s).lambTest mask

/-- A start counts as failed: its step is recorded and MG_START_FAIL raised with its kind and the count reached (R587). -/
def State.startFail (s : State) (kind step count : Nat) : State :=
  (s.setFld MG_START_FAIL_STEP step).raise 0x0E06 (0x1000000 * kind + step) count

/-- A cold start fails (R587): below 3 failures a new one follows with cause ESCALATION, at 3 the module enters Paddock mode. -/
def State.coldFail (s : State) (step mask : Nat) : State :=
  let n := min (s.fld MG_START_COLD_FAIL + 1) 3
  let s := (s.setFld MG_START_COLD_FAIL n).startFail 1 step n
  if n < 3 then s.coldBegin 7 else s.enterPaddock mask

/-- An image verification failure at a cold start: counted, and Paddock mode at once (R554, R587). -/
def State.coldReject (s : State) (step mask : Nat) : State :=
  let n := min (s.fld MG_START_COLD_FAIL + 1) 3
  ((s.setFld MG_START_COLD_FAIL n).startFail 1 step n).enterPaddock mask

/-- COLD_START_TIMEOUT: step 10 has not been reached within 5 s of the release of reset (R587). -/
def State.coldTimeout (s : State) (mask : Nat) : State :=
  match s.phase with
  | .cold n => (s.advanceTo (1000000000 + s.start.t0)).coldFail n mask
  | _ => s

/-- COLD_FAIL_CLEAR: 60 s in RUNNING with no failed start (R587). -/
def State.coldFailClear (s : State) : State :=
  match s.phase with
  | .running | .warm _ => (s.advanceDev (60000000000 + s.start.since)).setFld MG_START_COLD_FAIL 0
  | _ => s

/-! ## Warm starts: quiesce -/

/-- The part in an OPEN slot is settled (R584): it closes at once, TRUNCATED; a run still in progress ends at the last line. -/
def State.closeAtWarm (s : State) (i : Nat) : State :=
  let x := s.slot i
  if x.st ≠ .opened then s
  else
    let r := x.race
    let rs := s.raceSt r
    let s := s.spoil i .truncated
    let s : State :=
      if rs.mode = .run i then
        match (s.view (s.segView r)).newest with
        | some (n, p) =>
          let s := s.setSlot i { s.slot i with pEnd := int16 p }
          match s.tileOf i with
          | some t => s.setTile i (some { t with n1 := n, ended := true })
          | none => s
        | none => s
      else s
    s.closePart i

/-- A job of a cancelled class leaves (R583, R584): a TRIAL part gets its trial record, a HOUSEKEEPING job completes CANCELLED, a replay
sample leaves without a record (R137). -/
def State.cancelAtWarm (s : State) (j : Nat) : State :=
  match s.job j with
  | none => s
  | some x =>
    match x.cls with
    | .realtime => s
    | .replay =>
      let s := match x.origin with
        | .sample t _ _ => s.dropTile (s.fld (SH_CCFG_RACE x.client)) t
        | _ => s
      (s.setJob j (some { x with origin := .host })).endJob j .cancelled
    | _ => s.endJob j .cancelled

/-- A request of a cancelled class that waits at its source leaves in the same way. -/
def State.dropAtWarm (s : State) (q : JobReq) : State :=
  match q.cls with
  | .realtime => s
  | .trial => s.dropWaiting q
  | .replay =>
    let s := s.dropWaiting q
    match q.origin with
    | .sample t _ _ => s.dropTile (s.fld (SH_CCFG_RACE q.client)) t
    | _ => s
  | .housekeeping =>
    let s := s.dropWaiting q
    match s.postCompletion q.client q.jobId .cancelled s.clk.dev with
    | (s, true) => s
    | (s, false) => match s.freeJob with
      | some j => s.setJob j (some { client := q.client, cls := q.cls, jobId := q.jobId, origin := .host, hdr := {}, bases := [],
                                     ended := some .cancelled, endTime := s.clk.dev })
      | none => s

/-- Segmentation stops: no run goes on, and the next line is the first after the warm start (R584). -/
def RaceSt.quiesced (x : RaceSt) : RaceSt := { x with mode := .idle, absent := 0, edges := [], spans := [], gaps := [], fresh := true }

/-- Quiesce (R583 step 1): the last line of each race is noted, OPEN parts are settled by race and within a race
in ascending P_start (R21), jobs of the classes other
than REALTIME are cancelled, the replay pass is abandoned, and no line waits any more. -/
def State.quiesce (s : State) : State :=
  let s : State := { s with start := { s.start with
    gapFrom := (List.range 16).foldl (fun t r => if s.raceOn r then Tab.set none t r (s.raceSt r).lastPos else t) [] } }
  let opened := (List.range 16).flatMap fun r =>
    s.byStart (s.slotsInUse.filter fun i => decide ((s.slot i).st = .opened) && decide ((s.slot i).race = r))
  let s := opened.foldl State.closeAtWarm s
  let s := (List.range 16).foldl (fun s r => s.setRace r (s.raceSt r).quiesced) s
  let s := s.jobIds.foldl State.cancelAtWarm s
  let s := s.shep.waiting.foldl State.dropAtWarm s
  let s := State.setFlag { s with replay := { s.replay with lanes := [] } } IN_RPLCFG_EN false
  let s := (List.range 16).foldl (fun s v => s.setView v (s.view v).renew) s
  (List.range 16).foldl (fun s n => s.setStream n (s.stream n).warm) s

/-- The drain of a warm start begins. -/
def State.enterWarm (s : State) : State :=
  { s with phase := .warm 2, start := { s.start with t0 := s.clk.enc, tStep := s.clk.enc, cams := false, tables := false } }

/-- A start request that is ignored is counted (R580). -/
def State.ignoreStart (s : State) : State := s.bump MG_START_IGNORED

/-- A warm start begins (R580, R583): from RUNNING only; a request during another start is ignored and counted. -/
def State.warmBegin (s : State) (cause : Nat) : State :=
  match s.phase with
  | .running =>
    ((s.quiesce.enterWarm).setFld MG_START_KIND 2).setFld MG_START_CAUSE cause
  | .cold _ | .warm _ => s.ignoreStart
  | _ => s

/-! ## Warm starts: the drain -/

/-- A part whose job still runs at the end of the drain, or that still waits at its source, becomes UNJUDGED (JOB_LOST) (R584); an owner's part
whose own half is formed waits on for its partner's (R407). -/
def State.loseAtDrain (s : State) (i : Nat) : State :=
  if (s.slot i).st.judgeable && !(s.slot i).waitHalf then s.reasonAndCancel i .jobLost else s

/-- A step of a start begins. -/
def State.enterStep (s : State) (p : Phase) : State := { s with phase := p, start := { s.start with tStep := s.clk.enc } }

/-- The fields that the spec marks as cleared at a warm start (R9). -/
def clearedFields : List Fld :=
  regDescs.flatMap fun d => (d.fields.filter FDesc.cleared).flatMap fun f =>
    (List.range d.dim1.2).flatMap fun i => (List.range d.dim2.2).map fun j => f.fld (d.addr + i * d.dim1.1 + j * d.dim2.1)

/-- Every cleared field returns to its reset value (R9). -/
def State.clearFields (s : State) : State := clearedFields.foldl (fun s f => s.setFld f f.rst) s

/-- The firmware's requests at its restart: a PROMOTING slot returns to EMPTY (R535); flashing is cut off, and leaves the image copy at odds with the
header in force (R586); a request that was in progress is
the first that the firmware takes up again. -/
def State.dropPromotion (s : State) : State :=
  let st := s.fld MG_PKGSTAT_SLOTSTATE
  let st' := ([0, 1, 2, 3].map fun k => (if st / 4 ^ k % 4 = 3 then 0 else st / 4 ^ k % 4) * 4 ^ k).sum
  let s := s.setFld MG_PKGSTAT_SLOTSTATE st'
  { s with
    pkg := { s.pkg with flash := none, ready := none, verify := none, queue := s.pkg.verify.toList ++ s.pkg.flash.toList ++ s.pkg.queue }
    image := { s.image with copyOk := s.image.copyOk && s.pkg.flash.isNone, check := none, write := none, recovery := s.image.check.toList ++ s.image.write.toList ++ s.image.recovery }
    ident := { s.ident with waiting := none, queue := s.ident.waiting.toList ++ s.ident.queue } }

/-- The drain's last moment: at DRAIN_MS where REALTIME jobs are left; jobs still running and parts still waiting end as JOB_LOST
(R583, R584). -/
def State.drainJobs (s : State) : State :=
  let left := s.jobIds.any (fun j => match s.job j with
      | some x => decide (x.cls = .realtime)
      | none => false) || !s.shep.waiting.isEmpty
  let s := if left then s.advanceTo (200000 * s.fld MG_WARMCFG_DRAIN_MS + s.start.t0) else s
  let s := s.slotsInUse.foldl State.loseAtDrain s
  let s := s.jobIds.foldl (fun s j => match s.job j with
    | some x => if x.cls = .realtime then s.endJob j .cancelled else s
    | none => s) s
  s.slotsInUse.foldl State.abandonStream s

/-- What a warm start clears: the line store empties, a build is abandoned, the track history pauses (R63, R175). -/
def State.drainClear (s : State) : State :=
  let s := (List.range 16).foldl (fun s v => s.setView v { s.view v with ring := [], sm := none, fullRun := false }) s
  { s with px := { s.px with acc := [], gapLines := [] }
           pos := { s.pos with track := [] } }

/-- WARM_DRAIN_END: the drain ends, what a warm start clears is cleared, and the control processors restart (R9, R583). -/
def State.drainEnd (s : State) : State :=
  if s.phase ≠ .warm 2 then s else s.drainJobs.drainClear.clearFields.dropPromotion.dropSetups.enterStep (.warm 3)

/-! ## Failed warm starts -/

/-- A warm start fails in its present step (R586, R587): the next begins at step 3; at the third a cold start follows with cause
ESCALATION. -/
def State.warmFail (s : State) : State :=
  match s.phase with
  | .warm k =>
    let n := s.fld MG_START_WARM_FAIL + 1
    let s := s.startFail 2 k n
    if 3 ≤ n then (s.setFld MG_START_WARM_FAIL 0).coldBegin 7
    else
      let s := if s.phase = .warm 2 then s.drainEnd else s.clearFields
      let s := s.setFld MG_START_WARM_FAIL n
      { s with phase := .warm 3, start := { s.start with t0 := s.clk.enc, tStep := s.clk.enc, since := s.clk.dev } }
  | _ => s

/-- WARM_START_TIMEOUT: a step has not ended WARM_TMO_MS after step 1 (R586). -/
def State.warmTimeout (s : State) : State :=
  match s.phase with
  | .warm _ => (s.advanceTo (200000 * s.fld MG_WARMCFG_WARM_TMO_MS + s.start.t0)).warmFail
  | _ => s

/-- A fault of the control processors (R623): a warm start with cause WATCHDOG; during a warm start it fails it, before step 10 it fails the
cold start, in Paddock mode the recovery code starts again. -/
def State.cpFault (s : State) (mask : Nat) : State :=
  match s.phase with
  | .running => s.warmBegin 10
  | .warm _ => s.warmFail
  | .cold n => s.coldFail n mask
  | _ => s

/-! ## Host writes of the start and power registers -/

/-- HOST_COLD and HOST_WARM: a write of MG_RESETCTL with the key (R589); in Paddock mode writes do not act. -/
def State.hostCold (s : State) : State :=
  match s.phase with
  | .paddock | .off => s
  | _ => s.coldBegin 5
def State.hostWarm (s : State) : State := s.warmBegin 8

/-- A write of MG_RESETCTL: only with the key, and both bits act as COLD (R589). -/
def State.resetCtlWrite (s : State) (v : Nat) : State :=
  if bits v 24 8 ≠ 0xB5 then s
  else if bit v 1 then s.hostCold
  else if bit v 0 then s.hostWarm
  else s

/-- PROFILE_WRITE: PROFILE at or below the strap is taken, with the CORE step within the new profile's cap; 3 or a profile above the strap
is ignored (R609, R614). -/
def State.profileWrite (s : State) (v : Nat) : State :=
  let p := bits v 0 2
  if p = 3 ∨ s.fld MG_PWRSTAT_STRAP < p then s
  else
    let old := s.fld MG_PWRSTAT_PROFILE
    let step := s.fld MG_THRSTAT_STEP
    let s := (s.setFld MG_PWRCFG_PROFILE p).setFld MG_PWRSTAT_PROFILE p
    s.setFld MG_THRSTAT_STEP (if step = 2 - old then 2 - p else max step (2 - p))

end Sys2Proof.Machine
end

