-- ==== Sys2Proof/Machine/Registers.lean ====
section
/-! DEFINITION. The register port: reads with their live fields, writes under the access types and the restrictions of each register, the
two halves of 64-bit registers, and the register portal of the Pen window (R2, R8, R10, R16, R64, R468, R469). -/

namespace Sys2Proof.Machine

/-! ## The register map -/

/-- Whether an address lies in a window that the ordering code lacks (R1, R64): ENC2 and ENC3, and the field I/O block. -/
def State.absent (s : State) (a : Nat) : Bool :=
  decide (s.variant = .n) && (decide (0x43001200 ≤ a ∧ a < 0x43001400) || decide (0x4D000000 ≤ a ∧ a < 0x4E000000))

/-- The register at an address, where the module has it (R2). -/
def State.regAt (s : State) (a : Nat) : Option RegDesc := if s.absent a then none else descAt a

/-- The 64-bit register whose high word lies at an address (R64). -/
def State.highOf (s : State) (a : Nat) : Option RegDesc :=
  if a < 4 then none
  else match s.regAt (a - 4) with
    | some d => if d.width = 64 then some d else none
    | none => none

/-- The numbers of a register's windows at an address. -/
def RegDesc.win (d : RegDesc) (a : Nat) : Nat := (a - d.addr) / d.dim1.1
def RegDesc.sub (d : RegDesc) (a : Nat) : Nat := ((a - d.addr) % d.dim1.1) / d.dim2.1

/-! ## Reads -/

/-- ID_PART as the module reads it (R11). -/
def State.partWord (s : State) : Nat := 0x32600000 + (match s.variant with | .f => 0x100 | .n => 0x200) + Config.stepping % 256

/-- The word that a register's stored fields spell; WO fields read zero (R8). -/
def State.storedWord (s : State) (d : RegDesc) (a : Nat) : Nat :=
  ((d.fields.filter fun f => decide (f.acc ≠ Acc.wo)).map fun f => s.fld (f.fld a) * 2 ^ f.lo).sum

/-- CR_STAT of a core (R282): its state, the depth of its queue, the opcode and the client of its current command. -/
def State.coreStat (s : State) (k : Nat) : Nat :=
  let c := s.core k
  let st := if s.isOn (CR_FENCE_FENCED k) then 4 else match c.xfer with
    | .save _ => 2
    | .restore _ => 3
    | .none => if c.queue.isEmpty then 0 else 1
  let head := match s.headCmd k with
    | some (_, x, m) => dOp m.desc * 256 + x.client
    | none => 0
  st * 2 ^ 29 + c.queue.length % 64 * 2 ^ 16 + head

/-- The BUSY, IS_STREAM and RACE fields of LB_USTAT (R244). -/
def State.unitStat (s : State) (u : Nat) : Nat :=
  let on := if s.lambUnit u = .idle then 0 else s.clk.enc - Tab.get 0 s.lamb.since u
  (match s.lambUnit u with
  | .idle => 0
  | .stream i => 3 * 2 ^ 62 + (s.slot i).race * 2 ^ 48
  | .command _ => 2 ^ 63) + (Tab.get 0 s.lamb.busy u + on) / 200 % 2 ^ 32

/-- LINK of HP_STAT (R476): 1 to 4 while the port answers. -/
def State.hostLink (s : State) : Nat :=
  if s.host.held then 0
  else if s.host.lost then 4
  else if s.host.asleep then 3
  else if s.host.down then 2
  else 1

/-- The value of a register: its stored fields, with the fields that follow the machine's state computed. -/
def State.regRead (s : State) (d : RegDesc) (a : Nat) : Nat :=
  let w := s.storedWord d a
  let i := d.win a
  if d.addr = ID_PART then s.partWord
  else if d.addr = PS_POS 0 then toU 64 (s.posOf i)
  else if d.addr = TM_TIME then s.clk.dev
  else if d.addr = TM_BW then s.clk.bw
  else if d.addr = CR_STAT 0 then s.coreStat i
  else if d.addr = SH_STAT then s.coresUp.length * 2 ^ 25 + s.jobIds.length * 2 ^ 16 + s.sbUsed
  else if d.addr = CR_PERF 0 then w + (s.core i).busyAt s.clk.enc / 200 % 2 ^ 32
  else if d.addr = LB_USTAT 0 then s.unitStat i
  else if d.addr = DM_CHSTAT 0 then w % 2 ^ 62 + s.dmaState i * 2 ^ 62
  else if d.addr = HP_STAT then w % 2 ^ 29 + s.hostLink * 2 ^ 29
  else if d.addr = FO_STAT then w % 2 ^ 51 + s.slotsInUse.length * 2 ^ 51
  else w

/-- A 32-bit word of the read-only windows: Tally slots (R353), ring descriptors (R445), OTP (R568). -/
def State.windowWord (s : State) (a : Nat) : Option Nat :=
  if 0x49100000 ≤ a ∧ a < 0x49140000 then some (dLe ((s.slot ((a - 0x49100000) / 64)).bytes) ((a - 0x49100000) % 64) 4)
  else if 0x4B100000 ≤ a ∧ a < 0x4B180000 then some (dLe ((s.ring ((a - 0x4B100000) / 64)).bytes) ((a - 0x4B100000) % 64) 4)
  else if 0x4E003000 ≤ a ∧ a < 0x4E004000 then
    some (ofLe ((List.range 4).map fun k => s.otpShown (a - 0x4E003000 + k)))
  else none

/-- The key of an agent's word for a register (R64): agent 0 is the register portal, 1 to 4 are the control processors. -/
def halfKey (agent a : Nat) : Nat := agent * 2 ^ 32 + a

/-- REG64_LOW_READ: the low word of a 64-bit register is read, and its high word captured for the agent (R64). -/
def State.reg64LowRead (s : State) (agent a : Nat) : State × Nat :=
  match s.regAt a with
  | some d =>
    let v := s.regRead d a
    if d.width = 64 then
      ({ s with halves := { s.halves with captured := Tab.set none s.halves.captured (halfKey agent a) (some (v / 2 ^ 32)) } }, v % 2 ^ 32)
    else (s, v)
  | none => (s, 0)

/-- A 32-bit read at a multiple of 4: an unassigned offset reads zero (R2); a high word comes from the captured value where one is
held (R64). -/
def State.read32 (s : State) (agent a : Nat) : State × Nat :=
  match s.windowWord a with
  | some v => (s, v)
  | none =>
    match s.regAt a with
    | some _ => s.reg64LowRead agent a
    | none => match s.highOf a with
      | some d =>
        match Tab.get none s.halves.captured (halfKey agent (a - 4)) with
        | some v => ({ s with halves := { s.halves with captured := Tab.set none s.halves.captured (halfKey agent (a - 4)) none } }, v)
        | none => (s, s.regRead d (a - 4) / 2 ^ 32)
      | none => (s, 0)

/-- A 64-bit read at a multiple of 8 is the two 32-bit reads in one: of a 64-bit register the low word captures the high word, and the high
word takes what was captured (R64, R469). -/
def State.read64 (s : State) (agent a : Nat) : State × Nat :=
  let (s, lo) := s.read32 agent a
  let (s, hi) := s.read32 agent (a + 4)
  (s, lo + hi * 2 ^ 32)

/-! ## Generic writes -/

/-- One field of a register write under R8: an RW field takes a value in its range, a W1C field is cleared by a 1; the bits of a
field that stand in the `lock` mask keep their values. -/
def writeField (a v lock : Nat) (s : State) (f : FDesc) : State :=
  let m := bits lock f.lo f.w
  if m = 2 ^ f.w - 1 then s
  else match f.acc with
    | .rw =>
      let x := if m = 0 then bits v f.lo f.w else (bits v f.lo f.w - (bits v f.lo f.w &&& m)) + (s.fld (f.fld a) &&& m)
      if limOk f.lim f.w x then s.setFld (f.fld a) x else s
    | .w1c => if bit v f.lo then s.setFld (f.fld a) 0 else s
    | _ => s

/-- REGISTER_WRITE under R8: every field of the register, but for those that a restriction locks. -/
def State.plainWrite (s : State) (d : RegDesc) (a v lock : Nat) : State := d.fields.foldl (writeField a v lock) s

/-- All bits of a register. -/
def allBits : Nat := 2 ^ 64 - 1

/-- A mask where a condition holds. -/
def lockIf (b : Bool) (m : Nat) : Nat := if b then m else 0

/-- Whether an enabled race uses a view (R176). -/
def State.viewDrawn (s : State) (v : Nat) : Bool :=
  (List.range 16).any fun r => s.raceOn r && (s.raceViews r).any fun p => decide (s.rview r p = v)

/-- The bits of a register that a write by an agent leaves as they are, by the register's own rule: host software may write a configuration
field only while its unit is disabled (R59, R76, R77, R81, R112, R113, R138, R176, R241, R329, R376, R410, R415, R416, R418, R421,
R450, R531). -/
def State.lockMask (s : State) (agent : Nat) (d : RegDesc) (a : Nat) : Nat :=
  let i := d.win a
  let b := d.addr
  let race := s.isOn (PX_RCFG_EN i)
  let view := s.isOn (IN_VIEWCFG_EN i)
  let client := s.isOn (SH_CCFG_EN i)
  if b = PS_TRGSTART 0 ∨ b = PS_TRGNUM 0 then lockIf (s.isOn (PS_TRGCFG_EN i)) allBits
  else if b = PS_THCFG then lockIf (decide (s.variant = .n)) 0xC
  else if b = PS_THBASE then lockIf (decide (s.fld PS_THCFG_TH_EN ≠ 0)) allBits
  else if b = LN_PORTADDR 0 ∨ b = LN_PORTIP 0 then lockIf (decide (s.fld (LN_LANESTAT_STATE i) = 4)) allBits
  else if b = IN_STRCFG 0 then lockIf (s.isOn (IN_STRCFG_EN i)) allBits ||| 2 ^ 31
  else if b = IN_STRGEOM 0 ∨ b = IN_STRCHUNK 0 then lockIf (s.isOn (IN_STRCFG_EN i)) allBits
  else if b = IN_VIEWCFG 0 then lockIf view allBits ||| 2 ^ 31
  else if b = IN_VIEWYOFS 0 ∨ b = IN_VIEWEXPO 0 then lockIf view allBits
  else if b = PX_VCFG 0 ∨ b = PX_VSTRIP 0 ∨ b = PX_VSET 0 ∨ b = PX_VLS 0 ∨ b = PX_VPITCH 0 then lockIf (view || s.viewDrawn i) allBits
  else if b = PX_RCFG 0 then lockIf race allBits ||| 2 ^ 31 ||| lockIf (decide (s.variant = .n)) (2 ^ 30)
  else if b = PX_RVIEW 0 0 ∨ b = PX_RGEOM 0 ∨ b = PX_RSEG 0 ∨ b = PX_RSENS 0 ∨ b = PX_RLEN 0 ∨ b = PX_RTILE 0 ∨ b = LB_RSTEM 0 0 ∨
      b = LB_RSTEMOUT 0 ∨ b = FO_RGEOM 0 ∨ b = FO_RBIN 0 ∨ b = FO_RRING 0 ∨ b = TM_RPAIR 0 then lockIf race allBits
  else if b = FO_RCFG 0 then lockIf race (7 * 2 ^ 29)
  else if b = SH_SAVE then lockIf (decide (agent = 0)) allBits
  else if b = SH_CFG then lockIf (decide (agent = 0)) 0x1F
  else if b = SH_CCFG 0 then lockIf client (allBits - (2 ^ 63 + 0x3FF * 2 ^ 38))
  else if b = SH_CPROG 0 ∨ b = SH_CSCR 0 ∨ b = SH_CRING 0 ∨ b = FO_CCFG 0 ∨ b = FO_RULE 0 0 then lockIf client allBits
  else if b = TM_CFG ∨ b = TM_PORTS then lockIf (s.isOn TM_CFG_PTP_EN) allBits
  else if b = TM_RATE then lockIf (s.isOn TM_CFG_ROLE) allBits
  else if b = TM_BWCFG ∨ b = TM_LAUNCH then lockIf (s.isOn TM_LAUNCHCFG_ARM) allBits
  else if b = DM_CHCFG 0 then lockIf (decide (agent = 0)) (2 ^ 62) ||| lockIf (s.isOn (DM_CHCFG_EN i)) (2 ^ 62 - 1)
  else if b = MG_CANDCFG then lockIf (decide (s.fld MG_PKGSTAT_SLOTSTATE ≠ 0)) allBits
  else 0

/-! ## Registers with a rule of their own -/

/-- FO_OCFG_WRITE: a write of the whole register, ignored as a whole where it would take MODE from GATE while the queue holds an entry, a
pulse is on or an enabled race names the output (R384, R385). -/
def State.ocfgWrite (s : State) (o v : Nat) : State :=
  let g := s.gout o
  let m := bits v 62 2
  if s.fld (FO_OCFG_MODE o) = 1 ∧ m ≠ 1 ∧ m ≠ 3 ∧ (g.queue ≠ [] ∨ g.pulses ≠ [] ∨ s.namedOn o = true) then s
  else match descAt (FO_OCFG o) with
    | some d => s.plainWrite d (FO_OCFG o) v 0
    | none => s

/-- A write of FO_RCFG is ignored where DEFAULT names a bin mapped to an output that is not in MODE GATE (R385). -/
def State.rcfgFoWrite (s : State) (d : RegDesc) (a v lock : Nat) : State :=
  let r := d.win a
  let bin := bits v 26 3
  let bad : Bool := match s.binOut r bin with
    | some o => decide (1 ≤ bin) && decide (s.fld (FO_OCFG_MODE o) ≠ 1)
    | none => false
  if bad then s
  else
    let lock := lock ||| lockIf (decide (s.variant = .n ∧ 2 ≤ bits v 29 3)) (7 * 2 ^ 29)
    (s.plainWrite d a v lock).encHold

/-- PS_IDXCHK: CHK_EN set while LPR is 0 stays 0 (R67); a check that begins waits for its first index event (R47), and its Z fault is timed
from then on (R45). That LPR counts as the same write leaves it, and that a CHK_EN already 1 is cleared where LPR is written 0, are the
model's choice (log entry 164). -/
def State.idxChkWrite (s : State) (d : RegDesc) (a v : Nat) : State :=
  let e := d.win a
  let was := s.isOn (PS_IDXCHK_CHK_EN e)
  let s := s.plainWrite d a v 0
  let s := if s.fld (PS_IDXCHK_LPR e) = 0 then s.setFld (PS_IDXCHK_CHK_EN e) 0 else s
  if !was && s.isOn (PS_IDXCHK_CHK_EN e) then s.setEnc e { s.enc e with base := false, chkSince := s.clk.enc } else s

/-- IN_STRCFG: a write that would enable one of streams 12 to 15 while the drove link is enabled is ignored as a whole (R115). -/
def State.strCfgWrite (s : State) (d : RegDesc) (a v lock : Nat) : State :=
  let n := d.win a
  if bit v 31 && decide (12 ≤ n) && s.isOn LN_DRVCFG_EN then s else (s.plainWrite d a v lock).streamEn n (bit v 31)

/-- SH_CCFG: EN set while SHARES is 0 in a class other than REALTIME stays 0 (R334). -/
def State.ccfgWrite (s : State) (d : RegDesc) (a v lock : Nat) : State :=
  let c := d.win a
  let was := s.isOn (SH_CCFG_EN c)
  let s := s.plainWrite d a v lock
  if !was && decide (s.fld (SH_CCFG_CLASS c) ≠ 0) && decide (s.fld (SH_CCFG_SHARES c) = 0) then s.setFld (SH_CCFG_EN c) 0 else s

/-- A request register takes its fields, and a changed SEQ submits a request (R533, R572, R574). -/
def State.requestWrite (s : State) (d : RegDesc) (a v : Nat) (seq : Fld) (submit : State → State) : State :=
  let old := s.fld seq
  let s := s.plainWrite d a v 0
  if s.fld seq = old then s else submit s

/-- A package request waits for the firmware. -/
def State.queuePkg (s : State) : State :=
  { s with pkg := { s.pkg with queue := s.pkg.queue ++ [{
      op := s.fld MG_PKGREQ_OP, slot := s.fld MG_PKGREQ_SLOT, client := s.fld MG_PKGREQ_CLIENT, auto := s.isOn MG_PKGREQ_AUTO_START
      seq := s.fld MG_PKGREQ_SEQ }] } }

/-- An identity request waits. -/
def State.queueId (s : State) : State :=
  { s with ident := { s.ident with queue := s.ident.queue ++ [{ op := s.fld MG_IDREQ_OP, dest := s.fld MG_IDREQ_DEST, seq := s.fld MG_IDREQ_SEQ }] } }

/-- A recovery request waits. -/
def State.queuePad (s : State) : State :=
  { s with image := { s.image with recovery := s.image.recovery ++ [{
      op := s.fld MG_PADREQ_OP, len := s.fld MG_PADREQ_LEN, ofs := s.fld MG_PADREQ_IMG_OFS64, seq := s.fld MG_PADREQ_SEQ }] } }

/-- HP_STAT_CLEAR: a 1 written to HOST_LOST clears it and bit 2 of the heartbeat's FLAGS (R476). -/
def State.hpStatClear (s : State) (v : Nat) : State :=
  if bit v 28 then
    let s := s.setFld HP_STAT_HOST_LOST 0
    { s with host := { s.host with flag2 := false } }
  else s

/-- SH_SEM_WRITE: a semaphore takes a value (R340). -/
def State.semWrite (s : State) (i v : Nat) : State := s.setFld (SH_SEM_VALUE i) v

/-- A write of a register's whole value by an agent: the registers whose write is a command of its own act as that command does, the
others under R8 with their restrictions. -/
def State.regWrite (s : State) (agent : Nat) (d : RegDesc) (a v : Nat) : State :=
  let i := d.win a
  let b := d.addr
  let lock := s.lockMask agent d a
  if b = PS_ENCCFG 0 then s.encCfgWrite i v
  else if b = PS_IDXCHK 0 then s.idxChkWrite d a v
  else if b = PS_ENCCTL 0 then
    let s := if bit v 1 then s.clrFail i else s
    if bit v 0 then s.clrDrift i else s
  else if b = PS_TRGCFG 0 then s.trgCfgWrite i v
  else if b = PS_TRGDIV 0 then s.trgDivWrite i v
  else if b = PS_TRGSTAT 0 then s.trgStatClear i v
  else if b = LN_LANECFG 0 then s.laneCfgWrite i v
  else if b = LN_DRVCFG then s.drvCfgWrite v
  else if b = IN_STRCFG 0 then s.strCfgWrite d a v lock
  else if b = IN_STRGEOM 0 then s.plainWrite d a v (lock ||| lockIf (decide (bits v 0 17 % widthStep (s.fld (IN_STRCFG_PIXFMT i)) ≠ 0)) (2 ^ 17 - 1))
  else if b = IN_STRCTL 0 then s.strctlSetup i v
  else if b = IN_VIEWCFG 0 then (s.plainWrite d a v lock).viewEn i (bit v 31)
  else if b = IN_RPLCFG then s.replayEnable v
  else if b = IN_RPLCTL then s.replayClear v
  else if b = PX_EPOCHCTL then
    if bit v 0 then s.approve else if bit v 1 then s.discard else s
  else if b = PX_VCFG 0 then (s.plainWrite d a v lock).grazeIdle
  else if b = PX_RCFG 0 then
    let s := s.plainWrite d a v lock
    if bit v 31 = s.raceOn i then s else s.raceEnable i (bit v 31)
  else if b = SH_CFG then (s.plainWrite d a v lock).coresHold
  else if b = SH_CCFG 0 then s.ccfgWrite d a v lock
  else if b = SH_CCTL 0 then if bit v 0 then s.readmit i else s
  else if b = SH_SEM 0 then s.semWrite i v
  else if b = FO_RCFG 0 then s.rcfgFoWrite d a v lock
  else if b = FO_OCFG 0 then s.ocfgWrite i v
  else if b = TM_CFG then
    let was := s.isOn TM_CFG_PTP_EN
    let s := s.plainWrite d a v lock
    if was = s.isOn TM_CFG_PTP_EN then s else s.ptpRole
  else if b = TM_PTPOFS then s.ptpOfsWrite v
  else if b = TM_LAUNCHCFG then s.launchArm v
  else if b = DM_CHCTL 0 then
    let s := if bit v 1 then s.dmaAbort i else s
    if bit v 0 then s.dmaResume i else s
  else if b = HP_STAT then s.hpStatClear v
  else if b = FI_OUTCFG then s.outCfgWrite v
  else if b = MG_PKGREQ then s.requestWrite d a v MG_PKGREQ_SEQ State.queuePkg
  else if b = MG_IDREQ then s.requestWrite d a v MG_IDREQ_SEQ State.queueId
  else if b = MG_PADREQ then s.requestWrite d a v MG_PADREQ_SEQ State.queuePad
  else if b = MG_PWRCFG then s.profileWrite v
  else if b = MG_RESETCTL then s.resetCtlWrite v
  else s.plainWrite d a v lock

/-! ## Writes by address -/

/-- REG64_LOW_WRITE: the low word is held for the agent and changes nothing else (R64). -/
def State.reg64LowWrite (s : State) (agent a v : Nat) : State :=
  match s.regAt a with
  | some d =>
    if d.width = 64 then
      { s with halves := { s.halves with staged := Tab.set none s.halves.staged (halfKey agent a) (some (v % 2 ^ 32)) } }
    else s
  | none => s

/-- REG64_HIGH_WRITE: the high word, written at its own address, stores both halves; without a held low word the present low half stands,
with its W1C bits kept and its WO fields idle (R64). -/
def State.reg64HighWrite (s : State) (agent a v : Nat) : State :=
  match s.highOf a with
  | some d =>
    let k := halfKey agent (a - 4)
    let lo := match Tab.get none s.halves.staged k with
      | some w => w
      | none => s.rwWord (a - 4) % 2 ^ 32
    let s : State := { s with halves := { s.halves with staged := Tab.set none s.halves.staged k none } }
    s.regWrite agent d (a - 4) (v % 2 ^ 32 * 2 ^ 32 + lo)
  | none => s

/-- A 32-bit write at a multiple of 4 by an agent; an unassigned offset takes no effect (R2). -/
def State.write32 (s : State) (agent a v : Nat) : State :=
  match s.regAt a with
  | some d => if d.width = 64 then s.reg64LowWrite agent a v else s.regWrite agent d a (v % 2 ^ 32)
  | none => s.reg64HighWrite agent a v

/-- A 64-bit write at a multiple of 8: one value of a 64-bit register, whose held low word is discarded, or two 32-bit writes (R64, R469). -/
def State.write64 (s : State) (agent a v : Nat) : State :=
  match s.regAt a with
  | some d =>
    if d.width = 64 then
      let s : State := { s with halves := { s.halves with staged := Tab.set none s.halves.staged (halfKey agent a) none } }
      s.regWrite agent d a (v % 2 ^ 64)
    else (s.write32 agent a v).write32 agent (a + 4) (v / 2 ^ 32)
  | none => (s.write32 agent a v).write32 agent (a + 4) (v / 2 ^ 32)

/-- REGISTER_WRITE: a 32-bit write by an agent at a multiple of 4. -/
def State.registerWrite (s : State) (agent a v : Nat) : State := if a % 4 = 0 then s.write32 agent a v else s

/-- REG64_LOW_READ: an agent reads a low word; the high word is captured for its next read, and the word stands with the agent (R64). -/
def State.agentRead (s : State) (agent a : Nat) : State :=
  let (s, v) := s.reg64LowRead agent a
  { s with halves := { s.halves with data := Tab.set 0 s.halves.data agent v } }

/-! ## The register portal -/

/-- Whether the unit behind a register block answers (R469, R474, R556): in Paddock mode identification and management alone; in a warm start
not the Intake and the pixel pipeline, and from step 3 not the cores, the Lamb engine, the Shepherd and the rings. -/
def State.answers (s : State) (blk : Nat) : Bool :=
  match s.phase with
  | .paddock => decide (blk = 0x0 ∨ blk = 0xE)
  | .warm k => !(decide (blk = 0x2 ∨ blk = 0x5) || (decide (3 ≤ k) && decide (blk = 0x6 ∨ blk = 0x7 ∨ blk = 0x8 ∨ blk = 0xB)))
  | .cold k => decide (8 < k) || decide (blk = 0x0 ∨ blk = 0xE)
  | _ => true

/-- The address of portal slot `n` (R460, R468). -/
def portalSlot (n : Nat) : Nat := penBase + 0x1000 + 64 * n

/-- A request's fields (R468). -/
def PortalReq.addr (q : PortalReq) : Nat := dLe q.body 0 8
def PortalReq.data (q : PortalReq) : Nat := dLe q.body 8 8
def PortalReq.op (q : PortalReq) : Nat := dByte q.body 17

/-- The status that a request comes to before it is performed (R469): 4 ILLEGAL, 1 ALIGN, 2 RANGE, 3 TIMEOUT, else 0. -/
def State.portalStatus (s : State) (q : PortalReq) : Nat :=
  let wide := decide (2 ≤ q.op)
  if 4 ≤ q.op ∨ q.addr / 2 ^ 32 ≠ 0 ∨ dZero q.body 18 14 = false ∨ (q.op = 1 ∧ q.data / 2 ^ 32 ≠ 0) then 4
  else if q.addr % (if wide then 8 else 4) ≠ 0 then 1
  else if q.addr < 0x40000000 ∨ 0x4EFFFFFF < q.addr then 2
  else if s.answers (q.addr / 2 ^ 24 % 16) then 0
  else 3

/-- The response half is written, and the slot is free for its next request (R468, R469). -/
def State.portalRespond (s : State) (q : PortalReq) (status data : Nat) : State :=
  (s.write (portalSlot q.slot + 32) (leBytes 1 (dByte q.body 16) ++ leBytes 1 status ++ leBytes 6 0 ++ leBytes 8 data ++ leBytes 8 s.clk.dev ++
    leBytes 8 0)).1

/-- The oldest portal request is performed where its operation is `op`, or is none of the four (R469); a block that does not answer takes
100 µs. -/
def State.portalRun (s : State) (op : Nat) (act : State → PortalReq → State × Nat) : State :=
  match s.host.portal with
  | [] => s
  | q :: rest =>
    if q.op ≠ op ∧ q.op < 4 then s
    else
      let s : State := { s with host := { s.host with portal := rest } }
      match s.portalStatus q with
      | 0 =>
        let (s, v) := act s q
        s.portalRespond q 0 v
      | 3 => (s.advance 20000).portalRespond q 3 0
      | st => s.portalRespond q st 0

/-- READ32, WRITE32, READ64 and WRITE64 of the register portal (R469). -/
def State.portalRead32 (s : State) : State := s.portalRun 0 fun s q => s.read32 0 q.addr
def State.portalWrite32 (s : State) : State := s.portalRun 1 fun s q => (s.write32 0 q.addr q.data, 0)
def State.portalRead64 (s : State) : State := s.portalRun 2 fun s q => s.read64 0 q.addr
def State.portalWrite64 (s : State) : State := s.portalRun 3 fun s q => (s.write64 0 q.addr q.data, 0)

end Sys2Proof.Machine
end

