-- ==== Sys2Proof/Machine/Load.lean ====
section
/-! DEFINITION. The configuration loader: the verification of an image, its acceptance, its records and packages at a cold and at a warm
start, and the identity step of a cold start (R26, R96, R164, R283, R550 to R555, R562, R563). -/

namespace Sys2Proof.Machine

/-! ## Verification -/

/-- MG_CFGSTAT takes a failure (R553, R569). -/
def State.cfgFail (s : State) (b : Bad) : State :=
  (((((s.setFld MG_CFGSTAT_STAGE b.stage).setFld MG_CFGSTAT_CODE b.code).setFld MG_CFGSTAT_CHECK b.check).setFld MG_CFGSTAT_REC_TYPE b.typ).setFld
    MG_CFGSTAT_REC_INDEX b.idx).setFld MG_CFGSTAT_OFFSET b.ofs

/-- The records of a section that passes STRUCTURE; none of one that does not. -/
def recsOf (sec : List Byte) : List Rec := match readRecs sec with
  | .ok l => l
  | .error _ => []

/-- The first package of a section that fails, under the section's own key (R518, R554 step 5). -/
def packsBad (sec : List Byte) : Option Bad :=
  (packRecs (recsOf sec) sec).findSome? fun p => (packFlaw p.2 (custPub sec)).map fun c => ⟨4, c, 0, p.1.typ, p.1.idx, p.1.ofs / 8⟩

/-- Steps 3 to 6 of R554 on two sections against the hashes of a header: the first failure. -/
def State.imageBad (s : State) (h : ImgHdr) (fw sec : List Byte) : Option Bad :=
  match s.fwFlaw fw h.fwHash with
  | some c => some ⟨2, c, 0, 0, 0, 0⟩
  | none => match s.custFlaw sec h.custHash with
    | some c => some ⟨3, c, 0, 0, 0, 0⟩
    | none => match packsBad sec with
      | some b => some b
      | none => rangeBad s.variant fw sec

/-- The sections of the flash under a header, and those of the image copy. -/
def State.flashSections (s : State) (h : ImgHdr) : List Byte × List Byte := (s.flashN fwOfs h.fwLen, s.flashN custOfs h.custLen)
def State.copySections (s : State) (h : ImgHdr) : List Byte × List Byte := (s.copyN fwOfs h.fwLen, s.copyN custOfs h.custLen)

/-- The image copy takes two sections (R428, R554). -/
def State.fillCopy (s : State) (fw sec : List Byte) : State := (s.place (copyBase + fwOfs) fw).place (copyBase + custOfs) sec

/-- The identity fields of the identity and heartbeat page (R463). -/
def State.writePage (s : State) : State :=
  let gen := s.fld ID_IMGGEN_IMG_GEN_MIN + 256 * s.fld ID_IMGGEN_IMG_GEN_MAX
  let arch := s.fld ID_ARCH_ARCH_GEN + 65536 * s.fld ID_ARCH_DESC_VERS
  ((s.write (penBase + 0x10) (leBytes 4 s.partWord ++ leBytes 4 arch)).1.write (penBase + 0x18) (leBytes 4 gen)).1.write (penBase + 0x20)
    (s.eepromN 6 8) |>.1

/-- An image is accepted from a source (1 flash, 2 image copy): MG_CFGSTAT, ID_IMGGEN, the copy's hashes, VKEY (R13, R555, R569, R570). -/
def State.acceptImage (s : State) (h : ImgHdr) (copy : Nat) (fw sec : List Byte) (source : Nat) : State :=
  let s := ((s.cfgFail ⟨0, 0, 0, 0, 0, 0⟩).setFld MG_CFGSTAT_LOADED 1).setFld MG_CFGSTAT_SOURCE source
  let s := ((s.setFld ID_IMGGEN_IMG_GEN_MIN (dByte sec 1)).setFld ID_IMGGEN_IMG_GEN_MAX (dByte sec 2)).setFld MG_LIFE_VKEY (dByte fw 3)
  State.writePage { s with image := { s.image with
      copyOk := true, fwHash := h.fwHash, custHash := h.custHash, hdrSeq := h.seq, hdrCopy := copy, runFw := h.fwHash, runCust := h.custHash } }

/-- The configuration read of a cold start (R554): the image copied, checked, its burns made; the second component tells whether it is
accepted. `reads`: every burn reads back. -/
def State.configRead (s : State) (reads : Bool) : State × Bool :=
  if s.lifeNow = 4 then (s.cfgFail ⟨0, 15, 0, 0, 0, 0⟩, false)
  else match (if s.image.fitted then s.flashHdr else none) with
    | none => (s.cfgFail ⟨1, codeFormat, 0, 0, 0, 0⟩, false)
    | some (h, n) =>
      let (fw, sec) := s.flashSections h
      let s := s.fillCopy fw sec
      match s.imageBad h fw sec with
      | some b => (s.cfgFail b, false)
      | none => match s.imageBurns fw sec reads with
        | (s, false) => (s.loadLife.cfgFail ⟨6, codeKey, 0, 0, 0, 0⟩, false)
        | (s, true) => (s.loadLife.acceptImage h n fw sec 1, true)

/-- The header in force, with both sections as the image copy holds them. -/
def State.imageNow (s : State) : List Byte × List Byte := match s.flashHdr with
  | some (h, _) => s.copySections h
  | none => ([], [])

/-! ## Records -/

/-- The base MAC address of the ID EEPROM (R562). -/
def State.baseMac (s : State) : Nat := ofBe (s.eepromN 0 6)

/-- A lane without a MAC of its own takes the base MAC plus its number (R96). -/
def State.laneMac (s : State) (l : Nat) : State :=
  if s.fld (LN_PORTADDR_MAC l) = 0 then s.setFld (LN_PORTADDR_MAC l) ((s.baseMac + l) % 2 ^ 48) else s

/-- The camera setup record of a stream (R550). -/
def State.loadCamera (s : State) (n : Nat) (b : List Byte) : State :=
  let k := dLe b 4 4
  s.setLane n { s.lane n with
    hbTimeout := if b.isEmpty then 3000 else dLe b 0 4
    writes := (List.range k).map fun i => (dLe b (8 + 8 * i) 4, dLe b (12 + 8 * i) 4) }

/-- The correction tables of a view put into a bank; without a record every pixel has gain 16,384, dark 0 and no defect (R154, R550). -/
def State.loadCorrect (s : State) (bank v : Nat) (b : List Byte) : State :=
  let x0 := dLe b 0 4
  let n := dLe b 4 4
  let key (x : Nat) := bank * 2 ^ 21 + v * 2 ^ 17 + x
  let mine (k : Nat) : Bool := decide (k / 2 ^ 17 = bank * 16 + v)
  let s : State := { s with px := { s.px with
    gain := Tab.keep (fun k _ => !mine k) s.px.gain
    dark := Tab.keep (fun k _ => !mine k) s.px.dark
    dyn := Tab.keep (fun k _ => !mine k) s.px.dyn
    static_ := Tab.keep (fun k _ => !decide (k / 2 ^ 17 = v)) s.px.static_ } }
  (List.range n).foldl (fun s i =>
    let w := dLe b (8 + 4 * i) 4
    { s with px := { s.px with
        gain := Tab.set 16384 s.px.gain (key (x0 + i)) (w / 65536)
        dark := Tab.set 0 s.px.dark (key (x0 + i)) (sx 16 w)
        static_ := Tab.set false s.px.static_ (v * 2 ^ 17 + x0 + i) (bit (dLe b (8 + 4 * n + 4 * (i / 32)) 4) (i % 32)) } }) s

/-- The semaphores take their initial values (R321). -/
def State.loadSemas (s : State) (b : List Byte) : State :=
  let init := (List.range 256).foldl (fun (t : Tab Nat) i => Tab.set 0 t i (dLe b (4 * i) 4)) []
  let s : State := { s with shep := { s.shep with semInit := init } }
  (List.range 256).foldl (fun s i => s.setFld (SH_SEM_VALUE i) (dLe b (4 * i) 4)) s

/-- The initial drove credits (R104). -/
def droveCredits (b : List Byte) : Tab Nat := (List.range 18).foldl (fun t c => Tab.set 0 t c (dByte b (4 + c))) []

/-- Descriptor `k` of a ring record, with its indices at zero. -/
def Rec.ringAt (r : Rec) (k : Nat) : Ring := readRing ((r.body.drop (64 * k)).take 64)

/-- What a record holds beside its register words: rings, semaphores, credits, camera setup, correction tables. `bank`: the bank that
correction tables go to. -/
def State.loadExtra (s : State) (r : Rec) (bank : Nat) : State :=
  match r.typ with
  | 0x02 => s.loadSemas r.body
  | 0x03 => (List.range (r.body.length / 64)).foldl (fun s k => s.putRing (r.idx + k) (r.ringAt k)) s
  | 0x09 => { s with drove := { s.drove with initial := droveCredits r.body } }
  | 0x0C => s.loadCamera r.idx r.body
  | 0x0E => s.loadCorrect bank r.idx r.body
  | _ => s

/-- A record's register words, each with its EN field clear (R551). -/
def State.loadWords (s : State) (r : Rec) : State :=
  r.words.foldl (fun s p => s.setWord p.1.addr p.2 (match p.1.en with | some k => 2 ^ k | none => 0)) s

/-- The EN fields that a record holds are set: each unit begins as a write of its register makes it begin (R551). -/
def State.enableRecord (s : State) (r : Rec) : State :=
  r.words.foldl (fun s p =>
    if enabledBy p then match descAt p.1.addr with
      | some d => s.regWrite 1 d p.1.addr p.2
      | none => s
    else s) s

/-- The slot quotas of the races that have a record (R26). -/
def State.loadQuotas (s : State) (l : List Rec) : State :=
  { s with fold := { s.fold with quota := (racesOf l).foldl (fun t r => Tab.set 0 t r (s.quotaOf r)) [] } }

/-- What a later warm start compares with: the types and indices of the image's records, and the bodies of those that it compares (R123,
R175). -/
def State.noteRecs (s : State) (l : List Rec) : State :=
  { s with image := { s.image with
      recs := l.map fun r => (r.typ, r.idx)
      bodies := (l.filter fun r => decide (r.typ = 0x03 ∨ r.typ = 0x0C ∨ r.typ = 0x0E)).foldl
        (fun t r => Tab.set [] t (r.typ * 8192 + r.idx) r.body) [] } }

/-! ## Packages -/

/-- The site of a PACKAGE record with the host bases in force (R517, R534). -/
def State.siteOf (s : State) (r : Rec) : Site :=
  let hb (i : Nat) := (0x10000 * s.fld (MG_PKGHB_ADDR i), 0x10000 * s.fld (MG_PKGHB_LEN i))
  r.site (hb 0) (hb 1)

/-- A PACKAGE record's package is placed and bound to its client; a REALTIME client's race takes its stem slot (R550). -/
def State.loadPack (s : State) (r : Rec) (b : List Byte) (banks : Bool) : State :=
  let p := readPack b
  let t := s.siteOf r
  let c := dByte r.body 0
  let s := s.placePack p b ((p.relocate b t).getD b) t banks
  let s := s.installClient c p b t
  if s.clientClass c = .realtime then
    s.writeStem (s.fld (SH_CCFG_RACE c)) (match p.find 6 with
      | some x => x.bytes b
      | none => [])
  else s

/-- The factory fence map is applied (R283). -/
def State.applyFences (s : State) : State :=
  let m := ofLe s.fenceMap
  ((List.range 16).foldl (fun s k =>
    if m.testBit k then ((s.setFld (CR_FENCE_FENCED k) 1).setFld (CR_FENCE_FACTORY k) 1).setFld (CR_FENCE_CAUSE k) 1 else s) s).coresHold

/-- The model load of a cold start (R582 step 7): records applied with EN clear, then their EN fields but for those of triggers and races,
packages placed, the first build begun (R163), factory fences applied. -/
def State.coldLoad (s : State) : State :=
  let sec := s.imageNow.2
  let l := sortRecs (recsOf sec)
  let s := l.foldl (fun s r => (s.loadWords r).loadExtra r 0) s
  let s := (List.range 16).foldl State.laneMac s
  let s := (s.loadQuotas l).noteRecs l
  let s := (packRecs l sec).foldl (fun s p => s.loadPack p.1 p.2 true) s
  let s := (l.filter fun r => decide (r.typ ≠ 0x07 ∧ r.typ ≠ 0x13)).foldl State.enableRecord s
  s.grazeIdle.applyFences

/-- The races and trigger outputs whose records carry EN start (R582 step 10). -/
def State.startLine (s : State) : State :=
  let l := sortRecs (recsOf s.imageNow.2)
  (l.filter fun r => decide (r.typ = 0x07 ∨ r.typ = 0x13)).foldl State.enableRecord s

/-! ## The identity step -/

/-- Reservation bits that read 0. -/
def State.resvLeft (s : State) : List Nat :=
  (List.range 4096).filter fun b => !((Tab.get 0 s.image.otp (b / 8)).toNat.testBit (b % 8))

/-- The ID EEPROM's certificate. -/
def State.cert (s : State) : List Byte := s.eepromN 0x104 (min (ofLe (s.eepromN 0x100 4)) 8192)

/-- The checks of the ID EEPROM (R562): the certificate's hash, and the root of the node table. -/
def State.eepromOk (s : State) : Bool :=
  decide (s.otpN 0x4E0 3 = (checkBytes (s.otpN 0x4C0 32)).take 3) && decide (sha s.cert = s.otpN 0x4C0 32) &&
    decide (Config.treeRoot (s.eepromN 0x4000 32768) = Config.certRoot s.cert)

/-- The identity step of a cold start (R560, R562 to R564): the lowest reservation bit is burnt, and bottom tree 0 stands ready. -/
def State.identityStep (s : State) : State :=
  let left := s.resvLeft
  let s := s.setFld MG_IDSTAT_LEFT left.length
  if s.lifeNow = 0 ∨ s.lifeNow = 1 then s.setFld MG_IDSTAT_STATE 0
  else if s.lifeNow = 4 then s.setFld MG_IDSTAT_STATE 3
  else if !s.eepromOk then
    let s := s.setFld MG_IDSTAT_STATE 4
    { s with ident := { s.ident with fault := true } }
  else match left with
    | [] => (s.setFld MG_IDSTAT_STATE 3).raise 0x0E03 (s.fld MG_IDSTAT_RESV_BIT)
    | b :: _ =>
      let s := s.burn (b / 8) [BitVec.ofNat 8 (2 ^ (b % 8))]
      let s := ((s.setFld MG_IDSTAT_RESV_BIT b).setFld MG_IDSTAT_LEFT (left.length - 1)).setFld MG_IDSTAT_STATE 1
      { s with ident := { s.ident with bit_ := some b, tree := 0, spent := 0 } }

/-! ## Warm starts -/

/-- The record types of the line (R552). -/
def lineTypes : List Nat := [0x05, 0x06, 0x07, 0x08, 0x09, 0x0A, 0x0F, 0x10]

/-- The word that a warm start asks of a register: the record's, or reset values where no record stands; a lane without a MAC of its own
asks for the base MAC plus its number (R96, R552). -/
def State.wantedWord (s : State) (r : Option Rec) (k : Nat) (x : RecReg) (l : Nat) : Nat :=
  let w := match r with
    | some r => (r.words.getD k (x, 0)).2
    | none => resetWord x.addr
  if x.addr = LN_PORTADDR l ∧ w % 2 ^ 48 = 0 then w + (s.baseMac + l) % 2 ^ 48 else w

/-- One register of a line record at a warm start, and whether it is left differing (R552). -/
def State.warmWord (s : State) (i : Nat) (r : Option Rec) (q : RecReg × Nat) : State × Bool :=
  let x := q.1
  let w := s.wantedWord r q.2 x i
  match descAt x.addr with
  | some d =>
    let s := s.regWrite 0 d x.addr w
    (s, decide (s.rwWord x.addr ≠ w))
  | none => (s, false)

/-- A line record at a warm start: its registers as host software may write them while the unit runs; a field left differing waits for a
cold start (R552). -/
def State.warmLine (s : State) (t i : Nat) (r : Option Rec) : State :=
  let p := (recRegs t i).zipIdx.foldl (fun (p : State × Bool) q =>
    ((p.1.warmWord i r q).1, p.2 || (p.1.warmWord i r q).2)) (s, false)
  let s := p.1
  let differs := p.2
  let credits := match r with
    | some r => droveCredits r.body
    | none => (({} : Drove)).initial
  let differs := differs || (decide (t = 0x09) && decide (credits ≠ s.drove.initial))
  if differs then (s.setFld MG_CFGSTAT_COLD_PENDING 1).raise 0x0E04 (t * 256 + i) else s

/-- A ring record at a warm start: a ring whose descriptor has not changed keeps its indices (R444, R552); one out of service is rewritten
(R625). -/
def State.warmRings (s : State) (old new : List (Nat × Ring)) : State :=
  let keys := (old.map Prod.fst ++ new.map Prod.fst).eraseDups
  keys.foldl (fun s r =>
    let a := (old.find? fun p => decide (p.1 = r)).map Prod.snd
    let b := (new.find? fun p => decide (p.1 = r)).map Prod.snd
    if a = b ∧ !(s.ring r).out then s else s.putRing r (b.getD {})) s

/-- The ring descriptors of ring record bodies. -/
def ringsIn (l : List (Nat × List Byte)) : List (Nat × Ring) :=
  l.flatMap fun p => (List.range (p.2.length / 64)).map fun k => (p.1 + k, readRing ((p.2.drop (64 * k)).take 64))

/-- The bodies of a type in the image before. -/
def State.oldBodies (s : State) (t : Nat) : List (Nat × List Byte) :=
  (s.image.bodies.filter fun p => decide (p.1 / 8192 = t)).map fun p => (p.1 % 8192, p.2)

/-- The bodies of a type in a list of records. -/
def bodiesOf (l : List Rec) (t : Nat) : List (Nat × List Byte) := (l.filter fun r => decide (r.typ = t)).map fun r => (r.idx, r.body)

/-- A record that is not of the line, in full; an absent one restores reset values (R552). -/
def State.warmPlain (s : State) (t i : Nat) (r : Option Rec) : State :=
  (recRegs t i).zipIdx.foldl (fun s q => s.setWord q.1.addr (s.wantedWord r q.2 q.1 i) 0) s

/-- A race that the new image leaves disabled holds the current epoch (R165). -/
def State.raceRest (s : State) (r : Nat) : State :=
  if s.raceOn r then s else s.setRace r { s.raceSt r with epoch := Tab.get 0 s.px.epochs s.px.cur, defer := 0 }

/-- Records applied at a warm start (R551, R552): every record of the new image, and every one of the image before that is now absent. -/
def State.warmRecords (s : State) (l : List Rec) : State :=
  let gone := s.image.recs.filter fun p => (findRec l p.1 p.2).isNone
  let all := sortRecs (l ++ gone.map fun p => ⟨p.1, p.2, 0, []⟩)
  let s := all.foldl (fun s x =>
    let r := findRec l x.typ x.idx
    if lineTypes.contains x.typ then s.warmLine x.typ x.idx r
    else match x.typ with
      | 0x02 => s.loadSemas (match r with | some r => r.body | none => [])
      | 0x0C => s.loadCamera x.idx (match r with | some r => r.body | none => [])
      | 0x03 | 0x0E | 0x11 => s
      | 0x13 => (s.warmPlain x.typ x.idx r).raceRest x.idx
      | _ => s.warmPlain x.typ x.idx r) s
  let s := s.warmRings (ringsIn (s.oldBodies 0x03)) (ringsIn (bodiesOf l 0x03))
  let l := sortRecs l
  let cams := decide (s.oldBodies 0x0C ≠ bodiesOf l 0x0C)
  let old := s.oldBodies 0x0E
  let new := bodiesOf l 0x0E
  let changed := decide (old ≠ new)
  let s := if changed then
      (List.range 16).foldl (fun s v => s.loadCorrect (1 - s.px.cur) v (((new.find? fun p => decide (p.1 = v)).map Prod.snd).getD [])) s
    else s
  let s : State := { s with start := { s.start with cams := s.start.cams || cams, tables := s.start.tables || changed } }
  ((s.loadQuotas l).noteRecs l).encHold.coresHold

/-- Whether a client holds an ADMITTED candidate (R520). -/
def State.hasCandidate (s : State) (c : Nat) : Bool :=
  [0, 1, 2, 3].any fun k => decide (s.fld MG_PKGSTAT_SLOTSTATE / 4 ^ k % 4 = 2) && decide (Tab.get 64 s.pkg.client k = c)

/-- The shared weight store emptied, its errors with it (R435). -/
def State.clearSws (s : State) : State :=
  { s with mem := Tab.keep (fun a _ => !inSws a) s.mem, marks := Tab.keep (fun a _ => !inSws a) s.marks }

/-- Packages placed at a warm start (R522, R530, R583 step 7): the shared weight store and the resident areas are written again, a bank is
loaded again where its package has changed, and a client whose package has changed leaves SUSPECT; a client that holds a candidate keeps it. -/
def State.warmPacks (s : State) (l : List Rec) (sec : List Byte) : State :=
  let packs := packRecs l sec
  let s := s.clearSws
  let s := (List.range 64).foldl (fun s c =>
    if s.hasCandidate c || packs.any (fun p => decide (dByte p.1.body 0 = c)) || decide (Tab.get [] s.image.pkgHash c = []) then s else s.clearClient c) s
  packs.foldl (fun s p =>
    let c := dByte p.1.body 0
    if s.hasCandidate c then
      let k := readPack p.2
      s.placePack k p.2 ((k.relocate p.2 (s.siteOf p.1)).getD p.2) (s.siteOf p.1) false
    else
      let same := decide (Tab.get [] s.image.pkgHash c = (readPack p.2).hash)
      let s := s.loadPack p.1 p.2 (!same)
      if same then s else s.readmit c) s

/-- Whether an uncorrectable error has struck the image copy (R433, R555). -/
def State.copyStruck (s : State) : Bool :=
  s.marks.any fun p => decide (p.2 = .uncorrectable) && decide (copyBase ≤ p.1 ∧ p.1 < copyBase + 0xF000000)

/-- The flash read under R554 of a warm start, without any burn: the copy is filled again from the flash, or is invalid where the check fails (R555). -/
def State.reread (s : State) : State × Option (ImgHdr × Nat × List Byte × List Byte) :=
  match s.flashHdr with
  | none => (s.cfgFail ⟨1, codeFormat, 0, 0, 0, 0⟩, none)
  | some (h, n) =>
    let (fw, sec) := s.flashSections h
    let s := s.fillCopy fw sec
    match s.imageBad h fw sec with
    | some b => (State.cfgFail { s with image := { s.image with copyOk := false } } b, none)
    | none => (s, some (h, n, fw, sec))

/-- An error that strikes the image copy during a later step has the flash read in its place; the second component tells whether that succeeds
(R586). -/
def State.refreshCopy (s : State) : State × Bool :=
  if !s.copyStruck then (s, true)
  else match s.reread with
    | (s, some _) => (s, true)
    | (s, none) => (s, false)

/-- The header read of a warm start (R555): the image copy is reused where it is valid and its hashes are those of the header in force. -/
def State.warmHeaders (s : State) : State × Bool :=
  match s.flashHdr with
  | none => (s, false)
  | some (h, _) =>
    let reuse := s.image.copyOk && decide (s.image.fwHash = h.fwHash) && decide (s.image.custHash = h.custHash) && !s.copyStruck
    ({ s with start := { s.start with fromFlash := !reuse } }, true)

/-- The checks of a warm start (R555): R553 on the copy, or the whole of R554 on the flash without any burn; the second component tells
whether the image is accepted. -/
def State.warmChecks (s : State) : State × Bool :=
  if s.start.fromFlash || s.copyStruck then
    match s.reread with
    | (s, some (h, n, fw, sec)) => (s.acceptImage h n fw sec 1, true)
    | (s, none) => (s, false)
  else match s.flashHdr with
    | none => (s.cfgFail ⟨1, codeFormat, 0, 0, 0, 0⟩, false)
    | some (h, n) =>
      let (fw, sec) := s.copySections h
      match rangeBad s.variant fw sec with
      | some b => (s.cfgFail b, false)
      | none => (s.acceptImage h n fw sec 2, true)

end Sys2Proof.Machine
end

