-- ==== Sys2Proof/Machine/Steps.lean ====
section
/-! DEFINITION. The steps of a cold and of a warm start as they complete (R582, R583). -/

namespace Sys2Proof.Machine

/-- The enabled streams. -/
def State.streamsOn (s : State) : List Nat := (List.range 16).filter fun n => s.isOn (IN_STRCFG_EN n)

/-- Camera setup of every enabled stream (R123). -/
def State.setupAll (s : State) : State := s.streamsOn.foldl State.setupStart s

/-- The length of the present start in µs, saturating (R591). -/
def State.startUs (s : State) : Nat := min ((s.clk.enc - s.start.t0) / 200) (2 ^ 24 - 1)

/-- The processors run: the sequence checker expects the first pass (R622). -/
def State.restartCps (s : State) : State := { s with health := { s.health with pass := 0, cpu := 0, passes := 0, passTime := s.clk.enc } }

/-- Step 2 of a cold start ends: MG_LIFE loaded, the Pen window clear with its identity fields, the host port answers (R458, R570). -/
def State.bootEnds (s : State) : State :=
  let s := s.loadLife.writePage
  { s with host := { s.host with lastCmd := s.clk.enc, beat := s.clk.dev } }

/-- Step 10 (R582, R587): verdict-ready. Streams still busy are given up first; triggers and races start; WARM_FAIL clears. -/
def State.coldEnds (s : State) : State :=
  let s := s.startLine
  let s : State := { s with phase := .running, start := { s.start with since := s.clk.dev } }
  ((s.setFld MG_START_WARM_FAIL 0).setFld MG_START_DUR_US s.startUs).hold MG_HOLD_START false

/-- COLD_START_STEP_DONE: the present step of R582 ends `dt` ENC cycles after it began, and the next one begins. `fail`: self-test has found a
fault (step 3), DDR5 training has failed (step 4), model load has failed (step 7); `mask`: the Lamb engine units that fail their self-test;
`reads`: every OTP burn of the step reads back. -/
def State.coldStepDone (s : State) (dt : Nat) (fail : Bool) (mask : Nat) (reads : Bool) : State :=
  match s.phase with
  | .cold n =>
    let s := if n = 9 then (s.streamsOn.filter fun i => s.isOn (IN_STRCTL_BUSY i)).foldl State.setupGiveUp s else s
    let s := s.advanceTo (s.start.tStep + dt)
    match n with
    | 1 => s.enterStep (.cold 2)
    | 2 => s.bootEnds.enterStep (.cold 3)
    | 3 => if fail then s.coldFail 3 mask else s.enterStep (.cold 4)
    | 4 => if fail then s.coldFail 4 mask else State.enterStep { s with image := { s.image with ddrUp := true } } (.cold 5)
    | 5 => s.identityStep.enterStep (.cold 6)
    | 6 => match s.configRead reads with
      | (s, true) => s.enterStep (.cold 7)
      | (s, false) => if s.lifeNow = 4 then s.enterPaddock mask else s.coldReject 6 mask
    | 7 =>
      let s := s.coldLoad.lambTest mask
      if fail ∨ mask % 16 ≠ 0 then s.coldFail 7 mask else s.enterStep (.cold 8)
    | 8 => (s.restartCps.enterStep (.cold 9)).setupAll
    | 9 => s.coldEnds
    | _ => s
  | _ => s

/-- The words of R64 held or captured for the control processors are discarded at their restart. -/
def State.dropHalves (s : State) : State :=
  let portal (k : Nat) : Bool := decide (k < 2 ^ 32)
  { s with halves := { staged := Tab.keep (fun k _ => portal k) s.halves.staged, captured := Tab.keep (fun k _ => portal k) s.halves.captured } }

/-- The identity key after the processors' restart: bottom tree and counter stand under a CRC, and a failed CRC ends attestation until the next
cold start (R563). -/
def State.identityRestart (s : State) (crcOk : Bool) : State :=
  if crcOk ∨ s.fld MG_IDSTAT_STATE ≠ 1 then s
  else (s.setFld MG_IDSTAT_STATE 2).raise 0x0E02 (s.fld MG_IDSTAT_RESV_BIT)

/-- The end of step 8 of a warm start: units return to service, what waited for the rings goes on, changed cameras are set up or the control
channels checked, changed correction tables are published (R123, R125, R137, R175, R375, R398, R583). -/
def State.warmEnds (s : State) : State :=
  let st := s.start
  let s : State := { s with phase := .running }
  let s := ((s.bump MG_START_WARM_CNT).setFld MG_START_WARM_FAIL 0).setFld MG_START_DUR_US s.startUs
  let s := s.flushEvents.retireAll.postWaiting.dmaPostWaiting
  let s : State := { s with ptp := { s.ptp with lastSync := s.clk.dev, lastAnn := s.clk.dev } }
  let s := if st.cams then s.setupAll else s.probeCameras
  let s := if st.tables then s.publish false else if s.px.cycle = 1 then s.beginBuild else (s.setCycle s.px.cycle).grazeAdvance
  { s with start := { s.start with cams := false, tables := false } }

/-- WARM_START_STEP_DONE: the present step of R583, from 3 on, ends `dt` ENC cycles after it began. `up`: errors that arise in memory meanwhile;
`fwOk`: the restarted processors' firmware and SRAM check out (step 3); `crcOk`: so does the CRC over the identity's bottom tree. -/
def State.warmStepDone (s : State) (dt : Nat) (up : Upsets) (fwOk crcOk : Bool) : State :=
  match s.phase with
  | .warm k =>
    if k < 3 then s
    else
      let s := (s.advanceTo (s.start.tStep + dt)).upset up
      match k with
      | 3 => if fwOk then ((s.dropHalves.identityRestart crcOk).restartCps).enterStep (.warm 4) else s.warmFail
      | 4 => match s.warmHeaders with
        | (s, true) => s.enterStep (.warm 5)
        | (s, false) => s.warmFail
      | 5 => match s.warmChecks with
        | (s, true) => s.enterStep (.warm 6)
        | (s, false) => s.warmFail
      | 6 => match s.refreshCopy with
        | (s, true) => (s.warmRecords (recsOf s.imageNow.2)).enterStep (.warm 7)
        | (s, false) => s.warmFail
      | 7 => match s.refreshCopy with
        | (s, true) => (s.warmPacks (recsOf s.imageNow.2) s.imageNow.2).enterStep (.warm 8)
        | (s, false) => s.warmFail
      | _ => s.warmEnds
  | _ => s

end Sys2Proof.Machine
end

