-- ==== Sys2Proof/Machine/Health.lean ====
section
/-! DEFINITION. Watchdogs, the sequence checker, the throttle, HEALTHY and the error counts of the on-chip stores (R504, R608, R621 to R625). -/

namespace Sys2Proof.Machine

/-! ## Watchdogs and the sequence checker -/

/-- A fault of the control processors holds CP until two passes in a row are complete, and starts the restart of R623; in Paddock mode the
recovery code begins again. -/
def State.cpLost (s : State) (mask : Nat) : State :=
  let s := State.hold { s with health := { s.health with passes := 0 } } MG_HOLD_CP true
  if s.phase = .paddock then s.restartCps else s.cpFault mask

/-- MG_WATCHDOG: processor `cpu`'s watchdog expires (R622, R623); `sram`: because its SRAM has failed beyond correction at the word `ofs`
(R625). `mask`: the Lamb engine units that fail a self-test, should the module enter Paddock mode. -/
def State.watchdog (s : State) (cpu : Nat) (sram : Bool) (ofs mask : Nat) : State :=
  let s := if sram then (s.bumpSat MG_SERR_CP_UNCORR).raise 0x0E0D 4 ofs else s
  State.cpLost ((s.raise 0x0E07 (cpu % 4)).bump MG_WDSTAT_WD_CNT) mask

/-- Whether the control processors run their firmware, so that the sequence checker expects passes. -/
def State.cpsRun (s : State) : Bool :=
  match s.phase with
  | .off => false
  | .cold n => decide (9 ≤ n)
  | .warm k => decide (k ≠ 3)
  | _ => true

/-- A sequence failure (R623): the expected processor and pass number go with the event. -/
def State.sequenceFail (s : State) (mask : Nat) : State :=
  State.cpLost ((s.raise 0x0E08 (s.health.cpu + 0x100 * s.health.pass)).bump MG_WDSTAT_SEQ_CNT) mask

/-- SEQUENCE_WRITE: processor `cpu` writes pass number `num` (R622): a wrong processor, a wrong number, or a pass that completes more than 1 ms
after the previous one is a failure; two passes in a row of the restarted processors end a hold of CP, so none ends it while the drain before
their restart runs (R583, R623). -/
def State.sequenceWrite (s : State) (cpu num mask : Nat) : State :=
  if !s.cpsRun then s
  else
    let h := s.health
    let done := decide (cpu = 3)
    if cpu ≠ h.cpu ∨ num ≠ h.pass ∨ (done ∧ 200000 + h.passTime < s.clk.enc) then s.sequenceFail mask
    else if done then
      let s : State := { s with health := { h with
          cpu := 0, pass := (h.pass + 1) % 256, passTime := s.clk.enc, passes := min (h.passes + 1) 2 } }
      if 2 ≤ s.health.passes ∧ !s.health.cpUntilCold ∧ s.phase ≠ .warm 2 then s.hold MG_HOLD_CP false else s
    else { s with health := { h with cpu := h.cpu + 1 } }

/-- SEQUENCE_LATE: 1 ms has passed since the last complete pass (R622). -/
def State.sequenceLate (s : State) (mask : Nat) : State :=
  if !s.cpsRun then s else (s.advanceTo (200000 + s.health.passTime)).sequenceFail mask

/-! ## HEALTHY -/

/-- HEALTHY_TOGGLE: 500 µs after its last change HEALTHY changes, unless a hold condition stands; then it is low (R504). -/
def State.healthyToggle (s : State) : State :=
  let s := s.advanceTo (100000 + s.pins.healthyTime)
  { s with pins := { s.pins with healthy := decide (s.holdMask = 0) && !s.pins.healthy, healthyTime := s.clk.enc } }

/-! ## The throttle -/

/-- The profile power in units of 10 mW, and the CORE step of the profile's cap (R608). -/
def profilePower (p : Nat) : Nat := 2500 + 1000 * p
def State.capStep (s : State) : Nat := 2 - s.fld MG_PWRSTAT_PROFILE

/-- Whether `n` ENC cycles have passed since the last change of the throttle, where there was one since the cold start (R624). -/
def State.throttleRested (s : State) (n : Nat) : Bool := decide (s.health.thrChange = 0) || decide (n + s.health.thrChange ≤ s.clk.enc)

/-- What the throttle does in one evaluation (R624): nothing, or a new step, a new duty and a cause. -/
def State.throttleRow (s : State) (avg1 avg100 : Nat) (td : Int) : Option (Nat × Nat × Nat) :=
  let p := profilePower (s.fld MG_PWRSTAT_PROFILE)
  let step := s.fld MG_THRSTAT_STEP
  let duty := s.fld MG_THRSTAT_DUTY
  let power := decide (115 * p < 100 * avg1) || decide (97 * p < 100 * avg100)
  let hot := decide (105 ≤ td)
  let settled := s.throttleRested 200000
  if power || hot then
    if !settled then none
    else if step < 3 then some (step + 1, duty, if power then 1 else 2)
    else if duty < 4 then some (step, duty + 1, if power then 1 else 2)
    else none
  else
    match s.health.coolFrom with
    | none => none
    | some t =>
      if s.clk.enc < 2000000 + t ∨ !s.throttleRested 2000000 then none
      else if 0 < duty then some (step, duty - 1, if duty = 1 ∧ step = s.capStep then 0 else s.fld MG_THRSTAT_CAUSE)
      else if s.capStep < step then some (step - 1, 0, if step - 1 = s.capStep then 0 else s.fld MG_THRSTAT_CAUSE)
      else none

/-- THROTTLE_EVAL: every 100 µs the throttle compares the logic power, averaged over 1 ms and over 100 ms in units of 10 mW, and the die
temperature with their limits (R615, R624, R631). `vin`: the supply in units of 10 mV. -/
def State.throttleEval (s : State) (avg1 avg100 : Nat) (td : Int) (vin : Nat) : State :=
  let s := s.advanceTo (20000 + s.health.thrTime)
  let s := ((s.setFld MG_PWRSTAT_VIN vin).setFld MG_PWRSTAT_PIN avg100).setFld MG_PWRSTAT_PIN_MAX (max (s.fld MG_PWRSTAT_PIN_MAX) avg1)
  let s := s.setSFld MG_THRSTAT_T_D td
  let cool := decide (100 * avg100 < 80 * profilePower (s.fld MG_PWRSTAT_PROFILE)) && decide (td ≤ 100)
  let below := decide (s.capStep < s.fld MG_THRSTAT_STEP) || decide (0 < s.fld MG_THRSTAT_DUTY)
  let s : State := { s with health := { s.health with
      thrTime := s.clk.enc
      coolFrom := if cool then some (s.health.coolFrom.getD s.clk.enc) else none
      thrBelow := s.health.thrBelow + b2n below } }
  let s := s.setFld MG_THRSTAT_THR_MS (s.health.thrBelow / 10)
  match s.throttleRow avg1 avg100 td with
  | none => s
  | some (step, duty, cause) =>
    let s := ((s.setFld MG_THRSTAT_STEP step).setFld MG_THRSTAT_DUTY duty).setFld MG_THRSTAT_CAUSE cause
    State.raise { s with health := { s.health with thrChange := s.clk.enc } } 0x0E0B (step + 0x100 * cause + 0x10000 * duty) (toU 32 td)

/-! ## Errors of the on-chip stores -/

/-- MG_SRAM_CE: the report of a store's corrections, once per second (R625). `cp`: corrections that the control processors' SRAM has made since. -/
def State.sramReport (s : State) (code cp : Nat) : State := (s.bumpSat MG_SERR_CP_CORR cp).sramCe code

/-- An error in a word of line `n` of view `v`, at byte `ofs` of its slot of the line store (R154, R155, R625): corrected, or the line carries a gap
marker for each stream. -/
def State.lineError (s : State) (v : Nat) (n : Int) (ofs : Nat) (hard : Bool) : State :=
  match (s.view v).ring.find? fun l => decide (l.num = n) with
  | none => s
  | some l =>
    if !hard then s.bumpSat MG_SERR_LS_CORR
    else
      let s := (s.bumpSat MG_SERR_LS_UNCORR).raise 0x0E0D 2 (s.slotPlace v l.slot + ofs)
      let l : Line := { l with gap := 0xFFFF }
      let x := s.view v
      let s := s.setView v { x with ring := x.ring.map fun y => if y.num = n then l else y }
      (List.range 16).foldl (fun s r => if s.raceOn r then s.gapParts r v l else s) s

/-- Errors of the line store, one after another: view, line, the word's offset in the line's slot, and whether the error is beyond correction. -/
def State.lineErrors (s : State) (l : List (Nat × Int × Nat × Bool)) : State :=
  l.foldl (fun s p => s.lineError p.1 p.2.1 p.2.2.1 p.2.2.2) s

/-- Errors of the Tally's slots, one after another (R625). -/
def State.tallyErrors (s : State) (l : List (Nat × Bool)) : State := l.foldl (fun s p => s.tallyError p.1 p.2) s

end Sys2Proof.Machine
end

