-- ==== Sys2Proof/Machine/CoreCommands.lean ====
section
/-! DEFINITION. The meanings of the commands of the inspection cores and the collector: one definition per row of the table. -/

namespace Sys2Proof.Machine

/-- The meaning of CONV (R261). -/
def execConv (k : Fin 16) (up : List (Nat × Bool)) (err : StateErr) (s : State) : Out := s.whenOn fun s => s.tensorCmd k.val 1 up err

/-- The meaning of DWCONV (R262). -/
def execDwconv (k : Fin 16) (up : List (Nat × Bool)) (err : StateErr) (s : State) : Out := s.whenOn fun s => s.tensorCmd k.val 2 up err

/-- The meaning of MATMUL (R264). -/
def execMatmul (k : Fin 16) (up : List (Nat × Bool)) (err : StateErr) (s : State) : Out := s.whenOn fun s => s.tensorCmd k.val 3 up err

/-- The meaning of POOL (R263). -/
def execPool (k : Fin 16) (up : List (Nat × Bool)) (err : StateErr) (s : State) : Out := s.whenOn fun s => s.tensorCmd k.val 4 up err

/-- The meaning of ELTW (R266). -/
def execEltw (k : Fin 16) (up : List (Nat × Bool)) (err : StateErr) (s : State) : Out := s.whenOn fun s => s.tensorCmd k.val 5 up err

/-- The meaning of ACT (R268). -/
def execAct (k : Fin 16) (up : List (Nat × Bool)) (err : StateErr) (s : State) : Out := s.whenOn fun s => s.tensorCmd k.val 6 up err

/-- The meaning of SFU (R269). -/
def execSfu (k : Fin 16) (up : List (Nat × Bool)) (err : StateErr) (s : State) : Out := s.whenOn fun s => s.tensorCmd k.val 0x0A up err

/-- The meaning of REQ (R270). -/
def execReq (k : Fin 16) (up : List (Nat × Bool)) (err : StateErr) (s : State) : Out := s.whenOn fun s => s.tensorCmd k.val 7 up err

/-- The meaning of RESIZE (R271). -/
def execResize (k : Fin 16) (up : List (Nat × Bool)) (err : StateErr) (s : State) : Out := s.whenOn fun s => s.tensorCmd k.val 8 up err

/-- The meaning of REDUCE (R272). -/
def execReduce (k : Fin 16) (up : List (Nat × Bool)) (err : StateErr) (s : State) : Out := s.whenOn fun s => s.reduceCmd k.val up err

/-- The meaning of COPY (R273). -/
def execCopy (k : Fin 16) (up : List (Nat × Bool)) (err : StateErr) (s : State) : Out := s.whenOn fun s => s.tensorCmd k.val 0x0D up err

/-- The meaning of TABLE (R274). -/
def execTable (k : Fin 16) (up : List (Nat × Bool)) (err : StateErr) (s : State) : Out := s.whenOn fun s => s.tableRun k.val up err

/-- The meaning of NEAR_SEARCH (R277). -/
def execNearSearch (k : Fin 16) (up : List (Nat × Bool)) (err : StateErr) (s : State) : Out := s.whenOn fun s => s.nearRun k.val up err false

/-- The meaning of NEAR_MERGE (R277). -/
def execNearMerge (k : Fin 16) (up : List (Nat × Bool)) (err : StateErr) (s : State) : Out := s.whenOn fun s => s.nearRun k.val up err true

/-- The meaning of EMIT (R280). -/
def execEmit (k : Fin 16) (up : List (Nat × Bool)) (err : StateErr) (s : State) : Out := s.whenOn fun s => s.emitRun k.val up err

/-- The meaning of CORE_COMMAND_COMPLETE (R309). -/
def execCoreCommandComplete (lamb : Bool) (n : Fin 16) (tally : List (Nat × Bool)) (s : State) : Out :=
  s.whenOn fun s => (s.tallyErrors tally).commandComplete (if lamb then .lamb (n.val % 4) else .core n.val)

/-- The meaning of CORE_WATCHDOG (R327). -/
def execCoreWatchdog (k : Fin 16) (s : State) : Out := s.whenOn fun s => s.coreWatchdog k.val

/-- The meaning of COLLECTOR_ACCEPT (R356). -/
def execCollectorAccept (s : State) : Out := s.whenOn fun s => s.collectorAccept

end Sys2Proof.Machine
end

