-- ==== Sys2Proof/Machine/DroveCommands.lean ====
section
/-! DEFINITION. The meanings of the commands of the pair, launches and the drove link: one definition per row of the table. -/

namespace Sys2Proof.Machine

/-- The meaning of ALIGN_EXCHANGE_TIMER (R400). -/
def execAlignExchangeTimer (s : State) : Out := s.whenOn fun s => s.alignTimer

/-- The meaning of LAUNCH_ARM (R402). -/
def execLaunchArm (v : BitVec 32) (s : State) : Out := s.whenOn fun s => s.launchArm v.toNat

/-- The meaning of LAUNCH_CHECK (R402). -/
def execLaunchCheck (s : State) : Out := s.whenOn fun s => s.launchCheck

/-- The meaning of LAUNCH (R401). -/
def execLaunch (s : State) : Out := s.whenOn fun s => s.launch

/-- The meaning of LAUNCH_POS_TIMEOUT (R403). -/
def execLaunchPosTimeout (s : State) : Out := s.whenOn fun s => s.launchPosTimeout

/-- The meaning of BARRIER_LAUNCH (R404). -/
def execBarrierLaunch (s : State) : Out := s.whenOn fun s => s.barrierLaunch

/-- The meaning of HALF_VERDICT_SEND (R406). -/
def execHalfVerdictSend (s : State) : Out := s.whenOn fun s => s.halfSend

/-- The meaning of DROVE_INIT_SEND (R102). -/
def execDroveInitSend (s : State) : Out := s.whenOn fun s => s.initSend

/-- The meaning of DROVE_INIT_TIMEOUT (R102). -/
def execDroveInitTimeout (s : State) : Out := s.whenOn fun s => s.initTimeout

/-- The meaning of DROVE_INIT_FLIT (R102). -/
def execDroveInitFlit (b : List Byte) (s : State) : Out := s.whenOn fun s => s.initFlit b

/-- The meaning of DROVE_NOP_FLIT (R102). -/
def execDroveNopFlit (b : List Byte) (s : State) : Out := s.whenOn fun s => s.nopFlit b

/-- The meaning of DROVE_DATA_FLIT (R103). -/
def execDroveDataFlit (b : List Byte) (s : State) : Out := s.whenOn fun s => s.dataFlit b

/-- The meaning of DROVE_NAK_FLIT (R103). -/
def execDroveNakFlit (b : List Byte) (s : State) : Out := s.whenOn fun s => s.nakFlit b

/-- The meaning of DROVE_FLIT_BAD_CRC (R101). -/
def execDroveFlitBadCrc (s : State) : Out := s.whenOn fun s => s.flitBadCrc

/-- The meaning of DROVE_ACK_TIMEOUT (R103). -/
def execDroveAckTimeout (s : State) : Out := s.whenOn fun s => s.ackTimeout

/-- The meaning of DROVE_FLIT_TRANSMIT (R105). -/
def execDroveFlitTransmit (s : State) : Out := s.whenOn fun s => s.flitTransmit

end Sys2Proof.Machine
end

