-- ==== Sys2Proof/Machine/FieldCommands.lean ====
section
/-! DEFINITION. The meanings of the commands of field input and output: one definition per row of the table. -/

namespace Sys2Proof.Machine

/-- The meaning of DOWNLINK_FRAME (R483). -/
def execDownlinkFrame (err : BitVec 96) (s : State) : Out := s.whenOn fun s => s.downlinkFrame err

/-- The meaning of FIELD_EDGE_EXECUTE (R484). -/
def execFieldEdgeExecute (s : State) : Out := s.whenOn fun s => s.edgeExecute

/-- The meaning of FIELD_WINDOW_OPEN (R485). -/
def execFieldWindowOpen (rdbk : BitVec 16) (s : State) : Out := s.whenOn fun s => s.windowOpen rdbk

/-- The meaning of CFG_MESSAGE (R488). -/
def execCfgMessage (s : State) : Out := s.whenOn fun s => s.cfgMessage

/-- The meaning of CFG_COMMIT (R488). -/
def execCfgCommit (s : State) : Out := s.whenOn fun s => s.cfgCommit

/-- The meaning of FIELD_SAFE_STATE (R489). -/
def execFieldSafeState (s : State) : Out := s.whenOn fun s => s.safeState

/-- The meaning of UPLINK_FRAME_RECEIVE (R486). -/
def execUplinkFrameReceive (err : BitVec 96) (s : State) : Out := s.whenOn fun s => s.uplinkReceive err

/-- The meaning of ISO_ALIGN_LOSS (R481). -/
def execIsoAlignLoss (onDie : Bool) (s : State) : Out := s.whenOn fun s => s.isoAlignLoss onDie

/-- The meaning of FIELD_LOST (R490). -/
def execFieldLost (s : State) : Out := s.whenOn fun s => s.fieldLost

/-- The meaning of FIELD_BACK (R490). -/
def execFieldBack (s : State) : Out := s.whenOn fun s => s.fieldBack

/-- The meaning of INPUT_FILTER_CHANGE (R492). -/
def execInputFilterChange (i : Fin 16) (level : Bool) (s : State) : Out := s.whenOn fun s => s.inputChange i.val level

/-- The meaning of WIRE_BREAK (R493). -/
def execWireBreak (i : Fin 16) (s : State) : Out := s.whenOn fun s => s.wireBreak i.val

/-- The meaning of SUPPLY_CROSSING (R499). -/
def execSupplyCrossing (st : Fin 3) (s : State) : Out := s.whenOn fun s => s.supplyCrossing st.val

/-- The meaning of OUTPUT_OVERLOAD (R498). -/
def execOutputOverload (o : Fin 16) (acts : Bool) (s : State) : Out := s.whenOn fun s => s.overload o.val acts

/-- The meaning of THERMAL_SHUTDOWN (R498). -/
def execThermalShutdown (o : Fin 16) (s : State) : Out := s.whenOn fun s => s.thermalShutdown o.val

/-- The meaning of THERMAL_RESTART (R498). -/
def execThermalRestart (o : Fin 16) (s : State) : Out := s.whenOn fun s => s.thermalRestart o.val

/-- The meaning of READBACK_MISMATCH (R501). -/
def execReadbackMismatch (o : Fin 16) (s : State) : Out := s.whenOn fun s => s.readbackMismatch o.val

/-- The meaning of WIRE_BREAK_CLEAR (R493). -/
def execWireBreakClear (i : Fin 16) (s : State) : Out := s.whenOn fun s => s.wireBreakClear i.val

end Sys2Proof.Machine
end

