-- ==== Sys2Proof/Machine/GateCommands.lean ====
section
/-! DEFINITION. The meanings of the commands of the Gate: one definition per row of the table. -/

namespace Sys2Proof.Machine

/-- The meaning of GATE_FRAME_START (R366). -/
def execGateFrameStart (s : State) : Out := s.whenOn fun s => s.gateFrame

/-- The meaning of PULSE_MAX_EXPIRY (R368). -/
def execPulseMaxExpiry (o : Fin 16) (s : State) : Out := s.whenOn fun s => s.pulseMax o.val

/-- The meaning of FO_OCFG_WRITE (R385). -/
def execFoOcfgWrite (o : Fin 16) (v : BitVec 64) (s : State) : Out := s.whenOn fun s => s.ocfgWrite o.val v.toNat

end Sys2Proof.Machine
end

