-- ==== Sys2Proof/Machine/HostPort.lean ====
section
/-! DEFINITION. The host port: the LPDDR5 commands, the Pen window as the host sees it, the heartbeat and host liveness (R453 to R476). -/

namespace Sys2Proof.Machine

/-! ## Signs of life -/

/-- Whether the host port answers: from the end of step 2 of a cold start, outside HP_RESET_N (R458). -/
def State.portAnswers (s : State) : Bool :=
  match s.phase with
  | .off => false
  | .cold n => decide (3 ≤ n) && !s.host.held
  | _ => !s.host.held

/-- A command is a sign of host life; the first after a loss raises HP_HOST_BACK with the milliseconds of silence and sets FLAGS bit 2
(R467, R475). -/
def State.hostSeen (s : State) : State :=
  let h := s.host
  let gone := (s.clk.enc - h.lastCmd) / 200000
  let s : State := { s with host := { h with lastCmd := s.clk.enc, lost := false, flag2 := h.flag2 || h.lost } }
  if h.lost then s.raise 0x0C02 (min gone (2 ^ 32 - 1)) else s

/-- What a command does where the host port answers, the sign of life first. -/
def State.onPort (s : State) (f : State → State) : State := if s.portAnswers then f s.hostSeen else s

/-- HP_HOST_LOST: 1 ms without a command, the host not asleep (R467). -/
def State.hostLost (s : State) : State :=
  let starting : Bool := match s.phase with
    | .cold n => decide (n < 3)
    | _ => false
  if s.host.asleep || s.host.lost || starting then s
  else
    let s := s.advanceTo (200000 + s.host.lastCmd)
    let s := (s.bump HP_STAT_LOST_CNT).setFld HP_STAT_HOST_LOST 1
    State.raise { s with host := { s.host with lost := true } } 0x0C01 (s.fld HP_STAT_LOST_CNT)

/-- HP_RESET_N asserted or released: the mode registers return to reset and training ends (R458). -/
def State.hpReset (s : State) (asserted : Bool) : State :=
  if asserted then { s with host := { s.host with held := true, modes := [], train := .none, wff := [] } }
  else { s with host := { s.host with held := false } }

/-- HCK_MHZ, measured over the last whole millisecond of device time; 0 when absent (R478). -/
def State.hckWrite (s : State) (hck : Nat) : State := if s.clk.dev % 1000000 = 0 then s.setFld HP_CLK_HCK_MHZ hck else s

/-! ## Reads and writes of the Pen window -/

/-- ACT records the row for its bank (R456). -/
def State.hostAct (s : State) (bank row : Nat) : State :=
  s.onPort fun s => { s with host := { s.host with rows := Tab.set 0 s.host.rows (bank % 16) (row % 32768) } }

/-- The offset of a burst's first byte and its length; `none` outside rows 0 to 63 (R459). -/
def State.burst (s : State) (bank col : Nat) (bl32 : Bool) : Option Nat × Nat :=
  let row := Tab.get 0 s.host.rows (bank % 16)
  let c := if bl32 then col % 64 / 2 * 2 else col % 64
  (if row < 64 then some (row * 2 ^ 15 + bank % 16 * 2 ^ 11 + c * 2 ^ 5) else none, if bl32 then 64 else 32)

/-- DQ carries bytes. -/
def State.drive (s : State) (l : List Byte) : State := { s with host := { s.host with dq := l } }

/-- A read of a port that does not answer returns whatever the bus holds (R458). -/
def State.driveFree (s : State) (n : Nat) : State :=
  let (s, l) := s.drawBlock n
  s.drive l

/-- RD: the burst's bytes, or zeros outside rows 0 to 63 or where a word is beyond correction (R456, R459, R625). `up`: errors that arise in
the window before it. -/
def State.hostRd (s : State) (bank col : Nat) (bl32 : Bool) (up : Upsets) : State :=
  if !s.portAnswers then s.driveFree (if bl32 then 64 else 32)
  else
    let s := s.hostSeen.upset up
    match s.burst bank col bl32 with
    | (none, n) => (s.bump HP_ERRCNT_OUTSIDE).drive (List.replicate n 0)
    | (some o, n) =>
      let (s, b) := s.read (penBase + o) n
      s.drive (b.getD (List.replicate n 0))

/-- Whether the host may write a byte of the Pen window (R460, R468). -/
def hostMayWrite (o : Nat) : Bool := decide (0x1000 ≤ o ∧ (o < 0x2000 → o % 64 < 32))

/-- The bytes of a write burst that are written: offset and byte, in order; bit `i` of the mask withholds byte `i` (R453). -/
def burstBytes (o : Nat) (data : List Byte) (mask n : Nat) : List (Nat × Byte) :=
  ((List.range n).filter fun i => !mask.testBit i).map fun i => (o + i, data.getD i 0)

/-- The bytes of one 8-byte word are written: at once where all of it is, else one by one. -/
def State.penWord (s : State) (w : Nat) (l : List (Nat × Byte)) : State :=
  let l := l.filter fun p => decide (p.1 / 8 = w)
  if l.length = 8 then (s.write (penBase + 8 * w) (l.map Prod.snd)).1
  else l.foldl (fun s p => (s.write (penBase + p.1) [p.2]).1) s

/-- A portal slot whose SEQ a burst has changed submits its request; one whose previous request has not completed ignores it (R469). -/
def State.portalSubmit (s : State) (k : Nat) : State :=
  if s.host.portal.any fun q => decide (q.slot = k) then s.bump HP_ERRCNT_OVERRUN
  else { s with host := { s.host with portal := s.host.portal ++ [PortalReq.mk k (s.peekN (portalSlot k) 32)] } }

/-- WR: a write burst takes effect in the Pen window (R456, R459, R460, R469). Bytes that the host may not write are ignored and the burst is
counted. -/
def State.hostWr (s : State) (bank col : Nat) (bl32 : Bool) (data : List Byte) (mask : Nat) : State :=
  s.onPort fun s =>
    match s.burst bank col bl32 with
    | (none, _) => s.bump HP_ERRCNT_OUTSIDE
    | (some o, n) =>
      let l := burstBytes o data mask n
      let ok := l.filter fun p => hostMayWrite p.1
      let s := if ok.length < l.length then s.bump HP_ERRCNT_OUTSIDE else s
      let k := (o - 0x1000) / 64
      let inPortal := decide (0x1000 ≤ o ∧ o < 0x2000)
      let before := s.peek (portalSlot k + 16)
      let s := (List.range (n / 8)).foldl (fun s i => s.penWord (o / 8 + i) ok) s
      if inPortal && decide (s.peek (portalSlot k + 16) ≠ before) then s.portalSubmit k else s

/-! ## Mode registers -/

/-- Whether a mode register write of `op` selects only features and values of the subset (R454, R455). -/
def modeAccepts (reg op : Nat) : Bool :=
  let speed (c : Nat) : Bool := decide (5 ≤ c ∧ c ≤ 11)
  match reg with
  | 1 => speed (bits op 4 4)
  | 2 => speed (bits op 0 4) && speed (bits op 4 4)
  | 3 => decide (bits op 3 2 = 0) && decide (bits op 6 2 = 0)
  | 18 => decide (bits op 7 1 = 0)
  | 19 => decide (bits op 0 4 = 0)
  | 21 => decide (bits op 4 3 = 0)
  | 22 => decide (bits op 4 4 = 0)
  | 23 => decide (op = 0)
  | _ => true

/-- The mode registers that are read only. -/
def modeReadOnly (reg : Nat) : Bool := decide (reg = 0) || decide (4 ≤ reg ∧ reg ≤ 8)

/-- MRW: accepted, or rejected with HP_MR_REJECT and the previous value left in force (R455). -/
def State.hostMrw (s : State) (reg op : Nat) : State :=
  s.onPort fun s =>
    let reg := reg % 128
    let op := op % 256
    if modeReadOnly reg then s
    else if modeAccepts reg op then { s with host := { s.host with modes := Tab.set 0 s.host.modes reg op } }
    else (s.bump HP_ERRCNT_MR_REJ).raise 0x0C03 reg op

/-- The value in force of a mode register (R455). -/
def State.modeValue (s : State) (reg : Nat) : Nat :=
  match reg with
  | 4 => 0x09
  | 5 => 0xB1
  | 6 => 0x01
  | 7 => 0x00
  | 8 => 0x10
  | _ => Tab.get 0 s.host.modes reg

/-- MRR: the value in force appears on DQ (R455). -/
def State.hostMrr (s : State) (reg : Nat) : State :=
  if !s.portAnswers then s.driveFree 1 else s.hostSeen.drive (leBytes 1 (s.modeValue (reg % 128)))

/-! ## Power states, training and what is not supported -/

/-- Self-refresh and deep sleep: the host is asleep and liveness checking stops; at its exit it resumes (R453, R467). -/
def State.selfRefresh (s : State) (on : Bool) : State := s.onPort fun s => { s with host := { s.host with asleep := on } }

/-- Power-down entry and exit: accepted (R453). -/
def State.powerDown (s : State) (on : Bool) : State := s.onPort fun s => { s with host := { s.host with down := on } }

/-- A training mode answers on DQ (R457). -/
def State.trained (s : State) (t : Training) (dq : List Byte) : State :=
  s.onPort fun s => State.drive { s with host := { s.host with train := t } } dq

/-- READ DQ CALIBRATION: the programmed pattern, beat by beat, with its per-pin inversion (R457). -/
def State.calPattern (s : State) : List Byte :=
  let m (r : Nat) : Nat := s.modeValue r
  let pat := m 33 + 0x100 * m 34
  (List.range 16).flatMap fun b => leBytes 2 ((m 31 + 0x100 * m 32) ^^^ (if pat.testBit b then 0xFFFF else 0))

/-- WFF: write FIFO data is stored, to a depth of 8 bursts; RFF returns it in order (R457). -/
def State.wff (s : State) (data : List Byte) : State :=
  s.onPort fun s =>
    let q := s.host.wff ++ [(List.range 32).map fun i => data.getD i 0]
    { s with host := { s.host with train := .fifo, wff := q.drop (q.length - 8) } }
def State.rff (s : State) : State :=
  if !s.portAnswers then s.driveFree 32
  else
    let s := s.hostSeen
    match s.host.wff with
    | [] => s.driveFree 32
    | b :: t => State.drive { s with host := { s.host with train := .fifo, wff := t ++ [b] } } b

/-- A command that is not supported is ignored and counted (R454). -/
def State.cmdReject (s : State) : State := s.onPort fun s => s.bump HP_ERRCNT_CMD_REJ

/-! ## The heartbeat -/

/-- ATTN_N is driven (R473). -/
def State.attn (s : State) : Bool :=
  s.isOn HP_ATTNCFG_EN &&
    ((List.range 1024).any (fun i => decide (s.peek (penBase + 0x400 + i) ≠ 0)) || (s.isOn HP_ATTNCFG_MBOX && decide (s.peek mboxReady ≠ 0)))

/-- STATE of the heartbeat block (R463). -/
def State.beatState (s : State) : Nat :=
  match s.phase with
  | .running => 1
  | .warm _ => 2
  | .paddock => 3
  | _ => 0

/-- The heartbeat block with a count (R463, R465). -/
def State.beatBlock (s : State) (n : Nat) : List Byte :=
  let b := leBytes 4 n ++ leBytes 1 s.beatState ++ leBytes 1 (b2n s.attn + 2 * b2n (decide (s.holdMask ≠ 0)) + 4 * b2n s.host.flag2) ++
    leBytes 8 s.clk.dev
  b ++ leBytes 2 (crc16 b)

/-- Whether the heartbeat runs: from the host port's first answer after a cold start on (R464). -/
def State.beats (s : State) : Bool :=
  match s.phase with
  | .off => false
  | .cold n => decide (3 ≤ n)
  | _ => true

/-- HEARTBEAT_WRITE: device time reaches the next multiple of 10,000 ns, and the block is rewritten; the first counts 0 (R464, R480).
`hck`: the frequency of HCK in MHz. -/
def State.heartbeat (s : State) (hck : Nat) : State :=
  if !s.beats then s
  else
    let t := 10000 * (s.host.beat / 10000 + 1)
    let s := s.advanceDev t
    let n := if s.host.beaten then (s.fld HP_HB_HB_COUNT + 1) % 2 ^ 32 else 0
    let s := (s.write penBase (s.beatBlock n)).1
    let s := (s.setFld HP_HB_HB_COUNT n).hckWrite hck
    { s with host := { s.host with beat := 10000 * (s.clk.dev / 10000), beaten := true } }

end Sys2Proof.Machine
end

