-- ==== Sys2Proof/Machine/HostCommands.lean ====
section
/-! DEFINITION. The meanings of the commands of the host port and the register portal: one definition per row of the table. -/

namespace Sys2Proof.Machine

/-- The meaning of HP_RESET_N (R458). -/
def execHpResetN (asserted : Bool) (s : State) : Out := s.whenOn fun s => s.hpReset asserted

/-- The meaning of HOST_ACT (R456). -/
def execHostAct (bank : Fin 16) (row : Fin 32768) (s : State) : Out := s.whenOn fun s => s.hostAct bank.val row.val

/-- The meaning of HOST_PRE (R456). -/
def execHostPre (s : State) : Out := s.whenOn fun s => s.onPort id

/-- The meaning of HOST_RD (R456). -/
def execHostRd (bank : Fin 16) (col : Fin 64) (bl32 : Bool) (up : List (Nat × Bool)) (s : State) : Out := .next (s.hostRd bank.val col.val bl32 up)

/-- The meaning of HOST_WR (R456). -/
def execHostWr (bank : Fin 16) (col : Fin 64) (bl32 : Bool) (data : List Byte) (mask : BitVec 64) (s : State) : Out :=
  s.whenOn fun s => s.hostWr bank.val col.val bl32 data mask.toNat

/-- The meaning of HOST_MRW (R455). -/
def execHostMrw (reg : Fin 128) (op : BitVec 8) (s : State) : Out := s.whenOn fun s => s.hostMrw reg.val op.toNat

/-- The meaning of HOST_MRR (R455). -/
def execHostMrr (reg : Fin 128) (s : State) : Out := .next (s.hostMrr reg.val)

/-- The meaning of HOST_REFRESH (R453). -/
def execHostRefresh (s : State) : Out := s.whenOn fun s => s.onPort id

/-- The meaning of SELF_REFRESH_ENTRY (R467). -/
def execSelfRefreshEntry (s : State) : Out := s.whenOn fun s => s.selfRefresh true

/-- The meaning of SELF_REFRESH_EXIT (R467). -/
def execSelfRefreshExit (s : State) : Out := s.whenOn fun s => s.selfRefresh false

/-- The meaning of POWER_DOWN_ENTRY (R453). -/
def execPowerDownEntry (s : State) : Out := s.whenOn fun s => s.powerDown true

/-- The meaning of POWER_DOWN_EXIT (R453). -/
def execPowerDownExit (s : State) : Out := s.whenOn fun s => s.powerDown false

/-- The meaning of ZQ_START (R453). -/
def execZqStart (s : State) : Out := s.whenOn fun s => s.onPort id

/-- The meaning of ZQ_LATCH (R453). -/
def execZqLatch (s : State) : Out := s.whenOn fun s => s.onPort id

/-- The meaning of COMMAND_BUS_TRAINING (R457). -/
def execCommandBusTraining (ca : BitVec 7) (s : State) : Out := s.whenOn fun s => s.trained .bus (leBytes 2 ca.toNat)

/-- The meaning of WCK2CK_LEVELLING (R457). -/
def execWck2ckLevelling (ck : Bool) (s : State) : Out := s.whenOn fun s => s.trained .levelling (leBytes 2 (if ck then 0xFFFF else 0))

/-- The meaning of READ_DQ_CALIBRATION (R457). -/
def execReadDqCalibration (s : State) : Out := s.whenOn fun s => s.trained .readCal s.calPattern

/-- The meaning of WFF (R457). -/
def execWff (data : List Byte) (s : State) : Out := s.whenOn fun s => s.wff data

/-- The meaning of RFF (R457). -/
def execRff (s : State) : Out := .next (s.rff)

/-- The meaning of WRITE_X (R454). -/
def execWriteX (s : State) : Out := s.whenOn fun s => s.cmdReject

/-- The meaning of DATA_COPY (R454). -/
def execDataCopy (s : State) : Out := s.whenOn fun s => s.cmdReject

/-- The meaning of HEARTBEAT_WRITE (R464). -/
def execHeartbeatWrite (hck : Fin 1024) (s : State) : Out := s.whenOn fun s => s.heartbeat hck.val

/-- The meaning of HP_HOST_LOST (R467). -/
def execHpHostLost (s : State) : Out := s.whenOn fun s => s.hostLost

/-- The meaning of READ32 (R469). -/
def execRead32 (s : State) : Out := s.whenOn fun s => s.portalRead32

/-- The meaning of WRITE32 (R469). -/
def execWrite32 (s : State) : Out := s.whenOn fun s => s.portalWrite32

/-- The meaning of READ64 (R469). -/
def execRead64 (s : State) : Out := s.whenOn fun s => s.portalRead64

/-- The meaning of WRITE64 (R469). -/
def execWrite64 (s : State) : Out := s.whenOn fun s => s.portalWrite64

/-- The meaning of HP_STAT_CLEAR (R476). -/
def execHpStatClear (v : BitVec 32) (s : State) : Out := s.whenOn fun s => s.hpStatClear v.toNat

end Sys2Proof.Machine
end

