-- ==== Sys2Proof/Machine/LambCommands.lean ====
section
/-! DEFINITION. The meanings of the commands of the Lamb engine: one definition per row of the table. -/

namespace Sys2Proof.Machine

/-- The meaning of LAMB_STREAM_START (R230). -/
def execLambStreamStart (s : State) : Out := s.whenOn fun s => s.streamStart

/-- The meaning of LAMB_STREAM_END (R231). -/
def execLambStreamEnd (u : Fin 4) (up : List (Nat × Bool)) (s : State) : Out := s.whenOn fun s => s.streamEnd u.val up

/-- The meaning of LB_CONV (R224). -/
def execLbConv (up : List (Nat × Bool)) (s : State) : Out := s.whenOn fun s => s.lambRun 0xC0 up State.lbConvRun

/-- The meaning of LB_SORT (R237). -/
def execLbSort (up : List (Nat × Bool)) (s : State) : Out := s.whenOn fun s => s.lambRun 0xC1 up State.lbSortRun

end Sys2Proof.Machine
end

