-- ==== Sys2Proof/Machine/LaneCommands.lean ====
section
/-! DEFINITION. The meanings of the commands of lanes, camera frames and the drove link's enable: one definition per row of the table. -/

namespace Sys2Proof.Machine

/-- The meaning of LANECFG_WRITE (R109). -/
def execLaneCfgWrite (l : Fin 16) (v : BitVec 32) (s : State) : Out := s.whenOn fun s => s.laneCfgWrite l.val v.toNat

/-- The meaning of ADAPT_CONVERGED (R85). -/
def execAdaptConverged (l : Fin 16) (s : State) : Out := s.whenOn fun s => s.adaptConverged l.val

/-- The meaning of LANE_SIGNAL_LOSS (R85). -/
def execLaneSignalLoss (l : Fin 16) (s : State) : Out := s.whenOn fun s => s.signalLoss l.val

/-- The meaning of LANE_BLOCK_RECEIVE (R86). -/
def execLaneBlockReceive (l : Fin 16) (hdr : BitVec 2) (data : BitVec 64) (at_ : Nat) (s : State) : Out :=
  s.whenOn fun s => s.blockReceive l.val hdr data at_

/-- The meaning of LPI_ENTRY (R91). -/
def execLpiEntry (l : Fin 16) (s : State) : Out := s.whenOn fun s => s.lpiEntry l.val

/-- The meaning of LPI_WAKE_DONE (R91). -/
def execLpiWakeDone (l : Fin 16) (s : State) : Out := s.whenOn fun s => s.lpiWake l.val

/-- The meaning of CAMERA_FRAME_RECEIVE (R94). -/
def execCameraFrameReceive (l : Fin 16) (b : List Byte) (ls : List (Nat × Int × Nat × Bool)) (up : List (Nat × Bool)) (s : State) : Out :=
  s.whenOn fun s => ((s.upset up).lineErrors ls).frameReceive l.val b

/-- The meaning of FRAME_TRANSMIT (R95). -/
def execFrameTransmit (l : Fin 16) (s : State) : Out := s.whenOn fun s => s.frameTransmit l.val

/-- The meaning of DRVCFG_WRITE (R115). -/
def execDrvCfgWrite (v : BitVec 32) (s : State) : Out := s.whenOn fun s => s.drvCfgWrite v.toNat

end Sys2Proof.Machine
end

