-- ==== Sys2Proof/Machine/MemoryCommands.lean ====
section
/-! DEFINITION. The meanings of the commands of the scrubber, the DMA channels, ring indices and error reports: one definition per row of the table. -/

namespace Sys2Proof.Machine

/-- The meaning of SCRUB_READ (R431). -/
def execScrubRead (up : List (Nat × Bool)) (s : State) : Out := s.whenOn fun s => s.scrubRead up

/-- The meaning of DMA_COPY (R438). -/
def execDmaCopy (c : Fin 64) (up : List (Nat × Bool)) (s : State) : Out := s.whenOn fun s => s.dmaTake c.val 0 up

/-- The meaning of DMA_FILL (R438). -/
def execDmaFill (c : Fin 64) (up : List (Nat × Bool)) (s : State) : Out := s.whenOn fun s => s.dmaTake c.val 1 up

/-- The meaning of DMA_COMPARE (R438). -/
def execDmaCompare (c : Fin 64) (up : List (Nat × Bool)) (s : State) : Out := s.whenOn fun s => s.dmaTake c.val 2 up

/-- The meaning of DMA_RESUME (R439). -/
def execDmaResume (c : Fin 64) (s : State) : Out := s.whenOn fun s => s.dmaResume c.val

/-- The meaning of DMA_ABORT (R439). -/
def execDmaAbort (c : Fin 64) (s : State) : Out := s.whenOn fun s => s.dmaAbort c.val

/-- The meaning of RING_INDEX_SAMPLE (R442). -/
def execRingIndexSample (descs : List (Nat × Bool)) (up : List (Nat × Bool)) (s : State) : Out := s.whenOn fun s => s.ringIndexSample descs up

/-- The meaning of MM_CE (R432). -/
def execMmCe (s : State) : Out := s.whenOn fun s => s.mmCe

/-- The meaning of MG_SRAM_CE (R625). -/
def execMgSramCe (code : Fin 6) (cp : Nat) (s : State) : Out := s.whenOn fun s => s.sramReport code.val cp

end Sys2Proof.Machine
end

