-- ==== Sys2Proof/Machine/Requests.lean ====
section
/-! DEFINITION. The firmware's requests: packages and promotion (R519 to R530), recovery (R557), identity (R563 to R567). -/

namespace Sys2Proof.Machine

/-- Whether the firmware takes requests: in normal service, not while it restarts. -/
def State.serving (s : State) : Bool := decide (s.phase = .running)

/-- Whether recovery and identity requests are served: in normal service and in Paddock mode (R556, R557). -/
def State.servingAll (s : State) : Bool := decide (s.phase = .running ∨ s.phase = .paddock)

/-! ## Package requests -/

/-- The number of candidate slots, and the address and size of one (R519, R532). -/
def State.candSlots (s : State) : Nat := s.fld MG_CANDCFG_SLOTS
def State.candSize (s : State) : Nat := 0x100000 * s.fld MG_CANDCFG_SLOT_MIB
def State.candAddr (s : State) (k : Nat) : Nat := 0x100000 * s.fld MG_CANDCFG_BASE + k * s.candSize

/-- The state of a candidate slot in MG_PKGSTAT: 0 EMPTY, 1 VERIFIED, 2 ADMITTED, 3 PROMOTING. -/
def State.slotState (s : State) (k : Nat) : Nat := s.fld MG_PKGSTAT_SLOTSTATE / 4 ^ k % 4

/-- A candidate slot takes a state. -/
def State.setSlotState (s : State) (k v : Nat) : State :=
  s.setFld MG_PKGSTAT_SLOTSTATE (s.fld MG_PKGSTAT_SLOTSTATE - s.slotState k * 4 ^ k + v * 4 ^ k)

/-- STATE of MG_PKGSTAT while no request is being run: 2 FLASHING, 3 READY_TO_START, 0 IDLE. -/
def State.pkgState (s : State) : Nat := if s.pkg.flash.isSome then 2 else if s.pkg.ready.isSome then 3 else 0

/-- A request completes: DONE_SEQ, RESULT, STATE, and MG_PKG_DONE with OP and RESULT (R520). -/
def State.pkgDone (s : State) (q : PkgReq) (result : Nat) : State :=
  (((s.setFld MG_PKGSTAT_DONE_SEQ q.seq).setFld MG_PKGSTAT_RESULT result).setFld MG_PKGSTAT_STATE s.pkgState).raise 0x0E01 q.op result

/-- What a candidate slot holds. -/
def State.content (s : State) (k : Nat) : SlotContent := Tab.get .none s.pkg.slots k

/-- A candidate slot empties. -/
def State.emptySlot (s : State) (k : Nat) : State :=
  { s.setSlotState k 0 with pkg := { s.pkg with slots := Tab.set .none s.pkg.slots k .none, client := Tab.set 64 s.pkg.client k 64 } }

/-- The head of the request queue, where its operation is `op` or is none that R520 knows, and no VERIFY runs; it leaves the queue. -/
def State.takePkg (s : State) (op : Nat) : State × Option PkgReq :=
  if !s.serving || s.pkg.verify.isSome then (s, none)
  else match s.pkg.queue with
    | [] => (s, none)
    | q :: rest =>
      if q.op = op ∨ q.op = 0 ∨ 5 < q.op then ({ s with pkg := { s.pkg with queue := rest } }, some q) else (s, none)

/-- A request of an operation that the table lacks completes with FORMAT; the others run `act`. -/
def State.runPkg (s : State) (op : Nat) (act : State → PkgReq → State) : State :=
  match s.takePkg op with
  | (s, some q) => if q.op = op then act s q else s.pkgDone q codeFormat
  | (s, none) => s

/-- The length of a customer section, its signature included. -/
def custSize (b : List Byte) : Nat := up64 (dLe b 8 4) + dLe b 12 4

/-- PKG_VERIFY: the slot must exist and be EMPTY; the check then runs (R520). -/
def State.pkgVerify (s : State) : State :=
  s.runPkg 1 fun s q =>
    if s.candSlots ≤ q.slot ∨ s.slotState q.slot ≠ 0 then s.pkgDone q 2
    else (State.setFld { s with pkg := { s.pkg with verify := some q } } MG_PKGSTAT_STATE 1)

/-- The outcome of a check (R518, R520, R545, R546): what the slot holds, or the code of its failure. A slot that passes as a package is one; a
failure of the key check of a customer section is a failed signature. -/
def State.verifyBytes (s : State) (b : List Byte) : SlotContent × Nat :=
  let pub := custPub s.imageNow.2
  let p := readPack b
  match packFlaw (b.take p.size) pub with
  | none => (.package p.hash, 0)
  | some c =>
    let sec := b.take (custSize b)
    match s.custFlaw sec (sha sec) with
    | none => (.section_ (sha sec) sec.length, 0)
    | some d => (.none, if c ≠ codeSig then c else if d = codeKey then codeSig else d)

/-- PKG_VERIFY_DONE: the slot becomes VERIFIED, or stays EMPTY with the first failure; a slot that cannot be read fails as HASH. `up`: errors that
arise in memory before the slot is read. -/
def State.pkgVerifyDone (s : State) (up : Upsets) : State :=
  if !s.serving then s
  else match s.pkg.verify with
    | none => s
    | some q =>
      let s : State := { s with pkg := { s.pkg with verify := none } }
      match (s.upset up).read (s.candAddr q.slot) s.candSize with
      | (s, none) => s.pkgDone q codeHash
      | (s, some b) =>
        let (c, code) := s.verifyBytes b
        let s := if code = 0 then
            { s.setSlotState q.slot 1 with pkg := { s.pkg with slots := Tab.set .none s.pkg.slots q.slot c } }
          else s
        s.pkgDone q code

/-- The codes of a failed ADMIT, in the order of R520 (R523). -/
def State.admitFlaws (s : State) (c : Nat) (p : Pack) (b : List Byte) (resolved : Bool) : List Nat :=
  let cls := s.clientClass c
  let r := s.fld (SH_CCFG_RACE c)
  let stemBad : Bool := match cls with
    | .trial => if s.isOn (PX_RCFG_FEED r) then decide ((p.find 6).map (fun x => x.bytes b) ≠ some (s.stemDesc r)) else (p.find 6).isSome
    | _ => false
  (if resolved then [] else [codeFormat]) ++ (if p.variant = variantOf cls then [] else [7]) ++ (if stemBad then [8] else []) ++
    (if s.isOn (SH_CCFG_EN c) then [9] else []) ++ (if cls = .realtime then [10] else []) ++
    (if p.sects.any fun x => decide (x.kind = 3 ∨ x.kind = 4) then [11] else [])

/-- The site of a candidate: its slot, with the host bases in force when it is admitted (R523, R531). -/
def State.candSite (s : State) (k : Nat) : Site :=
  let hb (i : Nat) := (0x10000 * s.fld (MG_PKGHB_ADDR i), 0x10000 * s.fld (MG_PKGHB_LEN i))
  ⟨s.candAddr k, none, hb 0, hb 1⟩

/-- PKG_ADMIT: a verified package is resolved in place and bound to a client (R523). -/
def State.pkgAdmit (s : State) : State :=
  s.runPkg 2 fun s q =>
    match (if s.slotState q.slot = 1 then s.content q.slot else .none) with
    | .package _ =>
      let p := readPack (s.peekN (s.candAddr q.slot) s.candSize)
      let b := s.peekN (s.candAddr q.slot) p.size
      let t := s.candSite q.slot
      let c := p.relocate b t
      match s.admitFlaws q.client p b c.isSome with
      | code :: _ => s.pkgDone q code
      | [] =>
        let s := (s.place t.base (c.getD b)).installClient q.client p b t
        let s : State := { s.setSlotState q.slot 2 with pkg := { s.pkg with client := Tab.set 64 s.pkg.client q.slot q.client } }
        s.pkgDone q 0
    | _ => s.pkgDone q 2

/-- PKG_RELEASE: an admitted slot whose client has EN = 0 lets its client's program go and empties (R520). -/
def State.pkgRelease (s : State) : State :=
  s.runPkg 3 fun s q =>
    let c := Tab.get 64 s.pkg.client q.slot
    if s.slotState q.slot ≠ 2 then s.pkgDone q 2
    else if s.isOn (SH_CCFG_EN c) then s.pkgDone q 9
    else ((s.clearClient c).emptySlot q.slot).pkgDone q 0

/-- The bytes of the customer section in a slot. -/
def State.slotSection (s : State) (k : Nat) : List Byte := match s.content k with
  | .section_ _ n => s.peekN (s.candAddr k) n
  | _ => []

/-- A region of the flash is erased (R529, R557). -/
def State.eraseFlash (s : State) (a n : Nat) : State :=
  { s with image := { s.image with flash := Tab.keep (fun k _ => decide (k < a ∨ a + n ≤ k)) s.image.flash } }

/-- PKG_PROMOTE: a verified customer section that passes the range checks of an image load is flashed (R529). -/
def State.pkgPromote (s : State) : State :=
  s.runPkg 4 fun s q =>
    if s.pkgState ≠ 0 ∨ s.image.write.isSome then s.pkgDone q 1
    else match (if s.slotState q.slot = 1 then s.content q.slot else .none) with
      | .section_ _ _ =>
        let sec := s.slotSection q.slot
        if (packsBad sec).isSome ∨ (rangeBad s.variant s.imageNow.1 sec).isSome then s.pkgDone q codeFormat
        else
          let s := ((s.setSlotState q.slot 3).eraseFlash custOfs custMax).setFld MG_PKGSTAT_PROGRESS 0
          State.setFld { s with pkg := { s.pkg with flash := some q } } MG_PKGSTAT_STATE 2
      | _ => s.pkgDone q 2

/-- The header copy that is not in use is written with SEQ one above the one in use (R540). -/
def State.writeHeader (s : State) (h : ImgHdr) : State :=
  let (n, seq) := match s.flashHdr with
    | some (o, n) => (1 - n, (o.seq + 1) % 2 ^ 32)
    | none => (0, h.seq)
  let s := (s.eraseFlash (0x1000 * n) 0x1000).setFlash (0x1000 * n) ({ h with seq := seq } : ImgHdr).bytes
  { s with image := { s.image with hdrSeq := seq, hdrCopy := n } }

/-- A warm start that START or AUTO_START asks for (R520, R579): the promoted slot empties. -/
def State.startPromoted (s : State) : State :=
  let s := match s.pkg.ready with
    | some k => s.emptySlot k
    | none => s
  s.warmBegin 9

/-- PROMOTE_FLASH_DONE: programming and read-back have ended (R529, R547). `fate`: 0 good, 1 the erase or program failed, else the read-back
differs; `reads`: the burns read back. -/
def State.promoteDone (s : State) (fate : Nat) (reads : Bool) : State :=
  if !s.serving then s
  else match s.pkg.flash with
    | none => s
    | some q =>
      let sec := s.slotSection q.slot
      let s : State := { s with pkg := { s.pkg with flash := none } }
      if fate = 1 then (s.setSlotState q.slot 1).pkgDone q 12
      else
        let s := s.setFld MG_PKGSTAT_PROGRESS ((sec.length + 1023) / 1024)
        if fate ≠ 0 then
          let s := s.setSlotState q.slot 1
          State.pkgDone { s with image := { s.image with copyOk := false } } q 13
        else
          let s := (s.setFlash custOfs sec).place (copyBase + custOfs) sec
          let fw := s.imageNow.1
          match s.imageBurns fw sec reads with
          | (s, false) => ((s.loadLife.cfgFail ⟨6, codeKey, 0, 0, 0, 0⟩).setSlotState q.slot 1).pkgDone q codeKey
          | (s, true) =>
            let s := s.loadLife.writeHeader ⟨0, fw.length, sec.length, s.image.fwHash, sha sec⟩
            let s : State := { s with
              image := { s.image with copyOk := true, custHash := sha sec }
              pkg := { s.pkg with ready := some q.slot } }
            let s := s.pkgDone q 0
            if q.auto then s.startPromoted else s

/-- PKG_START: READY_TO_START begins the warm start that installs the promoted section (R520). -/
def State.pkgStart (s : State) : State :=
  s.runPkg 5 fun s q =>
    if s.pkgState ≠ 3 ∨ s.image.write.isSome then s.pkgDone q 1
    else (s.pkgDone q 0).startPromoted

/-! ## Recovery requests -/

/-- PHASE of MG_PADSTAT. -/
def State.padPhase (s : State) : Nat := s.fld MG_PADSTAT_PHASE

/-- A recovery request completes (R557). -/
def State.padDone (s : State) (q : PadReq) (result phase : Nat) : State :=
  ((s.setFld MG_PADSTAT_DONE_SEQ q.seq).setFld MG_PADSTAT_RESULT result).setFld MG_PADSTAT_PHASE phase

/-- The head of the recovery queue, where its operation is `op` or is none that R557 knows, and none is in progress: `act` runs it; without DDR5
every request completes BUSY (R556). -/
def State.runPad (s : State) (op : Nat) (act : State → PadReq → State) : State :=
  if !s.servingAll || s.image.check.isSome || s.image.write.isSome then s
  else match s.image.recovery with
    | [] => s
    | q :: rest =>
      if q.op ≠ op ∧ 1 ≤ q.op ∧ q.op ≤ 4 then s
      else
        let s : State := { s with image := { s.image with recovery := rest } }
        if !s.image.ddrUp then s.padDone q 1 s.padPhase
        else if q.op ≠ op then s.padDone q codeFormat s.padPhase
        else act s q

/-- RECOVERY_LOAD: a piece of the staging buffers is copied to its flash offset in the image copy area, and the copy is invalid (R555, R557). -/
def State.recoveryLoad (s : State) : State :=
  s.runPad 1 fun s q =>
    if q.len = 0 ∨ 240 * 0x100000 < q.ofs * 64 + q.len then s.padDone q 2 s.padPhase
    else
      let s : State := { s with image := { s.image with copyOk := false } }
      match s.read (penBase + 0x100000) q.len with
      | (s, some b) => ((s.write (copyBase + q.ofs * 64) b).1).padDone q 0 1
      | (s, none) => s.padDone q codeFormat s.padPhase

/-- RECOVERY_CHECK: refused in lifecycle DECOMMISSIONED; the check then runs (R557). -/
def State.recoveryCheck (s : State) : State :=
  s.runPad 2 fun s q =>
    if s.lifeNow = 4 then s.padDone q 15 s.padPhase
    else { s with image := { s.image with check := some q } }

/-- The header in force among the copies staged in the image copy area, with both sections. -/
def State.staged? (s : State) : Option (ImgHdr × List Byte × List Byte) :=
  match chooseHdr (s.copyN 0 256) (s.copyN 0x1000 256) with
  | some (h, _) => some (h, s.copySections h)
  | none => none

/-- RECOVERY_CHECK_DONE: steps 2 to 6 of R554 on the staged image, without any burn: CHECKED, or LOADED with the failure in RESULT and in
MG_CFGSTAT (R557). -/
def State.recoveryCheckDone (s : State) : State :=
  if !s.servingAll then s
  else match s.image.check with
    | none => s
    | some q =>
      let s : State := { s with image := { s.image with check := none } }
      match s.staged? with
      | none => ((s.cfgFail ⟨1, codeFormat, 0, 0, 0, 0⟩).setFld MG_CFGSTAT_SOURCE 3).padDone q codeFormat 1
      | some (h, fw, sec) =>
        match s.imageBad h fw sec with
        | some b => ((s.cfgFail b).setFld MG_CFGSTAT_SOURCE 3).padDone q b.code 1
        | none => s.padDone q 0 2

/-- RECOVERY_WRITE: from CHECKED, and not while a promotion flashes; both regions are erased (R557). -/
def State.recoveryWrite (s : State) : State :=
  s.runPad 3 fun s q =>
    if s.padPhase ≠ 2 ∨ s.pkg.flash.isSome then s.padDone q 1 s.padPhase
    else
      let s := (((s.eraseFlash fwOfs fwMax).eraseFlash custOfs custMax).setFld MG_PADSTAT_PHASE 3).setFld MG_PADSTAT_PROGRESS 0
      { s with image := { s.image with write := some q } }

/-- RECOVERY_WRITE_DONE: both regions programmed and read back, the burns made, the header copy written: WRITTEN, or CHECKED with FLASH, READBACK
or KEY (R540, R547, R557). `fate` and `reads` as for a promotion. -/
def State.recoveryWriteDone (s : State) (fate : Nat) (reads : Bool) : State :=
  if !s.servingAll then s
  else match s.image.write, s.staged? with
    | some q, some (h, fw, sec) =>
      let s : State := { s with image := { s.image with write := none } }
      if fate = 1 then s.padDone q 12 2
      else
        let s := s.setFld MG_PADSTAT_PROGRESS ((fw.length + 1023) / 1024 + (sec.length + 1023) / 1024)
        if fate ≠ 0 then s.padDone q 13 2
        else
          let s := (s.setFlash fwOfs fw).setFlash custOfs sec
          match s.imageBurns fw sec reads with
          | (s, false) => (s.loadLife.cfgFail ⟨6, codeKey, 0, 0, 0, 0⟩).padDone q codeKey 2
          | (s, true) => (s.loadLife.writeHeader h).padDone q 0 4
    | _, _ => s

/-- RECOVERY_RESTART: from WRITTEN, or from any phase in Paddock mode, a cold start with the failed-start counts cleared (R557, R587). -/
def State.recoveryRestart (s : State) : State :=
  s.runPad 4 fun s q =>
    if s.phase ≠ .paddock ∧ s.padPhase ≠ 4 then s.padDone q 1 s.padPhase
    else ((s.setFld MG_START_COLD_FAIL 0).setFld MG_START_WARM_FAIL 0).coldBegin 6

/-! ## Identity requests -/

/-- An identity request completes (R573). -/
def State.idDone (s : State) (q : IdReq) (result len : Nat) : State :=
  ((s.setFld MG_IDDONE_DONE_SEQ q.seq).setFld MG_IDDONE_RESULT result).setFld MG_IDDONE_LEN len

/-- The staging address of a request's output. -/
def IdReq.addr (q : IdReq) : Nat := penBase + 0x100000 + q.dest * 64

/-- Whether an output of `n` bytes stays within the staging buffers. -/
def IdReq.fits (q : IdReq) (n : Nat) : Bool := decide (q.dest * 64 + n ≤ 0x100000)

/-- The head of the identity queue, where its operation is `op` or is reserved, and no attestation waits for a bottom tree; a reserved operation
completes BUSY. -/
def State.runId (s : State) (op : Nat) (act : State → IdReq → State) : State :=
  if !s.servingAll || s.ident.waiting.isSome then s
  else match s.ident.queue with
    | [] => s
    | q :: rest =>
      if q.op ≠ op ∧ (q.op = 1 ∨ q.op = 2) then s
      else
        let s : State := { s with ident := { s.ident with queue := rest } }
        if q.op ≠ op then s.idDone q 1 0 else act s q

/-- The package hashes of clients 0 to 63, 32 zero bytes for a client without a program (R566). -/
def State.pkgHashes (s : State) : List Byte :=
  (List.range 64).flatMap fun c => match Tab.get [] s.image.pkgHash c with
    | [] => List.replicate 32 0
    | h => h

/-- The attestation report (R566). -/
def State.report (s : State) (nonce : List Byte) : List Byte :=
  let fences := ((List.range 16).map fun k => s.fld (CR_FENCE_FENCED k) * 2 ^ k).sum
  let pad (h : List Byte) : List Byte := h ++ List.replicate (32 - h.length) 0
  leBytes 1 1 ++ leBytes 1 s.lifeNow ++ leBytes 2 0 ++ leBytes 4 (s.fld MG_IDSTAT_SIGS) ++ leBytes 8 s.clk.dev ++
    leBytes 4 (s.fld MG_IDSTAT_RESV_BIT) ++ leBytes 4 0 ++ s.eepromN 6 8 ++ nonce ++ pad s.image.runFw ++ pad s.image.runCust ++
    sha s.pkgHashes ++ sha ((List.range 4096).map s.otpShown) ++ s.fenceMap ++ leBytes 32 fences ++ leBytes 4 s.partWord ++
    leBytes 4 (s.fld ID_ARCH_ARCH_GEN + 65536 * s.fld ID_ARCH_DESC_VERS) ++ List.replicate 56 0

/-- An attestation is signed with the next leaf, spent before the signature is computed, and written with its report; the 8,192nd of a cold start
exhausts the key (R561, R563, R564, R567). -/
def State.signReport (s : State) (q : IdReq) : State :=
  let (s, nonce) := match s.read (q.addr + 32) 32 with
    | (s, some b) => (s, b)
    | (s, none) => s.drawBlock 32
  let leaf := s.ident.spent
  let top := 8 * (s.ident.bit_.getD 0) + s.ident.tree
  let s : State := { s with ident := { s.ident with spent := leaf + 1 } }
  let s := s.setFld MG_IDSTAT_SIGS (s.fld MG_IDSTAT_SIGS + 1)
  let r := s.report nonce
  let s := (s.write q.addr (r ++ (List.range 5236).map (Config.identitySign top leaf r))).1
  let s := s.idDone q 0 5556
  if s.fld MG_IDSTAT_SIGS < 8192 then s else (s.setFld MG_IDSTAT_STATE 2).raise 0x0E02 (s.fld MG_IDSTAT_RESV_BIT)

/-- ATTEST: a report is signed where the key is active and the output fits; a spent bottom tree has the next generated first (R563, R564, R567). -/
def State.attest (s : State) : State :=
  s.runId 1 fun s q =>
    match s.fld MG_IDSTAT_STATE with
    | 1 =>
      if !q.fits 5556 then s.idDone q 4 0
      else if s.ident.spent < 1024 then s.signReport q
      else { s with ident := { s.ident with waiting := some q } }
    | 2 => s.idDone q 2 0
    | 3 => s.idDone q 3 0
    | _ => s.idDone q 5 0

/-- BOTTOM_TREE_DONE: the next bottom tree stands ready, and the waiting attestation is signed (R563). -/
def State.treeDone (s : State) : State :=
  match s.ident.waiting with
  | none => s
  | some q =>
    if !s.servingAll then s
    else State.signReport { s with ident := { s.ident with waiting := none, tree := s.ident.tree + 1, spent := 0 } } q

/-- CERT: the device certificate is written to the staging buffers (R567, R573). -/
def State.certRequest (s : State) : State :=
  s.runId 2 fun s q =>
    let st := s.fld MG_IDSTAT_STATE
    if st = 0 ∨ st = 4 then s.idDone q 5 0
    else if !q.fits s.cert.length then s.idDone q 4 0
    else ((s.write q.addr s.cert).1).idDone q 0 s.cert.length

end Sys2Proof.Machine
end

