-- ==== Sys2Proof/Machine/ModuleCommands.lean ====
section
/-! DEFINITION. The meanings of the commands of HEALTHY, packages, recovery, identity, watchdogs and the throttle: one definition per row of the table. -/

namespace Sys2Proof.Machine

/-- The meaning of HEALTHY_TOGGLE (R504). -/
def execHealthyToggle (s : State) : Out := s.whenOn fun s => s.healthyToggle

/-- The meaning of PKG_VERIFY (R520). -/
def execPkgVerify (s : State) : Out := s.whenOn fun s => s.pkgVerify

/-- The meaning of PKG_VERIFY_DONE (R520). -/
def execPkgVerifyDone (up : List (Nat × Bool)) (s : State) : Out := s.whenOn fun s => s.pkgVerifyDone up

/-- The meaning of PKG_ADMIT (R523). -/
def execPkgAdmit (s : State) : Out := s.whenOn fun s => s.pkgAdmit

/-- The meaning of PKG_RELEASE (R520). -/
def execPkgRelease (s : State) : Out := s.whenOn fun s => s.pkgRelease

/-- The meaning of PKG_PROMOTE (R529). -/
def execPkgPromote (s : State) : Out := s.whenOn fun s => s.pkgPromote

/-- The meaning of PROMOTE_FLASH_DONE (R529). -/
def execPromoteFlashDone (fate : Fin 3) (reads : Bool) (s : State) : Out := s.whenOn fun s => s.promoteDone fate.val reads

/-- The meaning of PKG_START (R520). -/
def execPkgStart (s : State) : Out := s.whenOn fun s => s.pkgStart

/-- The meaning of RECOVERY_LOAD (R557). -/
def execRecoveryLoad (s : State) : Out := s.whenOn fun s => s.recoveryLoad

/-- The meaning of RECOVERY_CHECK (R557). -/
def execRecoveryCheck (s : State) : Out := s.whenOn fun s => s.recoveryCheck

/-- The meaning of RECOVERY_CHECK_DONE (R557). -/
def execRecoveryCheckDone (s : State) : Out := s.whenOn fun s => s.recoveryCheckDone

/-- The meaning of RECOVERY_WRITE (R557). -/
def execRecoveryWrite (s : State) : Out := s.whenOn fun s => s.recoveryWrite

/-- The meaning of RECOVERY_WRITE_DONE (R557). -/
def execRecoveryWriteDone (fate : Fin 3) (reads : Bool) (s : State) : Out := s.whenOn fun s => s.recoveryWriteDone fate.val reads

/-- The meaning of RECOVERY_RESTART (R557). -/
def execRecoveryRestart (s : State) : Out := s.whenOn fun s => s.recoveryRestart

/-- The meaning of ATTEST (R567). -/
def execAttest (s : State) : Out := s.whenOn fun s => s.attest

/-- The meaning of CERT (R567). -/
def execCert (s : State) : Out := s.whenOn fun s => s.certRequest

/-- The meaning of BOTTOM_TREE_DONE (R563). -/
def execBottomTreeDone (s : State) : Out := s.whenOn fun s => s.treeDone

/-- The meaning of MG_WATCHDOG (R623). -/
def execMgWatchdog (cpu : Fin 4) (sram : Bool) (ofs : BitVec 32) (mask : BitVec 4) (s : State) : Out :=
  s.whenOn fun s => s.watchdog cpu.val sram ofs.toNat mask.toNat

/-- The meaning of SEQUENCE_WRITE (R622). -/
def execSequenceWrite (cpu : Fin 4) (num : BitVec 8) (mask : BitVec 4) (s : State) : Out :=
  s.whenOn fun s => s.sequenceWrite cpu.val num.toNat mask.toNat

/-- The meaning of SEQUENCE_LATE (R622). -/
def execSequenceLate (mask : BitVec 4) (s : State) : Out := s.whenOn fun s => s.sequenceLate mask.toNat

/-- The meaning of THROTTLE_EVAL (R624). -/
def execThrottleEval (avg1 : BitVec 16) (avg100 : BitVec 16) (td : BitVec 8) (vin : BitVec 16) (s : State) : Out :=
  s.whenOn fun s => s.throttleEval avg1.toNat avg100.toNat td.toInt vin.toNat

end Sys2Proof.Machine
end

