-- ==== Sys2Proof/Machine/PixelCommands.lean ====
section
/-! DEFINITION. The meanings of the commands of the pixel pipeline, its calibration and the audit: one definition per row of the table. -/

namespace Sys2Proof.Machine

/-- The meaning of GRAZE_BUILD_DONE (R162). -/
def execGrazeBuildDone (s : State) : Out := s.whenOn fun s => s.grazeBuild

/-- The meaning of APPROVE (R178). -/
def execApprove (s : State) : Out := s.whenOn fun s => s.approve

/-- The meaning of DISCARD (R178). -/
def execDiscard (s : State) : Out := s.whenOn fun s => s.discard

/-- The meaning of TILE_WRITE_DONE (R172). -/
def execTileWriteDone (i : Fin 4096) (s : State) : Out := s.whenOn fun s => s.tileWrite i.val

/-- The meaning of FLEECE_ENCODE_DONE (R174). -/
def execFleeceEncodeDone (up : List (Nat × Bool)) (s : State) : Out := s.whenOn fun s => s.fleeceDone up

end Sys2Proof.Machine
end

