-- ==== Sys2Proof/Machine/PositionCommands.lean ====
section
/-! DEFINITION. The meanings of the commands of encoders, triggers and the track history: one definition per row of the table. -/

namespace Sys2Proof.Machine

/-- The meaning of ENCODER_COUNT (R43). -/
def execEncoderCount (e : Fin 4) (dt : Nat) (wa : BitVec 64) (wb : BitVec 64) (wz : BitVec 64) (s : State) : Out :=
  s.whenOn fun s => s.encoderCount e.val dt wa wb wz

/-- The meaning of ENCODER_LINE_FAULT (R45). -/
def execEncoderLineFault (e : Fin 4) (dt : Nat) (lines : Fin 8) (s : State) : Out := s.whenOn fun s => s.lineFault e.val dt lines.val

/-- The meaning of INDEX_EVENT (R46). -/
def execIndexEvent (e : Fin 4) (dt : Nat) (wa : BitVec 64) (wb : BitVec 64) (wz : BitVec 64) (s : State) : Out :=
  s.whenOn fun s => s.indexEvent e.val dt wa wb wz

/-- The meaning of SPEED_WINDOW_END (R51). -/
def execSpeedWindowEnd (e : Fin 4) (s : State) : Out := s.whenOn fun s => s.speedWindowEnd e.val

/-- The meaning of ENCCFG_WRITE (R65). -/
def execEncCfgWrite (e : Fin 4) (v : BitVec 32) (s : State) : Out := s.whenOn fun s => s.encCfgWrite e.val v.toNat

/-- The meaning of CLR_FAIL (R45). -/
def execClrFail (e : Fin 4) (s : State) : Out := s.whenOn fun s => s.clrFail e.val

/-- The meaning of CLR_DRIFT (R48). -/
def execClrDrift (e : Fin 4) (s : State) : Out := s.whenOn fun s => s.clrDrift e.val

/-- The meaning of TRIGGER_PENDING_ISSUE (R57). -/
def execTriggerPendingIssue (t : Fin 8) (s : State) : Out := s.whenOn fun s => s.triggerPending t.val

/-- The meaning of TRIGGER_PULSE_END (R57). -/
def execTriggerPulseEnd (t : Fin 8) (s : State) : Out := s.whenOn fun s => s.triggerEnd t.val

/-- The meaning of TRGCFG_WRITE (R74). -/
def execTrgCfgWrite (t : Fin 8) (v : BitVec 32) (s : State) : Out := s.whenOn fun s => s.trgCfgWrite t.val v.toNat

/-- The meaning of TRGDIV_WRITE (R59). -/
def execTrgDivWrite (t : Fin 8) (v : BitVec 64) (s : State) : Out := s.whenOn fun s => s.trgDivWrite t.val v.toNat

/-- The meaning of TRGSTAT_CLEAR (R78). -/
def execTrgStatClear (t : Fin 8) (v : BitVec 32) (s : State) : Out := s.whenOn fun s => s.trgStatClear t.val v.toNat

/-- The meaning of TRACK_SAMPLE (R61). -/
def execTrackSample (s : State) : Out := s.whenOn fun s => s.trackSample

end Sys2Proof.Machine
end

