-- ==== Sys2Proof/Machine/RegisterCommands.lean ====
section
/-! DEFINITION. The meanings of the commands of 64-bit register halves and plain register writes: one definition per row of the table. -/

namespace Sys2Proof.Machine

/-- The meaning of REG64_LOW_READ (R64). -/
def execReg64LowRead (agent : Fin 5) (a : BitVec 32) (s : State) : Out := s.whenOn fun s => s.agentRead agent.val a.toNat

/-- The meaning of REG64_LOW_WRITE (R64). -/
def execReg64LowWrite (agent : Fin 5) (a : BitVec 32) (v : BitVec 32) (s : State) : Out := s.whenOn fun s => s.reg64LowWrite agent.val a.toNat v.toNat

/-- The meaning of REG64_HIGH_WRITE (R64). -/
def execReg64HighWrite (agent : Fin 5) (a : BitVec 32) (v : BitVec 32) (s : State) : Out :=
  s.whenOn fun s => s.reg64HighWrite agent.val a.toNat v.toNat

/-- The meaning of REGISTER_WRITE (R8). -/
def execRegisterWrite (agent : Fin 5) (a : BitVec 32) (v : BitVec 32) (s : State) : Out := s.whenOn fun s => s.registerWrite agent.val a.toNat v.toNat

end Sys2Proof.Machine
end

