-- ==== Sys2Proof/Machine/ReplayCommands.lean ====
section
/-! DEFINITION. The meanings of the commands of replay: one definition per row of the table. -/

namespace Sys2Proof.Machine

/-- The meaning of REPLAY_ENTRY_TAKE (R133). -/
def execReplayEntryTake (up : List (Nat × Bool)) (s : State) : Out := s.whenOn fun s => s.replayTake up

/-- The meaning of REPLAY_DECODE_DONE (R135). -/
def execReplayDecodeDone (n : Fin 4) (up : List (Nat × Bool)) (s : State) : Out := s.whenOn fun s => s.replayDone n.val up

/-- The meaning of REPLAY_BUDGET_EXPIRE (R134). -/
def execReplayBudgetExpire (n : Fin 4) (s : State) : Out := s.whenOn fun s => s.replayExpire n.val

/-- The meaning of REPLAY_ENABLE (R149). -/
def execReplayEnable (v : BitVec 64) (s : State) : Out := s.whenOn fun s => s.replayEnable v.toNat

/-- The meaning of REPLAY_CLR_STAT (R152). -/
def execReplayClrStat (v : BitVec 32) (s : State) : Out := s.whenOn fun s => s.replayClear v.toNat

end Sys2Proof.Machine
end

