-- ==== Sys2Proof/Machine/ShepherdCommands.lean ====
section
/-! DEFINITION. The meanings of the commands of jobs, semaphores, placement and flushes: one definition per row of the table. -/

namespace Sys2Proof.Machine

/-- The meaning of SEM_SET (R278). -/
def execSemSet (j : Fin 256) (s : State) : Out := s.whenOn fun s => s.semCmd j.val 0

/-- The meaning of SEM_ADD (R278). -/
def execSemAdd (j : Fin 256) (s : State) : Out := s.whenOn fun s => s.semCmd j.val 1

/-- The meaning of DOORBELL (R278). -/
def execDoorbell (j : Fin 256) (s : State) : Out := s.whenOn fun s => s.doorbell j.val

/-- The meaning of WAIT (R279). -/
def execWait (j : Fin 256) (s : State) : Out := s.whenOn fun s => s.waitCmd j.val

/-- The meaning of WAIT_SATISFY (R279). -/
def execWaitSatisfy (s : State) : Out := s.whenOn fun s => s.waitSatisfy

/-- The meaning of FLUSH_RESUME (R324). -/
def execFlushResume (s : State) : Out := s.whenOn fun s => s.flushResume

/-- The meaning of JOB_TABLE_ENTER (R307). -/
def execJobTableEnter (s : State) : Out := s.whenOn fun s => s.jobTableEnter

/-- The meaning of HOUSEKEEPING_SUBMIT (R308). -/
def execHousekeepingSubmit (c : Fin 64) (own : Option (BitVec 32 × BitVec 64)) (s : State) : Out :=
  s.whenOn fun s => s.housekeepingSubmit c.val (own.map fun p => (p.1.toNat, p.2.toNat))

/-- The meaning of SCOREBOARD_ADMIT (R309). -/
def execScoreboardAdmit (j : Fin 256) (up : List (Nat × Bool)) (s : State) : Out := s.whenOn fun s => s.scoreboardAdmit j.val up

/-- The meaning of COMMAND_PLACE (R310). -/
def execCommandPlace (b : Nat × Nat × Nat) (s : State) : Out := s.whenOn fun s => s.commandPlace b

/-- The meaning of SLICE_EXPIRY (R314). -/
def execSliceExpiry (k : Fin 16) (b : Nat × Nat × Nat) (s : State) : Out := s.whenOn fun s => s.sliceExpiry k.val b

/-- The meaning of SAVE_COMPLETE (R317). -/
def execSaveComplete (k : Fin 16) (s : State) : Out := s.whenOn fun s => s.saveComplete k.val

/-- The meaning of RESTORE_COMPLETE (R317). -/
def execRestoreComplete (k : Fin 16) (s : State) : Out := s.whenOn fun s => s.restoreComplete k.val

/-- The meaning of READMIT (R339). -/
def execReadmit (c : Fin 64) (s : State) : Out := s.whenOn fun s => s.readmit c.val

/-- The meaning of SH_SEM_WRITE (R340). -/
def execShSemWrite (i : Fin 256) (v : BitVec 32) (s : State) : Out := s.whenOn fun s => s.semWrite i.val v.toNat

/-- The meaning of FLUSH_HISTORY_EXPIRY (R338). -/
def execFlushHistoryExpiry (c : Fin 64) (s : State) : Out := s.whenOn fun s => s.flushExpiry c.val

end Sys2Proof.Machine
end

