-- ==== Sys2Proof/Machine/StartCommands.lean ====
section
/-! DEFINITION. The meanings of the commands of the starts, resets and the power profile: one definition per row of the table. -/

namespace Sys2Proof.Machine

/-- The meaning of POWER_ON (R600). -/
def execPowerOn (strap : Fin 4) (s : State) : Out := .next (s.powerOn strap.val)

/-- The meaning of POWER_GOOD_FALL (R601). -/
def execPowerGoodFall (s : State) : Out := .next (s.powerOff)

/-- The meaning of RESET_N (R579). -/
def execResetN (ns : Nat) (s : State) : Out := .next (s.resetN ns)

/-- The meaning of BROWNOUT (R599). -/
def execBrownout (s : State) : Out := .next (s.brownout)

/-- The meaning of THERMAL_TRIP (R610). -/
def execThermalTrip (s : State) : Out := .next (s.thermalTrip)

/-- The meaning of COLD_START_STEP_DONE (R582). -/
def execColdStartStepDone (dt : Nat) (fail : Bool) (mask : BitVec 4) (reads : Bool) (s : State) : Out :=
  s.whenOn fun s => s.coldStepDone dt fail mask.toNat reads

/-- The meaning of COLD_START_TIMEOUT (R587). -/
def execColdStartTimeout (mask : BitVec 4) (s : State) : Out := s.whenOn fun s => s.coldTimeout mask.toNat

/-- The meaning of COLD_FAIL_CLEAR (R587). -/
def execColdFailClear (s : State) : Out := s.whenOn fun s => s.coldFailClear

/-- The meaning of HOST_COLD (R589). -/
def execHostCold (s : State) : Out := s.whenOn fun s => s.hostCold

/-- The meaning of HOST_WARM (R589). -/
def execHostWarm (s : State) : Out := s.whenOn fun s => s.hostWarm

/-- The meaning of WARM_DRAIN_END (R583). -/
def execWarmDrainEnd (s : State) : Out := s.whenOn fun s => s.drainEnd

/-- The meaning of WARM_START_STEP_DONE (R583). -/
def execWarmStartStepDone (dt : Nat) (up : List (Nat × Bool)) (fwOk : Bool) (crcOk : Bool) (s : State) : Out :=
  s.whenOn fun s => s.warmStepDone dt up fwOk crcOk

/-- The meaning of WARM_START_TIMEOUT (R586). -/
def execWarmStartTimeout (s : State) : Out := s.whenOn fun s => s.warmTimeout

/-- The meaning of PROFILE_WRITE (R609). -/
def execProfileWrite (v : BitVec 32) (s : State) : Out := s.whenOn fun s => s.profileWrite v.toNat

/-- The meaning of THERMAL_RESET_RELEASE (R610). -/
def execThermalResetRelease (s : State) : Out := .next (s.thermalRelease)

end Sys2Proof.Machine
end

