-- ==== Sys2Proof/Machine/TimeCommands.lean ====
section
/-! DEFINITION. The meanings of the commands of PTP: one definition per row of the table. -/

namespace Sys2Proof.Machine

/-- The meaning of PTP_SYNC (R396). -/
def execPtpSync (l : Fin 16) (dom : BitVec 8) (udp : Bool) (src : BitVec 64) (seq : BitVec 16) (stamp : BitVec 32) (twoStep : Bool) (t1 : Nat) (corr : Int) (s : State) : Out :=
  s.whenOn fun s => s.ptpSync l.val dom.toNat src.toNat seq.toNat stamp.toNat udp twoStep t1 corr

/-- The meaning of PTP_FOLLOW_UP (R392). -/
def execPtpFollowUp (l : Fin 16) (dom : BitVec 8) (udp : Bool) (src : BitVec 64) (seq : BitVec 16) (t1 : Nat) (corr : Int) (s : State) : Out :=
  s.whenOn fun s => s.ptpFollowUp l.val dom.toNat src.toNat seq.toNat t1 udp corr

/-- The meaning of PTP_ANNOUNCE (R392). -/
def execPtpAnnounce (l : Fin 16) (dom : BitVec 8) (udp : Bool) (m : PtpMaster) (s : State) : Out :=
  s.whenOn fun s => s.ptpAnnounce l.val dom.toNat udp m

/-- The meaning of PTP_DELAY_REQ (R392). -/
def execPtpDelayReq (l : Fin 16) (dom : BitVec 8) (udp : Bool) (src : BitVec 64) (seq : BitVec 16) (stamp : BitVec 32) (s : State) : Out :=
  s.whenOn fun s => s.ptpDelayReq l.val dom.toNat src.toNat seq.toNat stamp.toNat udp

/-- The meaning of PTP_DELAY_RESP (R392). -/
def execPtpDelayResp (l : Fin 16) (dom : BitVec 8) (udp : Bool) (src : BitVec 64) (seq : BitVec 16) (t4 : Nat) (corr : Int) (s : State) : Out :=
  s.whenOn fun s => s.ptpDelayResp l.val dom.toNat src.toNat seq.toNat t4 udp corr

/-- The meaning of PTP_SYNC_SEND (R392). -/
def execPtpSyncSend (s : State) : Out := s.whenOn fun s => s.ptpSyncSend

/-- The meaning of PTP_ANNOUNCE_SEND (R393). -/
def execPtpAnnounceSend (s : State) : Out := s.whenOn fun s => s.ptpAnnounceSend

/-- The meaning of PTP_TIMEOUT (R396). -/
def execPtpTimeout (s : State) : Out := s.whenOn fun s => s.ptpTimeout

/-- The meaning of PTP_OFS_WRITE (R397). -/
def execPtpOfsWrite (v : BitVec 64) (s : State) : Out := s.whenOn fun s => s.ptpOfsWrite v.toNat

/-- The meaning of PTP_DELAY_REQ_SEND (R392). -/
def execPtpDelayReqSend (s : State) : Out := s.whenOn fun s => s.ptpDelayReqSend

end Sys2Proof.Machine
end

