-- ==== Sys2Proof/Machine/Dispatch.lean ====
section
/-! DEFINITION. The meaning of every command, one arm per constructor. -/

namespace Sys2Proof.Machine

/-- The effect of a command on everything but the queue. -/
def exec (i : Instr) (s : State) : Host.Outcome State Fault Refusal :=
  match i with
  | .powerOn strap => Sys2Proof.Machine.execPowerOn strap s
  | .powerGoodFall => Sys2Proof.Machine.execPowerGoodFall s
  | .resetN ns => Sys2Proof.Machine.execResetN ns s
  | .brownout => Sys2Proof.Machine.execBrownout s
  | .thermalTrip => Sys2Proof.Machine.execThermalTrip s
  | .hpResetN asserted => Sys2Proof.Machine.execHpResetN asserted s
  | .coldStartStepDone dt fail mask reads => Sys2Proof.Machine.execColdStartStepDone dt fail mask reads s
  | .coldStartTimeout mask => Sys2Proof.Machine.execColdStartTimeout mask s
  | .coldFailClear => Sys2Proof.Machine.execColdFailClear s
  | .hostCold => Sys2Proof.Machine.execHostCold s
  | .hostWarm => Sys2Proof.Machine.execHostWarm s
  | .warmDrainEnd => Sys2Proof.Machine.execWarmDrainEnd s
  | .warmStartStepDone dt up fwOk crcOk => Sys2Proof.Machine.execWarmStartStepDone dt up fwOk crcOk s
  | .warmStartTimeout => Sys2Proof.Machine.execWarmStartTimeout s
  | .profileWrite v => Sys2Proof.Machine.execProfileWrite v s
  | .encoderCount e dt wa wb wz => Sys2Proof.Machine.execEncoderCount e dt wa wb wz s
  | .encoderLineFault e dt lines => Sys2Proof.Machine.execEncoderLineFault e dt lines s
  | .indexEvent e dt wa wb wz => Sys2Proof.Machine.execIndexEvent e dt wa wb wz s
  | .speedWindowEnd e => Sys2Proof.Machine.execSpeedWindowEnd e s
  | .encCfgWrite e v => Sys2Proof.Machine.execEncCfgWrite e v s
  | .clrFail e => Sys2Proof.Machine.execClrFail e s
  | .clrDrift e => Sys2Proof.Machine.execClrDrift e s
  | .triggerPendingIssue t => Sys2Proof.Machine.execTriggerPendingIssue t s
  | .triggerPulseEnd t => Sys2Proof.Machine.execTriggerPulseEnd t s
  | .trgCfgWrite t v => Sys2Proof.Machine.execTrgCfgWrite t v s
  | .trgDivWrite t v => Sys2Proof.Machine.execTrgDivWrite t v s
  | .trgStatClear t v => Sys2Proof.Machine.execTrgStatClear t v s
  | .trackSample => Sys2Proof.Machine.execTrackSample s
  | .reg64LowRead agent a => Sys2Proof.Machine.execReg64LowRead agent a s
  | .reg64LowWrite agent a v => Sys2Proof.Machine.execReg64LowWrite agent a v s
  | .reg64HighWrite agent a v => Sys2Proof.Machine.execReg64HighWrite agent a v s
  | .registerWrite agent a v => Sys2Proof.Machine.execRegisterWrite agent a v s
  | .laneCfgWrite l v => Sys2Proof.Machine.execLaneCfgWrite l v s
  | .adaptConverged l => Sys2Proof.Machine.execAdaptConverged l s
  | .laneSignalLoss l => Sys2Proof.Machine.execLaneSignalLoss l s
  | .laneBlockReceive l hdr data at_ => Sys2Proof.Machine.execLaneBlockReceive l hdr data at_ s
  | .lpiEntry l => Sys2Proof.Machine.execLpiEntry l s
  | .lpiWakeDone l => Sys2Proof.Machine.execLpiWakeDone l s
  | .cameraFrameReceive l b ls up => Sys2Proof.Machine.execCameraFrameReceive l b ls up s
  | .frameTransmit l => Sys2Proof.Machine.execFrameTransmit l s
  | .arpRequest l => Sys2Proof.Machine.execArpRequest l s
  | .icmpEcho l => Sys2Proof.Machine.execIcmpEcho l s
  | .gvcpAck l => Sys2Proof.Machine.execGvcpAck l s
  | .gvcpRetryTimeout l => Sys2Proof.Machine.execGvcpRetryTimeout l s
  | .strctlSetup n v => Sys2Proof.Machine.execStrctlSetup n v s
  | .cameraHeartbeat l => Sys2Proof.Machine.execCameraHeartbeat l s
  | .cameraSetupGiveUp n => Sys2Proof.Machine.execCameraSetupGiveUp n s
  | .lineTimeout n => Sys2Proof.Machine.execLineTimeout n s
  | .streamEnChange n en => Sys2Proof.Machine.execStreamEnChange n en s
  | .viewEnChange v en => Sys2Proof.Machine.execViewEnChange v en s
  | .replayEntryTake up => Sys2Proof.Machine.execReplayEntryTake up s
  | .replayDecodeDone n up => Sys2Proof.Machine.execReplayDecodeDone n up s
  | .replayBudgetExpire n => Sys2Proof.Machine.execReplayBudgetExpire n s
  | .replayEnable v => Sys2Proof.Machine.execReplayEnable v s
  | .replayClrStat v => Sys2Proof.Machine.execReplayClrStat v s
  | .grazeBuildDone => Sys2Proof.Machine.execGrazeBuildDone s
  | .approve => Sys2Proof.Machine.execApprove s
  | .discard => Sys2Proof.Machine.execDiscard s
  | .tileWriteDone k => Sys2Proof.Machine.execTileWriteDone k s
  | .fleeceEncodeDone up => Sys2Proof.Machine.execFleeceEncodeDone up s
  | .lambStreamStart => Sys2Proof.Machine.execLambStreamStart s
  | .lambStreamEnd u up => Sys2Proof.Machine.execLambStreamEnd u up s
  | .lbConv up => Sys2Proof.Machine.execLbConv up s
  | .lbSort up => Sys2Proof.Machine.execLbSort up s
  | .conv k up err => Sys2Proof.Machine.execConv k up err s
  | .dwconv k up err => Sys2Proof.Machine.execDwconv k up err s
  | .matmul k up err => Sys2Proof.Machine.execMatmul k up err s
  | .pool k up err => Sys2Proof.Machine.execPool k up err s
  | .eltw k up err => Sys2Proof.Machine.execEltw k up err s
  | .act k up err => Sys2Proof.Machine.execAct k up err s
  | .sfu k up err => Sys2Proof.Machine.execSfu k up err s
  | .req k up err => Sys2Proof.Machine.execReq k up err s
  | .resize k up err => Sys2Proof.Machine.execResize k up err s
  | .reduce k up err => Sys2Proof.Machine.execReduce k up err s
  | .copy k up err => Sys2Proof.Machine.execCopy k up err s
  | .table k up err => Sys2Proof.Machine.execTable k up err s
  | .nearSearch k up err => Sys2Proof.Machine.execNearSearch k up err s
  | .nearMerge k up err => Sys2Proof.Machine.execNearMerge k up err s
  | .semSet j => Sys2Proof.Machine.execSemSet j s
  | .semAdd j => Sys2Proof.Machine.execSemAdd j s
  | .doorbell j => Sys2Proof.Machine.execDoorbell j s
  | .wait j => Sys2Proof.Machine.execWait j s
  | .waitSatisfy => Sys2Proof.Machine.execWaitSatisfy s
  | .emit k up err => Sys2Proof.Machine.execEmit k up err s
  | .flushResume => Sys2Proof.Machine.execFlushResume s
  | .coreCommandComplete lamb n tally => Sys2Proof.Machine.execCoreCommandComplete lamb n tally s
  | .coreWatchdog k => Sys2Proof.Machine.execCoreWatchdog k s
  | .jobTableEnter => Sys2Proof.Machine.execJobTableEnter s
  | .housekeepingSubmit c own => Sys2Proof.Machine.execHousekeepingSubmit c own s
  | .scoreboardAdmit j up => Sys2Proof.Machine.execScoreboardAdmit j up s
  | .commandPlace b => Sys2Proof.Machine.execCommandPlace b s
  | .sliceExpiry k b => Sys2Proof.Machine.execSliceExpiry k b s
  | .saveComplete k => Sys2Proof.Machine.execSaveComplete k s
  | .restoreComplete k => Sys2Proof.Machine.execRestoreComplete k s
  | .readmit c => Sys2Proof.Machine.execReadmit c s
  | .shSemWrite k v => Sys2Proof.Machine.execShSemWrite k v s
  | .collectorAccept => Sys2Proof.Machine.execCollectorAccept s
  | .gateFrameStart => Sys2Proof.Machine.execGateFrameStart s
  | .pulseMaxExpiry o => Sys2Proof.Machine.execPulseMaxExpiry o s
  | .foOcfgWrite o v => Sys2Proof.Machine.execFoOcfgWrite o v s
  | .ptpSync l dom udp src seq stamp twoStep t1 corr => Sys2Proof.Machine.execPtpSync l dom udp src seq stamp twoStep t1 corr s
  | .ptpFollowUp l dom udp src seq t1 corr => Sys2Proof.Machine.execPtpFollowUp l dom udp src seq t1 corr s
  | .ptpAnnounce l dom udp m => Sys2Proof.Machine.execPtpAnnounce l dom udp m s
  | .ptpDelayReq l dom udp src seq stamp => Sys2Proof.Machine.execPtpDelayReq l dom udp src seq stamp s
  | .ptpDelayResp l dom udp src seq t4 corr => Sys2Proof.Machine.execPtpDelayResp l dom udp src seq t4 corr s
  | .ptpSyncSend => Sys2Proof.Machine.execPtpSyncSend s
  | .ptpAnnounceSend => Sys2Proof.Machine.execPtpAnnounceSend s
  | .ptpTimeout => Sys2Proof.Machine.execPtpTimeout s
  | .ptpOfsWrite v => Sys2Proof.Machine.execPtpOfsWrite v s
  | .alignExchangeTimer => Sys2Proof.Machine.execAlignExchangeTimer s
  | .launchArm v => Sys2Proof.Machine.execLaunchArm v s
  | .launchCheck => Sys2Proof.Machine.execLaunchCheck s
  | .launch => Sys2Proof.Machine.execLaunch s
  | .launchPosTimeout => Sys2Proof.Machine.execLaunchPosTimeout s
  | .barrierLaunch => Sys2Proof.Machine.execBarrierLaunch s
  | .halfVerdictSend => Sys2Proof.Machine.execHalfVerdictSend s
  | .drvCfgWrite v => Sys2Proof.Machine.execDrvCfgWrite v s
  | .droveInitSend => Sys2Proof.Machine.execDroveInitSend s
  | .droveInitTimeout => Sys2Proof.Machine.execDroveInitTimeout s
  | .droveInitFlit b => Sys2Proof.Machine.execDroveInitFlit b s
  | .droveNopFlit b => Sys2Proof.Machine.execDroveNopFlit b s
  | .droveDataFlit b => Sys2Proof.Machine.execDroveDataFlit b s
  | .droveNakFlit b => Sys2Proof.Machine.execDroveNakFlit b s
  | .droveFlitBadCrc => Sys2Proof.Machine.execDroveFlitBadCrc s
  | .droveAckTimeout => Sys2Proof.Machine.execDroveAckTimeout s
  | .droveFlitTransmit => Sys2Proof.Machine.execDroveFlitTransmit s
  | .scrubRead up => Sys2Proof.Machine.execScrubRead up s
  | .dmaCopy c up => Sys2Proof.Machine.execDmaCopy c up s
  | .dmaFill c up => Sys2Proof.Machine.execDmaFill c up s
  | .dmaCompare c up => Sys2Proof.Machine.execDmaCompare c up s
  | .dmaResume c => Sys2Proof.Machine.execDmaResume c s
  | .dmaAbort c => Sys2Proof.Machine.execDmaAbort c s
  | .ringIndexSample descs up => Sys2Proof.Machine.execRingIndexSample descs up s
  | .hostAct bank row => Sys2Proof.Machine.execHostAct bank row s
  | .hostPre => Sys2Proof.Machine.execHostPre s
  | .hostRd bank col bl32 up => Sys2Proof.Machine.execHostRd bank col bl32 up s
  | .hostWr bank col bl32 data mask => Sys2Proof.Machine.execHostWr bank col bl32 data mask s
  | .hostMrw reg op => Sys2Proof.Machine.execHostMrw reg op s
  | .hostMrr reg => Sys2Proof.Machine.execHostMrr reg s
  | .hostRefresh => Sys2Proof.Machine.execHostRefresh s
  | .selfRefreshEntry => Sys2Proof.Machine.execSelfRefreshEntry s
  | .selfRefreshExit => Sys2Proof.Machine.execSelfRefreshExit s
  | .powerDownEntry => Sys2Proof.Machine.execPowerDownEntry s
  | .powerDownExit => Sys2Proof.Machine.execPowerDownExit s
  | .zqStart => Sys2Proof.Machine.execZqStart s
  | .zqLatch => Sys2Proof.Machine.execZqLatch s
  | .commandBusTraining ca => Sys2Proof.Machine.execCommandBusTraining ca s
  | .wck2ckLevelling ck => Sys2Proof.Machine.execWck2ckLevelling ck s
  | .readDqCalibration => Sys2Proof.Machine.execReadDqCalibration s
  | .wff data => Sys2Proof.Machine.execWff data s
  | .rff => Sys2Proof.Machine.execRff s
  | .writeX => Sys2Proof.Machine.execWriteX s
  | .dataCopy => Sys2Proof.Machine.execDataCopy s
  | .heartbeatWrite hck => Sys2Proof.Machine.execHeartbeatWrite hck s
  | .hpHostLost => Sys2Proof.Machine.execHpHostLost s
  | .read32 => Sys2Proof.Machine.execRead32 s
  | .write32 => Sys2Proof.Machine.execWrite32 s
  | .read64 => Sys2Proof.Machine.execRead64 s
  | .write64 => Sys2Proof.Machine.execWrite64 s
  | .mailboxRequest => Sys2Proof.Machine.execMailboxRequest s
  | .mailboxReplyRelease k => Sys2Proof.Machine.execMailboxReplyRelease k s
  | .hpStatClear v => Sys2Proof.Machine.execHpStatClear v s
  | .downlinkFrame err => Sys2Proof.Machine.execDownlinkFrame err s
  | .fieldEdgeExecute => Sys2Proof.Machine.execFieldEdgeExecute s
  | .fieldWindowOpen rdbk => Sys2Proof.Machine.execFieldWindowOpen rdbk s
  | .cfgMessage => Sys2Proof.Machine.execCfgMessage s
  | .cfgCommit => Sys2Proof.Machine.execCfgCommit s
  | .fieldSafeState => Sys2Proof.Machine.execFieldSafeState s
  | .uplinkFrameReceive err => Sys2Proof.Machine.execUplinkFrameReceive err s
  | .isoAlignLoss onDie => Sys2Proof.Machine.execIsoAlignLoss onDie s
  | .fieldLost => Sys2Proof.Machine.execFieldLost s
  | .fieldBack => Sys2Proof.Machine.execFieldBack s
  | .inputFilterChange k level => Sys2Proof.Machine.execInputFilterChange k level s
  | .wireBreak k => Sys2Proof.Machine.execWireBreak k s
  | .supplyCrossing st => Sys2Proof.Machine.execSupplyCrossing st s
  | .outputOverload o acts => Sys2Proof.Machine.execOutputOverload o acts s
  | .thermalShutdown o => Sys2Proof.Machine.execThermalShutdown o s
  | .thermalRestart o => Sys2Proof.Machine.execThermalRestart o s
  | .readbackMismatch o => Sys2Proof.Machine.execReadbackMismatch o s
  | .healthyToggle => Sys2Proof.Machine.execHealthyToggle s
  | .pkgVerify => Sys2Proof.Machine.execPkgVerify s
  | .pkgVerifyDone up => Sys2Proof.Machine.execPkgVerifyDone up s
  | .pkgAdmit => Sys2Proof.Machine.execPkgAdmit s
  | .pkgRelease => Sys2Proof.Machine.execPkgRelease s
  | .pkgPromote => Sys2Proof.Machine.execPkgPromote s
  | .promoteFlashDone fate reads => Sys2Proof.Machine.execPromoteFlashDone fate reads s
  | .pkgStart => Sys2Proof.Machine.execPkgStart s
  | .recoveryLoad => Sys2Proof.Machine.execRecoveryLoad s
  | .recoveryCheck => Sys2Proof.Machine.execRecoveryCheck s
  | .recoveryCheckDone => Sys2Proof.Machine.execRecoveryCheckDone s
  | .recoveryWrite => Sys2Proof.Machine.execRecoveryWrite s
  | .recoveryWriteDone fate reads => Sys2Proof.Machine.execRecoveryWriteDone fate reads s
  | .recoveryRestart => Sys2Proof.Machine.execRecoveryRestart s
  | .attest => Sys2Proof.Machine.execAttest s
  | .cert => Sys2Proof.Machine.execCert s
  | .bottomTreeDone => Sys2Proof.Machine.execBottomTreeDone s
  | .mgWatchdog cpu sram ofs mask => Sys2Proof.Machine.execMgWatchdog cpu sram ofs mask s
  | .sequenceWrite cpu num mask => Sys2Proof.Machine.execSequenceWrite cpu num mask s
  | .sequenceLate mask => Sys2Proof.Machine.execSequenceLate mask s
  | .throttleEval avg1 avg100 td vin => Sys2Proof.Machine.execThrottleEval avg1 avg100 td vin s
  | .thermalResetRelease => Sys2Proof.Machine.execThermalResetRelease s
  | .mmCe => Sys2Proof.Machine.execMmCe s
  | .mgSramCe code cp => Sys2Proof.Machine.execMgSramCe code cp s
  | .flushHistoryExpiry c => Sys2Proof.Machine.execFlushHistoryExpiry c s
  | .wireBreakClear k => Sys2Proof.Machine.execWireBreakClear k s
  | .ptpDelayReqSend => Sys2Proof.Machine.execPtpDelayReqSend s

end Sys2Proof.Machine
end

