-- ==== Sys2Proof/Machine/Step.lean ====
section
/-! DEFINITION. One step of the module: the command at the front of the queue, or the passing of time. -/

namespace Sys2Proof.Machine

/-- A module whose queue is empty idles for one ENC cycle of 5 ns; unpowered or held in reset it stands still (R576). -/
def State.idle (s : State) : State := if s.phase = .off then s else s.advance 1

/-- A step takes the command at the front of the queue and answers what it does to the module with the queue's rest. -/
def step (s : State) : Host.Outcome State Fault Refusal :=
  match s.pending with
  | [] => .next s.idle
  | c :: rest => exec c { s with pending := rest }

/-- The state with the command that a table word spells put at the front of its queue: the table spells none. -/
def State.withFetchWord (s : State) (nbits w : Nat) : State :=
  match Sys2Proof.decodeTableWord nbits w with
  | some c => { s with pending := c :: s.pending }
  | none => s

end Sys2Proof.Machine
end

