-- ==== Sys2Proof/WellFormed.lean ====
section
/-! DEFINITION. Well-formed commands: the conditions on operands that the types of `Instr` do not carry. -/

namespace Sys2Proof

/-- An address of the module's memories: DDR5, the shared weight store, the Pen window, a core store (R435, R437). -/
def memAddr (a : Nat) : Bool :=
  decide (a < 0x800000000) || decide (0x2100000000 ≤ a ∧ a < 0x2100800000) || decide (0x2200000000 ≤ a ∧ a < 0x2200200000) ||
    decide (0x2400000000 ≤ a ∧ a < 0x2410000000)

/-- Errors arise only where there is memory. -/
def upsetsOk (l : List (Nat × Bool)) : Bool := l.all fun p => memAddr p.1

/-- Errors of a store with `n` numbered places. -/
def placesOk (n : Nat) (l : List (Nat × Bool)) : Bool := l.all fun p => decide (p.1 < n)

/-- The fields of a PTP clock data set have the widths of IEEE 1588. -/
def masterOk (m : Machine.PtpMaster) : Bool :=
  decide (m.prio1 < 256 ∧ m.cls < 256 ∧ m.acc < 256 ∧ m.var < 65536 ∧ m.prio2 < 256 ∧ m.gm < 2 ^ 64 ∧ m.steps < 65536 ∧ m.src < 2 ^ 64)

/-- Whether a command is well formed: a flit has 256 bytes (R100), a burst 32 or 64 (R453), a register address is a multiple of 4 (R2), the
halves of a 64-bit register lie at multiples of 8 and 4 above (R64), errors arise where there is memory, and only ENC0 and ENC1 have
differential lines (R45). -/
def Instr.wellFormed : Instr → Bool
  | .encoderLineFault e _ _ => decide (e.val < 2)
  | .reg64LowRead _ a => decide (a.toNat % 8 = 0)
  | .reg64LowWrite _ a _ => decide (a.toNat % 8 = 0)
  | .reg64HighWrite _ a _ => decide (a.toNat % 8 = 4)
  | .registerWrite _ a _ => decide (a.toNat % 4 = 0)
  | .warmStartStepDone _ up _ _ => upsetsOk up
  | .cameraFrameReceive _ _ ls up => upsetsOk up && ls.all fun p => decide (p.1 < 16)
  | .replayEntryTake up | .replayDecodeDone _ up | .fleeceEncodeDone up | .lambStreamEnd _ up | .lbConv up | .lbSort up
  | .scrubRead up | .pkgVerifyDone up | .scoreboardAdmit _ up | .hostRd _ _ _ up => upsetsOk up
  | .conv _ up _ | .dwconv _ up _ | .matmul _ up _ | .pool _ up _ | .eltw _ up _ | .act _ up _ | .sfu _ up _ | .req _ up _
  | .resize _ up _ | .reduce _ up _ | .copy _ up _ | .table _ up _ | .nearSearch _ up _ | .nearMerge _ up _ | .emit _ up _ => upsetsOk up
  | .dmaCopy _ up | .dmaFill _ up | .dmaCompare _ up => upsetsOk up
  | .coreCommandComplete lamb n tally => (!lamb || decide (n.val < 4)) && placesOk 4096 tally
  | .ringIndexSample descs up => placesOk 8192 descs && upsetsOk up
  | .ptpAnnounce _ _ _ m => masterOk m
  | .droveInitFlit b | .droveNopFlit b | .droveDataFlit b | .droveNakFlit b => decide (b.length = 256)
  | .hostWr _ _ bl32 data mask => decide (data.length = if bl32 then 64 else 32) && (bl32 || decide (mask.toNat < 2 ^ 32))
  | .wff data => decide (data.length = 32)
  | .mgSramCe code cp => decide (0 < code.val) && (decide (code.val = 4) || decide (cp = 0))
  | .mgWatchdog _ sram ofs _ => sram || decide (ofs = 0)
  | .powerOn .. | .powerGoodFall | .resetN .. | .brownout | .thermalTrip | .thermalResetRelease | .coldStartStepDone .. | .coldStartTimeout ..
  | .coldFailClear | .hostCold | .hostWarm | .warmDrainEnd | .warmStartTimeout | .profileWrite .. | .encoderCount .. | .indexEvent ..
  | .speedWindowEnd .. | .encCfgWrite .. | .clrFail .. | .clrDrift .. | .triggerPendingIssue .. | .triggerPulseEnd .. | .trgCfgWrite ..
  | .trgDivWrite .. | .trgStatClear .. | .trackSample | .laneCfgWrite .. | .adaptConverged .. | .laneSignalLoss .. | .laneBlockReceive ..
  | .lpiEntry .. | .lpiWakeDone .. | .frameTransmit .. | .arpRequest .. | .icmpEcho .. | .gvcpAck .. | .gvcpRetryTimeout .. | .strctlSetup ..
  | .cameraHeartbeat .. | .cameraSetupGiveUp .. | .lineTimeout .. | .streamEnChange .. | .viewEnChange .. | .replayBudgetExpire ..
  | .replayEnable .. | .replayClrStat .. | .grazeBuildDone | .approve | .discard | .tileWriteDone .. | .lambStreamStart | .semSet .. | .semAdd ..
  | .doorbell .. | .wait .. | .waitSatisfy | .flushResume | .coreWatchdog .. | .jobTableEnter | .housekeepingSubmit .. | .commandPlace ..
  | .sliceExpiry .. | .saveComplete .. | .restoreComplete .. | .readmit .. | .shSemWrite .. | .collectorAccept | .gateFrameStart
  | .pulseMaxExpiry .. | .foOcfgWrite .. | .ptpSync .. | .ptpFollowUp .. | .ptpDelayReq .. | .ptpDelayResp .. | .ptpSyncSend
  | .ptpAnnounceSend | .ptpTimeout | .ptpOfsWrite .. | .alignExchangeTimer | .launchArm .. | .launchCheck | .launch | .launchPosTimeout
  | .barrierLaunch | .halfVerdictSend | .drvCfgWrite .. | .droveInitSend | .droveInitTimeout | .droveFlitBadCrc | .droveAckTimeout
  | .droveFlitTransmit | .dmaResume .. | .dmaAbort .. | .hostAct .. | .hostPre | .hostMrw .. | .hostMrr .. | .hostRefresh
  | .selfRefreshEntry | .selfRefreshExit | .powerDownEntry | .powerDownExit | .zqStart | .zqLatch | .commandBusTraining ..
  | .wck2ckLevelling .. | .readDqCalibration | .rff | .writeX | .dataCopy | .heartbeatWrite .. | .hpHostLost | .read32 | .write32 | .read64
  | .write64 | .mailboxRequest | .mailboxReplyRelease .. | .hpStatClear .. | .downlinkFrame .. | .fieldEdgeExecute | .fieldWindowOpen ..
  | .cfgMessage | .cfgCommit | .fieldSafeState | .uplinkFrameReceive .. | .isoAlignLoss .. | .fieldLost | .fieldBack | .inputFilterChange ..
  | .wireBreak .. | .supplyCrossing .. | .outputOverload .. | .thermalShutdown .. | .thermalRestart .. | .readbackMismatch ..
  | .healthyToggle | .pkgVerify | .pkgAdmit | .pkgRelease | .pkgPromote | .promoteFlashDone .. | .pkgStart | .recoveryLoad | .recoveryCheck
  | .recoveryCheckDone | .recoveryWrite | .recoveryWriteDone .. | .recoveryRestart | .attest | .cert | .bottomTreeDone | .sequenceWrite ..
  | .sequenceLate .. | .throttleEval .. | .mmCe | .flushHistoryExpiry .. | .wireBreakClear .. | .ptpDelayReqSend | .hpResetN .. => true

end Sys2Proof
end

