-- ==== Sys2Proof/Safety.lean ====
section
/-! DEFINITION. What counts as a sound state and a safe run of the module. -/

namespace Sys2Proof.Machine

/-- The memory is in its canonical form: addresses rise strictly, and no listed byte is the 0 that an unlisted address reads as. -/
def Memory.wf (m : List Host.Cell) : Bool := Tab.wf 0 m

/-- The register file is in a canonical form: keys rise strictly. -/
def regsWf (m : Tab Nat) : Bool := Tab.risesFrom 0 m

/-- A state whose memory, error marks, register file and ring table are in their canonical forms. -/
def State.wf (s : State) : Bool :=
  Memory.wf s.mem && Tab.wf .clean s.marks && regsWf s.regs && Tab.wf {} s.rings

/-- OTP bits once burnt stay burnt: every bit set in the OTP of `s` is set in that of `t` (R541, R547). -/
def OtpGrows (s t : State) : Prop :=
  ∀ a i, (Tab.get 0 s.image.otp a).getLsbD i = true → (Tab.get 0 t.image.otp a).getLsbD i = true

/-! ## What a command may touch -/

/-- The units of the state, one for each of its fields but the queue and the ordering code. -/
inductive Part where
  | phase | regs | mem | marks | rings | clk | ev | pos | fold | shep | cores | lamb | drove | link | die | audit | lanes
  | streams | px | replay | ptpHold | pair | ptp | bell | dma | host | halves | pkg | image | ident | start | health | pins
  | free
  deriving DecidableEq, Repr

/-- A unit is the same in two states. -/
def Part.Same (s t : State) : Part → Prop
  | .phase => t.phase = s.phase
  | .regs => t.regs = s.regs
  | .mem => t.mem = s.mem
  | .marks => t.marks = s.marks
  | .rings => t.rings = s.rings
  | .clk => t.clk = s.clk
  | .ev => t.ev = s.ev
  | .pos => t.pos = s.pos
  | .fold => t.fold = s.fold
  | .shep => t.shep = s.shep
  | .cores => t.cores = s.cores
  | .lamb => t.lamb = s.lamb
  | .drove => t.drove = s.drove
  | .link => t.link = s.link
  | .die => t.die = s.die
  | .audit => t.audit = s.audit
  | .lanes => t.lanes = s.lanes
  | .streams => t.streams = s.streams
  | .px => t.px = s.px
  | .replay => t.replay = s.replay
  | .ptpHold => t.ptpHold = s.ptpHold
  | .pair => t.pair = s.pair
  | .ptp => t.ptp = s.ptp
  | .bell => t.bell = s.bell
  | .dma => t.dma = s.dma
  | .host => t.host = s.host
  | .halves => t.halves = s.halves
  | .pkg => t.pkg = s.pkg
  | .image => t.image = s.image
  | .ident => t.ident = s.ident
  | .start => t.start = s.start
  | .health => t.health = s.health
  | .pins => t.pins = s.pins
  | .free => t.free = s.free

/-- The units that an event can touch: its counters, its rings in memory with their error marks, and the buffer of a warm start (R617). -/
def eventParts : List Part := [.regs, .mem, .marks, .rings, .ev]

/-- The units that the end of a job or of a part can touch: those of an event, Tally and the gate, the Shepherd, the cores, the Lamb engine, the
Drove payloads, the audit queue, the halves of a split race and the attention pin (R26, R331). -/
def verdictParts : List Part := eventParts ++ [.fold, .shep, .cores, .lamb, .drove, .audit, .pair, .pins]

/-- Every unit but the count of free values. -/
def allParts : List Part := [.phase, .regs, .mem, .marks, .rings, .clk, .ev, .pos, .fold, .shep, .cores, .lamb, .drove, .link, .die, .audit,
  .lanes, .streams, .px, .replay, .ptpHold, .pair, .ptp, .bell, .dma, .host, .halves, .pkg, .image, .ident, .start, .health, .pins]

/-- The units of the state that a command may touch; every other unit it leaves as it was. -/
def commandParts : Instr → List Part
  | .powerOn .. | .powerGoodFall .. | .resetN .. | .brownout .. | .thermalTrip .. | .coldStartTimeout .. | .hostCold ..
  | .recoveryRestart .. | .thermalResetRelease .. => allParts
  | .hpResetN .. => [.host]
  | .coldStartStepDone .. | .warmStartStepDone .. | .warmStartTimeout .. | .reg64HighWrite .. | .registerWrite .. | .write32 ..
  | .write64 .. | .mgWatchdog .. | .sequenceWrite .. | .sequenceLate .. => allParts ++ [.free]
  | .coldFailClear .. => [.regs, .clk]
  | .hostWarm .. => verdictParts ++ [.phase, .streams, .px, .replay, .start, .free]
  | .warmDrainEnd .. => verdictParts ++ [.phase, .clk, .pos, .lanes, .px, .pkg, .image, .ident, .start, .free]
  | .profileWrite .. | .clrDrift .. | .trgDivWrite .. | .trgStatClear .. | .replayClrStat .. | .shSemWrite .. | .foOcfgWrite .. => [.regs]
  | .encoderCount .. | .indexEvent .. | .encCfgWrite .. | .clrFail .. => verdictParts ++ [.clk, .pos, .die, .streams, .free]
  | .encoderLineFault .. | .speedWindowEnd .. => verdictParts ++ [.clk, .pos, .free]
  | .triggerPendingIssue .. => [.regs, .clk, .pos, .streams]
  | .triggerPulseEnd .. => [.clk, .pos]
  | .trgCfgWrite .. => [.regs, .pos]
  | .trackSample .. => verdictParts ++ [.clk, .pos, .streams, .px, .start, .free]
  | .reg64LowRead .. | .reg64LowWrite .. => [.halves]
  | .laneCfgWrite .. | .laneSignalLoss .. | .drvCfgWrite ..
    => eventParts ++ [.fold, .shep, .lamb, .drove, .audit, .lanes, .pair, .bell, .pins]
  | .adaptConverged .. => [.regs, .lanes]
  | .laneBlockReceive .. => eventParts ++ [.clk, .fold, .shep, .lamb, .drove, .audit, .lanes, .pair, .bell, .pins, .free]
  | .lpiEntry .. => [.regs, .clk, .lanes]
  | .lpiWakeDone .. => [.regs, .clk, .lanes, .ptp, .free]
  | .cameraFrameReceive .. => verdictParts ++ [.lanes, .streams, .px, .start, .free]
  | .frameTransmit .. => [.lanes, .ptp, .free]
  | .arpRequest .. | .icmpEcho .. | .ptpDelayReq .. => [.lanes]
  | .gvcpAck .. => eventParts ++ [.lanes, .streams]
  | .gvcpRetryTimeout .. => eventParts ++ [.clk, .lanes, .streams]
  | .strctlSetup .. => [.regs, .lanes, .streams]
  | .cameraHeartbeat .. => [.clk, .lanes]
  | .cameraSetupGiveUp .. => eventParts ++ [.clk, .lanes]
  | .lineTimeout .. => verdictParts ++ [.clk, .streams, .px, .start, .free]
  | .streamEnChange .. => verdictParts ++ [.streams, .px, .start, .free]
  | .viewEnChange .. => verdictParts ++ [.streams, .px, .free]
  | .replayEntryTake .. => eventParts ++ [.fold, .replay, .free]
  | .replayDecodeDone .. => eventParts ++ [.clk, .fold, .shep, .audit, .replay, .free]
  | .replayBudgetExpire .. => eventParts ++ [.clk, .fold, .replay, .free]
  | .replayEnable .. => [.regs, .replay]
  | .grazeBuildDone .. => eventParts ++ [.px]
  | .approve .. | .discard .. => [.regs, .px]
  | .tileWriteDone .. => eventParts ++ [.fold, .lamb, .audit, .px]
  | .fleeceEncodeDone .. => eventParts ++ [.audit]
  | .lambStreamStart .. => verdictParts ++ [.px, .free]
  | .lambStreamEnd .. => verdictParts ++ [.clk, .px, .free]
  | .lbConv .. | .lbSort .. | .conv .. | .dwconv .. | .matmul .. | .pool .. | .eltw .. | .act .. | .sfu .. | .req .. | .resize ..
  | .reduce .. | .copy .. | .table .. | .nearSearch .. | .nearMerge .. | .semSet .. | .semAdd .. | .doorbell .. | .wait .. | .emit ..
  | .jobTableEnter .. | .scoreboardAdmit .. | .restoreComplete .. => verdictParts ++ [.free]
  | .waitSatisfy .. => verdictParts
  | .flushResume .. => [.shep]
  | .coreCommandComplete .. => verdictParts ++ [.px, .health, .free]
  | .coreWatchdog .. => eventParts ++ [.fold, .shep, .cores, .pins]
  | .housekeepingSubmit .. => eventParts ++ [.shep]
  | .commandPlace .. => eventParts ++ [.fold, .shep, .cores, .lamb, .free]
  | .sliceExpiry .. => eventParts ++ [.clk, .shep, .cores, .free]
  | .saveComplete .. => eventParts ++ [.shep, .cores, .free]
  | .readmit .. | .flushHistoryExpiry .. => [.regs, .shep]
  | .collectorAccept .. => [.fold, .shep]
  | .gateFrameStart .. => eventParts ++ [.clk, .fold, .lamb, .link, .audit, .pins]
  | .pulseMaxExpiry .. => [.clk, .fold]
  | .ptpSync .. | .ptpFollowUp .. => eventParts ++ [.ptpHold, .ptp, .free]
  | .ptpAnnounce .. => eventParts ++ [.ptp]
  | .ptpDelayResp .. => [.ptp]
  | .ptpSyncSend .. | .ptpAnnounceSend .. => [.clk, .lanes, .ptp]
  | .ptpTimeout .. => eventParts ++ [.clk, .ptp]
  | .ptpOfsWrite .. => eventParts ++ [.ptpHold]
  | .alignExchangeTimer .. => [.clk, .drove, .bell]
  | .launchArm .. => eventParts ++ [.drove, .bell, .pins]
  | .launchCheck .. => [.clk, .bell]
  | .launch .. => eventParts ++ [.clk, .pos, .fold, .lamb, .drove, .audit, .px, .pair, .bell, .pins]
  | .launchPosTimeout .. => eventParts ++ [.clk, .fold, .lamb, .audit, .pair, .bell, .pins]
  | .barrierLaunch .. => eventParts ++ [.clk, .pos, .fold, .lamb, .audit, .px, .pair, .bell, .pins]
  | .halfVerdictSend .. => [.regs, .drove, .pair]
  | .droveInitSend .. => [.clk, .drove, .lanes]
  | .droveInitTimeout .. => [.regs, .clk, .drove]
  | .droveInitFlit .. | .droveNopFlit .. | .droveNakFlit .. => eventParts ++ [.fold, .shep, .lamb, .drove, .audit, .pair, .bell, .pins]
  | .droveDataFlit .. => eventParts ++ [.clk, .fold, .shep, .lamb, .drove, .audit, .pair, .bell, .pins, .free]
  | .droveFlitBadCrc .. => [.regs, .drove]
  | .droveAckTimeout .. => eventParts ++ [.clk, .fold, .shep, .lamb, .drove, .audit, .pair, .bell, .pins]
  | .droveFlitTransmit .. => [.drove, .lanes]
  | .scrubRead .. => eventParts
  | .dmaCopy .. | .dmaFill .. | .dmaCompare .. => eventParts ++ [.dma]
  | .dmaResume .. | .dmaAbort .. => [.regs, .mem, .rings]
  | .ringIndexSample .. => eventParts ++ [.shep, .audit, .dma]
  | .hostAct .. | .hostPre .. | .hostWr .. | .hostMrw .. | .hostRefresh .. | .selfRefreshEntry .. | .selfRefreshExit ..
  | .powerDownEntry .. | .powerDownExit .. | .zqStart .. | .zqLatch .. | .commandBusTraining .. | .wck2ckLevelling ..
  | .readDqCalibration .. | .wff .. | .writeX .. | .dataCopy .. => eventParts ++ [.host]
  | .hostRd .. | .hostMrr .. | .rff .. => eventParts ++ [.host, .free]
  | .heartbeatWrite .. | .hpHostLost .. => eventParts ++ [.clk, .host]
  | .read32 .. | .read64 .. => eventParts ++ [.clk, .host, .halves]
  | .mailboxRequest .. => eventParts ++ [.lanes]
  | .mailboxReplyRelease .. => [.mem]
  | .hpStatClear .. => [.regs, .host]
  | .downlinkFrame .. => [.regs, .fold, .link, .die, .pins]
  | .fieldEdgeExecute .. => [.regs, .clk, .fold, .link, .die, .pins]
  | .fieldWindowOpen .. | .cfgMessage .. | .cfgCommit .. => [.pos, .die]
  | .fieldSafeState .. | .inputFilterChange .. | .wireBreak .. | .supplyCrossing .. | .outputOverload .. | .thermalShutdown ..
  | .readbackMismatch .. | .wireBreakClear .. => [.die]
  | .uplinkFrameReceive .. => verdictParts ++ [.pos, .link, .streams, .px, .free]
  | .isoAlignLoss .. => [.regs, .link, .die]
  | .fieldLost .. => verdictParts ++ [.link, .free]
  | .fieldBack .. => eventParts ++ [.pins]
  | .thermalRestart .. => [.clk, .die]
  | .healthyToggle .. => [.clk, .pins]
  | .pkgVerify .. | .pkgVerifyDone .. => eventParts ++ [.pkg]
  | .pkgAdmit .. => eventParts ++ [.shep, .pkg, .image]
  | .pkgRelease .. | .pkgPromote .. => eventParts ++ [.pkg, .image]
  | .promoteFlashDone .. => verdictParts ++ [.phase, .streams, .px, .replay, .pkg, .image, .start, .free]
  | .pkgStart .. => verdictParts ++ [.phase, .streams, .px, .replay, .pkg, .start, .free]
  | .recoveryLoad .. => eventParts ++ [.image]
  | .recoveryCheck .. | .recoveryCheckDone .. | .recoveryWrite .. | .recoveryWriteDone .. => [.regs, .image]
  | .attest .. | .bottomTreeDone .. => eventParts ++ [.ident, .free]
  | .cert .. => eventParts ++ [.ident]
  | .throttleEval .. => eventParts ++ [.clk, .health]
  | .mmCe .. | .mgSramCe .. => eventParts ++ [.clk]
  | .ptpDelayReqSend .. => [.lanes, .ptp]

/-- Every register field but those listed reads as it did. -/
def OnlyFields (l : List Fld) (s t : State) : Prop := ∀ f : Fld, (∀ g ∈ l, f.key ≠ g.key) → t.fld f = s.fld f

/-- The registers that an event can touch (R432, R433, R617, R625, R633): the event counters, and the error counts of the memory that its entries
are written to. -/
def EventReg (a : Nat) : Prop := a = MG_EVCNT ∨ a = MM_ECCSTAT ∨ a = MM_UEADDR ∨ a = MG_SERR ∨ ∃ k, a = CR_SERR k

/-- But for those listed and the counts that an event may move, every register field reads as it did. -/
def OnlyFieldsAndEvents (l : List Fld) (s t : State) : Prop :=
  ∀ f : Fld, f.lo < 64 → ¬EventReg f.reg → (∀ g ∈ l, f.key ≠ g.key) → t.fld f = s.fld f

/-- Every unit of the state but those listed is as it was. -/
def OnlyParts (l : List Part) (s t : State) : Prop := ∀ p, p ∉ l → p.Same s t

/-! ## Plain register writes -/

/-- The registers whose write is a command of its own, or that act beyond R8 when they are written. -/
def ownRules : List Nat := [PS_ENCCFG 0, PS_IDXCHK 0, PS_ENCCTL 0, PS_TRGCFG 0, PS_TRGDIV 0, PS_TRGSTAT 0, LN_LANECFG 0, LN_DRVCFG, IN_STRCFG 0,
  IN_STRGEOM 0, IN_STRCTL 0, IN_VIEWCFG 0, IN_RPLCFG, IN_RPLCTL, PX_EPOCHCTL, PX_VCFG 0, PX_RCFG 0, SH_CFG, SH_CCFG 0, SH_CCTL 0, SH_SEM 0, FO_RCFG 0, FO_OCFG 0, TM_CFG,
  TM_PTPOFS, TM_LAUNCHCFG, DM_CHCTL 0, HP_STAT, FI_OUTCFG, MG_PKGREQ, MG_IDREQ, MG_PADREQ, MG_PWRCFG, MG_RESETCTL]

/-- What a field of the register at `a` holds after the word `v` is written (R8): an RW field a value in its range, a W1C field 0 where a 1 is
written, every other field, and each bit that `lock` holds, what it held. -/
def State.fieldAfterWrite (s : State) (lock a v : Nat) (f : FDesc) : Nat :=
  let m := bits lock f.lo f.w
  let new := (bits v f.lo f.w - (bits v f.lo f.w &&& m)) + (s.fld (f.fld a) &&& m)
  if m = 2 ^ f.w - 1 then s.fld (f.fld a)
  else match f.acc with
    | .rw => if limOk f.lim f.w new then new else s.fld (f.fld a)
    | .w1c => if bit v f.lo then 0 else s.fld (f.fld a)
    | _ => s.fld (f.fld a)

/-! ## Tensor commands -/

/-- The tensor commands of core `k` but NEAR, each with its opcode, where nothing goes wrong around the core (R253). -/
def tensorForms (k : Fin 16) : List (Instr × Nat) :=
  [(.conv k [] .none, 1), (.dwconv k [] .none, 2), (.matmul k [] .none, 3), (.pool k [] .none, 4), (.eltw k [] .none, 5),
   (.act k [] .none, 6), (.req k [] .none, 7), (.resize k [] .none, 8), (.reduce k [] .none, 9), (.sfu k [] .none, 10), (.copy k [] .none, 13)]

/-- Every command that a core runs, with upsets and what becomes of the core's own state (R253). -/
def coreForms (k : Fin 16) (up : Upsets) (err : StateErr) : List Instr :=
  [.conv k up err, .dwconv k up err, .matmul k up err, .pool k up err, .eltw k up err, .act k up err, .req k up err, .resize k up err, .reduce k up err,
   .sfu k up err, .copy k up err, .nearSearch k up err, .nearMerge k up err, .table k up err, .emit k up err]

/-- A tensor command as a core meets it: the command, the conditions of its opcode, and its plan. -/
structure TensorCommand where
  command : Instr
  flaws : List Flaw
  plan : Plan

/-- The tensor commands that core `k` carries out for command `c` of job `x` in entry `j`: the one of its opcode (R260 to R277). -/
def State.tensorCommands (s : State) (k : Fin 16) (j : Nat) (x : Job) (c : Cmd) : List TensorCommand :=
  let d := c.desc
  ((tensorForms k).flatMap fun q => match s.planOf k j x c with
    | some (more, p) => if dOp d = q.2 then [⟨q.1, more, p⟩] else []
    | none => []) ++
  (if dOp d = 11 ∧ bit (dByte d 2) 0 = false then
    [⟨.nearSearch k [] .none, nearFlaws d ++ (s.searchPlan k x d).1, (s.searchPlan k x d).2⟩] else []) ++
  (if dOp d = 11 ∧ bit (dByte d 2) 0 = true then [⟨.nearMerge k [] .none, nearFlaws d, s.mergePlan k x d⟩] else [])

/-- Whether a command is a REDUCE that takes the mean of an empty extent, which is reported besides (R298). -/
def emptyMean (x : Job) (c : Cmd) : Bool :=
  decide (dOp c.desc = 9) && (reducePlan c.desc (partsOf x c)).ident.isSome && decide (bits (dByte c.desc 2) 2 3 = 1)

/-- What carrying the command out on core `k` answers. -/
def TensorCommand.ran (p : TensorCommand) (s : State) (k : Nat) (x : Job) (c : Cmd) : State × Ran :=
  s.runPlan k x c.desc p.plan (headFlaws c.desc c.idx ++ p.flaws)

/-- Whether an address lies in a tensor command's output or in its output's map (R255, R258). -/
def TensorCommand.writes (p : TensorCommand) (k : Nat) (x : Job) (c : Cmd) (a : Nat) : Prop :=
  (corePlace k (x.addr c.desc 12) ≤ a ∧ a < corePlace k (x.addr c.desc 12) + p.plan.c * p.plan.h * p.plan.row) ∨
  (p.plan.mapOut = true ∧ corePlace k (x.addr c.desc 24) ≤ a ∧ a < corePlace k (x.addr c.desc 24) + 16 + 4 * p.plan.tiles)

/-- A tensor command meets no obstacle: its descriptor is legal, and no unit that it reads or writes holds an error (R252, R286). -/
def TensorCommand.plain (p : TensorCommand) (s : State) (k : Nat) (x : Job) (c : Cmd) : Prop :=
  firstFlaw (headFlaws c.desc c.idx ++ p.flaws ++ s.dataFlaws k x c.desc p.plan) = none ∧
  (∀ q ∈ p.plan.units k x c.desc (p.plan.ins.map (s.viewOf k x c.desc)) (p.plan.covered.drop (s.core k).prog.instr), s.mark q.1 = .clean) ∧
  ∀ a, p.writes k x c a → s.mark a = .clean

/-! ## Placement -/

/-- The cores on which a command placed on core `k` comes to stand, part by part (R346). -/
def State.placeCores (s : State) (k : Nat) (x : Job) (c : Cmd) : List Nat :=
  k :: ((s.takers x c).filter fun m => decide (m ≠ k)).take (s.partCount x c - 1)

/-- Command `c` of job `x` in entry `j` has been placed on core `k` and on as many further cores as it has parts, behind the commands queued there or as a
restore of its saved context, a run on its run core; the core pointer moves past the last (R310, R316, R317, R346). -/
def Placed (k j : Nat) (x : Job) (c : Cmd) (payer : Option Nat) (s t : State) : Prop :=
  let ks := s.placeCores k x c
  (∀ i m, ks[i]? = some m →
    (x.isSaved c = true → (t.core m).xfer = .restore ⟨j, c.idx, i, payer⟩ ∧ (t.core m).queue = (s.core m).queue) ∧
    (x.isSaved c = false → (t.core m).queue = (s.core m).queue ++ [⟨j, c.idx, i, payer⟩] ∧ (t.core m).xfer = (s.core m).xfer)) ∧
  (∀ m, m ∉ ks → t.core m = s.core m) ∧ t.shep.corePtr = (ks.getLastD k + 1) % 16 ∧
  (∀ i, i ≠ j → t.job i = s.job i) ∧ ∃ y, t.job j = some y ∧ y.begun = true ∧ (x.hdr.linkClass ≠ 0 → y.credited = true) ∧
  (∀ d ∈ y.cmds, d.idx = c.idx → d.st = .queued ∧ d.cores = s.partCount x c) ∧
  (plCs c.place = true → ∃ r ∈ y.runs, r.first = c.run ∧ r.core = some k)

/-! ## Commands of the host port -/

/-- The commands of the host port that act on an answering port alone, but for the reads that answer on DQ even where it does not (R453 to R458). -/
def hostPortCommand : Instr → Bool
  | .hostAct .. | .hostPre | .hostWr .. | .hostMrw .. | .hostRefresh | .selfRefreshEntry | .selfRefreshExit | .powerDownEntry | .powerDownExit
  | .zqStart | .zqLatch | .commandBusTraining .. | .wck2ckLevelling .. | .readDqCalibration | .wff .. | .writeX | .dataCopy => true
  | _ => false

/-- The commands of the host port that answer on DQ: RD, MRR and RFF. -/
def hostPortRead : Instr → Bool
  | .hostRd .. | .hostMrr .. | .rff => true
  | _ => false

/-! ## Received blocks -/

/-- What a lane beyond ADAPT takes in during one block time: the state once it has sent its own block, and the block at the candidate boundary with its
polarity and its scrambling undone, where the bits that have come make one up; in the near-end loops its own block comes back (R84, R86 to R88). -/
def State.lineIn (s : State) (l : Nat) (hdr : BitVec 2) (data : BitVec 64) : State × Option Coded :=
  let (s, own) := s.blockTime l
  let raw := if s.laneLoop l = 1 then (s.lane l).wire.head?.getD ⟨hdr, data⟩ else if s.laneLoop l = 2 then own.head?.getD ⟨hdr, data⟩ else ⟨hdr, data⟩
  match s.takeBlock l raw with
  | (s, none) => (s, none)
  | (s, some b) =>
    let s := if s.laneLoop l = 3 ∧ 3 ≤ s.laneState l then s.setLane l { s.lane l with wire := [b] } else s
    let (s, c) := s.rxBlock l b
    (s, some c)

/-- How many of the last 64 headers of a lane are bad once a block's is among them (R86). -/
def State.badHeaders (s : State) (l : Nat) (b : Coded) : Nat :=
  ((List.range 64).filter ((2 * (s.lane l).badHdrs + b2n (!b.valid)) % 2 ^ 64).testBit).length

/-! ## Starts -/

/-- The counts of MG_START that outlive every cold start but POWER_ON (R580, R587, R588). -/
def startCounts : List Fld :=
  [MG_START_COLD_FAIL, MG_START_WARM_FAIL, MG_START_FAIL_STEP, MG_START_IGNORED, MG_START_WARM_CNT, MG_START_DUR_US]

/-- A cold start has begun for a cause (R580 to R582): step 1 runs, its kind and cause stand in MG_START, the clocks and the positions start at 0, no part
is known, and the flash, the OTP and the EEPROM are as they were. -/
def ColdStarted (cause : Nat) (s t : State) : Prop :=
  t.phase = .cold 1 ∧ t.fld MG_START_KIND = 1 ∧ t.fld MG_START_CAUSE = cause ∧ t.clk.enc = 0 ∧ t.clk.dev = 0 ∧ t.clk.bw = 0 ∧
  (∀ e : Fin 4, t.posOf e = 0) ∧ t.fold.slots = [] ∧ t.image.flash = s.image.flash ∧ t.image.otp = s.image.otp ∧
  t.image.eeprom = s.image.eeprom

/-! ## Runs -/

/-- The states that `n` steps lead to, where none of them stops. -/
def State.runs : Nat → State → Option State
  | 0, s => some s
  | n + 1, s => match step s with
    | .next t => t.runs n
    | _ => none

/-- A safe run: no step of it faults or is refused. -/
def State.SafeRun (s : State) (n : Nat) : Prop := ∃ t, s.runs n = some t

end Sys2Proof.Machine
end

