-- ==== Sys2Proof/Certificates/Slice0/Obligations.lean ====
section
/-! DEFINITION. The statements about the module, for the provers. -/

open Sys2Proof Sys2Proof.Machine

/-! ## The module as a whole -/

/-- O1. A step takes the command at the front of the queue and runs it on the state with the queue's rest. -/
def Obligations.StepRunsTheFrontCommand : Prop :=
  ∀ (c : Instr) (rest : List Instr) (s : State), step { s with pending := c :: rest } = exec c { s with pending := rest }

/-- O2. On an empty queue a step lets one ENC cycle of 5 ns pass and changes nothing but the clocks; an unpowered module or one held in reset
stands still. What an idle step does is the model's choice (log entry 2). -/
def Obligations.IdleStepLetsOneCyclePass : Prop :=
  ∀ s : State, s.pending = [] →
    (s.phase = .off → step s = .next s) ∧
    (s.phase ≠ .off → ∃ t, step s = .next t ∧ t.clk.enc = s.clk.enc + 1 ∧ t.pending = [] ∧ OnlyParts [.clk] s t)

/-- O3. Every command answers a next state, whatever the state and its operands: the module neither faults nor refuses a command, so that a run of any length
from any state stops nowhere. -/
def Obligations.EveryCommandAnswersANextState : Prop := (∀ (c : Instr) (s : State), ∃ t, exec c s = .next t) ∧ ∀ (n : Nat) (s : State), s.SafeRun n

/-- O4. A step consumes exactly the command at the front of the queue, adds none, and leaves the ordering code of the module alone. -/
def Obligations.StepConsumesOneCommand : Prop :=
  ∀ (s t : State), step s = .next t → t.pending = s.pending.tail ∧ t.variant = s.variant

/-- O5. The frame of every command: of the 34 units of the state, a command leaves unchanged each one that `commandParts` does not list for it.
A command that does not list the memory leaves every byte as it was; one that does not list the registers leaves every field as it was. -/
def Obligations.EveryCommandKeepsTheUnitsItDoesNotOwn : Prop :=
  ∀ (c : Instr) (s t : State), exec c s = .next t → OnlyParts (commandParts c) s t

/-- O6. Every step keeps the canonical forms of the memory, of the error marks, of the register file and of the ring table. -/
def Obligations.EveryStepKeepsTheCanonicalForms : Prop := ∀ (s t : State), s.wf = true → step s = .next t → t.wf = true

/-- O7. An OTP bit once burnt stays burnt in every step, on power loss as well. -/
def Obligations.BurntBitsStayBurnt : Prop := ∀ (s t : State), step s = .next t → OtpGrows s t

/-- O8. A module without power, or held in reset, does nothing: every command but those of power, reset and release of reset, and reads on the
host port, leaves the whole state as it was. -/
def Obligations.ModuleInResetDoesNothing : Prop :=
  ∀ (c : Instr) (s : State), s.phase = .off →
    (match c with
      | .powerOn .. | .powerGoodFall .. | .resetN .. | .thermalResetRelease .. | .hostRd .. | .hostMrr .. | .rff .. => True
      | _ => exec c s = .next s)

/-- O9. The module right after reset: not yet powered, its queue empty, no memory byte listed, every register field at the reset value
of its row in the register tables, its stores in their canonical forms, positions, device time and the Bellwether counter at 0, no parts, jobs, tiles or requests. -/
def Obligations.ResetState : Prop :=
  State.reset.wf = true ∧ State.reset.phase = .off ∧ State.reset.pending = [] ∧ State.reset.mem = [] ∧ State.reset.marks = [] ∧ State.reset.rings = [] ∧
  (∀ f : Fld, State.reset.fld f = f.rst) ∧ State.reset.clk = {} ∧ State.reset.fold = {} ∧ State.reset.shep = {} ∧
  State.reset.px = {} ∧ State.reset.start = {} ∧ State.reset.pins = {}


/-! ## Starting -/

/-- O10. The causes of a cold start. POWER_ON, on a module without power, begins a cold start with cause 1, the counts of MG_START at 0 and the profile
that the straps set; on a powered module it changes nothing. RESET_N held at least 10 µs begins one with cause 2 on a module that is powered and not held by
its die temperature; a shorter pulse changes nothing. A brownout begins one with cause 4, the release of a thermal reset with cause 3, HOST_COLD outside Paddock
mode with cause 5; each of these keeps the counts of MG_START. The fall of PWR_GOOD leaves the module without power, the thermal trip holds it in
reset; both leave flash, OTP and EEPROM as they were. -/
def Obligations.ColdCausesBeginAColdStart : Prop :=
  (∀ (strap : Fin 4) (s : State), s.start.powered = false → ∃ t, exec (.powerOn strap) s = .next t ∧ ColdStarted 1 s t ∧ t.start.powered = true ∧
    (∀ f ∈ startCounts, t.fld f = 0) ∧ t.fld MG_PWRSTAT_STRAP = strapProfile strap ∧ t.fld MG_PWRSTAT_PROFILE = strapProfile strap) ∧
  (∀ (strap : Fin 4) (s : State), s.start.powered = true → exec (.powerOn strap) s = .next s) ∧
  (∀ s : State, ∃ t, exec .powerGoodFall s = .next t ∧ t.phase = .off ∧ t.start.powered = false ∧ t.image.flash = s.image.flash ∧
    t.image.otp = s.image.otp ∧ t.image.eeprom = s.image.eeprom) ∧
  (∀ (ns : Nat) (s : State), 10000 ≤ ns → s.start.powered = true → s.health.tripped = false → ∃ t, exec (.resetN ns) s = .next t ∧
    ColdStarted 2 s t ∧ ∀ f ∈ startCounts, t.fld f = s.fld f) ∧
  (∀ (ns : Nat) (s : State), ns < 10000 → exec (.resetN ns) s = .next s) ∧
  (∀ s : State, s.phase ≠ .off → ∃ t, exec .brownout s = .next t ∧ ColdStarted 4 s t ∧ ∀ f ∈ startCounts, t.fld f = s.fld f) ∧
  (∀ s : State, s.phase ≠ .off → ∃ t, exec .thermalTrip s = .next t ∧ t.phase = .off ∧ t.health.tripped = true ∧
    t.image.flash = s.image.flash ∧ t.image.otp = s.image.otp ∧ t.image.eeprom = s.image.eeprom) ∧
  (∀ s : State, s.health.tripped = true → s.start.powered = true → ∃ t, exec .thermalResetRelease s = .next t ∧ ColdStarted 3 s t ∧
    ∀ f ∈ startCounts, t.fld f = s.fld f) ∧
  (∀ s : State, s.phase ≠ .off → s.phase ≠ .paddock → ∃ t, exec .hostCold s = .next t ∧ ColdStarted 5 s t ∧
    ∀ f ∈ startCounts, t.fld f = s.fld f)

/-- O11. HOST_WARM in RUNNING begins a warm start: its drain runs, its kind and cause stand in MG_START, and the clocks run on. During another start
it is counted in IGNORED and changes nothing else; in Paddock mode it changes nothing. WARM_DRAIN_END in the drain empties the line store and the
track history, ends flashing, and begins step 3; the ENC clock does not go back. -/
def Obligations.WarmStartBeginsAndDrains : Prop :=
  (∀ s : State, s.phase = .running → ∃ t, exec .hostWarm s = .next t ∧ t.phase = .warm 2 ∧ t.fld MG_START_KIND = 2 ∧
    t.fld MG_START_CAUSE = 8 ∧ t.start.t0 = s.clk.enc ∧ t.clk = s.clk) ∧
  (∀ (n : Nat) (s : State), s.phase = .cold n ∨ s.phase = .warm n → ∃ t, exec .hostWarm s = .next t ∧
    t.fld MG_START_IGNORED = (s.fld MG_START_IGNORED + 1) % 256 ∧ OnlyParts [.regs] s t ∧ OnlyFields [MG_START_IGNORED] s t) ∧
  (∀ s : State, s.phase = .paddock → exec .hostWarm s = .next s) ∧
  (∀ s : State, s.phase = .warm 2 → ∃ t, exec .warmDrainEnd s = .next t ∧ t.phase = .warm 3 ∧ (∀ v : Fin 16, (t.view v).ring = []) ∧
    t.pos.track = [] ∧ t.pkg.flash = none ∧ t.start.tStep = t.clk.enc ∧ s.clk.enc ≤ t.clk.enc)

/-- O12. Failed starts. A cold start that has not reached step 10 in time counts as failed: below 3 failures a cold start with cause ESCALATION follows, at 3
the module enters Paddock mode and its Lamb engine's self-test leaves the mask of the failing units. A warm start that takes too long counts as failed: below 3 the
next begins at step 3, at 3 a cold start with cause ESCALATION follows and WARM_FAIL is 0. COLD_FAIL_CLEAR in RUNNING clears COLD_FAIL and no other field. -/
def Obligations.FailedStartsEscalate : Prop :=
  (∀ (n : Nat) (mask : BitVec 4) (s : State), s.phase = .cold n → s.fld MG_START_COLD_FAIL < 2 → ∃ t,
    exec (.coldStartTimeout mask) s = .next t ∧ ColdStarted 7 s t ∧ t.fld MG_START_COLD_FAIL = s.fld MG_START_COLD_FAIL + 1) ∧
  (∀ (n : Nat) (mask : BitVec 4) (s : State), s.phase = .cold n → 2 ≤ s.fld MG_START_COLD_FAIL → ∃ t,
    exec (.coldStartTimeout mask) s = .next t ∧ t.phase = .paddock ∧ t.fld MG_START_COLD_FAIL = 3 ∧ t.fld LB_SELFTEST_DONE = 1 ∧
    t.fld LB_SELFTEST_FAIL_MASK = mask.toNat) ∧
  (∀ (n : Nat) (s : State), s.phase = .warm n → s.fld MG_START_WARM_FAIL < 2 → ∃ t, exec .warmStartTimeout s = .next t ∧
    t.phase = .warm 3 ∧ t.fld MG_START_WARM_FAIL = s.fld MG_START_WARM_FAIL + 1) ∧
  (∀ (n : Nat) (s : State), s.phase = .warm n → 2 ≤ s.fld MG_START_WARM_FAIL → ∃ t, exec .warmStartTimeout s = .next t ∧
    ColdStarted 7 s t ∧ t.fld MG_START_WARM_FAIL = 0) ∧
  (∀ s : State, s.phase = .running → ∃ t, exec .coldFailClear s = .next t ∧ t.fld MG_START_COLD_FAIL = 0 ∧
    OnlyFields [MG_START_COLD_FAIL] s t ∧ OnlyParts [.clk, .regs] s t)

/-- O13. The steps of a start. Each step of a cold start from 1 to 8 that ends without a fault leads to the next, step 6 where the configuration read has
accepted an image, step 7 where the Lamb engine passes its self-test; step 9 leads to RUNNING, where WARM_FAIL and the hold for the start clear. A fault at step 3
or 4 is a failed start: below 3 failures a cold start with cause ESCALATION follows, otherwise Paddock mode. Each step of a warm start from 3 to 7 whose check
succeeds leads to the next, and step 8 to RUNNING; where step 3 finds the firmware's SRAM at fault, the next warm start begins at step 3. -/
def Obligations.StartStepsFollowOneAnother : Prop :=
  (∀ (dt : Nat) (fail reads : Bool) (mask : BitVec 4) (s : State), s.phase = .cold 1 → ∃ t,
    exec (.coldStartStepDone dt fail mask reads) s = .next t ∧ t.phase = .cold 2 ∧ t.start.tStep = t.clk.enc ∧
    t.clk.enc = max s.clk.enc (s.start.tStep + dt) ∧ OnlyParts [.phase, .start, .clk] s t) ∧
  (∀ (dt : Nat) (fail reads : Bool) (mask : BitVec 4) (s : State), s.phase = .cold 2 → ∃ t,
    exec (.coldStartStepDone dt fail mask reads) s = .next t ∧ t.phase = .cold 3 ∧ t.fld MG_LIFE_LIFECYCLE = s.lifeNow % 16 ∧
    t.host.lastCmd = t.clk.enc ∧ t.start.tStep = t.clk.enc) ∧
  (∀ (dt : Nat) (reads : Bool) (mask : BitVec 4) (s : State), s.phase = .cold 3 → ∃ t,
    exec (.coldStartStepDone dt false mask reads) s = .next t ∧ t.phase = .cold 4 ∧ OnlyParts [.phase, .start, .clk] s t) ∧
  (∀ (dt : Nat) (reads : Bool) (mask : BitVec 4) (s : State), s.phase = .cold 4 → ∃ t,
    exec (.coldStartStepDone dt false mask reads) s = .next t ∧ t.phase = .cold 5 ∧ t.image.ddrUp = true ∧
    OnlyParts [.phase, .start, .clk, .image] s t) ∧
  (∀ (dt : Nat) (fail reads : Bool) (mask : BitVec 4) (s : State), s.phase = .cold 5 → ∃ t,
    exec (.coldStartStepDone dt fail mask reads) s = .next t ∧ t.phase = .cold 6 ∧ t.start.tStep = t.clk.enc) ∧
  (∀ (dt : Nat) (fail reads : Bool) (mask : BitVec 4) (s : State), s.phase = .cold 6 →
    ((s.advanceTo (s.start.tStep + dt)).configRead reads).2 = true → ∃ t,
    exec (.coldStartStepDone dt fail mask reads) s = .next t ∧ t.phase = .cold 7) ∧
  (∀ (dt : Nat) (reads : Bool) (s : State), s.phase = .cold 7 → ∃ t,
    exec (.coldStartStepDone dt false 0 reads) s = .next t ∧ t.phase = .cold 8 ∧ t.fld LB_SELFTEST_DONE = 1 ∧ t.fld LB_SELFTEST_FAIL_MASK = 0) ∧
  (∀ (dt : Nat) (fail reads : Bool) (mask : BitVec 4) (s : State), s.phase = .cold 8 → ∃ t,
    exec (.coldStartStepDone dt fail mask reads) s = .next t ∧ t.phase = .cold 9 ∧ t.health.pass = 0 ∧ t.health.cpu = 0) ∧
  (∀ (dt : Nat) (fail reads : Bool) (mask : BitVec 4) (s : State), s.phase = .cold 9 → ∃ t,
    exec (.coldStartStepDone dt fail mask reads) s = .next t ∧ t.phase = .running ∧ t.fld MG_START_WARM_FAIL = 0 ∧
    t.fld MG_HOLD_START = 0 ∧ t.start.since = t.clk.dev) ∧
  (∀ (n dt : Nat) (reads : Bool) (mask : BitVec 4) (s : State), n = 3 ∨ n = 4 → s.phase = .cold n →
    (s.fld MG_START_COLD_FAIL < 2 → ∃ t, exec (.coldStartStepDone dt true mask reads) s = .next t ∧ ColdStarted 7 s t ∧
      t.fld MG_START_COLD_FAIL = s.fld MG_START_COLD_FAIL + 1 ∧ t.fld MG_START_FAIL_STEP = n) ∧
    (2 ≤ s.fld MG_START_COLD_FAIL → ∃ t, exec (.coldStartStepDone dt true mask reads) s = .next t ∧ t.phase = .paddock ∧
      t.fld MG_START_COLD_FAIL = 3 ∧ t.fld MG_START_FAIL_STEP = n)) ∧
  (∀ (dt : Nat) (up : List (Nat × Bool)) (s : State), s.phase = .warm 3 → ∃ t,
    exec (.warmStartStepDone dt up true true) s = .next t ∧ t.phase = .warm 4 ∧ t.regs = s.regs ∧ t.health.pass = 0 ∧ t.health.cpu = 0) ∧
  (∀ (dt : Nat) (up : List (Nat × Bool)) (crcOk : Bool) (s : State), s.phase = .warm 3 → s.fld MG_START_WARM_FAIL < 2 → ∃ t,
    exec (.warmStartStepDone dt up false crcOk) s = .next t ∧ t.phase = .warm 3 ∧ t.fld MG_START_WARM_FAIL = s.fld MG_START_WARM_FAIL + 1) ∧
  (∀ (k dt : Nat) (up : List (Nat × Bool)) (fwOk crcOk : Bool) (s : State), s.phase = .warm k →
    let v := (s.advanceTo (s.start.tStep + dt)).upset up
    (k = 4 ∧ v.warmHeaders.2 = true) ∨ (k = 5 ∧ v.warmChecks.2 = true) ∨ ((k = 6 ∨ k = 7) ∧ v.refreshCopy.2 = true) → ∃ t,
    exec (.warmStartStepDone dt up fwOk crcOk) s = .next t ∧ t.phase = .warm (k + 1) ∧ t.start.tStep = t.clk.enc) ∧
  (∀ (dt : Nat) (up : List (Nat × Bool)) (fwOk crcOk : Bool) (s : State), s.phase = .warm 8 → ∃ t,
    exec (.warmStartStepDone dt up fwOk crcOk) s = .next t ∧ t.phase = .running ∧ t.fld MG_START_WARM_FAIL = 0)

/-! ## Position -/

/-- O14. ENCODER_COUNT samples the inputs of an encoder cycle by cycle up to `dt` ENC cycles from now. On one cycle of a counting ENC0 or ENC1 of which no
line fault comes of age, the majority of each window gives the filtered pair: an unchanged pair moves nothing; a change of one bit moves the position by
one count, forward where the old A equals the new B, the sign exchanged under DIR_INV, and what follows a movement is done; a change of both is PS_SLIP with
cause QUAD and no step. An index event of the same cycle is taken at the position after the step. A disabled or FAILED encoder keeps its position and its filtered
levels. ENC2 and ENC3 are filtered and counted in the field die, whatever EN reads. -/
def Obligations.PositionFollowsTheQuadraturePair : Prop :=
  ∀ (e : Fin 4) (dt : Nat) (wa wb wz : BitVec 64) (s : State), s.phase ≠ .off →
    let x := s.enc e
    let now := s.clk.enc + dt
    (e.val < 2 → exec (.encoderCount e dt wa wb wz) s =
      .next (((samplesOf x.seen (now - x.seen) (s.lineLevels e) wa wb wz).foldl (fun s p => s.encCycle e p) s).passTo e now)) ∧
    (let n := s.fld (PS_ENCCFG_FILT_N e)
     let a := majority n (shiftIn 64 x.winA (x.syA.getLsbD 1)) x.fA
     let b := majority n (shiftIn 64 x.winB (x.syB.getLsbD 1)) x.fB
     let z := majority n (shiftIn 64 x.winZ (x.syZ.getLsbD 1)) x.fZ
     let rises := s.indexRises e a b z
     e.val < 2 → s.counting e = true → s.lineDue e = none → now = x.seen + 1 →
      (a = x.fA → b = x.fB → rises = false → ∃ t, exec (.encoderCount e dt wa wb wz) s = .next t ∧ t.posOf e = s.posOf e ∧
        (t.enc e).fA = a ∧ (t.enc e).fB = b ∧ (t.enc e).fZ = z ∧ t.clk.enc = now ∧ OnlyParts [.clk, .pos] s t) ∧
      ((a ≠ x.fA ∧ b = x.fB) ∨ (a = x.fA ∧ b ≠ x.fB) → ∃ u, (let v := u.afterMove e 1
        exec (.encoderCount e dt wa wb wz) s = .next ((if rises then v.indexAt e (v.posOf e) else v).passTo e now)) ∧
        u.posOf e = pos48 (s.posOf e + (if (x.fA == b) = s.isOn (PS_ENCCFG_DIR_INV e) then -1 else 1)) ∧
        (u.enc e).fA = a ∧ (u.enc e).fB = b ∧ (u.enc e).fZ = z ∧ (u.enc e).lastCount = some now ∧ u.clk.enc = now ∧
        OnlyFields [PS_POS_POS e, PS_POS_POS_SX e] s u ∧ OnlyParts [.clk, .pos, .regs] s u) ∧
      (a ≠ x.fA → b ≠ x.fB → ∃ u, (let v := u.slip e 2
        exec (.encoderCount e dt wa wb wz) s = .next ((if rises then v.indexAt e (v.posOf e) else v).passTo e now)) ∧
        u.posOf e = s.posOf e ∧ OnlyParts [.clk, .pos] s u)) ∧
    (e.val < 2 → s.counting e = false → ∃ t, exec (.encoderCount e dt wa wb wz) s = .next t ∧ t.posOf e = s.posOf e ∧ (t.enc e).fA = x.fA ∧
      (t.enc e).fB = x.fB ∧ OnlyParts [.clk, .pos] s t) ∧
    (2 ≤ e.val → s.encFitted e = true → ∃ t, exec (.encoderCount e dt wa wb wz) s = .next t ∧ OnlyParts [.clk, .pos, .die] s t ∧
      (2 * now / 5 = 2 * x.seen / 5 + 1 →
        let n := s.dieFilt e
        let a := majority n (shiftIn 64 x.winA (wa.getLsbD 0)) x.fA
        let b := majority n (shiftIn 64 x.winB (wb.getLsbD 0)) x.fB
        (t.enc e).fA = a ∧ (t.enc e).fB = b ∧
        (e = 2 → t.die.cnt2 = toU 8 ((s.die.cnt2 : Int) + (quadStep x.fA x.fB a b).getD 0)) ∧
        (e = 3 → t.die.cnt3 = toU 8 ((s.die.cnt3 : Int) + (quadStep x.fA x.fB a b).getD 0)))) ∧
    (s.encFitted e = false → ∃ t, exec (.encoderCount e dt wa wb wz) s = .next t ∧ t.clk.enc = now ∧ OnlyParts [.clk] s t)

/-- O15. Encoders fail and recover. ENCODER_LINE_FAULT notes from when each of the lines of ENC0 or ENC1 stands below its level; where no fault comes of age
by then the encoder counts on, and one that does makes the encoder FAILED after PS_SLIP with cause LINE. On ENC2 and ENC3 only time passes. CLR_FAIL clears
FAILED once the cause has ended, from the frozen position and with a fresh baseline, and otherwise changes nothing. CLR_DRIFT zeroes the drift. -/
def Obligations.EncodersFailAndRecover : Prop :=
  (∀ (e : Fin 4) (dt : Nat) (lines : Fin 8) (s : State), s.phase ≠ .off → e.val < 2 →
    let x := s.enc e
    let now := s.clk.enc + dt
    let noted (t : State) : Prop := (t.enc e).flA = faultSince x.flA (bit lines 0) now ∧ (t.enc e).flB = faultSince x.flB (bit lines 1) now ∧
      (t.enc e).flZ = faultSince x.flZ (bit lines 2) now
    ((∀ d, s.lineDue e = some d → now < d) → ∃ t, exec (.encoderLineFault e dt lines) s = .next t ∧ noted t ∧ t.clk.enc = now ∧
      OnlyParts [.clk, .pos] s t) ∧
    (∀ d, s.lineDue e = some d → d ≤ now → ∃ t, exec (.encoderLineFault e dt lines) s = .next t ∧ t.isOn (PS_ENCSTAT_FAILED e) = true ∧
      t.counting e = false ∧ (let v := (((((s.advanceTo d).slip e 3).setFld (PS_ENCSTAT_FAILED e) 1).encHold).advanceTo now)
        ∃ y, t = v.setEnc e y))) ∧
  (∀ (e : Fin 4) (dt : Nat) (lines : Fin 8) (s : State), s.phase ≠ .off → 2 ≤ e.val → ∃ t, exec (.encoderLineFault e dt lines) s = .next t ∧
    t.clk.enc = s.clk.enc + dt ∧ OnlyParts [.clk] s t) ∧
  (∀ (e : Fin 4) (s : State), s.phase ≠ .off → s.isOn (PS_ENCSTAT_FAILED e) = true → s.causeStands e = false → ∃ t,
    exec (.clrFail e) s = .next t ∧ t.isOn (PS_ENCSTAT_FAILED e) = false ∧ t.posOf e = s.posOf e ∧ (t.enc e).base = false ∧
    OnlyFieldsAndEvents [PS_ENCSTAT_FAILED e, MG_HOLD_ENC] s t) ∧
  (∀ (e : Fin 4) (s : State), s.phase ≠ .off → s.isOn (PS_ENCSTAT_FAILED e) = false ∨ s.causeStands e = true → exec (.clrFail e) s = .next s) ∧
  (∀ (e : Fin 4) (s : State), s.phase ≠ .off → ∃ t, exec (.clrDrift e) s = .next t ∧ t.sfld (PS_DRIFT_DRIFT e) = 0 ∧
    OnlyFields [PS_DRIFT_DRIFT e] s t ∧ OnlyParts [.regs] s t)

/-- O16. INDEX_EVENT on one cycle of a counting ENC0 or ENC1 whose pair stands still: where Z rises, with ZGATE = 1 where A, B and Z first stand at 1 together,
the position is latched into IDX_POS with IDX_VALID, and the position does not change. With CHK_EN = 0, or without a baseline of the same direction,
nothing else happens; an error within TOL is added to the drift, which saturates; a greater one is PS_SLIP with cause INDEX. Where Z does not rise, no
register changes. On ENC2 and ENC3 a rise of Z on one FIELD cycle toggles ZEV in the field die and latches its count. -/
def Obligations.IndexEventsLatchAndCheck : Prop :=
  ∀ (e : Fin 4) (dt : Nat) (wa wb wz : BitVec 64) (s : State), s.phase ≠ .off →
    let x := s.enc e
    let now := s.clk.enc + dt
    let c := Instr.indexEvent e dt wa wb wz
    (let n := s.fld (PS_ENCCFG_FILT_N e)
     let z := majority n (shiftIn 64 x.winZ (x.syZ.getLsbD 1)) x.fZ
     let rises := if s.isOn (PS_IDXCHK_ZGATE e) then x.fA && x.fB && z && !x.fZ else z && !x.fZ
     let checked := s.isOn (PS_IDXCHK_CHK_EN e) && x.base && !x.dirMoved && decide (x.baseDir = x.dir)
     let k : Int := 4 * s.fld (PS_IDXCHK_LPR e)
     let d := posDiff (s.posOf e) (s.sfld (PS_IDXPOS_IDX_POS e))
     let err := if x.dir then d + k else d - k
     e.val < 2 → s.counting e = true → s.lineDue e = none → now = x.seen + 1 →
     majority n (shiftIn 64 x.winA (x.syA.getLsbD 1)) x.fA = x.fA → majority n (shiftIn 64 x.winB (x.syB.getLsbD 1)) x.fB = x.fB →
      (rises = false → ∃ t, exec c s = .next t ∧ (t.enc e).fZ = z ∧ OnlyParts [.clk, .pos] s t) ∧
      (rises = true → checked = false → ∃ t, exec c s = .next t ∧
        t.sfld (PS_IDXPOS_IDX_POS e) = s.posOf e ∧ t.isOn (PS_IDXPOS_IDX_VALID e) = true ∧ t.posOf e = s.posOf e ∧
        (t.enc e).base = s.isOn (PS_IDXCHK_CHK_EN e) ∧
        OnlyFields [PS_IDXPOS_IDX_POS e, PS_IDXPOS_IDX_VALID e] s t ∧ OnlyParts [.clk, .pos, .regs] s t) ∧
      (rises = true → checked = true → err.natAbs ≤ s.fld (PS_IDXCHK_TOL e) → ∃ t,
        exec c s = .next t ∧ t.sfld (PS_IDXPOS_IDX_POS e) = s.posOf e ∧ t.isOn (PS_IDXPOS_IDX_VALID e) = true ∧
        t.sfld (PS_DRIFT_DRIFT e) = clampI (-2147483648) 2147483647 (s.sfld (PS_DRIFT_DRIFT e) + err) ∧
        OnlyFields [PS_IDXPOS_IDX_POS e, PS_IDXPOS_IDX_VALID e, PS_DRIFT_DRIFT e] s t ∧ OnlyParts [.clk, .pos, .regs] s t) ∧
      (rises = true → checked = true → s.fld (PS_IDXCHK_TOL e) < err.natAbs → ∃ u,
        exec c s = .next ((u.slip e 1 err).passTo e now) ∧ u.sfld (PS_IDXPOS_IDX_POS e) = s.posOf e ∧
        u.isOn (PS_IDXPOS_IDX_VALID e) = true ∧
        OnlyFields [PS_IDXPOS_IDX_POS e, PS_IDXPOS_IDX_VALID e] s u ∧ OnlyParts [.clk, .pos, .regs] s u)) ∧
    (2 ≤ e.val → s.encFitted e = true → ∃ t, exec c s = .next t ∧ OnlyParts [.clk, .pos, .die] s t ∧
      (2 * now / 5 = 2 * x.seen / 5 + 1 → majority (s.dieFilt e) (shiftIn 64 x.winZ (wz.getLsbD 0)) x.fZ = true → x.fZ = false →
        (e = 2 → t.die.zev2 = !s.die.zev2 ∧ t.die.zcnt2 = t.die.cnt2) ∧ (e = 3 → t.die.zev3 = !s.die.zev3 ∧ t.die.zcnt3 = t.die.cnt3)))

/-- O17. Encoder settings and speed windows. With EN = 0 a write of PS_ENCCFG takes DIR_INV and an FILT_N of 2 to 64; one that sets EN fills the filter windows
with the synchronised levels and opens a speed window from the position as it stands, and on ENC2 or ENC3 with FIELD_LOST standing the encoder then fails with cause
LINK. With EN = 1 only a clearing of EN is taken, after the encoder has counted to the present, and on an encoder bound to a race not even that. A closing
speed window publishes its net count with STILL, PARTIAL, DIR and its length, opens the next window at the same cycle, and the Gate recomputes. -/
def Obligations.EncoderSettingsAndSpeedWindows : Prop :=
  (∀ (e : Fin 4) (v : BitVec 32) (s : State), s.phase ≠ .off → s.encFitted e = true → s.isOn (PS_ENCCFG_EN e) = false →
    let set (t : State) : Prop := t.isOn (PS_ENCCFG_DIR_INV e) = v.getLsbD 30 ∧ t.posOf e = s.posOf e ∧
      t.fld (PS_ENCCFG_FILT_N e) = (if 2 ≤ bits v.toNat 16 7 ∧ bits v.toNat 16 7 ≤ 64 then bits v.toNat 16 7 else s.fld (PS_ENCCFG_FILT_N e))
    let begun (t : State) : Prop := set t ∧ t.isOn (PS_ENCCFG_EN e) = true ∧ (t.enc e).wOpen = s.clk.enc ∧ (t.enc e).wNet = 0 ∧
      (e.val < 2 → let y := (s.sampleStanding e).enc e
        (t.enc e).fA = y.syA.getLsbD 1 ∧ (t.enc e).fB = y.syB.getLsbD 1 ∧ (t.enc e).fZ = y.syZ.getLsbD 1) ∧
      (2 ≤ e.val → (t.enc e).ref = none) ∧
      OnlyFields [PS_ENCCFG_EN e, PS_ENCCFG_DIR_INV e, PS_ENCCFG_FILT_N e] s t ∧ OnlyParts [.clk, .pos, .regs, .die] s t
    (v.getLsbD 31 = false → ∃ t, exec (.encCfgWrite e v) s = .next t ∧ set t ∧
      OnlyFields [PS_ENCCFG_DIR_INV e, PS_ENCCFG_FILT_N e] s t ∧ OnlyParts [.regs] s t) ∧
    (v.getLsbD 31 = true → e.val < 2 ∨ s.isOn FI_LINK_FIELD_LOST = false → ∃ t, exec (.encCfgWrite e v) s = .next t ∧ begun t) ∧
    (v.getLsbD 31 = true → 2 ≤ e.val → s.isOn FI_LINK_FIELD_LOST = true → ∃ u, exec (.encCfgWrite e v) s = .next (u.encFail e 4) ∧ begun u)) ∧
  (∀ (e : Fin 4) (v : BitVec 32) (s : State), s.phase ≠ .off → s.encFitted e = true → s.isOn (PS_ENCCFG_EN e) = true →
    (v.getLsbD 31 = true ∨ s.encBound e = true → exec (.encCfgWrite e v) s = .next s) ∧
    (v.getLsbD 31 = false → s.encBound e = false → ∃ t, exec (.encCfgWrite e v) s = .next t ∧ t.isOn (PS_ENCCFG_EN e) = false ∧
      t = (s.sampleStanding e).setFld (PS_ENCCFG_EN e) 0)) ∧
  (∀ (e : Fin 4) (v : BitVec 32) (s : State), s.phase ≠ .off → s.encFitted e = false → exec (.encCfgWrite e v) s = .next s) ∧
  (∀ (e : Fin 4) (s : State), s.phase ≠ .off → s.encFitted e = true → s.isOn (PS_ENCCFG_EN e) = true →
    let x := s.enc e
    let c := x.wOpen + 200 * x.wLen
    let still : Bool := match x.lastCount with
      | none => true
      | some t => decide (200000 * x.wStill + t ≤ c)
    let part := x.wAny && (x.wAfterStill || x.wDir)
    ∃ u, exec (.speedWindowEnd e) s = .next (u.gateRecompute e) ∧ u.isOn (PS_SPEED_STILL e) = still ∧
      u.isOn (PS_SPEED_PARTIAL e) = part ∧ u.isOn (PS_SPEED_DIR e) = x.dir ∧ u.fld (PS_SPEED_WIN_US e) = x.wLen % 1048576 ∧
      u.fld (PS_SPEED_COUNT e) = toU 32 (if still then 0 else x.wNet) ∧ (u.enc e).wOpen = c ∧ (u.enc e).wNet = 0 ∧
      (u.enc e).wLen = s.fld (PS_SPDCFG_WIN_US e) ∧ u.clk.enc = max s.clk.enc c ∧
      (part = true → u.fold.speed = s.fold.speed) ∧
      (part = false → Tab.get (0, 1) u.fold.speed e = (if still ∨ x.wNet ≤ 0 then ((0, 1) : Int × Nat) else (x.wNet, x.wLen))) ∧
      OnlyFields [PS_SPEED_STILL e, PS_SPEED_PARTIAL e, PS_SPEED_DIR e, PS_SPEED_WIN_US e, PS_SPEED_COUNT e] s u ∧
      OnlyParts [.clk, .pos, .regs, .fold] s u)

/-- O18. Line triggers. Setting EN takes START as the first target and skips the targets not above the position; clearing EN holds the output low; a divisor
written changes D and leaves the current target alone. A pending trigger is issued no less than 2 µs after the previous start with the number in
PS_TRGNUM, which advances, and its position is logged; a pulse ends after its PW cycles; a 1 written to OVR clears OVR and DROP_CNT, a 0 nothing. -/
def Obligations.LineTriggersAreNumberedAndSpaced : Prop :=
  (∀ (t : Fin 8) (v : BitVec 32) (s : State), s.phase ≠ .off → s.isOn (PS_TRGCFG_EN t) = false → v.getLsbD 31 = true →
    0 < s.trigD t → ∃ u g, exec (.trgCfgWrite t v) s = .next u ∧ u.isOn (PS_TRGCFG_EN t) = true ∧ (u.trig t).target = some g ∧
    (u.trig t).pend = false ∧ (u.trig t).far = u.posOf (u.fld (PS_TRGCFG_ENC_SEL t)) ∧
    u.fld (PS_TRGCFG_PW t) = (if 10 ≤ bits v.toNat 0 8 ∧ bits v.toNat 0 8 ≤ 200 then bits v.toNat 0 8 else s.fld (PS_TRGCFG_PW t)) ∧
    (∃ j : Nat, g = s.sfld (PS_TRGSTART_START t) * 65536 + j * s.trigD t) ∧
    0 < g - 65536 * s.sfld (PS_TRGSTART_START t) - 65536 * posDiff (u.posOf (u.fld (PS_TRGCFG_ENC_SEL t))) (s.sfld (PS_TRGSTART_START t)) ∧
    OnlyFields [PS_TRGCFG_EN t, PS_TRGCFG_ENC_SEL t, PS_TRGCFG_PW t] s u ∧ OnlyParts [.pos, .regs] s u) ∧
  (∀ (t : Fin 8) (v : BitVec 32) (s : State), s.phase ≠ .off → s.isOn (PS_TRGCFG_EN t) = true → v.getLsbD 31 = false → ∃ u,
    exec (.trgCfgWrite t v) s = .next u ∧ u.isOn (PS_TRGCFG_EN t) = false ∧ (u.trig t).target = none ∧ (u.trig t).pend = false ∧
    (u.trig t).pulseEnd = none ∧ OnlyFields [PS_TRGCFG_EN t, PS_TRGCFG_PW t] s u ∧ OnlyParts [.pos, .regs] s u) ∧
  (∀ (t : Fin 8) (v : BitVec 64) (s : State), s.phase ≠ .off → ∃ u, exec (.trgDivWrite t v) s = .next u ∧
    u.fld (PS_TRGDIV_N_INT t) = (if bits v.toNat 16 24 = 0 then s.fld (PS_TRGDIV_N_INT t) else bits v.toNat 16 24) ∧
    u.fld (PS_TRGDIV_M_FRAC t) = bits v.toNat 0 16 ∧ u.trig t = s.trig t ∧
    OnlyFields [PS_TRGDIV_N_INT t, PS_TRGDIV_M_FRAC t] s u ∧ OnlyParts [.regs] s u) ∧
  (∀ (t : Fin 8) (s : State), s.phase ≠ .off → s.isOn (PS_TRGCFG_EN t) = true → (s.trig t).pend = true →
    ∃ u, exec (.triggerPendingIssue t) s = .next u ∧ (u.trig t).pend = false ∧
    (u.trig t).lastStart = some u.clk.enc ∧ (∀ c, (s.trig t).lastStart = some c → c + 400 ≤ u.clk.enc) ∧
    (u.trig t).pulseEnd = some (u.clk.enc + s.fld (PS_TRGCFG_PW t)) ∧
    u.fld (PS_TRGNUM_TRGNUM t) = (s.fld (PS_TRGNUM_TRGNUM t) + 1) % 4294967296 ∧
    Tab.get none (u.trig t).log (s.fld (PS_TRGNUM_TRGNUM t) % 4096) =
      some ⟨s.fld (PS_TRGNUM_TRGNUM t), s.posOf (s.fld (PS_TRGCFG_ENC_SEL t)), u.clk.enc, (s.trig t).issued⟩ ∧
    OnlyFields [PS_TRGNUM_TRGNUM t, PS_TRGLAST_LAST_POS t] s u ∧ OnlyParts [.clk, .pos, .regs, .streams] s u) ∧
  (∀ (t : Fin 8) (c : Nat) (s : State), s.phase ≠ .off → (s.trig t).pulseEnd = some c → ∃ u, exec (.triggerPulseEnd t) s = .next u ∧
    (u.trig t).pulseEnd = none ∧ u.clk.enc = max s.clk.enc c ∧ OnlyParts [.clk, .pos] s u) ∧
  (∀ (t : Fin 8) (v : BitVec 32) (s : State), s.phase ≠ .off →
    (v.getLsbD 31 = true → ∃ u, exec (.trgStatClear t v) s = .next u ∧
      u.fld (PS_TRGSTAT_OVR t) = 0 ∧ u.fld (PS_TRGSTAT_DROP_CNT t) = 0 ∧ OnlyFields [PS_TRGSTAT_OVR t, PS_TRGSTAT_DROP_CNT t] s u ∧
      OnlyParts [.regs] s u) ∧
    (v.getLsbD 31 = false → exec (.trgStatClear t v) s = .next s))

/-- O19. The track history. A microsecond tick of device time takes the position of every fitted encoder whose bit of TH_EN is set; outside a warm start
that tick becomes the encoder's newest valid sample. Where no error stands in memory and the samples gathered so far follow one another up to this
tick, its low 32 bits are gathered, and with the last entry of a 64-byte line they stand in the ring in DDR5 at the index of the tick. During a warm start
nothing is sampled. Held lookups then go on. -/
def Obligations.TrackHistorySamplesThePositions : Prop :=
  ∀ s : State, s.phase ≠ .off →
    let i := s.clk.dev / 1000 + 1
    let u := s.trackTick
    exec .trackSample s = .next ((List.range 16).foldl (fun s n => State.resumeHeld (s.stream n).held.length s n) u).closeReady ∧
    OnlyParts (eventParts ++ [.clk, .pos]) s u ∧ u.clk = (s.advanceDev (1000 * i)).clk ∧
    (s.inWarm = true → OnlyParts [.clk] s u) ∧
    (s.inWarm = false →
      (∀ e : Fin 4, (s.fld PS_THCFG_TH_EN).testBit e = true → s.encFitted e = true → ∃ o, Tab.get none u.pos.track e = some (o, i)) ∧
      ((∀ a, s.mark a = .clean) → (∀ e : Fin 4, ∃ n ≤ 15, (Tab.get [] s.pos.combine e).map Prod.fst = List.range' (i - n) n) →
        ∀ e : Fin 4, (s.fld PS_THCFG_TH_EN).testBit e = true → s.encFitted e = true →
        (i % 16 ≠ 15 → (Tab.get [] u.pos.combine e).getLast? = some (i, toU 32 (s.posOf e))) ∧
        (i % 16 = 15 → Tab.get [] u.pos.combine e = [] ∧ u.peekN (s.trackAddr e i) 4 = leBytes 4 (toU 32 (s.posOf e)))))

/-! ## Registers and the portal -/

/-- O20. A word written to a 32-bit register without a rule of its own reaches its fields by their access types and ranges, under the locks of the register,
and touches nothing else; at a word of a 64-bit register it is the write of that half; an unassigned offset, and an address that is no multiple of 4, take
no effect. -/
def Obligations.RegisterWritesFollowTheAccessTypes : Prop :=
  (∀ (agent : Fin 5) (a v : BitVec 32) (d : RegDesc) (s : State), s.phase ≠ .off → a.toNat % 4 = 0 → s.regAt a.toNat = some d →
    d.width = 32 → d.addr ∉ ownRules → ∃ t, exec (.registerWrite agent a v) s = .next t ∧
    (∀ f ∈ d.fields, t.fld (f.fld a.toNat) = s.fieldAfterWrite (s.lockMask agent d a.toNat) a.toNat v.toNat f) ∧
    OnlyFields (d.fields.map fun f => f.fld a.toNat) s t ∧ OnlyParts [.regs] s t) ∧
  (∀ (agent : Fin 5) (a v : BitVec 32) (d : RegDesc) (s : State), a.toNat % 4 = 0 → s.regAt a.toNat = some d → d.width = 64 →
    exec (.registerWrite agent a v) s = exec (.reg64LowWrite agent a v) s) ∧
  (∀ (agent : Fin 5) (a v : BitVec 32) (s : State), a.toNat % 4 = 0 → s.regAt a.toNat = none →
    exec (.registerWrite agent a v) s = exec (.reg64HighWrite agent a v) s) ∧
  (∀ (agent : Fin 5) (a v : BitVec 32) (s : State), s.phase ≠ .off →
    a.toNat % 4 ≠ 0 ∨ (s.regAt a.toNat = none ∧ s.highOf a.toNat = none) → exec (.registerWrite agent a v) s = .next s)

/-- O21. The halves of a 64-bit register: reading the low word captures the high word for that agent; a low word written is held and changes nothing; the
high word stores both halves together under the register's rules, and the held word is gone. Without a held low word the present low half stands. -/
def Obligations.HalvesOfA64BitRegister : Prop :=
  (∀ (agent : Fin 5) (a : BitVec 32) (d : RegDesc) (s : State), s.phase ≠ .off → s.regAt a.toNat = some d → d.width = 64 → ∃ t,
    exec (.reg64LowRead agent a) s = .next t ∧ Tab.get 0 t.halves.data agent = s.regRead d a.toNat % 4294967296 ∧
    Tab.get none t.halves.captured (halfKey agent a.toNat) = some (s.regRead d a.toNat / 4294967296) ∧ OnlyParts [.halves] s t) ∧
  (∀ (agent : Fin 5) (a v : BitVec 32) (d : RegDesc) (s : State), s.phase ≠ .off → s.regAt a.toNat = some d → d.width = 64 → ∃ t,
    exec (.reg64LowWrite agent a v) s = .next t ∧ Tab.get none t.halves.staged (halfKey agent a.toNat) = some v.toNat ∧
    OnlyParts [.halves] s t) ∧
  (∀ (agent : Fin 5) (a v : BitVec 32) (d : RegDesc) (s : State), s.phase ≠ .off → s.highOf a.toNat = some d → d.addr ∉ ownRules →
    let k := halfKey agent (a.toNat - 4)
    let lo := (Tab.get none s.halves.staged k).getD (s.rwWord (a.toNat - 4) % 4294967296)
    ∃ t, exec (.reg64HighWrite agent a v) s = .next t ∧ Tab.get none t.halves.staged k = none ∧
    (∀ f ∈ d.fields, t.fld (f.fld (a.toNat - 4)) =
      s.fieldAfterWrite (s.lockMask agent d (a.toNat - 4)) (a.toNat - 4) (v.toNat * 4294967296 + lo) f) ∧
    OnlyFields (d.fields.map fun f => f.fld (a.toNat - 4)) s t ∧ OnlyParts [.regs, .halves] s t)

/-- O22. The register portal performs its oldest request, where it is of the command's kind: READ32 and READ64 answer the register's word, WRITE32 and
WRITE64 write it as agent 0, and the response half of the slot takes the request's SEQ, the status, the data and device time. A request that fails its
checks answers its status alone, its data 0; a block that does not answer takes 100 µs and answers TIMEOUT. A request of another kind in front, and an empty
portal, leave everything as it is. -/
def Obligations.PortalPerformsItsOldestRequest : Prop :=
  let reply (q : PortalReq) (status v : Nat) (t : State) : List Byte :=
    leBytes 1 (dByte q.body 16) ++ leBytes 1 status ++ leBytes 6 0 ++ leBytes 8 v ++ leBytes 8 t.clk.dev ++ leBytes 8 0
  let kinds : List (Instr × Nat) := [(.read32, 0), (.write32, 1), (.read64, 2), (.write64, 3)]
  (∀ (q : PortalReq) (rest : List PortalReq) (s : State), s.phase ≠ .off → s.host.portal = q :: rest → q.slot < 64 → s.portalStatus q = 0 →
    (q.op = 0 → ∃ t, exec .read32 s = .next t ∧ t.host.portal = rest ∧
      t.peekN (portalSlot q.slot + 32) 32 = reply q 0 (s.read32 0 q.addr).2 t ∧ t.halves = (s.read32 0 q.addr).1.halves ∧
      OnlyParts (.host :: .halves :: eventParts) s t) ∧
    (q.op = 2 → ∃ t, exec .read64 s = .next t ∧ t.host.portal = rest ∧
      t.peekN (portalSlot q.slot + 32) 32 = reply q 0 (s.read64 0 q.addr).2 t ∧ t.halves = (s.read64 0 q.addr).1.halves ∧
      OnlyParts (.host :: .halves :: eventParts) s t) ∧
    (q.op = 1 → ∃ u t, exec .write32 s = .next t ∧ u = { s with host := { s.host with portal := rest } } ∧
      OnlyParts eventParts (u.write32 0 q.addr q.data) t ∧ t.peekN (portalSlot q.slot + 32) 32 = reply q 0 0 t) ∧
    (q.op = 3 → ∃ u t, exec .write64 s = .next t ∧ u = { s with host := { s.host with portal := rest } } ∧
      OnlyParts eventParts (u.write64 0 q.addr q.data) t ∧ t.peekN (portalSlot q.slot + 32) 32 = reply q 0 0 t)) ∧
  (∀ c ∈ kinds, ∀ (q : PortalReq) (rest : List PortalReq) (s : State), s.phase ≠ .off → s.host.portal = q :: rest → q.slot < 64 →
    s.portalStatus q ≠ 0 → q.op = c.2 ∨ 4 ≤ q.op → ∃ t, exec c.1 s = .next t ∧ t.host.portal = rest ∧
    t.peekN (portalSlot q.slot + 32) 32 = reply q (s.portalStatus q) 0 t ∧
    t.clk.enc = s.clk.enc + (if s.portalStatus q = 3 then 20000 else 0) ∧ OnlyParts (.clk :: .host :: eventParts) s t) ∧
  (∀ c ∈ kinds, ∀ s : State, s.phase ≠ .off →
    (s.host.portal = [] → exec c.1 s = .next s) ∧
    (∀ (q : PortalReq) (rest : List PortalReq), s.host.portal = q :: rest → q.op ≠ c.2 → q.op < 4 → exec c.1 s = .next s))

/-- O23. PX_EPOCHCTL stands at offset 0x004 of its block, 32 bits wide with reset value 0 and two WO bits; outside READY a write of it by any agent has no
effect, and neither has APPROVE or DISCARD. -/
def Obligations.EpochControlActsOnlyInReady : Prop :=
  PX_EPOCHCTL = 0x45000000 + 0x004 ∧
  (descAt PX_EPOCHCTL).map (fun d => (d.width, d.fields.map fun f => (f.lo, f.w, f.acc, f.rst, f.cleared))) =
    some (32, [(1, 1, .wo, 0, true), (0, 1, .wo, 0, true)]) ∧
  (∀ f ∈ [PX_EPOCHCTL_APPROVE, PX_EPOCHCTL_DISCARD], State.reset.fld f = 0) ∧
  (∀ (agent : Fin 5) (v : BitVec 32) (s : State), s.phase ≠ .off → s.fld PX_EPOCH_STATE ≠ 2 →
    exec (.registerWrite agent (BitVec.ofNat 32 PX_EPOCHCTL) v) s = .next s ∧ exec .approve s = .next s ∧ exec .discard s = .next s)

/-- O24. MG_RESETCTL stands at offset 0x0100, 32 bits wide with reset value 0 and WO fields KEY, COLD and WARM; a write acts only when KEY is 0xB5, both bits
act as COLD, and in Paddock mode a write has no effect, but RESTART begins the cold start. -/
def Obligations.ResetControlNeedsItsKey : Prop :=
  MG_RESETCTL = 0x4E000000 + 0x0100 ∧
  (descAt MG_RESETCTL).map (fun d => (d.width, d.fields.map fun f => (f.lo, f.w, f.acc, f.rst, f.cleared))) =
    some (32, [(24, 8, .wo, 0, true), (1, 1, .wo, 0, true), (0, 1, .wo, 0, true)]) ∧
  (∀ f ∈ [MG_RESETCTL_KEY, MG_RESETCTL_COLD, MG_RESETCTL_WARM], State.reset.fld f = 0) ∧
  (∀ (agent : Fin 5) (v : BitVec 32) (s : State), s.phase ≠ .off →
    let c := Instr.registerWrite agent (BitVec.ofNat 32 MG_RESETCTL) v
    (bits v.toNat 24 8 ≠ 0xB5 ∨ s.phase = .paddock → exec c s = .next s) ∧
    (bits v.toNat 24 8 = 0xB5 → v.getLsbD 1 = true → exec c s = exec .hostCold s) ∧
    (bits v.toNat 24 8 = 0xB5 → v.getLsbD 1 = false → v.getLsbD 0 = true → exec c s = exec .hostWarm s) ∧
    (bits v.toNat 24 8 = 0xB5 → v.getLsbD 1 = false → v.getLsbD 0 = false → exec c s = .next s)) ∧
  ∀ (q : PadReq) (rest : List PadReq) (s : State), s.phase = .paddock → s.image.check = none → s.image.write = none →
    s.image.recovery = q :: rest → s.image.ddrUp = true → q.op = 4 → ∃ t, exec .recoveryRestart s = .next t ∧ ColdStarted 6 s t

/-! ## Memory, rings and events -/

/-- O25. Memory holds what is written: a write of which no part is refused reads back, and every byte outside it reads as before. Marks and counts aside,
nothing else changes. -/
def Obligations.MemoryHoldsWhatIsWritten : Prop :=
  ∀ (s : State) (a : Nat) (bs : List Byte), (s.writeBytes a bs).2 = [] →
    (s.writeBytes a bs).1.peekN a bs.length = bs ∧
    (∀ x, x < a ∨ a + bs.length ≤ x → (s.writeBytes a bs).1.peek x = s.peek x) ∧
    OnlyFieldsAndEvents [] s (s.writeBytes a bs).1 ∧ OnlyParts [.mem, .marks, .regs] s (s.writeBytes a bs).1

/-- O26. Part of an uncorrectable DDR5 line is not written: the line and its mark stay, MM_UE is raised with source 2 and the line's address recorded, and
the writer learns of it. A write of the whole line is performed and clears the error. -/
def Obligations.PartWritesOfBadLinesAreRefused : Prop :=
  ∀ (s : State) (a : Nat) (bs : List Byte), inDdr a = true → s.mark a = .uncorrectable →
    (bs ≠ [] → bs.length < 64 → a % 64 + bs.length ≤ 64 →
      s.writeBytes a bs = (s, [granule a]) ∧
      s.write a bs = ((s.recordUe (granule a) 2).raise 0x0A02 (granule a % 4294967296) 2, false) ∧
      (s.recordUe (granule a) 2).fld MM_UEADDR_SOURCE = 2 ∧ (s.recordUe (granule a) 2).fld MM_ECCSTAT_UNCORR =
        min (s.fld MM_ECCSTAT_UNCORR + 1) 65535) ∧
    (bs.length = 64 → a % 64 = 0 → (s.write a bs).2 = true ∧ (s.write a bs).1.mark a = .clean ∧ (s.write a bs).1.peekN a 64 = bs)

/-- O27. An entry posted to a ring: a full ring drops it, and counts it in OVF where it is an event or a record ring; otherwise the parameter slot and the
entry are written, in that order, and PROD advances; no other ring is touched. -/
def Obligations.RingsTakeEntriesInOrder : Prop :=
  (∀ (s : State) (r : Nat) (e sl : List Byte), (s.ring r).full = true →
    (s.ringPost r e sl).2 = .full ∧ ((s.ringPost r e sl).1.ring r).prod = (s.ring r).prod ∧
    ((s.ringPost r e sl).1.ring r).ovf = (if (s.ring r).kind = 3 ∨ (s.ring r).kind = 4 then ((s.ring r).ovf + 1) % 4294967296 else (s.ring r).ovf)) ∧
  (∀ (s : State) (r : Nat) (e sl : List Byte), (s.ring r).full = false →
    (s.ringPost r e sl).2 ≠ .full ∧ (s.ringPost r e sl).1.ring r = { s.ring r with prod := ((s.ring r).prod + 1) % 4294967296 }) ∧
  (∀ (s : State) (r k : Nat) (e sl : List Byte), k ≠ r → (s.ringPost r e sl).1.ring k = s.ring k) ∧
  (∀ (s : State) (r : Nat) (e sl : List Byte), OnlyFieldsAndEvents [] s (s.ringPost r e sl).1 ∧
    OnlyParts [.mem, .marks, .regs, .rings] s (s.ringPost r e sl).1)

/-- O28. The scrubber and the reports: a patrol read of a clean line moves on to the next, one of a corrected line counts and cleans it, one of an
uncorrectable line reports MM_UE with source 1; after the last line the first follows and a pass is counted; with the scrubber off nothing happens. MM_CE and
MG_SRAM_CE report what has been corrected since the last report, when a second has passed since that, and do nothing else where nothing has been. -/
def Obligations.ScrubbingAndItsReports : Prop :=
  (∀ s : State, s.phase ≠ .off → s.isOn MM_CFG_SCRUB_EN = true → s.image.ddrUp = true →
    s.fld MM_SCRUB_NEXT_LINE < 536870912 →
    let n := s.fld MM_SCRUB_NEXT_LINE
    let next := if n + 1 = 536870912 then 0 else n + 1
    let passes := if n + 1 = 536870912 then (s.fld MM_SCRUB_PASSES + 1) % 4294967296 else s.fld MM_SCRUB_PASSES
    (s.mark (64 * n) = .clean → ∃ t, exec (.scrubRead []) s = .next t ∧ t.fld MM_SCRUB_NEXT_LINE = next ∧ t.fld MM_SCRUB_PASSES = passes ∧
      OnlyFields [MM_SCRUB_NEXT_LINE, MM_SCRUB_PASSES] s t ∧ OnlyParts [.regs] s t) ∧
    (s.mark (64 * n) = .corrected → ∃ t, exec (.scrubRead []) s = .next t ∧ t.fld MM_SCRUB_NEXT_LINE = next ∧ t.fld MM_SCRUB_PASSES = passes ∧
      t.mark (64 * n) = .clean ∧ t.fld MM_ECCSTAT_CORR = min (s.fld MM_ECCSTAT_CORR + 1) 4294967295 ∧
      OnlyFields [MM_SCRUB_NEXT_LINE, MM_SCRUB_PASSES, MM_ECCSTAT_CORR] s t ∧ OnlyParts [.regs, .marks] s t) ∧
    (s.mark (64 * n) = .uncorrectable → ∃ t, exec (.scrubRead []) s = .next t ∧ t.fld MM_SCRUB_NEXT_LINE = next ∧
      t.fld MM_SCRUB_PASSES = passes ∧
      OnlyFields [MM_SCRUB_NEXT_LINE, MM_SCRUB_PASSES] ((s.recordUe (64 * n) 1).raise 0x0A02 (64 * n % 4294967296) 1) t ∧
      OnlyParts [.regs] ((s.recordUe (64 * n) 1).raise 0x0A02 (64 * n % 4294967296) 1) t) ∧
    (∀ up, exec (.scrubRead up) s = exec (.scrubRead []) (s.upset up))) ∧
  (∀ up (s : State), s.phase ≠ .off → s.isOn MM_CFG_SCRUB_EN = false ∨ s.image.ddrUp = false → exec (.scrubRead up) s = .next s) ∧
  (∀ s : State, s.phase ≠ .off →
    let clk := match s.ev.ceTime with
      | some t => (s.advanceDev (1000000000 + t)).clk
      | none => s.clk
    (s.fld MM_ECCSTAT_CORR ≠ s.ev.ceCorr → ∃ u, exec .mmCe s = .next (u.raise 0x0A01 (s.fld MM_ECCSTAT_CORR - s.ev.ceCorr)) ∧ u.clk = clk ∧
      u.ev = { s.ev with ceCorr := s.fld MM_ECCSTAT_CORR, ceTime := some u.clk.dev } ∧ OnlyParts [.ev, .clk] s u) ∧
    (s.fld MM_ECCSTAT_CORR = s.ev.ceCorr → ∃ t, exec .mmCe s = .next t ∧ t.clk = clk ∧ OnlyParts [.clk] s t)) ∧
  (∀ (code : Fin 6) (cp : Nat) (s : State), s.phase ≠ .off →
    let w := s.bumpSat MG_SERR_CP_CORR cp
    let old := Tab.get 0 s.ev.sramCorr code
    let clk := match Tab.find? s.ev.sramTime code with
      | some t => (s.advanceDev (1000000000 + t)).clk
      | none => s.clk
    w.fld MG_SERR_CP_CORR = min (s.fld MG_SERR_CP_CORR + cp) 255 ∧
    (w.sramCount code ≠ old → ∃ u, exec (.mgSramCe code cp) s = .next (u.raise 0x0E0C code (w.sramCount code - old)) ∧ u.clk = clk ∧
      Tab.get 0 u.ev.sramCorr code = w.sramCount code ∧ u.regs = w.regs ∧ OnlyParts [.ev, .clk, .regs] s u) ∧
    (w.sramCount code = old → ∃ t, exec (.mgSramCe code cp) s = .next t ∧ t.clk = clk ∧ t.regs = w.regs ∧ OnlyParts [.clk, .regs] s t))

/-! ## The host port -/

/-- O29. The host reads and writes the Pen window: ACT records a row; a burst of 32 or 64 bytes at row, bank and column carries the bytes at the offset they
spell, zeros where a word of it is beyond correction; outside rows 0 to 63 a read gives zeros and a write is dropped, both counted; a write reaches the
unmasked bytes that the host may write, and nothing else, one that leaves bytes out is counted, and one that changes the SEQ of a portal slot submits its
request, or is counted as an overrun. -/
def Obligations.HostReadsAndWritesThePenWindow : Prop :=
  (∀ (bank : Fin 16) (row : Fin 32768) (s : State), s.portAnswers = true → s.host.lost = false → ∃ t, exec (.hostAct bank row) s = .next t ∧
    Tab.get 0 t.host.rows bank = row.val ∧ t.host.lastCmd = s.clk.enc ∧ OnlyParts [.host] s t) ∧
  (∀ (bank : Fin 16) (col : Fin 64) (long : Bool) (s : State), s.portAnswers = true → s.host.lost = false →
    let row := Tab.get 0 s.host.rows bank
    let n := if long then 64 else 32
    let o := row * 32768 + bank.val * 2048 + (if long then col.val / 2 * 2 else col.val) * 32
    (row < 64 → (∀ u ∈ unitsOf (penBase + o) n, s.mark u ≠ .uncorrectable) → ∃ t, exec (.hostRd bank col long []) s = .next t ∧
      t.host.dq = s.peekN (penBase + o) n ∧ OnlyFieldsAndEvents [] s t ∧ OnlyParts [.host, .regs] s t) ∧
    (row < 64 → (∃ u ∈ unitsOf (penBase + o) n, s.mark u = .uncorrectable) → ∃ t, exec (.hostRd bank col long []) s = .next t ∧
      t.host.dq = List.replicate n 0 ∧ OnlyParts (.host :: eventParts) s t) ∧
    (64 ≤ row → ∃ t, exec (.hostRd bank col long []) s = .next t ∧ t.host.dq = List.replicate n 0 ∧
      t.fld HP_ERRCNT_OUTSIDE = (s.fld HP_ERRCNT_OUTSIDE + 1) % 65536 ∧ OnlyFields [HP_ERRCNT_OUTSIDE] s t ∧ OnlyParts [.host, .regs] s t) ∧
    (∀ up, exec (.hostRd bank col long up) s = exec (.hostRd bank col long []) (s.upset up))) ∧
  (∀ (bank : Fin 16) (col : Fin 64) (long : Bool) (data : List Byte) (mask : BitVec 64) (s : State), s.portAnswers = true → s.host.lost = false →
    let row := Tab.get 0 s.host.rows bank
    let n := if long then 64 else 32
    let o := row * 32768 + bank.val * 2048 + (if long then col.val / 2 * 2 else col.val) * 32
    let k := (o - 4096) / 64
    (row < 64 → ∃ t, exec (.hostWr bank col long data mask) s = .next t ∧
      (∀ i < n, t.peek (penBase + o + i) =
        (if mask.getLsbD i = false ∧ hostMayWrite (o + i) = true then data.getD i 0 else s.peek (penBase + o + i))) ∧
      (∀ x, x < penBase + o ∨ penBase + o + n ≤ x → t.peek x = s.peek x) ∧
      t.fld HP_ERRCNT_OUTSIDE = (if ∃ i < n, mask.getLsbD i = false ∧ hostMayWrite (o + i) = false then (s.fld HP_ERRCNT_OUTSIDE + 1) % 65536
        else s.fld HP_ERRCNT_OUTSIDE) ∧
      (o < 4096 ∨ 8192 ≤ o ∨ t.peek (portalSlot k + 16) = s.peek (portalSlot k + 16) → t.host.portal = s.host.portal ∧
        t.fld HP_ERRCNT_OVERRUN = s.fld HP_ERRCNT_OVERRUN) ∧
      (4096 ≤ o → o < 8192 → t.peek (portalSlot k + 16) ≠ s.peek (portalSlot k + 16) →
        ((∀ q ∈ s.host.portal, q.slot ≠ k) → t.host.portal = s.host.portal ++ [⟨k, t.peekN (portalSlot k) 32⟩]) ∧
        ((∃ q ∈ s.host.portal, q.slot = k) → t.host.portal = s.host.portal ∧
          t.fld HP_ERRCNT_OVERRUN = (s.fld HP_ERRCNT_OVERRUN + 1) % 65536)) ∧
      OnlyFieldsAndEvents [HP_ERRCNT_OUTSIDE, HP_ERRCNT_OVERRUN] s t ∧ OnlyParts [.host, .mem, .marks, .regs] s t) ∧
    (64 ≤ row → ∃ t, exec (.hostWr bank col long data mask) s = .next t ∧
      t.fld HP_ERRCNT_OUTSIDE = (s.fld HP_ERRCNT_OUTSIDE + 1) % 65536 ∧ OnlyFields [HP_ERRCNT_OUTSIDE] s t ∧ OnlyParts [.host, .regs] s t))

/-- O30. Commands of the host port that touch its own state alone: mode registers are written, rejected or read, the read-only ones unwritten; refresh, PRE
and ZQ calibration have no effect; write-X and data copy are ignored and counted; each is a sign of life, and the first after a loss reports HP_HOST_BACK
before it acts. A port that does not answer takes none of them. -/
def Obligations.HostModesAndPlainCommands : Prop :=
  (∀ s : State, s.portAnswers = true → s.host.lost = false →
    (∀ c ∈ [Instr.hostPre, .hostRefresh, .zqStart, .zqLatch], ∃ t, exec c s = .next t ∧ t.host = { s.host with lastCmd := s.clk.enc } ∧
      OnlyParts [.host] s t) ∧
    (∀ c ∈ [Instr.writeX, .dataCopy], ∃ t, exec c s = .next t ∧ t.host = { s.host with lastCmd := s.clk.enc } ∧
      t.fld HP_ERRCNT_CMD_REJ = (s.fld HP_ERRCNT_CMD_REJ + 1) % 65536 ∧ OnlyFields [HP_ERRCNT_CMD_REJ] s t ∧ OnlyParts [.host, .regs] s t) ∧
    (∀ (reg : Fin 128) (op : BitVec 8),
      (modeReadOnly reg = true → ∃ t, exec (.hostMrw reg op) s = .next t ∧ t.host = { s.host with lastCmd := s.clk.enc } ∧ OnlyParts [.host] s t) ∧
      (modeReadOnly reg = false → modeAccepts reg op.toNat = true → ∃ t, exec (.hostMrw reg op) s = .next t ∧ t.modeValue reg = op.toNat ∧
        (∀ k : Nat, k ≠ reg.val → t.modeValue k = s.modeValue k) ∧ OnlyParts [.host] s t) ∧
      (modeReadOnly reg = false → modeAccepts reg op.toNat = false → ∃ u, exec (.hostMrw reg op) s = .next (u.raise 0x0C03 reg op.toNat) ∧
        (∀ k : Nat, u.modeValue k = s.modeValue k) ∧ u.fld HP_ERRCNT_MR_REJ = (s.fld HP_ERRCNT_MR_REJ + 1) % 65536 ∧
        OnlyFields [HP_ERRCNT_MR_REJ] s u ∧ OnlyParts [.host, .regs] s u)) ∧
    (∀ reg : Fin 128, ∃ t, exec (.hostMrr reg) s = .next t ∧ t.host.dq = leBytes 1 (s.modeValue reg) ∧ OnlyParts [.host] s t)) ∧
  (∀ (c : Instr) (s : State), hostPortCommand c = true ∨ hostPortRead c = true → s.portAnswers = true → s.host.lost = true → ∃ u,
    exec c s = exec c (u.raise 0x0C02 (min ((s.clk.enc - s.host.lastCmd) / 200000) 4294967295)) ∧
    u.host = { s.host with lastCmd := s.clk.enc, lost := false, flag2 := true } ∧ OnlyParts [.host] s u) ∧
  (∀ (c : Instr) (s : State), s.portAnswers = false →
    (hostPortCommand c = true → exec c s = .next s) ∧
    (hostPortRead c = true → ∃ t, exec c s = .next t ∧ OnlyParts [.host, .free] s t))

/-- O31. Power states, training and reset of the host port: self-refresh and power-down are entered and left; a training mode answers on DQ; the write FIFO
holds the last eight bursts written and gives them back in order; HP_RESET_N returns the mode registers, ends training and leaves the Pen window and the
liveness timer alone. -/
def Obligations.HostPowerStatesAndTraining : Prop :=
  (∀ s : State, s.portAnswers = true → s.host.lost = false →
    (∃ t, exec .selfRefreshEntry s = .next t ∧ t.host.asleep = true ∧ t.host.lastCmd = s.clk.enc ∧ OnlyParts [.host] s t) ∧
    (∃ t, exec .selfRefreshExit s = .next t ∧ t.host.asleep = false ∧ t.host.lastCmd = s.clk.enc ∧ OnlyParts [.host] s t) ∧
    (∃ t, exec .powerDownEntry s = .next t ∧ t.host.down = true ∧ OnlyParts [.host] s t) ∧
    (∃ t, exec .powerDownExit s = .next t ∧ t.host.down = false ∧ OnlyParts [.host] s t) ∧
    (∀ ca : BitVec 7, ∃ t, exec (.commandBusTraining ca) s = .next t ∧ t.host.train = .bus ∧ ofLe t.host.dq = ca.toNat ∧ OnlyParts [.host] s t) ∧
    (∀ ck : Bool, ∃ t, exec (.wck2ckLevelling ck) s = .next t ∧ t.host.train = .levelling ∧
      ofLe t.host.dq = (if ck then 65535 else 0) ∧ OnlyParts [.host] s t) ∧
    (∃ t, exec .readDqCalibration s = .next t ∧ t.host.train = .readCal ∧ t.host.dq = s.calPattern ∧ OnlyParts [.host] s t) ∧
    (∀ data : List Byte, data.length = 32 → ∃ t, exec (.wff data) s = .next t ∧
      t.host.wff = (s.host.wff ++ [data]).drop (s.host.wff.length + 1 - 8) ∧ OnlyParts [.host] s t) ∧
    (∀ (b : List Byte) (rest : List (List Byte)), s.host.wff = b :: rest → ∃ t, exec .rff s = .next t ∧ t.host.dq = b ∧
      t.host.wff = rest ++ [b] ∧ OnlyParts [.host] s t)) ∧
  (∀ (on : Bool) (s : State), s.phase ≠ .off → ∃ t, exec (.hpResetN on) s = .next t ∧ t.host.held = on ∧ t.host.lastCmd = s.host.lastCmd ∧
    t.host.lost = s.host.lost ∧ (on = true → t.host.modes = [] ∧ t.host.train = .none ∧ t.portAnswers = false) ∧ OnlyParts [.host] s t)

/-- O32. Signs of life: the heartbeat block is rewritten at the next multiple of 10 µs of device time, its count starting at 0 and rising by 1 modulo 2^32,
with the frequency of HCK where a whole millisecond is reached; 1 ms without a command, outside self-refresh and the first steps of a cold start, is a loss
of the host, counted and reported once; writing 1 to HOST_LOST clears it with bit 2 of FLAGS. -/
def Obligations.HeartbeatAndHostLoss : Prop :=
  (∀ (hck : Fin 1024) (s : State), s.beats = true → ∃ u t, exec (.heartbeatWrite hck) s = .next t ∧
    u = s.advanceDev (10000 * (s.host.beat / 10000 + 1)) ∧
    t.fld HP_HB_HB_COUNT = (if s.host.beaten then (s.fld HP_HB_HB_COUNT + 1) % 4294967296 else 0) ∧
    t.fld HP_CLK_HCK_MHZ = (if u.clk.dev % 1000000 = 0 then hck.val else s.fld HP_CLK_HCK_MHZ) ∧
    t.peekN penBase 16 = u.beatBlock (t.fld HP_HB_HB_COUNT) ∧ (∀ x, x < penBase ∨ penBase + 16 ≤ x → t.peek x = s.peek x) ∧
    t.host = { s.host with beat := 10000 * (u.clk.dev / 10000), beaten := true } ∧ t.clk = u.clk ∧
    OnlyFields [HP_HB_HB_COUNT, HP_CLK_HCK_MHZ] s t ∧ OnlyParts [.clk, .mem, .marks, .regs, .host] s t) ∧
  (∀ (hck : Fin 1024) (s : State), s.beats = false → exec (.heartbeatWrite hck) s = .next s) ∧
  (∀ s : State, s.phase ≠ .off →
    (s.host.asleep = true ∨ s.host.lost = true ∨ (∃ k < 3, s.phase = .cold k) → exec .hpHostLost s = .next s) ∧
    (s.host.asleep = false → s.host.lost = false → (∀ k < 3, s.phase ≠ .cold k) → ∃ u,
      exec .hpHostLost s = .next (u.raise 0x0C01 (u.fld HP_STAT_LOST_CNT)) ∧ u.host = { s.host with lost := true } ∧
      u.isOn HP_STAT_HOST_LOST = true ∧ u.fld HP_STAT_LOST_CNT = (s.fld HP_STAT_LOST_CNT + 1) % 65536 ∧
      u.clk.enc = max s.clk.enc (s.host.lastCmd + 200000) ∧
      OnlyFields [HP_STAT_LOST_CNT, HP_STAT_HOST_LOST] s u ∧ OnlyParts [.clk, .regs, .host] s u)) ∧
  (∀ (v : BitVec 32) (s : State), s.phase ≠ .off →
    (v.getLsbD 28 = true → ∃ t, exec (.hpStatClear v) s = .next t ∧ t.isOn HP_STAT_HOST_LOST = false ∧ t.host = { s.host with flag2 := false } ∧
      OnlyFields [HP_STAT_HOST_LOST] s t ∧ OnlyParts [.host, .regs] s t) ∧
    (v.getLsbD 28 = false → exec (.hpStatClear v) s = .next s))

/-! ## Lanes and cameras -/

/-- O33. A lane's states: enabling it begins ADAPT and disabling it ends in OFF; convergence leads to HUNT; 64 valid headers in a row lead to LOCKED, an
invalid one begins the count anew and moves the boundary by one bit; the sixteenth invalid header among the last 64 loses lock; a locked camera port follows
local fault, low-power idle and 128 blocks without fault to UP; the loss of signal leads back to ADAPT. A lane in OFF takes nothing in, and PRBS31 counts the
bits that differ. -/
def Obligations.LanesLockAndLoseLock : Prop :=
  (∀ (l : Fin 16) (v : BitVec 32) (s : State), s.phase ≠ .off →
    let fs := [LN_LANECFG_EN l, LN_LANECFG_RATE l, LN_LANECFG_POL_AUTO l, LN_LANECFG_POL_INV_TX l, LN_LANECFG_LPI_EN l, LN_LANECFG_LOOP l,
      LN_LANECFG_TESTPAT l, LN_LANECFG_LPI_IDLE l, LN_LANESTAT_STATE l]
    (s.isOn (LN_LANECFG_EN l) = false → v.getLsbD 31 = true → ∃ t, exec (.laneCfgWrite l v) s = .next t ∧ t.laneState l = 1 ∧
      t.isOn (LN_LANECFG_EN l) = true ∧ t.isOn (LN_LANECFG_RATE l) = v.getLsbD 30 ∧ OnlyFields fs s t ∧ OnlyParts [.regs, .lanes] s t) ∧
    (v.getLsbD 31 = false → ∃ u, exec (.laneCfgWrite l v) s =
      .next (if s.isOn (LN_LANECFG_EN l) && s.droveLane l then u.droveLockLost else u) ∧ u.laneState l = 0 ∧ u.isOn (LN_LANECFG_EN l) = false ∧
      OnlyFields fs s u ∧ OnlyParts [.regs, .lanes] s u) ∧
    (s.isOn (LN_LANECFG_EN l) = true → v.getLsbD 31 = true →
      ∃ u, exec (.laneCfgWrite l v) s =
        .next (if (u.laneLoop l ≠ s.laneLoop l ∨ u.lanePat l ≠ s.lanePat l) ∧ s.droveLane l = true then u.droveLockLost else u) ∧
      u.laneState l = (if (u.laneLoop l ≠ s.laneLoop l ∨ u.lanePat l ≠ s.lanePat l) ∧ 2 ≤ s.laneState l then 2 else s.laneState l) ∧
      u.fld (LN_LANECFG_LOOP l) = bits v.toNat 24 3 ∧ u.fld (LN_LANECFG_TESTPAT l) = bits v.toNat 22 2 ∧
      u.fld (LN_LANECFG_RATE l) = s.fld (LN_LANECFG_RATE l) ∧ OnlyFields fs s u ∧ OnlyParts [.regs, .lanes] s u)) ∧
  (∀ (l : Fin 16) (s : State), s.phase ≠ .off →
    (s.laneState l = 1 → ∃ t, exec (.adaptConverged l) s = .next t ∧ t.laneState l = 2 ∧
      (t.lane l).goodRun = 0 ∧ OnlyFields [LN_LANESTAT_STATE l] s t ∧ OnlyParts [.regs, .lanes] s t) ∧
    (s.laneState l ≠ 1 → exec (.adaptConverged l) s = .next s) ∧
    (2 ≤ s.laneState l → s.laneLoop l ≠ 1 → s.laneLoop l ≠ 2 → s.rxDown l = false → ∃ u, exec (.laneSignalLoss l) s =
      .next (if s.droveLane l then u.droveLockLost else u) ∧ u.laneState l = 1 ∧ OnlyFields [LN_LANESTAT_STATE l] s u ∧
      OnlyParts [.regs, .lanes] s u) ∧
    (s.laneState l < 2 ∨ s.laneLoop l = 1 ∨ s.laneLoop l = 2 ∨ s.rxDown l = true → exec (.laneSignalLoss l) s = .next s)) ∧
  (∀ (l : Fin 16) (hdr : BitVec 2) (data : BitVec 64) (n : Nat) (s : State), s.phase ≠ .off →
    let c := Instr.laneBlockReceive l hdr data n
    (s.laneState l = 0 → exec c s = .next s) ∧
    (s.laneState l = 1 → ∃ t, exec c s = .next t ∧ OnlyParts [.lanes] s t) ∧
    (2 ≤ s.laneState l → s.lanePat l = true → ∃ t, exec c s = .next t ∧ t.fld (LN_LANEERR_PRBS_ERR l) =
      (if s.laneLoop l = 1 ∨ s.laneLoop l = 2 then s.fld (LN_LANEERR_PRBS_ERR l)
        else (s.fld (LN_LANEERR_PRBS_ERR l) + Coded.ones ⟨hdr, data⟩) % 65536) ∧
      OnlyFields [LN_LANEERR_PRBS_ERR l] s t ∧ OnlyParts [.regs, .lanes] s t) ∧
    (2 ≤ s.laneState l → s.lanePat l = false →
      let u := (s.lineIn l hdr data).1
      OnlyParts [.lanes] s u ∧
      (s.laneLoop l = 0 → (s.lane l).rx = 0 → (s.lane l).rxLen = 0 → (s.lane l).rxSkip = false →
        ∃ b, (s.lineIn l hdr data).2 = some b ∧ b.hdr = (if s.isOn (LN_LANESTAT_RX_POL_INV l) then ~~~ hdr else hdr)) ∧
      ((s.lineIn l hdr data).2 = none → exec c s = .next u) ∧
      (∀ b, (s.lineIn l hdr data).2 = some b → s.laneState l = 2 →
        (b.valid = true → (s.lane l).goodRun < 63 → ∃ t, exec c s = .next t ∧ t.lane l = { u.lane l with goodRun := (s.lane l).goodRun + 1 } ∧
          OnlyParts [.lanes] u t) ∧
        (b.valid = true → 63 ≤ (s.lane l).goodRun → ∃ t, exec c s = .next t ∧ t.laneState l = 3 ∧ (t.lane l).badHdrs = 0 ∧
          OnlyFields [LN_LANESTAT_STATE l] s t ∧ OnlyParts [.regs, .lanes] s t) ∧
        (b.valid = false → ∃ t, exec c s = .next t ∧ (t.lane l).goodRun = 0 ∧ t.lane l = { u.lane l with
            goodRun := 0
            rxSkip := (u.lane l).rxSkip || decide ((u.lane l).rxLen = 0)
            rx := if (u.lane l).rxLen = 0 then (u.lane l).rx else (u.lane l).rx / 2
            rxLen := (u.lane l).rxLen - 1 } ∧ OnlyParts [.lanes] u t)) ∧
      (∀ b, (s.lineIn l hdr data).2 = some b → 3 ≤ s.laneState l → 16 ≤ s.badHeaders l b → ∃ w,
        exec c s = .next (if s.droveLane l then (w.raise 0x0101 l).droveLockLost else w.raise 0x0101 l) ∧ w.laneState l = 2 ∧
        w.isOn (LN_LANESTAT_LOCKLOSS l) = true ∧ w.fld (LN_LANESTAT_LOCKLOSS_CNT l) = (s.fld (LN_LANESTAT_LOCKLOSS_CNT l) + 1) % 65536 ∧
        (b.valid = false → w.fld (LN_LANEERR_BADHDR_CNT l) = (s.fld (LN_LANEERR_BADHDR_CNT l) + 1) % 65536) ∧
        OnlyFields [LN_LANESTAT_STATE l, LN_LANESTAT_LOCKLOSS_CNT l, LN_LANESTAT_LOCKLOSS l, LN_LANEERR_BADHDR_CNT l] s w ∧
        OnlyParts [.regs, .lanes] s w) ∧
      (∀ b, (s.lineIn l hdr data).2 = some b → 3 ≤ s.laneState l → s.badHeaders l b < 16 → s.droveLane l = false → ∃ t,
        exec c s = .next t ∧ t.isOn (LN_LANESTAT_LPI_RX l) = b.lpi ∧
        (t.lane l).sinceFault = (if b.localFault then 0 else min 128 ((s.lane l).sinceFault + 1)) ∧
        t.laneState l = (if b.localFault = true ∨ s.laneTest l = true then 3
          else if s.laneState l = 3 ∧ (t.lane l).sinceFault = 128 then 4 else s.laneState l) ∧
        t.fld (LN_LANEERR_BADHDR_CNT l) = (if b.valid then s.fld (LN_LANEERR_BADHDR_CNT l) else (s.fld (LN_LANEERR_BADHDR_CNT l) + 1) % 65536) ∧
        OnlyFields [LN_LANESTAT_STATE l, LN_LANESTAT_LPI_RX l, LN_LANESTAT_RX_POL_INV l, LN_LANEERR_BADHDR_CNT l] s t ∧
        OnlyParts [.regs, .lanes] s t) ∧
      (∀ b, (s.lineIn l hdr data).2 = some b → 3 ≤ s.laneState l → s.badHeaders l b < 16 → s.droveLane l = true → ∃ w,
        exec c s = .next (w.droveBlock l b n) ∧ w.laneState l = s.laneState l ∧
        OnlyFields [LN_LANESTAT_RX_POL_INV l, LN_LANEERR_BADHDR_CNT l] s w ∧ OnlyParts [.regs, .lanes] s w)))

/-- O34. Frames leave a port that is UP and awake, oldest first and stamped, a Sync with its Follow_Up behind it; with low-power idle enabled and nothing
queued the transmitter sleeps after LPI_IDLE µs, and 5.5 µs after a wake the queued frame is sent. A port in another state sends nothing. -/
def Obligations.PortsSendAndSleep : Prop :=
  let behind (s t : State) (l : Fin 16) (f : TxFrame) (rest : List TxFrame) : Prop :=
    (t.lane l).sent = some f ∧ (t.lane l).txStamp = (t.clk.dev + s.txLatency l) % 18446744073709551616 ∧
    (t.lane l).txq = rest ++ (match f with
      | .ptp 0 q _ _ _ => [.ptp 8 q (s.isOn TM_CFG_TRANS) (((t.lane l).txStamp + s.fld TM_PTPOFS_PTP_OFS) % 18446744073709551616) []]
      | _ => []) ∧
    t.ptp = (match f with
      | .ptp 1 q _ _ _ => if s.ptp.delaySeq = q then { s.ptp with req := some (q, (t.lane l).txStamp) } else s.ptp
      | _ => s.ptp)
  (∀ (l : Fin 16) (s : State), s.phase ≠ .off →
    (∀ f rest, s.laneState l = 4 → s.droveLane l = false → (s.lane l).lpi = 0 → (s.lane l).txq = f :: rest → ∃ t,
      exec (.frameTransmit l) s = .next t ∧ behind s t l f rest ∧ OnlyParts [.lanes, .ptp, .free] s t) ∧
    (s.laneState l ≠ 4 ∨ s.droveLane l = true ∨ (s.lane l).lpi ≠ 0 ∨ (s.lane l).txq = [] → exec (.frameTransmit l) s = .next s)) ∧
  (∀ (l : Fin 16) (s : State), s.phase ≠ .off →
    (s.isOn (LN_LANECFG_LPI_EN l) = true → s.droveLane l = false → s.laneState l = 4 → (s.lane l).lpi = 0 → (s.lane l).txq = [] → ∃ t,
      exec (.lpiEntry l) s = .next t ∧ (t.lane l).lpi = 1 ∧
      t.isOn (LN_LANESTAT_LPI_TX l) = true ∧ t.clk.enc = max s.clk.enc ((s.lane l).lpiTime + 200 * s.fld (LN_LANECFG_LPI_IDLE l)) ∧
      OnlyFields [LN_LANESTAT_LPI_TX l] s t ∧ OnlyParts [.clk, .lanes, .regs] s t) ∧
    (s.isOn (LN_LANECFG_LPI_EN l) = false ∨ s.droveLane l = true ∨ s.laneState l ≠ 4 ∨ (s.lane l).lpi ≠ 0 ∨ (s.lane l).txq ≠ [] →
      exec (.lpiEntry l) s = .next s)) ∧
  (∀ (l : Fin 16) (s : State), s.phase ≠ .off →
    (∀ f rest, s.laneState l = 4 → (s.lane l).lpi = 2 → (s.lane l).txq = f :: rest → ∃ t,
      exec (.lpiWakeDone l) s = .next t ∧ (t.lane l).lpi = 0 ∧ behind s t l f rest ∧ t.isOn (LN_LANESTAT_LPI_TX l) = false ∧
      t.clk.enc = max s.clk.enc ((s.lane l).lpiTime + 1100) ∧ OnlyFields [LN_LANESTAT_LPI_TX l] s t ∧
      OnlyParts [.clk, .lanes, .regs, .ptp, .free] s t) ∧
    ((s.lane l).lpi = 2 → s.laneState l ≠ 4 ∨ (s.lane l).txq = [] → ∃ t, exec (.lpiWakeDone l) s = .next t ∧ (t.lane l).lpi = 0 ∧
      (t.lane l).txq = (s.lane l).txq ∧ t.isOn (LN_LANESTAT_LPI_TX l) = false ∧ OnlyFields [LN_LANESTAT_LPI_TX l] s t ∧
      OnlyParts [.clk, .lanes, .regs] s t) ∧
    ((s.lane l).lpi ≠ 2 → exec (.lpiWakeDone l) s = .next s))

/-- O35. A received frame meets the rows of the classification in order: a bad FCS, a frame over 9,018 bytes and a frame not for the port are dropped and
counted, a PTP frame goes to the Time unit, a frame of the firmware's protocols is queued for it, a GVSP packet goes to its stream; every frame is stamped; a
port that is not UP, or powered down, takes none, and while the Intake is held every frame is dropped and counted. -/
def Obligations.ReceivedFramesAreClassified : Prop :=
  (∀ (l : Fin 16) (b : List Byte) (s : State), s.phase ≠ .off →
    let c := Instr.cameraFrameReceive l b [] []
    let u := s.setLane l { s.lane l with rxStamp := s.clk.dev - s.rxLatency l }
    (s.portUp l = false ∨ s.rxDown l = true → exec c s = .next s) ∧
    (s.portUp l = true → s.rxDown l = false →
      (s.intakeUp = false → ∃ t, exec c s = .next t ∧ t.fld (LN_PORTCNT_FILTERED l) = (s.fld (LN_PORTCNT_FILTERED l) + 1) % 65536 ∧
        OnlyFields [LN_PORTCNT_FILTERED l] u t ∧ OnlyParts [.regs] u t) ∧
      (s.intakeUp = true →
        (∀ k ∈ [(FrameClass.badFcs, LN_PORTCNT_FCS_ERR l), (.oversize, LN_PORTCNT_OVERSIZE l), (.filtered, LN_PORTCNT_FILTERED l)],
          s.classify l b = k.1 → ∃ t, exec c s = .next t ∧ t.fld k.2 = (s.fld k.2 + 1) % 65536 ∧ OnlyFields [k.2] u t ∧ OnlyParts [.regs] u t) ∧
        (s.classify l b = .time → exec c s = .next u) ∧
        (s.classify l b = .firmware → (s.lane l).fwq.length < 64 → ∃ t, exec c s = .next t ∧
          t.lane l = { u.lane l with fwq := (s.lane l).fwq ++ [b] } ∧ OnlyParts [.lanes] s t) ∧
        (s.classify l b = .firmware → 64 ≤ (s.lane l).fwq.length → ∃ t, exec c s = .next t ∧
          t.fld (LN_PORTCNT_FW_OVF l) = (s.fld (LN_PORTCNT_FW_OVF l) + 1) % 65536 ∧ OnlyFields [LN_PORTCNT_FW_OVF l] u t ∧ OnlyParts [.regs] u t) ∧
        (s.classify l b = .gvsp → exec c s = .next (u.gvspPacket l ((b.drop 42).take (dBe b 38 2 - 8)))))) ∧
    (b.length < 64 → s.classify l b = .badFcs ∨ s.classify l b = .filtered)) ∧
  (∀ (l : Fin 16) (b : List Byte) ls up (s : State), s.phase ≠ .off →
    exec (.cameraFrameReceive l b ls up) s = exec (.cameraFrameReceive l b [] []) ((s.upset up).lineErrors ls))

/-- O36. The firmware answers on the camera ports: the ARP request or the echo request at the front of a port's queue leaves it and its reply is queued; an
acknowledgement completes the command that has its ID, the next write of a camera's setup following or the setup ending; a command without acknowledgement
is sent again 200 ms later, twice, and reported then; a heartbeat goes out a third of the timeout after the last; setup begins with the write that takes
control, and is given up 800 ms into step 9 of a cold start. -/
def Obligations.FirmwareServesTheCameraPorts : Prop :=
  let woken (s t : State) (l : Fin 16) (f : TxFrame) : Prop :=
    (t.lane l).txq = (s.lane l).txq ++ [f] ∧ (t.lane l).lpi = (if (s.lane l).lpi = 1 then 2 else (s.lane l).lpi)
  let isSetup (g : Gvcp) : Option Nat := match g.use with
    | .setup k _ => some k
    | _ => none
  (∀ (l : Fin 16) (b : List Byte) (rest : List (List Byte)) (s : State), s.phase ≠ .off → s.intakeUp = true → (s.lane l).fwq = b :: rest →
    (s.isArp l b = true → ∃ t, exec (.arpRequest l) s = .next t ∧ (t.lane l).fwq = rest ∧
      woken s t l (.arpReply (dBe b 22 6) (dBe b 28 4)) ∧ OnlyParts [.lanes] s t) ∧
    (s.isEcho l b = true → ∃ t, exec (.icmpEcho l) s = .next t ∧ (t.lane l).fwq = rest ∧
      woken s t l (.icmpReply (dBe b 6 6) (dBe b 26 4) ((b.drop 34).take (dBe b 16 2 - 20))) ∧ OnlyParts [.lanes] s t) ∧
    (s.isArp l b = false → s.isEcho l b = true ∨ isGvcpAck b = true → ∃ t, exec (.arpRequest l) s = .next t ∧ t.lane l = s.lane l ∧
      OnlyParts [.lanes] s t) ∧
    (s.isEcho l b = false → s.isArp l b = true ∨ isGvcpAck b = true → ∃ t, exec (.icmpEcho l) s = .next t ∧ t.lane l = s.lane l ∧
      OnlyParts [.lanes] s t)) ∧
  (∀ (l : Fin 16) (b : List Byte) (rest : List (List Byte)) (s : State), s.phase ≠ .off → s.intakeUp = true →
    (s.lane l).fwq = b :: rest → isGvcpAck b = true →
    let pkt := (b.drop 42).take (dBe b 38 2 - 8)
    let hit := (s.lane l).gvcp.find? fun g => decide (g.req = dBe pkt 6 2)
    let left := (s.lane l).gvcp.filter fun g => decide (g.req ≠ dBe pkt 6 2)
    (hit = none → ∃ t, exec (.gvcpAck l) s = .next t ∧ t.lane l = { s.lane l with fwq := rest } ∧ OnlyParts [.lanes] s t) ∧
    (∀ g, hit = some g →
      (g.use = .heartbeat → dBe pkt 0 2 ≠ 0x8006 → ∃ t, exec (.gvcpAck l) s = .next t ∧
        t.lane l = { s.lane l with fwq := rest, gvcp := left } ∧ OnlyParts [.lanes] s t) ∧
      (g.use = .probe → dBe pkt 0 2 ≠ 0x8006 → ∃ t, exec (.gvcpAck l) s = .next t ∧
        t.lane l = { s.lane l with fwq := rest, gvcp := left, control := true } ∧ OnlyParts [.lanes] s t) ∧
      (∀ k i w, g.use = .setup k i → dBe pkt 0 2 = 0 → (s.setupWrites l k)[i + 1]? = some w → ∃ t, exec (.gvcpAck l) s = .next t ∧
        (t.lane l).fwq = rest ∧
        (t.lane l).gvcp = left ++ [⟨.setup k (i + 1), (s.lane l).nextReq, 1, s.clk.enc, gvcpWrite (s.lane l).nextReq w.1 w.2⟩] ∧
        OnlyParts [.lanes] s t) ∧
      (∀ i, g.use = .setup 4 i → dBe pkt 0 2 = 0 → ∃ t, exec (.gvcpAck l) s = .next t ∧ (t.lane l).gvcp = left ∧
        (t.lane l).control = true ∧ t.isOn (IN_STRCTL_BUSY l) = false ∧ t.isOn (IN_STRCTL_SETUP_FAIL l) = false ∧
        OnlyFields [IN_STRCTL_BUSY l, IN_STRCTL_SETUP_FAIL l, IN_STRCTL_FAIL_STEP l] s t ∧ OnlyParts [.regs, .lanes, .streams] s t) ∧
      (∀ k i, g.use = .setup k i → dBe pkt 0 2 ≠ 0 → ∃ u, exec (.gvcpAck l) s = .next (u.raise 0x0201 l k) ∧ (u.lane l).gvcp = left ∧
        (u.lane l).control = false ∧ u.isOn (IN_STRCTL_BUSY l) = false ∧ u.isOn (IN_STRCTL_SETUP_FAIL l) = true ∧
        u.fld (IN_STRCTL_FAIL_STEP l) = k % 8 ∧
        OnlyFields [IN_STRCTL_BUSY l, IN_STRCTL_SETUP_FAIL l, IN_STRCTL_FAIL_STEP l] s u ∧ OnlyParts [.regs, .lanes] s u) ∧
      (∀ i, g.use = .mailbox i → ∃ u, exec (.gvcpAck l) s = .next (u.mboxReply i l 0 (gvcpWithId pkt (dBe g.body 6 2))) ∧
        u.lane l = { s.lane l with fwq := rest, gvcp := left } ∧ OnlyParts [.lanes] s u))) ∧
  (∀ (l : Fin 16) (g : Gvcp) (rest : List Gvcp) (s : State), s.phase ≠ .off → s.intakeUp = true → (s.lane l).gvcp = g :: rest →
    let left := (g :: rest).filter fun h => decide (h.req ≠ g.req)
    (g.tries < 3 → ∃ t, exec (.gvcpRetryTimeout l) s = .next t ∧
      (t.lane l).gvcp = rest ++ [{ g with tries := g.tries + 1, sent := t.clk.enc }] ∧ woken s t l (.gvcp g.req (gvcpWithId g.body g.req)) ∧
      t.clk.enc = max s.clk.enc (g.sent + 40000000) ∧ OnlyParts [.clk, .lanes] s t) ∧
    (∀ k i, 3 ≤ g.tries → g.use = .setup k i → ∃ u, exec (.gvcpRetryTimeout l) s = .next (u.raise 0x0201 l k) ∧ (u.lane l).gvcp = left ∧
      u.clk.enc = max s.clk.enc (g.sent + 40000000) ∧ u.isOn (IN_STRCTL_BUSY l) = false ∧ u.isOn (IN_STRCTL_SETUP_FAIL l) = true ∧
      OnlyFields [IN_STRCTL_BUSY l, IN_STRCTL_SETUP_FAIL l, IN_STRCTL_FAIL_STEP l] s u ∧ OnlyParts [.clk, .regs, .lanes] s u) ∧
    (∀ i, 3 ≤ g.tries → g.use = .mailbox i → ∃ u, exec (.gvcpRetryTimeout l) s = .next (u.mboxReply i l 1 []) ∧ (u.lane l).gvcp = left ∧
      u.clk.enc = max s.clk.enc (g.sent + 40000000) ∧ OnlyParts [.clk, .lanes] s u)) ∧
  (∀ (l : Fin 16) (s : State), s.phase ≠ .off → s.intakeUp = true → (s.lane l).gvcp = [] → exec (.gvcpRetryTimeout l) s = .next s) ∧
  (∀ (l : Fin 16) (s : State), s.phase ≠ .off →
    (s.intakeUp = true → (s.lane l).control = true → ∃ t, exec (.cameraHeartbeat l) s = .next t ∧
      (t.lane l).hbTime = t.clk.enc ∧ (t.lane l).gvcp = (s.lane l).gvcp ++ [⟨.heartbeat, (s.lane l).nextReq, 1, t.clk.enc,
        gvcpWrite (s.lane l).nextReq 0x0938 (s.lane l).hbTimeout⟩] ∧ (t.lane l).txq.length = (s.lane l).txq.length + 1 ∧
      t.clk.enc = max s.clk.enc ((s.lane l).hbTime + 200000 * (s.lane l).hbTimeout / 3) ∧ OnlyParts [.clk, .lanes] s t) ∧
    (s.intakeUp = false ∨ (s.lane l).control = false → exec (.cameraHeartbeat l) s = .next s)) ∧
  (∀ (n : Fin 16) (v : BitVec 32) (s : State), s.phase ≠ .off →
    (v.getLsbD 0 = true → s.isOn (IN_STRCTL_BUSY n) = false → ∃ t, exec (.strctlSetup n v) s = .next t ∧ t.isOn (IN_STRCTL_BUSY n) = true ∧
      (t.lane n).gvcp = (s.lane n).gvcp ++ [⟨.setup 1 0, (s.lane n).nextReq, 1, s.clk.enc, gvcpWrite (s.lane n).nextReq 0x0A00 1⟩] ∧
      OnlyFields [IN_STRCTL_BUSY n] s t ∧ OnlyParts [.regs, .lanes] s t) ∧
    (v.getLsbD 0 = false ∨ s.isOn (IN_STRCTL_BUSY n) = true → exec (.strctlSetup n v) s = .next s)) ∧
  (∀ (n : Fin 16) (s : State), s.phase ≠ .off →
    let k := ((s.lane n).gvcp.findSome? isSetup).getD 1
    (s.phase = .cold 9 → s.isOn (IN_STRCTL_BUSY n) = true → ∃ u, exec (.cameraSetupGiveUp n) s = .next (u.raise 0x0201 n k) ∧
      u.isOn (IN_STRCTL_BUSY n) = false ∧ u.isOn (IN_STRCTL_SETUP_FAIL n) = true ∧ u.fld (IN_STRCTL_FAIL_STEP n) = k % 8 ∧
      (u.lane n).control = false ∧ (∀ g ∈ (u.lane n).gvcp, isSetup g = none) ∧ u.clk.enc = max s.clk.enc (s.start.tStep + 160000000) ∧
      OnlyFields [IN_STRCTL_BUSY n, IN_STRCTL_SETUP_FAIL n, IN_STRCTL_FAIL_STEP n] s u ∧ OnlyParts [.clk, .regs, .lanes] s u) ∧
    (s.phase ≠ .cold 9 ∨ s.isOn (IN_STRCTL_BUSY n) = false → exec (.cameraSetupGiveUp n) s = .next s))

/-- O37. The packet mailbox: in RUNNING the firmware takes the lowest filled request slot whose reply slot is free and clears its OWN, then sends its packet
to the camera, or answers with the status that says why it cannot; a released reply slot reads OWN = 0 and its bit of MBOX_READY is clear. -/
def Obligations.MailboxCarriesCommands : Prop :=
  (∀ (i : Nat) (s : State), s.phase = .running → s.mboxNext = some i →
    let lane := (s.peek (mboxReq i + 1)).toNat
    let len := s.peekLe (mboxReq i + 4) 2
    let status := if 16 ≤ lane ∨ s.portUp lane = false then 2 else if s.isOn (IN_STRCFG_EN lane) = false then 3
      else if len < 8 ∨ 992 < len then 4 else 0
    (status = 0 → ∃ t, exec .mailboxRequest s = .next t ∧
      t.peek (mboxReq i) = 0 ∧ (∀ x, x ≠ mboxReq i → t.peek x = s.peek x) ∧
      (t.lane lane).gvcp = (s.lane lane).gvcp ++ [⟨.mailbox i, (s.lane lane).nextReq, 1, s.clk.enc, s.peekN (mboxReq i + 32) len⟩] ∧
      OnlyFieldsAndEvents [] s t ∧ OnlyParts [.mem, .marks, .regs, .lanes] s t) ∧
    (status ≠ 0 → ∃ t, exec .mailboxRequest s = .next t ∧ t.peek (mboxReq i) = 0 ∧ t.peek (mboxRep i) = 1 ∧
      t.peek (mboxRep i + 1) = BitVec.ofNat 8 (lane % 16) ∧ t.peek (mboxRep i + 2) = BitVec.ofNat 8 status ∧ t.peekLe (mboxRep i + 4) 2 = 0 ∧
      bit (t.peek mboxReady).toNat i = true ∧
      (∀ x, x ≠ mboxReq i → x ≠ mboxReady → x < mboxRep i ∨ mboxRep i + 32 ≤ x → t.peek x = s.peek x) ∧
      OnlyFieldsAndEvents [] s t ∧ OnlyParts [.mem, .marks, .regs] s t)) ∧
  (∀ s : State, s.phase ≠ .running ∨ s.mboxNext = none → exec .mailboxRequest s = .next s) ∧
  (∀ (i : Fin 8) (s : State), s.phase ≠ .off → ∃ t, exec (.mailboxReplyRelease i) s = .next t ∧ t.peek (mboxRep i) = 0 ∧
    bit (t.peek mboxReady).toNat i = false ∧ (∀ x, x ≠ mboxRep i → x ≠ mboxReady → t.peek x = s.peek x) ∧ OnlyParts [.mem] s t)

/-- O38. Lines that do not come, and the enables of streams and views: LINE_TMO after its trigger the oldest expected line becomes missing, and in PTP mode
a silent stream's next line; a stream whose EN changes begins anew, but is not enabled without a width that its format packs or under the drove link; clearing
EN of a view drops its unreleased lines and truncates the OPEN parts that draw on it. -/
def Obligations.MissingLinesAndEnables : Prop :=
  (∀ (n : Fin 16) (s : State), s.phase ≠ .off →
    let v := s.fld (IN_STRCFG_VIEW n)
    let up := s.isOn (IN_STRCFG_EN n) && s.isOn (IN_VIEWCFG_EN v) && s.intakeUp
    let tmo := s.fld (IN_VIEWCFG_LINE_TMO v) * 1000
    (up = false → exec (.lineTimeout n) s = .next s) ∧
    (up = true → s.ptpView v = true → exec (.lineTimeout n) s = .next (s.ptpSilent n tmo).closeReady) ∧
    (up = true → s.ptpView v = false → (s.stream n).expect = [] → exec (.lineTimeout n) s = .next s) ∧
    (∀ x rest, up = true → s.ptpView v = false → (s.stream n).expect = x :: rest → ∃ u,
      exec (.lineTimeout n) s = .next (u.missLine n x.num (x.pos * 65536)).closeReady ∧
      (u.stream n).expect = rest.filter (fun e => decide (e.num ≠ x.num)) ∧ u.clk = (s.advanceDev (x.time + tmo)).clk ∧
      OnlyParts [.clk, .streams] s u)) ∧
  (∀ (n : Fin 16) (s : State), s.phase ≠ .off →
    let v := s.fld (IN_STRCFG_VIEW n)
    let w := s.fld (IN_STRGEOM_WIDTH n)
    let may := w ≠ 0 ∧ w % widthStep (s.fld (IN_STRCFG_PIXFMT n)) = 0 ∧ (n.val < 12 ∨ s.isOn LN_DRVCFG_EN = false)
    (∀ on, s.isOn (IN_STRCFG_EN n) = on → exec (.streamEnChange n on) s = .next s) ∧
    (s.isOn (IN_STRCFG_EN n) = false → ¬may → exec (.streamEnChange n true) s = .next s) ∧
    (s.isOn (IN_STRCFG_EN n) = false → may → ∃ t, exec (.streamEnChange n true) s = .next t ∧ t.isOn (IN_STRCFG_EN n) = true ∧
      t.stream n = (s.stream n).restart ∧ (t.stream n).blocks = [] ∧ (t.stream n).expect = [] ∧ (t.stream n).last = (s.stream n).last ∧
      OnlyFields [IN_STRCFG_EN n] s t ∧ OnlyParts [.regs, .streams] s t) ∧
    (s.isOn (IN_STRCFG_EN n) = true → ∃ u,
      exec (.streamEnChange n false) s = .next (State.releaseLines (s.view v).pendingLines.length u v).closeReady ∧
      u.isOn (IN_STRCFG_EN n) = false ∧ u.stream n = (s.stream n).restart ∧
      OnlyFields [IN_STRCFG_EN n] s u ∧ OnlyParts [.regs, .streams] s u)) ∧
  (∀ (v : Fin 16) (s : State), s.phase ≠ .off →
    (∀ on, s.isOn (IN_VIEWCFG_EN v) = on → exec (.viewEnChange v on) s = .next s) ∧
    (s.isOn (IN_VIEWCFG_EN v) = false → ∃ t, exec (.viewEnChange v true) s = .next t ∧
      t.isOn (IN_VIEWCFG_EN v) = true ∧ (t.view v).pendingLines = [] ∧
      (∀ n ∈ s.viewStreams v, (t.stream n).expect = [] ∧ (t.stream n).blocks = []) ∧
      OnlyFields [IN_VIEWCFG_EN v] s t ∧ OnlyParts [.regs, .streams, .px] s t) ∧
    (s.isOn (IN_VIEWCFG_EN v) = true → ∃ u, exec (.viewEnChange v false) s = .next (u.slotsInUse.foldl (fun w i =>
        if (w.slot i).st = .opened ∧ ((w.raceViews (w.slot i).race).any fun p => decide (w.rview (w.slot i).race p = v.val)) then w.spoil i .truncated
        else w) u) ∧
      u.isOn (IN_VIEWCFG_EN v) = false ∧ (u.view v).pendingLines = [] ∧ (∀ n ∈ s.viewStreams v, (u.stream n).expect = []) ∧
      OnlyFields [IN_VIEWCFG_EN v] s u ∧ OnlyParts [.regs, .streams, .px] s u))

/-! ## Time, launches and the drove link -/

/-- O39. In SLAVE role the clock follows the best master: an Announce gives it one, or a better one, or its successor after three silent intervals; a valid
Sync moves FREE and HOLDOVER to ACQUIRE, and a two-step Sync waits for its Follow_Up; an offset up to 1 ms is corrected through TM_RATE, which stays within
200,000 ppb (its value is open, log entry 3), a greater one in ACQUIRE by a step of PTP_OFS; sixteen offsets below 1 µs lock the clock; Delay_Resp gives the
mean path delay; three silent intervals lead to HOLDOVER. A message that is not the clock's own does nothing. -/
def Obligations.PtpSlaveFollowsItsMaster : Prop :=
  (∀ (l : Fin 16) (dom : BitVec 8) (udp : Bool) (m : PtpMaster) (s : State), s.phase ≠ .off → s.slaveTakes l dom.toNat udp = true →
    (s.ptp.best = none → s.ptp.early ≠ some m.src → ∃ t, exec (.ptpAnnounce l dom udp m) s = .next t ∧ t.ptp.best = some m ∧
      t.ptp.lastAnn = s.clk.dev ∧ OnlyParts [.ptp] s t) ∧
    (s.ptp.best = none → s.ptp.early = some m.src → ∃ t, exec (.ptpAnnounce l dom udp m) s = .next t ∧ t.ptp.best = some m ∧
      t.ptpState = (if s.ptpState = 0 ∨ s.ptpState = 4 then 2 else s.ptpState) ∧ OnlyFields [TM_STAT_STATE] s t ∧ OnlyParts [.ptp, .regs] s t) ∧
    (∀ b, s.ptp.best = some b → b.src = m.src ∨ m.better b = true ∨ s.ptp.lastAnn + 3 * s.annNs ≤ s.clk.dev → ∃ t,
      exec (.ptpAnnounce l dom udp m) s = .next t ∧ t.ptp.best = some m ∧ t.ptp.lastAnn = s.clk.dev ∧ OnlyParts (.ptp :: eventParts) s t) ∧
    (∀ b, s.ptp.best = some b → b.src ≠ m.src → m.better b = false → s.clk.dev < s.ptp.lastAnn + 3 * s.annNs →
      exec (.ptpAnnounce l dom udp m) s = .next s)) ∧
  (∀ (l : Fin 16) (dom : BitVec 8) (udp : Bool) (src : BitVec 64) (seq : BitVec 16) (stamp : BitVec 32) (two : Bool) (t1 : Nat) (corr : Int)
    (m : PtpMaster) (s : State), s.phase ≠ .off → s.slaveTakes l dom.toNat udp = false →
    exec (.ptpAnnounce l dom udp m) s = .next s ∧ exec (.ptpSync l dom udp src seq stamp two t1 corr) s = .next s ∧
    exec (.ptpFollowUp l dom udp src seq t1 corr) s = .next s ∧ exec (.ptpDelayResp l dom udp src seq t1 corr) s = .next s) ∧
  (∀ (l : Fin 16) (dom : BitVec 8) (udp : Bool) (src : BitVec 64) (seq : BitVec 16) (stamp : BitVec 32) (two : Bool) (t1 : Nat) (corr : Int)
    (s : State), s.phase ≠ .off → s.slaveTakes l dom.toNat udp = true →
    let c := Instr.ptpSync l dom udp src seq stamp
    (s.extendStamp stamp.toNat = none → exec (c two t1 corr) s = .next s) ∧
    (∀ rx, s.extendStamp stamp.toNat = some rx → s.ptp.best = none →
      exec (c two t1 corr) s = .next { s with ptp := { s.ptp with early := some src.toNat } }) ∧
    (∀ (rx : Nat) (m : PtpMaster), s.extendStamp stamp.toNat = some rx → s.ptp.best = some m → m.src ≠ src.toNat →
      exec (c two t1 corr) s = .next s) ∧
    (∀ (rx : Nat) (m : PtpMaster), s.extendStamp stamp.toNat = some rx → s.ptp.best = some m → m.src = src.toNat →
      let off := sx 64 (toU 64 ((rx : Int) + (s.fld TM_PTPOFS_PTP_OFS : Int) - (t1 + corr) - s.ptp.delay))
      let st := if s.ptpState = 0 ∨ s.ptpState = 4 then 2 else s.ptpState
      let good := if off.natAbs < 1000 then min 16 (s.ptp.good + 1) else 0
      (∃ t, exec (c true t1 corr) s = .next t ∧ t.ptp.pend = some (seq.toNat, rx, corr) ∧
        t.ptp.lastSync = s.clk.dev ∧ t.ptpState = st ∧ OnlyFields [TM_STAT_STATE] s t ∧ OnlyParts [.ptp, .regs] s t) ∧
      (s.ptpState ≠ 1 → s.ptpState ≤ 4 → off.natAbs ≤ 1000000 → ∃ t, exec (c false t1 corr) s = .next t ∧
        t.sfld TM_OFFSET_OFFSET = off ∧ -200000 ≤ t.sfld TM_RATE_RATE ∧ t.sfld TM_RATE_RATE ≤ 200000 ∧
        t.fld TM_PTPOFS_PTP_OFS = s.fld TM_PTPOFS_PTP_OFS ∧ t.ptp.sync = some (t1 + corr, rx) ∧ t.ptp.good = good ∧
        t.ptpState = (if st = 2 ∧ good = 16 then 3 else st) ∧
        OnlyFieldsAndEvents [TM_STAT_STATE, TM_OFFSET_OFFSET, TM_RATE_RATE] s t ∧ OnlyParts ([.ptp, .free] ++ eventParts) s t) ∧
      (s.ptpState ≠ 1 → s.ptpState ≠ 3 → s.ptpState ≤ 4 → 1000000 < off.natAbs → ∃ t, exec (c false t1 corr) s = .next t ∧
        t.fld TM_PTPOFS_PTP_OFS = toU 64 ((s.fld TM_PTPOFS_PTP_OFS : Int) - off) ∧ t.isOn TM_STAT_STEP_SEEN = true ∧ t.ptp.good = 0 ∧
        t.ptpHold = s.clk.dev + 100000000 ∧ t.ptpState = 2 ∧
        OnlyFieldsAndEvents [TM_STAT_STATE, TM_STAT_STEP_SEEN, TM_OFFSET_OFFSET, TM_PTPOFS_PTP_OFS] s t ∧
        OnlyParts ([.ptp, .ptpHold] ++ eventParts) s t))) ∧
  (∀ (l : Fin 16) (dom : BitVec 8) (udp : Bool) (src : BitVec 64) (seq : BitVec 16) (t1 : Nat) (corr c : Int) (q rx : Nat) (m : PtpMaster) (s : State),
    s.phase ≠ .off → s.slaveTakes l dom.toNat udp = true → s.ptp.best = some m → s.ptp.pend = some (q, rx, c) →
    (m.src = src.toNat → q = seq.toNat → ∃ t,
      exec (.ptpFollowUp l dom udp src seq t1 corr) s = .next t ∧ t.ptp.pend = none ∧ t.ptp.sync = some (t1 + corr + c, rx) ∧
      t.sfld TM_OFFSET_OFFSET = clampI (-2147483648) 2147483647
        (sx 64 (toU 64 ((rx : Int) + (s.fld TM_PTPOFS_PTP_OFS : Int) - (t1 + corr + c) - s.ptp.delay))) ∧
      OnlyParts ([.ptp, .ptpHold, .free] ++ eventParts) s t) ∧
    (m.src ≠ src.toNat ∨ q ≠ seq.toNat → exec (.ptpFollowUp l dom udp src seq t1 corr) s = .next s)) ∧
  (∀ (l : Fin 16) (dom : BitVec 8) (udp : Bool) (src : BitVec 64) (seq : BitVec 16) (t4 : Nat) (corr t1 : Int) (t2 t3 q : Nat) (m : PtpMaster)
    (s : State), s.phase ≠ .off → s.slaveTakes l dom.toNat udp = true → s.ptp.best = some m → s.ptp.req = some (q, t3) → s.ptp.sync = some (t1, t2) →
    let o : Int := s.fld TM_PTPOFS_PTP_OFS
    (m.src = src.toNat → q = seq.toNat → ∃ t, exec (.ptpDelayResp l dom udp src seq t4 corr) s = .next t ∧
      t.ptp.delay = (sx 64 (toU 64 ((t2 : Int) + o - t1)) + sx 64 (toU 64 ((t4 : Int) - corr - t3 - o))) / 2 ∧ t.ptp.req = none ∧
      OnlyParts [.ptp] s t) ∧
    (m.src ≠ src.toNat ∨ q ≠ seq.toNat → exec (.ptpDelayResp l dom udp src seq t4 corr) s = .next s)) ∧
  (∀ s : State, s.phase ≠ .off →
    (s.ptpSlave = true → s.firmwareUp = true → s.ptp.best ≠ none → ∃ t, exec .ptpDelayReqSend s = .next t ∧
      t.ptp.delaySeq = (s.ptp.delaySeq + 1) % 65536 ∧ t.ptp.req = none ∧ (t.lane (s.fld TM_CFG_SLV_PORT)).txq =
        (s.lane (s.fld TM_CFG_SLV_PORT)).txq ++ [.ptp 1 ((s.ptp.delaySeq + 1) % 65536) s.ptpUdp 0 []] ∧
      OnlyParts [.lanes, .ptp] s t) ∧
    (s.ptpSlave = false ∨ s.firmwareUp = false ∨ s.ptp.best = none → exec .ptpDelayReqSend s = .next s) ∧
    (s.ptpSlave = true → s.firmwareUp = true → s.ptpState = 2 ∨ s.ptpState = 3 → ∃ u,
      exec .ptpTimeout s = .next (u.raise 0x0402 s.offsetWord) ∧ u.ptpState = 4 ∧ u.ptp.good = 0 ∧
      u.fld TM_STAT_HOLDOVER_CNT = (s.fld TM_STAT_HOLDOVER_CNT + 1) % 65536 ∧
      u.clk = (s.advanceDev (min (s.ptp.lastSync + 3 * s.syncNs) (s.ptp.lastAnn + 3 * s.annNs))).clk ∧
      OnlyFields [TM_STAT_STATE, TM_STAT_HOLDOVER_CNT] s u ∧ OnlyParts [.clk, .regs, .ptp] s u) ∧
    (s.ptpSlave = false ∨ s.firmwareUp = false ∨ (s.ptpState ≠ 2 ∧ s.ptpState ≠ 3) → exec .ptpTimeout s = .next s))

/-- O40. In MASTER role Sync and Announce are composed for every enabled port once their interval has passed, and a Delay_Req is answered with its receive
stamp; outside that role, and while the firmware is held, none of them is sent. A write of TM_PTPOFS in MASTER role is a step, reported, and in SLAVE role is
ignored. -/
def Obligations.PtpMasterSendsAndSteps : Prop :=
  (∀ s : State, s.phase ≠ .off → s.ptpMaster = true → s.inWarm = false → s.firmwareUp = true →
    (∃ t, exec .ptpSyncSend s = .next t ∧ t.ptp.syncSeq = (s.ptp.syncSeq + 1) % 65536 ∧ t.ptp.sentSync = t.clk.dev ∧
      t.clk = (s.advanceDev (s.ptp.sentSync + s.syncNs)).clk ∧
      (∀ l ∈ s.ptpLanes, (t.lane l).txq = (s.lane l).txq ++ [.ptp 0 s.ptp.syncSeq s.ptpUdp 0 []]) ∧ OnlyParts [.clk, .lanes, .ptp] s t) ∧
    (∃ t, exec .ptpAnnounceSend s = .next t ∧ t.ptp.annSeq = (s.ptp.annSeq + 1) % 65536 ∧ t.ptp.sentAnn = t.clk.dev ∧
      t.clk = (s.advanceDev (s.ptp.sentAnn + s.annNs)).clk ∧
      (∀ l ∈ s.ptpLanes, (t.lane l).txq = (s.lane l).txq ++ [.ptp 11 s.ptp.annSeq s.ptpUdp 0 [248, 0xA0]]) ∧ OnlyParts [.clk, .lanes, .ptp] s t)) ∧
  (∀ s : State, s.phase ≠ .off → s.ptpMaster = false ∨ s.inWarm = true ∨ s.firmwareUp = false →
    exec .ptpSyncSend s = .next s ∧ exec .ptpAnnounceSend s = .next s) ∧
  (∀ (l : Fin 16) (dom : BitVec 8) (udp : Bool) (src : BitVec 64) (seq : BitVec 16) (stamp : BitVec 32) (s : State), s.phase ≠ .off →
    (∀ rx, s.masterTakes l dom.toNat udp = true → s.extendStamp stamp.toNat = some rx → ∃ t, exec (.ptpDelayReq l dom udp src seq stamp) s = .next t ∧
      (t.lane l).txq = (s.lane l).txq ++
        [.ptp 9 seq.toNat s.ptpUdp ((rx + s.fld TM_PTPOFS_PTP_OFS) % 18446744073709551616) (beBytes 10 src.toNat)] ∧ OnlyParts [.lanes] s t) ∧
    (s.masterTakes l dom.toNat udp = false ∨ s.extendStamp stamp.toNat = none → exec (.ptpDelayReq l dom udp src seq stamp) s = .next s)) ∧
  (∀ (v : BitVec 64) (s : State), s.phase ≠ .off →
    (s.isOn TM_CFG_ROLE = true → exec (.ptpOfsWrite v) s = .next s) ∧
    (s.isOn TM_CFG_ROLE = false → ∃ u, exec (.ptpOfsWrite v) s = .next (u.raise 0x0403 s.offsetWord) ∧ u.fld TM_PTPOFS_PTP_OFS = v.toNat ∧
      u.isOn TM_STAT_STEP_SEEN = true ∧ u.ptpHold = s.clk.dev + 100000000 ∧ OnlyFields [TM_PTPOFS_PTP_OFS, TM_STAT_STEP_SEEN] s u ∧
      OnlyParts [.regs, .ptpHold] s u))

/-- O41. Launches: ARM is taken where L lies at least 1 ms ahead, otherwise the launch is missed; in BARRIER role it is taken and READY sent; a paired module
sends LAUNCH. At L − 100,000 a paired module checks for a matching LAUNCH; at L, or 64 ticks after GO, the launch actions follow: the trigger outputs and races
of the masks are enabled, the positions latched, ARM cleared and LAUNCHED set, unless the check failed. A follower sends ALIGN_REQ at each interval. -/
def Obligations.LaunchesHappenAtTheirCount : Prop :=
  let launched (s u : State) : Prop := u.isOn TM_LAUNCHCFG_ARM = false ∧ u.isOn TM_BWSTAT_LAUNCHED = true ∧
    (∀ k : Fin 8, (s.fld TM_LAUNCHCFG_TRG_MASK).testBit k = true → u.isOn (PS_TRGCFG_EN k) = true) ∧
    (∀ r : Fin 16, (s.fld TM_LAUNCHCFG_RACE_MASK).testBit r = true → u.raceOn r = true) ∧
    (∀ e : Fin 4, s.encFitted e = true → s.isOn (PS_ENCCFG_EN e) = true → u.sfld (TM_LPOS_POS e) = s.posOf e ∧
      u.isOn (TM_LPOS_VALID e) = !s.isOn (PS_ENCSTAT_FAILED e))
  (∀ (v : BitVec 32) (s : State), s.phase ≠ .off →
    let was := s.isOn TM_LAUNCHCFG_ARM
    let role := s.fld TM_BWCFG_BW_ROLE
    let arms := was = false ∧ v.getLsbD 31 = true ∧ (role = 3 ∨ s.clk.bw + 100000 ≤ s.fld TM_LAUNCH_L)
    ∃ t, exec (.launchArm v) s = .next t ∧
    (t.isOn TM_LAUNCHCFG_ARM = true ↔ (was = true ∧ v.getLsbD 31 = true) ∨ arms) ∧
    (t.isOn TM_BWSTAT_MISSED = true ↔ s.isOn TM_BWSTAT_MISSED = true ∨ (was = false ∧ v.getLsbD 31 = true ∧ ¬arms)) ∧
    t.fld TM_LAUNCHCFG_TRG_MASK = bits v.toNat 16 8 ∧ t.fld TM_LAUNCHCFG_RACE_MASK = bits v.toNat 0 16 ∧
    (¬arms → t.drove = s.drove ∧ t.bell = s.bell) ∧
    (arms → role = 3 → Tab.get [] t.drove.queue 1 =
      Tab.get [] s.drove.queue 1 ++ [leBytes 1 1 ++ leBytes 1 (s.fld TM_BWCFG_BAR_ID) ++ leBytes 30 0]) ∧
    (arms → role ≠ 3 → s.isOn TM_BWCFG_PAIRED = true → ¬(role = 2 ∧ s.fld TM_BWSTAT_TRACK = 0) →
      Tab.get [] t.drove.queue 0 = Tab.get [] s.drove.queue 0 ++ [bellMsg 3 [s.fld TM_LAUNCH_L, 0, 0]]) ∧
    (arms → role = 2 → s.fld TM_BWSTAT_TRACK = 0 → t.fld TM_BWSTAT_TRACK = 1 ∧ t.bell.sendAfter = s.isOn TM_BWCFG_PAIRED) ∧
    OnlyFieldsAndEvents [TM_LAUNCHCFG_ARM, TM_LAUNCHCFG_TRG_MASK, TM_LAUNCHCFG_RACE_MASK, TM_BWSTAT_MISSED, TM_BWSTAT_TRACK, MG_HOLD_ENC] s t ∧
    OnlyParts ([.drove, .bell, .pins] ++ eventParts) s t) ∧
  (∀ s : State, s.phase ≠ .off →
    let ready := s.isOn TM_LAUNCHCFG_ARM = true ∧ s.fld TM_BWCFG_BW_ROLE ≠ 3
    (ready → s.isOn TM_BWCFG_PAIRED = true → ∃ t,
      exec .launchCheck s = .next t ∧ t.bell = { s.bell with check := some (decide (s.bell.partnerL = some (s.fld TM_LAUNCH_L))) } ∧
      t.clk = (s.advanceBw (s.fld TM_LAUNCH_L - 100000)).clk ∧ OnlyParts [.clk, .bell] s t) ∧
    (¬ready ∨ s.isOn TM_BWCFG_PAIRED = false → exec .launchCheck s = .next s) ∧
    (ready → s.isOn TM_BWCFG_PAIRED = false → ∃ u, exec .launch s = .next u.settleWaiting ∧ launched s u ∧
      u.clk = (s.advanceBw (s.fld TM_LAUNCH_L)).clk) ∧
    (ready → s.isOn TM_BWCFG_PAIRED = true → s.bell.check = some true → ∃ u t, exec .launch s = .next t ∧ launched s u ∧
      u.clk = (s.advanceBw (s.fld TM_LAUNCH_L)).clk ∧ OnlyParts [.regs, .drove, .bell] u.settleWaiting t) ∧
    (ready → s.isOn TM_BWCFG_PAIRED = true → s.bell.check = some false → ∃ t, exec .launch s = .next t ∧
      t.isOn TM_LAUNCHCFG_ARM = false ∧ t.isOn TM_BWSTAT_MISSED = true ∧ t.clk = (s.advanceBw (s.fld TM_LAUNCH_L)).clk ∧
      OnlyFieldsAndEvents [TM_LAUNCHCFG_ARM, TM_BWSTAT_MISSED, MG_HOLD_ENC] s t) ∧
    (¬ready → exec .launch s = .next s)) ∧
  (∀ s : State, s.phase ≠ .off →
    (∀ l, s.bell.posDue = some l → ∃ u, exec .launchPosTimeout s = .next u.settleWaiting ∧
      u.bell = { s.bell with posDue := none } ∧ u.clk = (s.advanceBw (l + 1000000)).clk ∧ OnlyParts [.clk, .bell] s u) ∧
    (s.bell.posDue = none → exec .launchPosTimeout s = .next s)) ∧
  (∀ s : State, s.phase ≠ .off →
    (∀ g, s.bell.go = some g → s.isOn TM_LAUNCHCFG_ARM = true → ∃ u, exec .barrierLaunch s = .next u.settleWaiting ∧ launched s u ∧
      u.clk = (s.advanceBw g).clk ∧ u.bell.go = none) ∧
    (∀ g, s.bell.go = some g → s.isOn TM_LAUNCHCFG_ARM = false →
      exec .barrierLaunch s = .next { s with bell := { s.bell with go := none } }) ∧
    (s.bell.go = none → exec .barrierLaunch s = .next s)) ∧
  (∀ s : State, s.phase ≠ .off →
    let due := s.fld TM_BWCFG_BW_ROLE = 2 ∧ s.linkUp = true ∧ s.fld TM_BWSTAT_TRACK ≠ 0
    (due → ∃ t, exec .alignExchangeTimer s = .next t ∧ t.bell = { s.bell with lastReq := t.clk.dev } ∧
      Tab.get [] t.drove.queue 0 = Tab.get [] s.drove.queue 0 ++ [bellMsg 1 [0, 0, 0]] ∧
      t.clk = (s.advanceDev (s.bell.lastReq + (if s.fld TM_BWSTAT_TRACK = 1 then 10000 else 1000000))).clk ∧
      OnlyParts [.clk, .drove, .bell] s t) ∧
    (¬due → exec .alignExchangeTimer s = .next s))

/-- O42. The drove link comes up through INIT: enabling it begins ALIGN unless a stream of its lanes is enabled, and disabling it takes it DOWN; in INIT it
sends its initial credits every microsecond and takes those of its partner, a NOP then brings it UP, and after 10 ms it returns to ALIGN; in UP a NOP carries
ACK and credits, and an INIT takes it DOWN. -/
def Obligations.DroveLinkComesUp : Prop :=
  (∀ (v : BitVec 32) (s : State), s.phase ≠ .off →
    let busy := [12, 13, 14, 15].any fun n => s.isOn (IN_STRCFG_EN n)
    let lim (t : State) : Prop :=
      t.fld LN_DRVCFG_RETRY_LIMIT = (if bits v.toNat 16 8 = 0 then s.fld LN_DRVCFG_RETRY_LIMIT else bits v.toNat 16 8) ∧
      t.fld LN_DRVCFG_ACK_TIMEOUT = (if bits v.toNat 0 16 < 100 then s.fld LN_DRVCFG_ACK_TIMEOUT else bits v.toNat 0 16)
    (s.isOn LN_DRVCFG_EN = false → v.getLsbD 31 = true → busy = true → exec (.drvCfgWrite v) s = .next s) ∧
    (s.isOn LN_DRVCFG_EN = false → v.getLsbD 31 = true → busy = false → ∃ t, exec (.drvCfgWrite v) s = .next t ∧ t.isOn LN_DRVCFG_EN = true ∧
      t.fld LN_DRVSTAT_STATE = 1 ∧ (∀ l ∈ [12, 13, 14, 15], t.laneState l = (if s.laneState l = 4 then 3 else s.laneState l) ∧ (t.lane l).txq = []) ∧
      lim t ∧ OnlyParts [.drove, .lanes, .regs] s t) ∧
    (s.isOn LN_DRVCFG_EN = false → v.getLsbD 31 = false → ∃ t, exec (.drvCfgWrite v) s = .next t ∧ lim t ∧
      OnlyFields [LN_DRVCFG_RETRY_LIMIT, LN_DRVCFG_ACK_TIMEOUT] s t ∧ OnlyParts [.regs] s t) ∧
    (s.isOn LN_DRVCFG_EN = true → v.getLsbD 31 = true → exec (.drvCfgWrite v) s = .next s) ∧
    (s.isOn LN_DRVCFG_EN = true → v.getLsbD 31 = false → exec (.drvCfgWrite v) s = .next
      ([12, 13, 14, 15].foldl (fun w l => if 2 ≤ w.laneState l then w.laneEnter l 2 else w) ((s.setFld LN_DRVCFG_EN 0).linkDown 1)))) ∧
  (∀ s : State, s.phase ≠ .off →
    (s.fld LN_DRVSTAT_STATE ≠ 2 → exec .droveInitSend s = .next s ∧ exec .droveInitTimeout s = .next s) ∧
    (s.fld LN_DRVSTAT_STATE = 2 → (∃ t f, exec .droveInitSend s = .next t ∧ t.drove.lastFlit = Flit.bytes f ∧
        f.kind = 3 ∧ f.data = (List.range 18).flatMap (fun c => leBytes 1 (Tab.get 0 s.drove.initial c)) ∧
        t.clk = (s.advanceDev (s.drove.initTime + ((s.clk.dev - s.drove.initTime) / 1000 + 1) * 1000)).clk ∧
        OnlyParts [.clk, .drove, .lanes] s t) ∧
      (∃ t, exec .droveInitTimeout s = .next t ∧ t.fld LN_DRVSTAT_STATE = (if s.isOn LN_DRVCFG_EN then 1 else 0) ∧
        t.clk = (s.advanceDev (s.drove.initTime + 10000001)).clk ∧ OnlyFields [LN_DRVSTAT_STATE] s t ∧ OnlyParts [.clk, .drove, .regs] s t))) ∧
  (∀ (b : List Byte) (s : State), s.phase ≠ .off → flitCrcOk b = true → (readFlit b).legal = true →
    let f := readFlit b
    (s.fld LN_DRVSTAT_STATE = 2 → f.kind = 3 → ∃ t, exec (.droveInitFlit b) s = .next t ∧ t.drove.partnerInit = true ∧
      (∀ c < 18, Tab.get 0 t.drove.credits c = dByte f.data c) ∧ OnlyParts [.drove] s t) ∧
    (s.fld LN_DRVSTAT_STATE = 3 → f.kind = 3 → exec (.droveInitFlit b) s = .next (s.linkDown 5)) ∧
    (s.fld LN_DRVSTAT_STATE = 2 → f.kind = 0 → s.drove.partnerInit = false → exec (.droveNopFlit b) s = .next s) ∧
    (s.fld LN_DRVSTAT_STATE = 2 → f.kind = 0 → s.drove.partnerInit = true → ∃ u t, exec (.droveNopFlit b) s = .next t ∧
      u.fld LN_DRVSTAT_STATE = 3 ∧ OnlyFields [LN_DRVSTAT_STATE] s u ∧ OnlyParts [.regs] s u ∧
      OnlyParts [.drove] (u.raise 0x0102 (s.fld LN_DRVSTAT_SKEW)) t) ∧
    (s.fld LN_DRVSTAT_STATE = 3 → f.kind = 0 → ∃ t, exec (.droveNopFlit b) s = .next t ∧
      Tab.get 0 t.drove.credits f.crdClass = Tab.get 0 s.drove.credits f.crdClass + (f.crdCnt + 64 - Tab.get 0 s.drove.seen f.crdClass % 64) % 64 ∧
      ((∃ x ∈ s.drove.window, x.seq = f.ack) →
        t.drove.window = (s.drove.window.dropWhile fun x => decide (x.seq ≠ f.ack)).drop 1 ∧ t.drove.retries = 0) ∧
      ((∀ x ∈ s.drove.window, x.seq ≠ f.ack) → t.drove.window = s.drove.window) ∧ OnlyParts [.drove] s t))

/-- O43. Flits are accepted in sequence and repeated where they are lost: the expected DATA flit reaches its sink, any other owes one NAK; a bad CRC is counted
and owes one as well; an illegal flit takes the link DOWN; a NAK or a lasting silence starts a replay from the flit it names or from the oldest, and the replay
that reaches RETRY_LIMIT takes the link DOWN. The transmitter sends a NAK that is due first, then what is being replayed, a new flit where class and credits
allow, otherwise a NOP. A half-verdict is queued when a credit is free, and dropped and counted while the link is not UP. -/
def Obligations.FlitsAreAcceptedInSequence : Prop :=
  (∀ (b : List Byte) (s : State), s.phase ≠ .off → ∀ c ∈ [(Instr.droveNopFlit b, 0), (.droveDataFlit b, 1), (.droveNakFlit b, 2), (.droveInitFlit b, 3)],
    (s.fld LN_DRVSTAT_STATE < 2 → exec c.1 s = .next s) ∧
    (2 ≤ s.fld LN_DRVSTAT_STATE → flitCrcOk b = false → exec c.1 s = exec .droveFlitBadCrc s) ∧
    (2 ≤ s.fld LN_DRVSTAT_STATE → flitCrcOk b = true → (readFlit b).legal = false → exec c.1 s = .next (s.linkDown 5)) ∧
    (flitCrcOk b = true → (readFlit b).legal = true → (readFlit b).kind ≠ c.2 → exec c.1 s = .next s)) ∧
  (∀ (b : List Byte) (s : State), s.phase ≠ .off → flitCrcOk b = true → (readFlit b).legal = true → s.fld LN_DRVSTAT_STATE = 3 →
    let f := readFlit b
    let u := (s.flitAck f.ack).flitCredits f.crdClass f.crdCnt
    OnlyParts [.drove] s u ∧ u.drove.expSeq = s.drove.expSeq ∧ u.drove.nakSent = s.drove.nakSent ∧
    (f.kind = 1 → f.seq = s.drove.expSeq → exec (.droveDataFlit b) s = .next (State.deliverFlit
      { u with drove := { u.drove with expSeq := (f.seq + 1) % 4096, nakSent := false, nakDue := false } } f)) ∧
    (f.kind = 1 → f.seq ≠ s.drove.expSeq → s.drove.nakSent = false → exec (.droveDataFlit b) s = .next
      { u with drove := { u.drove with nakSent := true, nakDue := true } }) ∧
    (f.kind = 1 → f.seq ≠ s.drove.expSeq → s.drove.nakSent = true → exec (.droveDataFlit b) s = .next u) ∧
    (∀ x, f.kind = 2 → s.drove.window = [x] → x.seq = f.seq → f.ack ≠ f.seq → s.drove.retries + 1 < s.fld LN_DRVCFG_RETRY_LIMIT → ∃ t,
      exec (.droveNakFlit b) s = .next t ∧ t.drove.replay = some f.seq ∧ t.drove.retries = s.drove.retries + 1 ∧ t.drove.window = [x] ∧
      OnlyFields [LN_DRVCNT_RETRY_CNT] s t ∧ OnlyParts [.drove, .regs] s t)) ∧
  (∀ s : State, s.phase ≠ .off →
    (s.fld LN_DRVSTAT_STATE < 2 → exec .droveFlitBadCrc s = .next s) ∧
    (2 ≤ s.fld LN_DRVSTAT_STATE → ∃ t, exec .droveFlitBadCrc s = .next t ∧
      t.fld LN_DRVCNT_CRC_ERR = (s.fld LN_DRVCNT_CRC_ERR + 1) % 4294967296 ∧ (s.linkUp = true → t.drove.nakSent = true) ∧
      OnlyFields [LN_DRVCNT_CRC_ERR] s t ∧ OnlyParts [.drove, .regs] s t) ∧
    (s.linkUp = false ∨ s.drove.window = [] → exec .droveAckTimeout s = .next s) ∧
    (∀ x rest, s.linkUp = true → s.drove.window = x :: rest → ∃ u,
      exec .droveAckTimeout s = .next (if s.drove.retries + 1 < s.fld LN_DRVCFG_RETRY_LIMIT then u else u.linkDown 4) ∧
      u.drove.replay = some x.seq ∧ u.drove.retries = s.drove.retries + 1 ∧
      u.clk = (s.advanceDev (s.drove.ackTime + s.fld LN_DRVCFG_ACK_TIMEOUT)).clk ∧ OnlyFields [LN_DRVCNT_RETRY_CNT] s u ∧
      OnlyParts [.clk, .drove, .regs] s u)) ∧
  (∀ s : State, s.phase ≠ .off →
    let again := s.drove.replay.bind fun q => s.drove.window.find? fun x => decide (x.seq = q)
    let nop := ∃ t f, exec .droveFlitTransmit s = .next t ∧ t.drove.lastFlit = Flit.bytes f ∧ f.kind = 0 ∧ t.drove.window = s.drove.window ∧
      OnlyParts [.drove, .lanes] s t
    (s.fld LN_DRVSTAT_STATE ≠ 3 → s.fld LN_DRVSTAT_STATE ≠ 2 ∨ s.drove.partnerInit = false → exec .droveFlitTransmit s = .next s) ∧
    (s.fld LN_DRVSTAT_STATE = 2 → s.drove.partnerInit = true → nop) ∧
    (s.fld LN_DRVSTAT_STATE = 3 →
      (s.drove.nakDue = true → ∃ t f, exec .droveFlitTransmit s = .next t ∧ t.drove.lastFlit = Flit.bytes f ∧ f.kind = 2 ∧ f.seq = s.drove.expSeq ∧
        t.drove.nakDue = false ∧ OnlyParts [.drove, .lanes] s t) ∧
      (∀ x, s.drove.nakDue = false → again = some x → ∃ t f, exec .droveFlitTransmit s = .next t ∧ t.drove.lastFlit = Flit.bytes f ∧ f.kind = 1 ∧
        f.seq = x.seq ∧ f.cls = x.cls ∧ f.data = x.data ∧ t.drove.window = s.drove.window ∧ OnlyParts [.drove, .lanes] s t) ∧
      (∀ c p rest, s.drove.nakDue = false → again = none → s.drove.window.length < 128 → s.nextClass = some c →
        Tab.get [] s.drove.queue c = p :: rest → ∃ t f, exec .droveFlitTransmit s = .next t ∧ t.drove.lastFlit = Flit.bytes f ∧ f.kind = 1 ∧
        f.cls = c ∧ f.seq = s.drove.nextSeq ∧ f.data = s.stampBell c p ∧
        t.drove.window = s.drove.window ++ [⟨s.drove.nextSeq, c, s.stampBell c p⟩] ∧ t.drove.nextSeq = (s.drove.nextSeq + 1) % 4096 ∧
        Tab.get [] t.drove.queue c = rest ∧ Tab.get 0 t.drove.credits c = Tab.get 0 s.drove.credits c - 1 ∧ OnlyParts [.drove, .lanes] s t) ∧
      (s.drove.nakDue = false → again = none → 128 ≤ s.drove.window.length ∨ s.nextClass = none → nop))) ∧
  (∀ s : State, s.phase ≠ .off →
    (s.pair.toSend = [] → exec .halfVerdictSend s = .next s) ∧
    (∀ h rest, s.pair.toSend = h :: rest →
      (s.linkUp = true → s.boundCredits (2 + h.race) < Tab.get 0 s.drove.credits (2 + h.race) → ∃ t, exec .halfVerdictSend s = .next t ∧
        t.pair = { s.pair with toSend := rest } ∧
        Tab.get [] t.drove.queue (2 + h.race) = Tab.get [] s.drove.queue (2 + h.race) ++ [h.bytes] ∧ OnlyParts [.drove, .pair] s t) ∧
      (s.linkUp = true → Tab.get 0 s.drove.credits (2 + h.race) ≤ s.boundCredits (2 + h.race) → exec .halfVerdictSend s = .next s) ∧
      (s.linkUp = false → ∃ t, exec .halfVerdictSend s = .next t ∧ t.pair = { s.pair with toSend := rest } ∧
        t.fld (TM_RPSTAT_HALF_DROP h.race) = (s.fld (TM_RPSTAT_HALF_DROP h.race) + 1) % 65536 ∧
        OnlyFields [TM_RPSTAT_HALF_DROP h.race] s t ∧ OnlyParts [.regs, .pair] s t)))

/-! ## Replay, pixels and the Gate -/

/-- O44. A replay pass: EN starts it with the ring named while EN was 0 and clearing EN abandons the lanes; an entry that passes its checks starts on the next
free lane, decoding or from the cache, and one that fails them ends NOT_DECODED; an entry whose cache slot another lane holds waits; a decoded sample leaves
its lane for a tile slot, stored in the cache where STORE is set, or waits for one; a malformed one ends NOT_DECODED, and the end of the budget ends a decode;
CLR_STAT clears the counters. -/
def Obligations.ReplayPassesRun : Prop :=
  (∀ (v : BitVec 64) (s : State), s.phase ≠ .off →
    let was := s.isOn IN_RPLCFG_EN
    ∃ t, exec (.replayEnable v) s = .next t ∧ t.isOn IN_RPLCFG_EN = v.getLsbD 63 ∧
      t.fld IN_RPLCFG_RING = (if was = false ∧ bits v.toNat 32 16 ≤ 8191 then bits v.toNat 32 16 else s.fld IN_RPLCFG_RING) ∧
      t.replay = (if was = true ∧ v.getLsbD 63 = false then { s.replay with lanes := [] } else s.replay) ∧
      OnlyFields [IN_RPLCFG_EN, IN_RPLCFG_RING] s t ∧ OnlyParts [.regs, .replay] s t) ∧
  (∀ (v : BitVec 32) (s : State), s.phase ≠ .off →
    (v.getLsbD 0 = true → ∃ t, exec (.replayClrStat v) s = .next t ∧
      t.fld IN_RPLSTAT_DONE = 0 ∧ t.fld IN_RPLSTAT_NOTDEC = 0 ∧ t.fld IN_RPLSTAT_CACHE_SKIP = 0 ∧
      OnlyFields [IN_RPLSTAT_DONE, IN_RPLSTAT_NOTDEC, IN_RPLSTAT_CACHE_SKIP] s t ∧ OnlyParts [.regs] s t) ∧
    (v.getLsbD 0 = false → exec (.replayClrStat v) s = .next s)) ∧
  (∀ up (s : State), s.phase ≠ .off → s.isOn IN_RPLCFG_EN = false ∨ s.intakeUp = false ∨ s.freeLane = none → exec (.replayEntryTake up) s = .next s) ∧
  (∀ up (n : Nat) (s s1 : State), s.phase ≠ .off → s.intakeUp = true → s.isOn IN_RPLCFG_EN = true → s.freeLane = some n →
    (s.upset up).takeEntry (s.fld IN_RPLCFG_RING) = (s1, none) → exec (.replayEntryTake up) s = .next s1) ∧
  (∀ up (n : Nat) (b : List Byte) (s s1 : State), s.phase ≠ .off → s.intakeUp = true → s.isOn IN_RPLCFG_EN = true → s.freeLane = some n →
    (s.upset up).takeEntry (s.fld IN_RPLCFG_RING) = (s1, some b) →
    let e := readReplayEnt b
    let c := Instr.replayEntryTake up
    (s1.replayEntryOk b = false → exec c s = .next (s1.notDecoded e none 5)) ∧
    (s1.replayEntryOk b = true → s1.cacheBusy e = true → exec c s = .next s) ∧
    (s1.replayEntryOk b = true → s1.cacheBusy e = false →
      (e.load = false → e.srcLen < 64 ∨ ddrSize < e.src + e.srcLen → exec c s = .next (s1.notDecoded e none 3)) ∧
      (∀ (s2 : State) (hb : List Byte), e.load = false → 64 ≤ e.srcLen → e.src + e.srcLen ≤ ddrSize → s1.readDdr e.src 64 = (s2, some hb) →
        (readFleece hb = none → exec c s = .next (s2.notDecoded e none 3)) ∧
        (∀ (s3 : State) (tb : List Byte) (f : Fleece), readFleece hb = some f → 64 + 8 * f.nstripe ≤ e.srcLen →
          s2.readDdr (e.src + 64) (8 * f.nstripe) = (s3, some tb) →
          let table := f.tableOk e.srcLen (stripesOf f.nstripe tb)
          let size := 1 ≤ f.w ∧ f.w ≤ 65536 ∧ 1 ≤ f.h ∧ f.h ≤ 65536 ∧ f.w * f.h * f.planes ≤ 64 * e.srcLen
          (table = false → exec c s = .next (s3.notDecoded e (some f.epoch) 3)) ∧
          (table = true → ¬size → exec c s = .next (s3.notDecoded e (some f.epoch) 2)) ∧
          (table = true → size → s3.sampleFits e.race f = false → exec c s = .next (s3.notDecoded e (some f.epoch) 3)) ∧
          (table = true → size → s3.sampleFits e.race f = true → ∃ t, exec c s = .next t ∧
            t.replayLane n = some ⟨e, s3.clk.enc, false, false⟩ ∧ t.replay.lanePtr = (n + 1) % 4 ∧ OnlyParts [.replay] s3 t))) ∧
      (∀ (s2 : State) (hb : List Byte), e.load = true → s1.readDdr (s1.cacheAddr e.cacheSlot) 64 = (s2, some hb) →
        (cacheValid hb e.sample = true → s2.sampleFits e.race (readCache hb) = true → ∃ t, exec c s = .next t ∧
          t.replayLane n = some ⟨e, s2.clk.enc, true, false⟩ ∧ t.replay.lanePtr = (n + 1) % 4 ∧ OnlyParts [.replay] s2 t) ∧
        (cacheValid hb e.sample = false → e.srcLen = 0 → exec c s = .next (s2.notDecoded e none 4))))) ∧
  (∀ (n : Fin 4) up (s : State), s.phase ≠ .off → s.replayLane n = none →
    exec (.replayDecodeDone n up) s = .next s ∧ exec (.replayBudgetExpire n) s = .next s) ∧
  (∀ (n : Fin 4) (x : DecodeLane) up (s : State), s.phase ≠ .off → s.replayLane n = some x →
    let c := Instr.replayDecodeDone n up
    let past := x.load = false ∧ x.ready = false ∧ x.deadline < s.clk.enc
    (past → exec c s = exec (.replayBudgetExpire n) s) ∧
    (∀ s1, ¬past → (s.upset up).laneDecode x = (s1, .error) → exec c s = .next ((s1.setReplayLane n none).sampleError x.ent)) ∧
    (∀ s1 ep, ¬past → (s.upset up).laneDecode x = (s1, .malformed ep) → exec c s = .next ((s1.setReplayLane n none).notDecoded x.ent (some ep) 3)) ∧
    (∀ s1 f rows, ¬past → (s.upset up).laneDecode x = (s1, .image f rows) →
      (s1.replaySlot x.ent.race = none → ∃ t, exec c s = .next t ∧ t.replayLane n = some { x with ready := true } ∧ OnlyParts [.replay] s t) ∧
      (∀ ts, s1.replaySlot x.ent.race = some ts → ∃ u, u.replayLane n = none ∧ OnlyParts [.replay] s1 u ∧ exec c s =
        .next ((if x.ent.store = true ∧ x.load = false then u.cacheStore x.ent f rows else u).emitSample x.ent f rows ts))) ∧
    (x.load = false → x.ready = false → ∃ u,
      exec (.replayBudgetExpire n) s = .next (u.notDecoded x.ent ((readFleece (s.peekN x.ent.src 64)).map Fleece.epoch) 1) ∧
      u.replayLane n = none ∧ u.clk.enc = max s.clk.enc x.deadline ∧ OnlyParts [.clk, .replay] s u) ∧
    (x.load = true ∨ x.ready = true → exec (.replayBudgetExpire n) s = .next s))

/-- O45. Correction epochs and tiles: a finished build writes its gains into the shadow bank and publishes the next epoch, which waits in READY for approval
where APPROVE_REQ asks for it and otherwise begins SWAPPING; APPROVE makes the other bank current, which a race with EN = 0 adopts at once; DISCARD drops the
candidate and its sums; a written tile is done, and an encoded image leaves the audit queue and its tile. -/
def Obligations.EpochsAndTiles : Prop :=
  (∀ s : State, s.phase ≠ .off →
    let full := s.grazeSegs ≠ [] ∧
      ∀ q ∈ s.grazeSegs, 2 ^ s.fld (PX_VCFG_GZ_LOG2N (s.rview q.1 q.2)) ≤ Tab.get 0 s.px.gapLines (segKey q.1 q.2)
    let e := nextEpoch (s.fld PX_EPOCH_EPOCH)
    (s.px.cycle ≠ 1 ∨ ¬full → exec .grazeBuildDone s = .next s) ∧
    (s.px.cycle = 1 → full → ∃ t, exec .grazeBuildDone s = .next t ∧
      t.fld PX_EPOCH_EPOCH = e % 65536 ∧ Tab.get 0 t.px.epochs (1 - s.px.cur) = e ∧
      ((∀ q ∈ s.grazeSegs, s.rview q.1 q.2 < 16 ∧ (s.rangeOf q.1 q.2).1 + (s.rangeOf q.1 q.2).2 ≤ 131072) →
        ∀ q ∈ s.grazeSegs, ∀ i < (s.rangeOf q.1 q.2).2,
          let v := s.rview q.1 q.2
          let x := (s.rangeOf q.1 q.2).1 + i
          t.gainOf (1 - s.px.cur) v x = (s.newGain v x).1) ∧
      (s.isOn PX_EPOCH_APPROVE_REQ = true → t.px.cycle = 2 ∧ t.fld PX_EPOCH_STATE = (if s.learning then 2 else 0) ∧ t.px.cur = s.px.cur) ∧
      (s.isOn PX_EPOCH_APPROVE_REQ = false → t.px.cur = 1 - s.px.cur ∧
        (∀ r : Fin 16, s.raceOn r = false → (t.raceSt r).epoch = e) ∧
        (∀ r : Fin 16, s.raceOn r = true → (t.raceSt r).epoch = (s.raceSt r).epoch)) ∧ OnlyParts (.px :: eventParts) s t)) ∧
  (∀ s : State, s.phase ≠ .off → s.fld PX_EPOCH_STATE = 2 →
    let e := Tab.get 0 s.px.epochs (1 - s.px.cur)
    (∃ t, exec .approve s = .next t ∧ t.px.cur = 1 - s.px.cur ∧ t.px.gain = s.px.gain ∧ t.px.epochs = s.px.epochs ∧
      (∀ r : Fin 16, s.raceOn r = false → (t.raceSt r).epoch = e) ∧
      (∀ r : Fin 16, s.raceOn r = true → (t.raceSt r).epoch = (s.raceSt r).epoch) ∧
      ((∃ r : Fin 16, s.raceOn r = true ∧ (s.raceSt r).epoch ≠ e) → t.px.cycle = 3 ∧ t.fld PX_EPOCH_STATE = (if s.learning then 3 else 0)) ∧
      OnlyFields [PX_EPOCH_STATE] s t ∧ OnlyParts [.regs, .px] s t) ∧
    (∃ t, exec .discard s = .next t ∧ t.px.acc = [] ∧ t.px.gapLines = [] ∧ t.px.cycle = 1 ∧ t.px.cur = s.px.cur ∧ t.px.gain = s.px.gain ∧
      t.fld PX_EPOCH_STATE = (if s.learning then 1 else 0) ∧ OnlyFields [PX_EPOCH_STATE] s t ∧ OnlyParts [.regs, .px] s t)) ∧
  (∀ (i : Fin 4096) (s : State), s.phase ≠ .off →
    let x := s.slot i
    let waits := x.st ≠ .free ∧ x.st ≠ .opened ∧ x.tileDone = false ∧ s.writesTile x.race = true
    (∀ tl ts, s.tileOf i = some tl → x.tile = some ts → waits → ∃ u,
      exec (.tileWriteDone i) s = .next (u.grazeAdvance.tryRetire i) ∧ (u.slot i).tileDone = true ∧ (u.slot i).st = x.st ∧
      (u.slot i).psn = x.psn ∧ OnlyParts (eventParts ++ [.fold, .px]) s u) ∧
    (s.tileOf i = none ∨ x.tile = none ∨ ¬waits → exec (.tileWriteDone i) s = .next s)) ∧
  (∀ up (s : State), s.phase ≠ .off →
    (s.audit.queue = [] → exec (.fleeceEncodeDone up) s = .next s) ∧
    (∀ q rest, s.audit.queue = q :: rest →
      (s.tilePending q.race q.tile = true → exec (.fleeceEncodeDone up) s = .next s) ∧
      (s.tilePending q.race q.tile = false → ∃ u, exec (.fleeceEncodeDone up) s = .next (u.dropTile q.race q.tile) ∧ u.audit.queue = rest ∧
        OnlyParts (eventParts ++ [.audit]) s u)))

/-- O46. The Gate's frames: a frame starts at the next whole microsecond and on FF-3260 is sent on the isolation link; a start edge is committed 81 to 160
steps after its frame start; an entry that is committed leaves the queue, and its edge is counted, or merged into a pulse that covers it, or suppressed on an
output that is not in MODE GATE, has no pulse width, or whose field is lost; a COUNT-mode pulse ends at its longest; FO_OCFG is written as a whole or, where
MODE may not leave GATE, not at all. -/
def Obligations.GateFramesCommitEdges : Prop :=
  (∀ s : State, s.phase ≠ .off → ∃ t, exec .gateFrameStart s = .next t ∧
    let k := max s.link.frame ((s.clk.enc + 199) / 200)
    t.clk.enc = 200 * k ∧ t.link.frame = k + 1 ∧
    (s.variant = .f → t.link.seq = (s.link.seq + 1) % 256 ∧ t.link.sent.length = s.link.sent.length + 1 ∧ t.link.lastDown.length = 12) ∧
    (s.variant = .n → t.link.seq = s.link.seq ∧ t.link.sent = s.link.sent)) ∧
  (∀ (s : State) (e : Nat) (a : Int), 81 ≤ s.startOffset e a ∧ s.startOffset e a ≤ 160) ∧
  (∀ (s : State) (o base i : Nat),
    let off := s.startOffset (s.raceEnc (s.slot i).race) (s.slot i).a
    let n := base + off
    let g := s.gout o
    let lost := s.variant = .f ∧ s.isOn FI_LINK_FIELD_LOST = true
    let t := s.commitEntry o base i
    let out := s.setGout o { g with queue := g.queue.filter fun q => decide (q.slot ≠ i) }
    (g.mode ≠ 1 → t = out.suppressSlot i 0 (stepTime s.frameDev off)) ∧
    (g.mode = 1 → g.pw = 0 → t = out.suppressSlot i 5 (stepTime s.frameDev off)) ∧
    (g.mode = 1 → g.pw ≠ 0 → lost → t = out.suppressSlot i 4 (stepTime s.frameDev off)) ∧
    (g.mode = 1 → g.pw ≠ 0 → ¬lost → (t.slot i).committed = true ∧ (t.slot i).st = (s.slot i).st ∧ (∀ q ∈ (t.gout o).queue, q.slot ≠ i) ∧
      (t.gout o).pulses.length = g.pulses.length + 1 ∧
      ((g.pulses.any fun p => s.covers o base n p) = false →
        t.fold.edges = s.fold.edges ++ [({ out := o, start := true, step := n, slot := some i } : Edge)] ∧
        t.fld (FO_OSTAT_EDGES o) = (s.fld (FO_OSTAT_EDGES o) + 1) % 65536 ∧ OnlyFields [FO_OSTAT_EDGES o] s t ∧ OnlyParts [.regs, .fold] s t) ∧
      ((g.pulses.any fun p => s.covers o base n p) = true → t.fold.edges = s.fold.edges ∧
        t.fld (FO_OSTAT_MERGED o) = (s.fld (FO_OSTAT_MERGED o) + 1) % 65536 ∧ OnlyFields [FO_OSTAT_MERGED o] s t ∧
        OnlyParts [.regs, .fold] s t))) ∧
  (∀ (o : Fin 16) (s : State), s.phase ≠ .off →
    (∀ p a m, (s.gout o).pulses = [p] → p.stop = .pos a m → ∃ t,
      exec (.pulseMaxExpiry o) s = .next t ∧ (t.gout o).pulses = [{ p with stop := .step m }] ∧ t.clk.enc = max s.clk.enc (m * 5 / 2) ∧
      OnlyParts [.clk, .fold] s t) ∧
    ((∀ p ∈ (s.gout o).pulses, ∀ a m, p.stop ≠ .pos a m) → exec (.pulseMaxExpiry o) s = .next s)) ∧
  (∀ (o : Fin 16) (v : BitVec 64) (d : RegDesc) (s : State), s.phase ≠ .off → descAt (FO_OCFG o) = some d →
    let held := s.fld (FO_OCFG_MODE o) = 1 ∧ bits v.toNat 62 2 ≠ 1 ∧ bits v.toNat 62 2 ≠ 3 ∧
      ((s.gout o).queue ≠ [] ∨ (s.gout o).pulses ≠ [] ∨ s.namedOn o = true)
    (held → exec (.foOcfgWrite o v) s = .next s) ∧
    (¬held → ∃ t, exec (.foOcfgWrite o v) s = .next t ∧ (∀ f ∈ d.fields, t.fld (f.fld (FO_OCFG o)) = s.fieldAfterWrite 0 (FO_OCFG o) v.toNat f) ∧
      OnlyFields (d.fields.map fun f => f.fld (FO_OCFG o)) s t ∧ OnlyParts [.regs] s t))

/-! ## Inspection cores and the Lamb engine -/

/-- O47. A tensor command (CONV, DWCONV, MATMUL, POOL, ELTW, ACT, REQ, SFU, RESIZE, REDUCE, COPY, NEAR's search and merge) on the command at the head of a core's
queue: a flaw of its descriptor is reported and is a job fault; an uncorrectable datum or a refused write ends the job with a data error; otherwise the command has
executed and the job keeps the marks it earned. Where the descriptor is legal and no unit read or written holds an error it does execute: no byte of memory outside
the output and its map has changed, and an empty output or extent is counted; a REDUCE that takes the mean of an empty extent is counted besides. An uncorrectable error in
the core's own state fences the core, whatever it was to run. -/
def Obligations.TensorCommandsWriteTheirOutput : Prop :=
  (∀ (k : Fin 16) (e : QEnt) (x : Job) (c : Cmd) (s : State), s.phase ≠ .off → s.coreHead k = some (e, x, c) →
    let after (m w : Bool) : Job := { x with
      cmds := x.cmds.map fun d => if d.idx = c.idx then { d with st := CmdState.executed } else d
      emptyMark := x.emptyMark || m, wideMark := x.wideMark || w }
    ∀ p ∈ s.tensorCommands k e.job x c,
      let m := p.plan.empty || p.plan.ident.isSome
      (∀ f, firstFlaw (headFlaws c.desc c.idx ++ p.flaws ++ s.dataFlaws k x c.desc p.plan) = some f →
        exec p.command s = .next ((s.reportIllegal k x c f).jobFault e.job f.1)) ∧
      (∀ w, (p.ran s k x c).2 = .dataError w →
        exec p.command s = .next (((p.ran s k x c).1.markJob e.job false w).dataErrorJob e.job)) ∧
      (∀ n w, (p.ran s k x c).2 = .done n w → ∃ t, exec p.command s = .next t ∧ t.job e.job = some (after n w)) ∧
      (p.plain s k x c → ∃ t w, exec p.command s = .next t ∧ t.job e.job = some (after m w) ∧ (∀ i, i ≠ e.job → t.job i = s.job i) ∧
        (emptyMean x c = false →
          (p.plan.mapOut = false ∨ fmtBytes (aFmt c.desc) ≤ 2 → ∀ a, ¬p.writes k x c a → t.peek a = s.peek a) ∧
          t.fld (CR_EMPTY_OUT_CNT k) = (if m then (s.fld (CR_EMPTY_OUT_CNT k) + 1) % 65536 else s.fld (CR_EMPTY_OUT_CNT k)) ∧
          OnlyFields [CR_EMPTY_OUT_CNT k, CR_EMPTY_JOB_ID k] s t ∧ OnlyParts [.regs, .mem, .marks, .shep, .free] s t) ∧
        (emptyMean x c = true → t.fld (CR_EMPTY_MEAN_CNT k) = (s.fld (CR_EMPTY_MEAN_CNT k) + 1) % 65536))) ∧
  (∀ (k : Fin 16) (up : List (Nat × Bool)) (s : State), s.phase ≠ .off → ∀ i ∈ coreForms k up .uncorrectable,
    exec i s = .next (if s.inService k then (s.raise 0x0603 k).fence k 2 else s))

/-- O48. The arithmetic of the kernels. Integer sums do not depend on the order of their terms nor on how they are divided; rounding errs by half a unit at
most and takes ties to even; an integer requantisation saturates the rounded value to the format and tells whether it did; every narrow code has an equal
wide code; a mirrored tap lies in its axis; a window output has as many elements as fit; a sort is a stable descending one. -/
def Obligations.KernelArithmetic : Prop :=
  (∀ (l m : List Machine.Num) (n k : Nat), l.Perm m → reduceSum false n l = reduceSum false k m) ∧
  (∀ (p : Int) (n : Nat), 0 < n → 2 * (rne p n * 2 ^ n - p).natAbs ≤ 2 ^ n ∧ (2 * (rne p n * 2 ^ n - p).natAbs = 2 ^ n → rne p n % 2 = 0)) ∧
  (∀ (e : ReqE) (out u w : Nat) (a : Int), isIntFmt out = true →
    let q := rne (wrap32 (a + sx 32 e.bias) * e.mult) ((e.shift + u : Nat) - (w : Int)) + e.zp * 2 ^ w
    numOf out (requant e out u w (.int a)).1 = .int (clampI (fmtRange out).1 (fmtRange out).2 q) ∧
    ((requant e out u w (.int a)).2 = true ↔ q < (fmtRange out).1 ∨ (fmtRange out).2 < q)) ∧
  (∀ (v : Int) (w : Nat), (fmtRange 1).1 ≤ v → v ≤ (fmtRange 1).2 → w ≤ 8 → (fmtRange 5).1 ≤ v * 2 ^ w ∧ v * 2 ^ w ≤ (fmtRange 5).2) ∧
  (∀ (i : Int) (n : Nat), 0 < n → mir i n < n ∧ mir (-i) n = mir i n ∧ mir (i + 2 * ((n : Int) - 1)) n = mir i n ∧
    (0 ≤ i → i < n → (mir i n : Int) = i)) ∧
  (∀ n k d st lo hi : Nat, 0 < n → 0 < st → d * (k - 1) + 1 ≤ n + lo + hi →
    let o := outSize n k d st lo hi
    0 < o ∧ (o - 1) * st + d * (k - 1) + 1 ≤ n + lo + hi ∧ n + lo + hi < o * st + d * (k - 1) + 1) ∧
  (∀ n k d st : Nat, 0 < n → 0 < st → outSize n k d st (samePad n k d st).1 (samePad n k d st).2 = (n + st - 1) / st) ∧
  (∀ l : List (List Byte),
    let key (e : List Byte) : Int := sx 32 (ofLe (e.take 4))
    (sortKeys l).Perm l ∧ (sortKeys l).Pairwise (fun a b => key b ≤ key a) ∧
    ∀ v : Int, (sortKeys l).filter (fun e => decide (key e = v)) = l.filter (fun e => decide (key e = v)))

/-- O49. TABLE loads its codebooks into the core's codebook memory, with the addresses they came from; what another job's TABLE had loaded is gone. EMIT gives the
collector the largest of its elements with its position, the first of equals, NaN below every number, and waits while the core's FIFO is full. Both: a flaw
of the descriptor is reported and is a job fault, a source that cannot be read ends the job with a data error. -/
def Obligations.TableAndEmit : Prop :=
  ∀ (k : Fin 16) (e : QEnt) (x : Job) (c : Cmd) (s : State), s.phase ≠ .off → s.coreHead k = some (e, x, c) →
    let d := c.desc
    let a := x.addr d 8
    let after (st : CmdState) : Job := { x with cmds := x.cmds.map fun y => if y.idx = c.idx then { y with st := st } else y }
    (dOp d = 12 →
      let n := 16 * dLe d 12 2
      let fl := headFlaws d c.idx ++ tableFlaws d ++ x.regionFlaws d [⟨8, n, false⟩]
      let own := (s.core k).book = some e.job
      (∀ f, firstFlaw fl = some f → exec (.table k [] .none) s = .next ((s.reportIllegal k x c f).jobFault e.job f.1)) ∧
      (∀ u, firstFlaw fl = none → s.readUnits (addUnits k [] a n) = (u, false) →
        exec (.table k [] .none) s = .next ((u.markJob e.job false false).dataErrorJob e.job)) ∧
      (firstFlaw fl = none → (∀ q ∈ addUnits k [] a n, s.mark q.1 = .clean) → ∃ t, exec (.table k [] .none) s = .next t ∧
        (∀ i, Tab.get 0 (t.core k).codebook i =
          (if i < n then s.peek (corePlace k a + i) else if own then Tab.get 0 (s.core k).codebook i else 0)) ∧
        (∀ i, Tab.get 0 (t.core k).books i =
          (if i < dLe d 12 2 then a + 16 * i + 1 else if own then Tab.get 0 (s.core k).books i else 0)) ∧
        (t.core k).book = some e.job ∧ (t.core k).queue = (s.core k).queue ∧ (t.core k).prog = (s.core k).prog ∧
        (∀ i, i ≠ k.val → t.core i = s.core i) ∧ t.job e.job = some (after .executed) ∧ (∀ i, i ≠ e.job → t.job i = s.job i) ∧
        OnlyFields [] s t ∧ OnlyParts [.cores, .shep] s t)) ∧
    (dOp d = 34 →
      let b := fmtBytes (aFmt d)
      let n := dLe d 12 2
      let fl := headFlaws d c.idx ++ emitFlaws d ++ x.regionFlaws d [⟨8, n * b, false⟩]
      let v (i : Nat) : Machine.Num := numOf (aFmt d) (ofLe (s.peekN (corePlace k (a + i * b)) b))
      (s.fifoRoom k = false → exec (.emit k [] .none) s = .next s) ∧
      (∀ f, s.fifoRoom k = true → firstFlaw fl = some f → exec (.emit k [] .none) s = .next ((s.reportIllegal k x c f).jobFault e.job f.1)) ∧
      (∀ u, s.fifoRoom k = true → firstFlaw fl = none → s.readUnits (addUnits k [] a (n * b)) = (u, false) →
        exec (.emit k [] .none) s = .next ((u.markJob e.job false false).dataErrorJob e.job)) ∧
      (s.fifoRoom k = true → firstFlaw fl = none → (∀ q ∈ addUnits k [] a (n * b), s.mark q.1 = .clean) →
        ∃ t r, exec (.emit k [] .none) s = .next t ∧ Tab.get [] t.fold.fifos k = Tab.get [] s.fold.fifos k ++ [r] ∧
        r.job = some e.job ∧ r.cmd = some c.idx ∧ r.jobId = x.jobId ∧ r.client = x.client ∧ r.idx = dByte d 14 ∧
        r.last = bit (dByte d 2) 0 ∧ r.fp = isFp (aFmt d) ∧ r.cls < n ∧
        (isFp (aFmt d) = false → r.score = toU 32 (v r.cls).toInt ∧
          ∀ i < n, (v i).toInt ≤ (v r.cls).toInt ∧ (i < r.cls → (v i).toInt < (v r.cls).toInt)) ∧
        (isFp (aFmt d) = true → r.score = fpCode 11 (v r.cls).toFp ∧
          ∀ i < n, ((v i).toFp ≠ .nan → (v r.cls).toFp ≠ .nan ∧ (v r.cls).toFp.lt (v i).toFp = false) ∧
            (i < r.cls → (v i).toFp = .nan ∨ (v i).toFp.lt (v r.cls).toFp = true)) ∧
        (∀ i, i ≠ k.val → Tab.get [] t.fold.fifos i = Tab.get [] s.fold.fifos i) ∧ t.fold.slots = s.fold.slots ∧
        t.job e.job = some (after .emitting) ∧ (∀ i, i ≠ e.job → t.job i = s.job i) ∧
        OnlyFields [] s t ∧ OnlyParts [.fold, .shep] s t))

/-- O50. The Lamb engine. The oldest waiting stream takes the next free unit in rotating order, and a stem slot that holds no legal descriptor abandons it; a stream ends
when its part's last row has arrived, writes inside its output slot alone, and its part's job may then go on. Where no stream waits, a free unit takes the
command at its turn: a convolution, whose output in TENSOR mode holds the value of each element, or a sort, whose entries come out in descending order. A flaw of
the descriptor is a job fault; an uncorrectable datum ends the job with a data error. -/
def Obligations.LambEngineRuns : Prop :=
  (∀ s : State, s.phase ≠ .off → s.lamb.streams = [] ∨ s.freeUnit = none → exec .lambStreamStart s = .next s) ∧
  (∀ (i u : Nat) (rest : List Nat) (s : State), s.phase ≠ .off → s.lamb.streams = i :: rest → s.freeUnit = some u →
    let took := State.takeUnit { s with lamb := { s.lamb with streams := rest } } u (.stream i)
    let started := (took.bump LB_STREAMCNT_STREAMS).setRun i { free := s.fabNow }
    let legal := s.stemRuns (s.streamDesc i).1 1 (s.streamDesc i).2
    (legal = false → exec .lambStreamStart s = .next (started.streamError i)) ∧
    (legal = true → exec .lambStreamStart s = .next (State.streamRun (started.streamFuel i) started i 0 (some s.fabNow)).freeAll) ∧
    (legal = true → started.streamRow i 0 (some s.fabNow) = none → ∃ t, exec .lambStreamStart s = .next t ∧ t.lamb.streams = rest ∧
      t.lambUnit u = .stream i ∧ t.lamb.unitPtr = (u + 1) % 4 ∧ t.runOf i = some { free := s.fabNow } ∧
      t.fld LB_STREAMCNT_STREAMS = (s.fld LB_STREAMCNT_STREAMS + 1) % 65536 ∧ (∀ v, v ≠ u → t.lambUnit v = s.lambUnit v) ∧
      OnlyFields [LB_STREAMCNT_STREAMS] s t ∧ OnlyParts [.regs, .lamb, .px] s t)) ∧
  (∀ (u : Fin 4) (s : State), s.phase ≠ .off → (∀ i, s.lambUnit u = .stream i → s.streamHeight i = none) → exec (.lambStreamEnd u []) s = .next s) ∧
  (∀ (u : Fin 4) (i h : Nat) (s : State), s.phase ≠ .off → s.lambUnit u = .stream i → s.streamHeight i = some h →
    let w := (s.streamDesc i).2
    let g := readLb (s.streamDesc i).1
    let legal := s.stemRuns (s.streamDesc i).1 h w
    let size := g.co * g.planeBytes h w (fmtBytes g.out)
    (legal = false → exec (.lambStreamEnd u []) s = .next (s.streamError i)) ∧
    (∀ v, legal = true → s.readUnits g.tableUnits = (v, false) → exec (.lambStreamEnd u []) s = .next (v.streamError i)) ∧
    (∀ (x : StreamRun) (n : Nat), legal = true → (∀ q ∈ g.tableUnits, s.mark q.1 = .clean) → s.runOf i = some x → (s.slot i).tile = some n →
      x.out.length = x.next → x.next ≤ (g.win h w).outH → (∀ r ∈ x.out, r.length = (g.win h w).outW) →
      let dst := s.stemAddr (s.slot i).race n
      (∀ a, dst ≤ a → a < dst + size → s.mark a = .clean) → ∃ t, exec (.lambStreamEnd u []) s = .next t ∧
      i ∈ t.lamb.ended ∧ t.hasStream i = false ∧ t.runOf i = none ∧ (i ∈ t.lamb.empties ↔ i ∈ s.lamb.empties ∨ g.outH h w = 0 ∨ g.outW h w = 0) ∧
      (∀ a, a < dst ∨ dst + size ≤ a → t.peek a = s.peek a) ∧ s.clk.enc ≤ t.clk.enc ∧
      OnlyParts [.mem, .marks, .clk, .shep, .lamb, .px] s t)) ∧
  (∀ s : State, s.phase ≠ .off → s.shep.flush.isSome = true ∨ s.lamb.streams ≠ [] ∨ s.freeUnit = none ∨ s.nextLamb = none →
    exec (.lbConv []) s = .next s ∧ exec (.lbSort []) s = .next s) ∧
  (∀ (u : Nat) (q : QEnt) (x : Job) (c : Cmd) (s : State), s.phase ≠ .off → s.shep.flush = none → s.lamb.streams = [] → s.freeUnit = some u →
    s.nextLamb = some (q, x, c) →
    let rest := s.lamb.queue.filter fun p => decide (¬(p.job = q.job ∧ p.cmd = q.cmd))
    let took : State := { s with lamb := { s.lamb with queue := rest, passPtr := q.payer.elim s.lamb.passPtr fun m => (m + 1) % 64 } }
    let started := took.takeUnit u (.command q)
    let after (m : Bool) : Job := { x with
      cmds := x.cmds.map fun d => if d.idx = c.idx then { d with st := CmdState.executed } else d, emptyMark := x.emptyMark || m }
    (dOp c.desc = 192 → exec (.lbSort []) s = .next s) ∧ (dOp c.desc = 193 → exec (.lbConv []) s = .next s) ∧
    (dOp c.desc ≠ 192 → dOp c.desc ≠ 193 → ∀ cause, cause = (if bits (dByte c.desc 1) 0 4 = 1 then 3 else 2) →
      exec (.lbConv []) s = .next (took.jobFault q.job cause) ∧ exec (.lbSort []) s = .next (took.jobFault q.job cause)) ∧
    (∀ i v r out, (i = .lbConv [] ∧ dOp c.desc = 192 ∧ started.lbConvRun x c = (v, r, out)) ∨
        (i = .lbSort [] ∧ dOp c.desc = 193 ∧ started.lbSortRun x c = (v, r, out)) →
      (∀ f, r = .flaw f → exec i s = .next (v.jobFault q.job f.1)) ∧
      (∀ w, r = .dataError w → exec i s = .next (v.dataErrorJob q.job)) ∧
      (∀ m, r = .done m false → ∃ t, exec i s = .next t ∧ t.lambUnit u = .command q ∧ t.lamb.queue = rest ∧ t.lamb.unitPtr = (u + 1) % 4 ∧
        t.job q.job = some (after m) ∧ Tab.get none t.lamb.emits u = out.map (fun r => { r with job := some q.job }) ∧ t.mem = v.mem ∧
        t.regs = v.regs)) ∧
    (dOp c.desc = 192 → (∀ a, s.mark a = .clean) → firstFlaw (lbConvFlaws c.desc false ++ s.lbDataFlaws (readLb c.desc) c.desc) = none →
      let g := readLb c.desc
      let w := (s.lbSize g).1
      let h := (s.lbSize g).2
      let v := s.lbView g c.desc
      let p := if v.wide = [] then 0 else v.wsh
      let n := fmtBytes g.out
      ∃ t, exec (.lbConv []) s = .next t ∧ t.job q.job = some (after (decide (g.outH h w = 0 ∨ g.outW h w = 0))) ∧
      (g.mode = 0 → ∀ k y xx, k < g.co → y < g.outH h w → xx < g.outW h w →
        t.peekLe (g.dst + k * g.planeBytes h w n + y * up64 (g.outW h w * n) + xx * n) n =
          toU (fmtBits g.out) (s.lbValue g (g.win h w) (fun a b e => (s.element 0 v p a b e).toInt) p k y xx)) ∧
      (∀ a, a < g.dst ∨ g.dst + g.outBytes h w ≤ a → t.peek a = s.peek a) ∧
      (∀ i, i ≠ q.job → t.job i = s.job i) ∧ OnlyParts [.mem, .marks, .shep, .lamb] s t) ∧
    (dOp c.desc = 193 → firstFlaw (lbSortFlaws x c.desc) = none →
      let n := dLe c.desc 8 2
      let k := dLe c.desc 10 2
      let src := dLe c.desc 20 8
      let dst := dLe c.desc 28 8
      (∀ a, src ≤ a → a < src + 8 * n → s.mark a = .clean) → (∀ a, dst ≤ a → a < dst + 8 * k → s.mark a = .clean) → ∃ t,
      exec (.lbSort []) s = .next t ∧ t.job q.job = some (after false) ∧
      t.peekN dst (8 * k) = ((sortKeys ((List.range n).map fun i => s.peekN (src + 8 * i) 8)).take k).flatten ∧
      (∀ a, a < dst ∨ dst + 8 * k ≤ a → t.peek a = s.peek a) ∧
      (∀ i, i ≠ q.job → t.job i = s.job i) ∧ OnlyParts [.mem, .marks, .shep, .lamb] s t))

/-! ## Jobs, semaphores and the cores' contexts -/

/-- O51. Jobs enter the job table with the fields of their header, their base table and an empty result entry, and their parts become QUEUED; a bad header or
template is a job fault; nothing enters during a flush or where nothing can. A submission, of the control processors or of a submission ring, is queued for its
client or refused. A job's commands enter the scoreboard in order, each where its placement is legal; an illegal placement is a job fault. -/
def Obligations.JobsEnterTheTable : Prop :=
  (∀ s : State, s.phase ≠ .off → s.shep.flush.isSome = true ∨ s.nextEntry = none ∨ s.freeJob = none → exec .jobTableEnter s = .next s) ∧
  (∀ (q : JobReq) (j n : Nat) (s : State), s.phase ≠ .off → s.shep.flush = none → s.nextEntry = some q → s.freeJob = some j →
    s.freeScratch q.client = some n → (∀ u ∈ unitsOf (s.progAddr q) 64, s.mark u = .clean) →
    (∀ h, decodeHdr (s.peekN (s.progAddr q) 64) = some h → (∀ u ∈ unitsOf h.bases 256, s.mark u = .clean) →
      (templateOk (s.peekN h.bases 256) = true → ∃ t y, exec .jobTableEnter s = .next t ∧ t.job j = some y ∧
        y.client = q.client ∧ y.cls = q.cls ∧ y.jobId = q.jobId ∧ y.origin = q.origin ∧ y.hdr = h ∧
        y.bases = s.baseTable q h n (s.peekN h.bases 256) ∧ y.scratchSlot = some n ∧ y.seq = s.shep.nextSeq + 1 ∧ y.next = 0 ∧ y.cmds = [] ∧
        (∀ i, i ≠ j → t.job i = s.job i) ∧ t.shep.waiting = s.shep.waiting.erase q ∧ t.shep.entryPtr = (q.client + 1) % 64 ∧
        (∀ i < 16, t.resultAt j i = none) ∧
        (∀ i, q.origin = .part i → q.cls ≠ .trial → (t.slot i).rtJob = some j ∧
          (t.slot i).st = (if (s.slot i).st = .closed then .queued else (s.slot i).st)) ∧
        (∀ i, q.origin = .part i → q.cls = .trial → (t.slot i).trJob = some j) ∧ OnlyParts [.fold, .shep] s t) ∧
      (templateOk (s.peekN h.bases 256) = false → ∃ u y, exec .jobTableEnter s = .next (u.jobFault j 8) ∧ u.job j = some y ∧
        y.client = q.client ∧ y.jobId = q.jobId ∧ OnlyParts [.fold, .shep] s u)) ∧
    (decodeHdr (s.peekN (s.progAddr q) 64) = none → ∃ u y, exec .jobTableEnter s = .next (u.jobFault j 8) ∧ u.job j = some y ∧
      y.client = q.client ∧ y.jobId = q.jobId ∧ OnlyParts [.fold, .shep] s u)) ∧
  (∀ (c : Fin 64) (own : Option (BitVec 32 × BitVec 64)) (s : State), s.phase ≠ .off →
    s.inWarm = true ∨ s.clientClass c ≠ .housekeeping → exec (.housekeepingSubmit c own) s = .next s) ∧
  (∀ (c : Fin 64) (id : BitVec 32) (prog : BitVec 64) (s : State), s.phase ≠ .off → s.inWarm = false → s.clientClass c = .housekeeping →
    let takes := s.isOn (SH_CCFG_EN c) = true ∧ s.suspect c = false ∧ prog.toNat % 64 = 0
    (takes → ∃ t, exec (.housekeepingSubmit c (some (id, prog))) s = .next t ∧
      t.shep = { s.shep with waiting := s.shep.waiting ++ [⟨c, .housekeeping, id.toNat, .host, prog.toNat⟩] } ∧ OnlyParts [.shep] s t) ∧
    (¬takes → exec (.housekeepingSubmit c (some (id, prog))) s = .next (s.refuse c c id.toNat))) ∧
  (∀ (c : Fin 64) (s : State), s.phase ≠ .off → s.inWarm = false → s.clientClass c = .housekeeping →
    (∀ u, s.takeEntry (s.fld (SH_CRING_SUB_RING c)) = (u, none) → exec (.housekeepingSubmit c none) s = .next u) ∧
    (∀ u b, s.takeEntry (s.fld (SH_CRING_SUB_RING c)) = (u, some b) →
      let n := dByte b 1
      let takes := submissionOk b = true ∧ u.isOn (SH_CCFG_EN n) = true ∧ u.suspect n = false ∧ u.clientClass n = .housekeeping
      (takes → ∃ t, exec (.housekeepingSubmit c none) s = .next t ∧
        t.shep.waiting = s.shep.waiting ++ [⟨n, .housekeeping, dLe b 4 4, .host, dLe b 8 8⟩] ∧ OnlyParts [.shep] u t) ∧
      (¬takes → exec (.housekeepingSubmit c none) s = .next (u.refuse (if n < 64 then n else c) n (dLe b 4 4))))) ∧
  (∀ (j : Fin 256) (s : State), s.phase ≠ .off →
    (∀ x, s.job j = some x → s.shep.flush.isSome = true ∨ x.ended.isSome = true ∨ x.hdr.ncmd ≤ x.next ∨ 64 ≤ x.next - x.oldest ∨ 512 ≤ s.sbUsed) →
    exec (.scoreboardAdmit j []) s = .next s) ∧
  (∀ (j : Fin 256) (x : Job) (s : State), s.phase ≠ .off → s.job j = some x → s.shep.flush = none → x.ended = none → x.next < x.hdr.ncmd →
    x.next - x.oldest < 64 → s.sbUsed < 512 → (∀ u ∈ unitsOf (x.hdr.place + x.next) 1, s.mark u = .clean) →
    (∀ u ∈ unitsOf (x.hdr.cmds + 64 * x.next) 64, s.mark u = .clean) →
    let d := s.peekN (x.hdr.cmds + 64 * x.next) 64
    let p := (s.peek (x.hdr.place + x.next)).toNat
    let first := x.openRun.getD x.next
    let fits := plOk p (dOp d) = true ∧ (x.openRun.isSome = true → plCs p = true) ∧
      (plCs p = true → plEnd p = false → x.next + 1 < x.hdr.ncmd) ∧ (plCs p = false → namesFoot d = false)
    (fits → ∃ t, exec (.scoreboardAdmit j []) s = .next t ∧
      t.job j = some { x with
        next := x.next + 1, openRun := if plCs p = true ∧ plEnd p = false then some first else none
        cmds := x.cmds ++ [{ idx := x.next, place := p, desc := d, run := if plCs p then first else 0, cores := s.coresUp.length }] } ∧
      (∀ i, i ≠ j.val → t.job i = s.job i) ∧ OnlyParts [.shep] s t) ∧
    (¬fits → exec (.scoreboardAdmit j []) s = .next (s.jobFault j 8)))

/-- O52. Commands are placed, complete and give their results. Work with REALTIME standing goes to the first core in rotating order that can take it; where none can
and such work waits, one core is pre-empted; other work is placed within a slice of its client, a new one where the owner's has ended; else a Lamb engine command
is queued. A completed command leaves its cores, or its Lamb engine unit, and the scoreboard, and the last one ends its job; the collector takes a
result into its job's entry; a core that hangs is fenced, and its work waits to be placed again. -/
def Obligations.CommandsArePlacedAndComplete : Prop :=
  (∀ (b : Nat × Nat × Nat) (s : State), s.phase ≠ .off → s.shep.flush.isSome = true → exec (.commandPlace b) s = .next s) ∧
  (∀ (k j : Nat) (c : Cmd) (x : Job) (b : Nat × Nat × Nat) (s : State), s.phase ≠ .off → s.shep.flush = none →
    (rotate 16 s.shep.corePtr).find? (fun k => s.canTake k && (s.bestRealtime k).isSome) = some k → s.bestRealtime k = some (j, c) →
    s.job j = some x → ∃ t, exec (.commandPlace b) s = .next t ∧ Placed k j x c none s t ∧ t.shep.rankPtr = (j + 1) % 256 ∧
    OnlyParts [.fold, .shep, .cores] s t) ∧
  (∀ (b : Nat × Nat × Nat) (s : State), s.phase ≠ .off → s.shep.flush = none → (∀ k < 16, s.canTake k = true → s.bestRealtime k = none) →
    (∀ k, s.savesRunning < s.realtimeWaiting → s.victim = some k → exec (.commandPlace b) s = .next (s.preempt k b)) ∧
    (s.realtimeWaiting ≤ s.savesRunning ∨ s.victim = none →
      (∀ k, (rotate 16 s.shep.corePtr).find? (fun k => (s.serveCore k).isSome) = some k → ∃ t, s.serveCore k = some t ∧ exec (.commandPlace b) s = .next t) ∧
      ((∀ k < 16, s.serveCore k = none) → exec (.commandPlace b) s = .next (s.serveLamb.getD s)))) ∧
  (∀ (k : Nat) (s : State), s.canTake k = true → s.bestRealtime k = none →
    (∀ o due j c x, (s.core k).slice = some (o, due) → s.clk.enc < due → s.oldestOffer k o = some (j, c) → s.job j = some x → ∃ t,
      s.serveCore k = some t ∧ Placed k j x c (some o) s t ∧ (t.core k).slice = some (o, due) ∧ OnlyParts [.fold, .shep, .cores] s t) ∧
    (∀ m j c x, (s.core k).slice = none → s.lowestPass k none = some m → s.oldestOffer k m = some (j, c) → s.job j = some x → ∃ t,
      s.serveCore k = some t ∧ Placed k j x c (some m) s t ∧ (t.core k).slice = some (m, s.clk.enc + 200 * s.fld SH_CFG_TSLICE_US) ∧
      t.shep.slicePtr = (m + 1) % 64 ∧ OnlyParts [.fold, .shep, .cores] s t)) ∧
  (∀ (k : Fin 16) (s : State), s.phase ≠ .off → (∀ e x c, s.headCmd k = some (e, x, c) → c.st ≠ .executed ∨ e.part ≠ 0) →
    exec (.coreCommandComplete false k []) s = .next s) ∧
  (∀ (k : Fin 16) (e : QEnt) (x : Job) (c : Cmd) (s : State), s.phase ≠ .off → s.headCmd k = some (e, x, c) → c.st = .executed → e.part = 0 → ∃ u,
    exec (.coreCommandComplete false k []) s = .next (u.completeCmd e.job c.idx).cancelReasoned ∧
    (∀ m, (u.core m).queue = (s.core m).queue.filter fun q => decide (¬(q.job = e.job ∧ q.cmd = e.cmd))) ∧
    u.fld (CR_PERF_CMD_DONE k) = (s.fld (CR_PERF_CMD_DONE k) + 1) % 4294967296 ∧ (∀ i, u.job i = s.job i) ∧
    OnlyFields [CR_PERF_CMD_DONE k] s u ∧ OnlyParts [.regs, .cores, .shep] s u) ∧
  (∀ (n : Fin 16) (e : QEnt) (x : Job) (c : Cmd) (s : State), s.phase ≠ .off → s.lambUnit (n % 4) = .command e → s.job e.job = some x →
    x.cmds.find? (fun d => decide (d.idx = e.cmd)) = some c →
    let out := Tab.get none s.lamb.emits (n % 4)
    (c.st ≠ .executed ∨ (out.isSome = true ∧ s.fifoRoom 16 = false) → exec (.coreCommandComplete true n []) s = .next s) ∧
    (c.st = .executed → out = none ∨ s.fifoRoom 16 = true → ∃ u,
      exec (.coreCommandComplete true n []) s = .next (u.completeCmd e.job e.cmd).cancelReasoned ∧ u.lambUnit (n % 4) = .idle ∧
      Tab.get none u.lamb.emits (n % 4) = none ∧ Tab.get [] u.fold.fifos 16 = Tab.get [] s.fold.fifos 16 ++ out.toList ∧ (∀ i, u.job i = s.job i) ∧
      OnlyParts [.fold, .shep, .lamb] s u)) ∧
  (∀ (j i : Nat) (x : Job) (c : Cmd) (s : State), s.job j = some x → x.cmds.find? (fun d => decide (d.idx = i)) = some c →
    let rest := x.cmds.filter fun d => decide (d.idx ≠ i)
    let runs := if plCs c.place = false then x.runs
      else if plEnd c.place = true then x.runs.filter fun r => decide (r.first ≠ c.run)
      else x.runs.map fun r => if r.first = c.run then { r with done := r.done ++ [c] } else r
    let y : Job := { x with cmds := rest, runs := runs }
    (rest ≠ [] ∨ x.next < x.hdr.ncmd → s.completeCmd j i = s.setJob j (some y)) ∧
    (rest = [] → x.hdr.ncmd ≤ x.next → s.completeCmd j i = (s.setJob j (some y)).finishJob j)) ∧
  (∀ s : State, s.phase ≠ .off → (∀ f < 18, Tab.get [] s.fold.fifos f = []) → exec .collectorAccept s = .next s) ∧
  (∀ (f : Nat) (r : Result) (rest : List Result) (s : State), s.phase ≠ .off →
    (rotate 18 s.fold.fifoPtr).find? (fun f => !(Tab.get [] s.fold.fifos f).isEmpty) = some f → Tab.get [] s.fold.fifos f = r :: rest → ∃ t,
    exec .collectorAccept s = .next t ∧ Tab.get [] t.fold.fifos f = rest ∧ t.fold.fifoPtr = (f + 1) % 18 ∧ OnlyParts [.fold, .shep] s t ∧
    (r.job.bind s.job = none → t.fold.results = s.fold.results ∧ t.shep = s.shep) ∧
    (∀ j x, r.job = some j → s.job j = some x → ∃ y, t.job j = some y ∧ (∀ i, r.cmd = some i → ∀ d ∈ y.cmds, d.idx = i → d.st = .executed) ∧
      (x.cls ≠ .housekeeping → t.resultAt j r.idx = some (match s.resultAt j r.idx with | some old => mergeResult old r | none => r)) ∧
      (x.cls = .housekeeping → t.fold.results = s.fold.results))) ∧
  (∀ (k : Fin 16) (s : State), s.phase ≠ .off →
    (s.inService k = false ∨ ((s.core k).queue = [] ∧ (s.core k).xfer = .none ∧ s.shep.flush = none) → exec (.coreWatchdog k) s = .next s) ∧
    (s.inService k = true → (s.core k).queue ≠ [] ∨ (s.core k).xfer ≠ .none → ∃ t,
      exec (.coreWatchdog k) s = .next t ∧ t.fld (CR_FENCE_FENCED k) = 1 ∧ t.fld (CR_FENCE_CAUSE k) = 3 ∧
      (t.core k).queue = [] ∧ (t.core k).xfer = .none ∧ (t.core k).slice = none ∧ (t.core k).codebook = [] ∧
      (∀ m, m ≠ k.val → (t.core m).queue = (s.core m).queue.filter fun q =>
        !((s.core k).queue ++ (s.core k).xfer.entry.toList).any fun e => decide (e.job = q.job ∧ e.cmd = q.cmd)) ∧
      (∀ q ∈ (s.core k).queue, ∀ y, t.job q.job = some y → ∀ d ∈ y.cmds, d.idx = q.cmd → d.st = .waiting)))

/-- O53. Semaphores: SET and ADD change their semaphore, ADD saturating, and release the job's hold; a DOORBELL moves the producer index of its ring, or is
refused where that would overfill it; a WAIT whose condition holds completes and takes its decrement, another one stays pending until WAIT_SATISFY finds
that it holds; a command outside the client's range, or illegal, is a job fault; software writes a semaphore's value. -/
def Obligations.SemaphoresAndWaits : Prop :=
  (∀ (j : Fin 256) (s : State), s.phase ≠ .off →
    s.shep.flush.isSome = true ∨ (∀ x, s.job j = some x → s.firstEligible x (fun c => isShepOp (dOp c.desc)) = none) →
    ∀ i ∈ [Instr.semSet j, .semAdd j, .doorbell j, .wait j], exec i s = .next s) ∧
  (∀ (j : Fin 256) (x : Job) (c : Cmd) (s : State), s.phase ≠ .off → s.shep.flush = none → s.job j = some x →
    s.firstEligible x (fun c => isShepOp (dOp c.desc)) = some c →
    let i := dByte c.desc 8
    let v := dLe c.desc 12 4
    let f := SH_SEM_VALUE i
    let op := dByte c.desc 2 % 4
    let freed := x.holds.filter fun h => decide (h ≠ i)
    let done (cmd : Instr) (new : Nat) (holds : List Nat) : Prop := ∃ u y, exec cmd s = .next (u.completeCmd j c.idx) ∧ u.fld f = new ∧
      u.job j = some y ∧ y.cmds = x.cmds ∧ y.holds = holds ∧ (∀ i, i ≠ j.val → u.job i = s.job i) ∧ OnlyFields [f] s u ∧ OnlyParts [.regs, .fold, .shep] s u
    (shepCheck c.desc c.idx = none → s.semAllowed x.client i = true →
      (dOp c.desc = 32 → op = 0 → done (.semSet j) v freed) ∧
      (dOp c.desc = 32 → op = 1 → done (.semAdd j) (min (s.fld f + v) 4294967295) freed) ∧
      (dOp c.desc = 33 → s.waitHolds c.desc = true → bit (dByte c.desc 2) 2 = true → done (.wait j) ((s.fld f - v) % 4294967296) (i :: x.holds)) ∧
      (dOp c.desc = 33 → s.waitHolds c.desc = true → bit (dByte c.desc 2) 2 = false → done (.wait j) (s.fld f) x.holds) ∧
      (dOp c.desc = 33 → s.waitHolds c.desc = false → ∃ t y, exec (.wait j) s = .next t ∧ t.job j = some y ∧
        (∀ d ∈ y.cmds, d.idx = c.idx → d.st = .pending) ∧ (∀ i, i ≠ j.val → t.job i = s.job i) ∧ OnlyParts [.fold, .shep] s t)) ∧
    (shepCheck c.desc c.idx = none → dOp c.desc = 32 → op = 2 →
      let r := dLe c.desc 16 2
      let p := dLe c.desc 20 4
      (idxDiff p (s.ring r).cons ≤ 2 ^ (s.ring r).size → ∃ u, exec (.doorbell j) s = .next (u.completeCmd j c.idx) ∧
        u.ring r = { s.ring r with prod := p } ∧ OnlyParts [.mem, .rings, .fold, .shep] s u) ∧
      (2 ^ (s.ring r).size < idxDiff p (s.ring r).cons → ∃ u, exec (.doorbell j) s = .next ((u.raise 0x0B02 r).completeCmd j c.idx) ∧
        OnlyParts [.fold, .shep] s u)) ∧
    (∀ cause cmd, shepCheck c.desc c.idx = some cause ∨
        (shepCheck c.desc c.idx = none ∧ cause = 7 ∧ s.semAllowed x.client i = false ∧ ¬(dOp c.desc = 32 ∧ op = 2)) →
      (dOp c.desc = 32 ∧ (op = 0 ∨ op = 3) ∧ cmd = .semSet j) ∨ (dOp c.desc = 32 ∧ (op = 1 ∨ op = 3) ∧ cmd = .semAdd j) ∨
        (dOp c.desc = 32 ∧ op = 2 ∧ cmd = .doorbell j) ∨ (dOp c.desc = 33 ∧ cmd = .wait j) →
      exec cmd s = .next (s.jobFault j cause))) ∧
  (∀ (j : Nat) (c : Cmd) (s : State), s.phase ≠ .off → s.shep.flush = none → s.readyWait = some (j, c) →
    let f := SH_SEM_VALUE (dByte c.desc 8)
    ∃ u, exec .waitSatisfy s = .next (u.completeCmd j c.idx) ∧ u.shep.waitPtr = (j + 1) % 256 ∧
    u.fld f = (if bit (dByte c.desc 2) 2 then (s.fld f - dLe c.desc 12 4) % 4294967296 else s.fld f) ∧
    (∀ i, i ≠ j → u.job i = s.job i) ∧ OnlyFields [f] s u ∧ OnlyParts [.regs, .shep] s u) ∧
  (∀ s : State, s.phase ≠ .off → s.readyWait = none ∨ s.shep.flush.isSome = true → exec .waitSatisfy s = .next s) ∧
  (∀ (i : Fin 256) (v : BitVec 32) (s : State), s.phase ≠ .off → ∃ t, exec (.shSemWrite i v) s = .next t ∧ t.fld (SH_SEM_VALUE i) = v.toNat ∧
    OnlyFields [SH_SEM_VALUE i] s t ∧ OnlyParts [.regs] s t)

/-- O54. Slices, contexts and flushes. An expired slice charges its owner, unless the owner's command cannot be pre-empted; the new slice goes to the client with the
lowest pass, and where another wins the owner's command is pre-empted or its queued ones are withdrawn; a core whose one command is pre-empted saves it. A
save leaves the header, the codebook memory, the accumulators and, in a run, the footprint in the save slot, and a restore brings them back to the core. A job fault
empties queues and codebook memories, returns the semaphores to their initial values and is counted; placement resumes after it. A client is readmitted with its
history cleared, and old flushes leave it. -/
def Obligations.ContextsSlicesAndFlushes : Prop :=
  (∀ (k : Fin 16) (b : Nat × Nat × Nat) (s : State), s.phase ≠ .off → (s.core k).slice = none → exec (.sliceExpiry k b) s = .next s) ∧
  (∀ (k : Fin 16) (o due : Nat) (b : Nat × Nat × Nat) (s : State), s.phase ≠ .off → (s.core k).slice = some (o, due) →
    let now := s.advanceTo due
    let t := now.endSlice k
    (∀ e x c, s.headCmd k = some (e, x, c) → e.payer = some o → now.preemptible k = false → exec (.sliceExpiry k b) s = .next now) ∧
    ((∀ e x c, s.headCmd k = some (e, x, c) → e.payer ≠ some o ∨ now.preemptible k = true) →
      (t.core k).slice = none ∧ t.clk.enc = max s.clk.enc due ∧
      t.passOf o = (s.passOf o + (t.clk.enc - (s.core k).sliceStart) * 5 * 65536 / max 1 (s.fld (SH_CCFG_SHARES o))) % 18446744073709551616 ∧
      OnlyParts [.clk, .shep, .cores] s t ∧
      (t.lowestPass k (some o) = some o → ∃ u, exec (.sliceExpiry k b) s = .next u ∧
        (u.core k).slice = some (o, t.clk.enc + 200 * s.fld SH_CFG_TSLICE_US) ∧ (u.core k).queue = (s.core k).queue ∧ u.shep.slicePtr = (o + 1) % 64 ∧
        OnlyParts [.clk, .shep, .cores] s u) ∧
      (t.lowestPass k (some o) = none → exec (.sliceExpiry k b) s = .next t) ∧
      (∀ m, m ≠ o → t.lowestPass k (some o) = some m →
        (s.headCmd k = none → exec (.sliceExpiry k b) s = .next (t.preempt k b)) ∧
        (∀ e x c, s.headCmd k = some (e, x, c) → e.payer = some o → exec (.sliceExpiry k b) s = .next (t.preempt k b)) ∧
        (∀ e x c, s.headCmd k = some (e, x, c) → e.payer ≠ some o → exec (.sliceExpiry k b) s = .next
          (((t.core k).queue.filter fun q => decide (q.payer = some o)).foldl State.withdrawEnt t))))) ∧
  (∀ (k : Nat) (e : QEnt) (x : Job) (c : Cmd) (b : Nat × Nat × Nat) (s : State), s.headCmd k = some (e, x, c) → s.partsReady e x c = true →
    s.partCores e = [k] →
    let t := s.preempt k b
    (t.core k).xfer = .save e ∧ (t.core k).slice = none ∧ (∀ q ∈ (t.core k).queue, q ∈ (s.core k).queue ∧ q.payer ≠ e.payer)) ∧
  (∀ (k : Fin 16) (e : QEnt) (x : Job) (s : State), s.phase ≠ .off → (s.core k).xfer = .save e → s.job e.job = some x →
    4 * (s.core k).prog.acc.length ≤ 131072 →
    let a := s.partAddr (x.slotFor k e.cmd) e.part
    let run := (x.runFor k e.cmd).isSome
    let n := if run then 65536 * x.hdr.foot else 0
    let busy (t : State) : Prop := ∃ p ∈ t.cores, ∃ q, p.2.xfer = .save q ∧ q.job = e.job ∧ q.cmd = e.cmd
    ∃ t, exec (.saveComplete k) s = .next t ∧ (t.core k).xfer = .none ∧ (t.core k).prog = {} ∧ (t.core k).queue = (s.core k).queue ∧
    (¬busy t → t.job e.job = some (x.savedOff k e)) ∧ (busy t → t.job e.job = some x) ∧ (∀ m, m ≠ k.val → t.core m = s.core m) ∧
    t.peekN a 64 = saveHdr run x.client k x.jobId e.cmd x.hdr.foot s.clk.dev (s.core k).prog ∧
    (∀ m < 4096, t.peek (a + 4096 + m) = Tab.get 0 (s.core k).codebook m) ∧
    (∀ m w, (s.core k).prog.acc[m]? = some w → t.peekN (a + 8192 + 4 * m) 4 = leBytes 4 w) ∧
    (∀ m < n, t.peek (a + 139264 + m) = s.peek (coreBase k + m)) ∧
    (∀ i, i < a ∨ a + 139264 + n ≤ i → t.peek i = s.peek i) ∧ OnlyParts [.mem, .marks, .shep, .cores, .free] s t) ∧
  (∀ (k : Fin 16) (e : QEnt) (x : Job) (s u : State), s.phase ≠ .off → (s.core k).xfer = .restore e → s.job e.job = some x →
    let a := s.partAddr (x.slotFor k e.cmd) e.part
    let n := if (x.runFor k e.cmd).isSome then 65536 * x.hdr.foot else 0
    let ctl := Tab.get {} s.shep.saves (16 * x.slotFor k e.cmd + e.part)
    let busy (t : State) : Prop := ∃ p ∈ t.cores, ∃ q, p.2.xfer = .restore q ∧ q.job = e.job ∧ q.cmd = e.cmd
    (s.read a (139264 + n) = (u, none) →
      exec (.restoreComplete k) s = .next ((u.setCore k { u.core k with xfer := .none }).dataErrorJob e.job)) ∧
    ((∀ m < 139264 + n, s.mark (a + m) = .clean) → ∃ t, exec (.restoreComplete k) s = .next t ∧
      (t.core k).xfer = .none ∧ (t.core k).queue = e :: (s.core k).queue ∧
      (t.core k).prog = readProgress (s.peekN a (139264 + n)) ctl.groups ∧ (t.core k).book = some e.job ∧ (t.core k).books = ctl.books ∧
      (∀ m < 4096, Tab.get 0 (t.core k).codebook m = s.peek (a + 4096 + m)) ∧ (∀ m, m ≠ k.val → t.core m = s.core m) ∧
      (∀ m < n, t.peek (coreBase k + m) = s.peek (a + 139264 + m)) ∧
      (∀ i, i < coreBase k ∨ coreBase k + n ≤ i → t.peek i = s.peek i) ∧
      (¬busy t → t.job e.job = some (x.restored e)) ∧ (busy t → t.job e.job = some x) ∧
      OnlyParts [.mem, .shep, .cores] s t)) ∧
  (∀ (k : Fin 16) (s : State), s.phase ≠ .off →
    ((∀ e, (s.core k).xfer ≠ .save e) → exec (.saveComplete k) s = .next s) ∧ ((∀ e, (s.core k).xfer ≠ .restore e) → exec (.restoreComplete k) s = .next s)) ∧
  (∀ (j cause : Nat) (x : Job) (s : State), s.job j = some x →
    let t := s.jobFault j cause
    t.shep.flush = some (400000 + s.clk.enc) ∧ (∀ k, (t.core k).queue = [] ∧ (t.core k).codebook = [] ∧ (t.core k).xfer = .none) ∧ t.lamb.queue = [] ∧
    (∀ i < 256, t.fld (SH_SEM_VALUE i) = Tab.get 0 s.shep.semInit i % 4294967296) ∧
    t.fld SH_FLUSH_FLUSH_CNT = (s.fld SH_FLUSH_FLUSH_CNT + 1) % 65536 ∧ t.fld SH_FLUSH_CAUSE = cause % 256) ∧
  (∀ s : State, s.phase ≠ .off → ∃ t, exec .flushResume s = .next t ∧ t.shep = { s.shep with flush := none, flushed := [] } ∧ OnlyParts [.shep] s t) ∧
  (∀ (c : Fin 64) (s : State), s.phase ≠ .off →
    (∃ t, exec (.readmit c) s = .next t ∧ t.isOn (SH_CSTAT_SUSPECT c) = false ∧ t.fld (SH_CSTAT_FLUSHES c) = 0 ∧ Tab.get [] t.shep.history c = [] ∧
      OnlyFields [SH_CSTAT_SUSPECT c, SH_CSTAT_FLUSHES c] s t ∧ OnlyParts [.regs, .shep] s t) ∧
    (∃ t, exec (.flushHistoryExpiry c) s = .next t ∧
      Tab.get [] t.shep.history c = (Tab.get [] s.shep.history c).filter (fun d => decide (s.clk.dev < 10000000000 + d)) ∧
      t.fld (SH_CSTAT_FLUSHES c) = min 3 (Tab.get [] t.shep.history c).length ∧
      OnlyFields [SH_CSTAT_FLUSHES c] s t ∧ OnlyParts [.regs, .shep] s t))

/-! ## DMA channels and rings -/

/-- O55. DMA channels: a COPY moves the source's bytes, a FILL repeats the value, a COMPARE tells the first difference; each leaves every other byte alone, moves
the ring on, counts a completion and posts its entry where asked; a write to the resident area of every core reaches each core in service. A descriptor
that is illegal, out of the channel's map or meets an uncorrectable line halts the channel; one that cannot be read is skipped; a channel that is not ready and a
descriptor of another operation wait. RESUME skips the failed descriptor, ABORT empties the ring. The sampled index of a ring is taken, unless it would
overfill the ring or pass its producer. -/
def Obligations.DmaChannelsAndRings : Prop :=
  (∀ (c : Fin 64) (s : State), s.phase ≠ .off →
    let ring := s.fld (DM_CHCFG_DESC_RING c)
    let x := s.ring ring
    let a := x.entryAddr x.cons
    let b := s.peekN a (2 ^ x.esize)
    let d := readDma b
    let forms : List (Instr × Nat) := [(.dmaCopy c [], 0), (.dmaFill c [], 1), (.dmaCompare c [], 2)]
    let clean (lo n : Nat) : Prop := ∀ i, lo / 64 * 64 ≤ i → i < (lo + n + 63) / 64 * 64 → s.mark i = .clean
    let post (status ofs : Nat) (u : State) : State := if d.cpl then u.dmaPost c (dmaEntry c d.tag status ofs) else u
    let ok (ofs : Nat) (u : State) : State := post 0 ofs ((u.consume ring).bump (DM_CHSTAT_DONE c))
    let filled (i : Nat) : Byte := BitVec.ofNat 8 (d.value / 256 ^ ((d.dst + i) % 4))
    (∀ p ∈ forms, s.dmaReady c = false ∨ (d.op ≠ p.2 ∧ d.op ≠ 3) → exec p.1 s = .next s) ∧
    (∀ p ∈ forms, s.dmaReady c = true → d.op = p.2 ∨ d.op = 3 → ∀ u, s.read a (2 ^ x.esize) = (u, none) →
      exec p.1 s = .next ((u.consume ring).raise 0x0B02 ring)) ∧
    (s.dmaReady c = true → (∀ u ∈ unitsOf a (2 ^ x.esize), s.mark u = .clean) →
      (∀ p ∈ forms, d.op = p.2 ∨ d.op = 3 → d.legal b = false → exec p.1 s = .next ((post 3 0 s).dmaHalt c 3)) ∧
      (∀ p ∈ forms, d.op = p.2 → d.legal b = true → d.inMap (s.isOn (DM_CHCFG_PRIV c)) = false →
        exec p.1 s = .next ((post 4 0 s).dmaHalt c 4)) ∧
      (∀ p ∈ forms, d.op = p.2 → d.legal b = true → d.inMap (s.isOn (DM_CHCFG_PRIV c)) = true → ∀ u ofs, s.dmaRun d = (u, 2, ofs) →
        exec p.1 s = .next ((post 2 ofs u).dmaHalt c 2)) ∧
      (d.legal b = true → d.inMap (s.isOn (DM_CHCFG_PRIV c)) = true → clean d.dst d.len → (d.op ≠ 1 → clean d.src d.len) →
        (d.op = 2 → exec (.dmaCompare c []) s = .next (post (if s.peekN d.src d.len = s.peekN d.dst d.len then 0 else 1)
          ((firstDiff (s.peekN d.src d.len) (s.peekN d.dst d.len)).getD d.len) ((s.consume ring).bump (DM_CHSTAT_DONE c)))) ∧
        (inEveryCore d.dst = false →
          (d.op = 0 → ∃ u, exec (.dmaCopy c []) s = .next (ok d.len u) ∧ (∀ i < d.len, u.peek (d.dst + i) = s.peek (d.src + i)) ∧
            (∀ i, i < d.dst ∨ d.dst + d.len ≤ i → u.peek i = s.peek i) ∧ OnlyParts [.mem, .marks] s u) ∧
          (d.op = 1 → ∃ u, exec (.dmaFill c []) s = .next (ok d.len u) ∧ (∀ i < d.len, u.peek (d.dst + i) = filled i) ∧
            (∀ i, i < d.dst ∨ d.dst + d.len ≤ i → u.peek i = s.peek i) ∧ OnlyParts [.mem, .marks] s u))) ∧
      (d.legal b = true → d.inMap (s.isOn (DM_CHCFG_PRIV c)) = true → inEveryCore d.dst = true →
        let place (k i : Nat) : Nat := coreBase k + (d.dst - 0x2500000000) + i
        (d.op = 0 → d.src + d.len ≤ ddrSize → clean d.src d.len → ∃ u, exec (.dmaCopy c []) s = .next (ok d.len u) ∧
          (∀ k < 16, s.inService k = true → ∀ i < d.len, u.peek (place k i) = s.peek (d.src + i)) ∧ (∀ i < ddrSize, u.peek i = s.peek i) ∧
          OnlyParts [.mem, .marks] s u) ∧
        (d.op = 1 → ∃ u, exec (.dmaFill c []) s = .next (ok d.len u) ∧
          (∀ k < 16, s.inService k = true → ∀ i < d.len, u.peek (place k i) = filled i) ∧ (∀ i < ddrSize, u.peek i = s.peek i) ∧
          OnlyParts [.mem, .marks] s u)))) ∧
  (∀ (c : Fin 64) (s : State), s.phase ≠ .off →
    let r := s.fld (DM_CHCFG_DESC_RING c)
    let skipped : Ring := if (s.ring r).empty then s.ring r else { s.ring r with cons := ((s.ring r).cons + 1) % 4294967296 }
    (s.fld (DM_CHSTAT_STATE c) = 2 → ∃ t, exec (.dmaResume c) s = .next t ∧ t.fld (DM_CHSTAT_STATE c) = 0 ∧
      t.ring r = skipped ∧ OnlyFields [DM_CHSTAT_STATE c] s t ∧ OnlyParts [.regs, .mem, .rings] s t) ∧
    (s.fld (DM_CHSTAT_STATE c) ≠ 2 → exec (.dmaResume c) s = .next s) ∧
    (∃ t, exec (.dmaAbort c) s = .next t ∧ t.fld (DM_CHSTAT_STATE c) = 0 ∧
      t.ring r = (if (s.ring r).out then s.ring r else { s.ring r with cons := (s.ring r).prod }) ∧ OnlyFields [DM_CHSTAT_STATE c] s t ∧
      OnlyParts [.regs, .mem, .rings] s t)) ∧
  (∀ s : State, s.phase ≠ .off →
    (s.ringsUp = true → exec (.ringIndexSample [] []) s =
      .next ((s.rings.map Prod.fst).foldl State.sampleRing s).postWaiting.dmaPostWaiting.auditPrune) ∧
    (s.ringsUp = false → exec (.ringIndexSample [] []) s = .next s)) ∧
  (∀ (r : Nat) (s : State),
    let x := s.ring r
    let at_ := if x.modProduces then x.idxAddr + 4 else x.idxAddr
    (x.idxAddr = 0 ∨ x.out = true ∨ x.kind = 0 ∨ x.kind = 5 → s.sampleRing r = s) ∧
    (x.idxAddr ≠ 0 → x.out = false → x.kind ≠ 0 → x.kind ≠ 5 → (∀ u ∈ unitsOf at_ 4, s.mark u = .clean) →
      let v := s.peekLe at_ 4
      let fits := if x.modProduces then idxDiff v x.cons ≤ x.used else idxDiff v x.cons ≤ 2 ^ x.size
      (fits → (s.sampleRing r).ring r = (if x.modProduces then { x with cons := v, bad := none } else { x with prod := v, bad := none }) ∧
        (∀ k, k ≠ r → (s.sampleRing r).ring k = s.ring k) ∧ OnlyParts [.mem, .rings] s (s.sampleRing r)) ∧
      (¬fits → x.bad ≠ some v → ∃ u, s.sampleRing r = u.raise 0x0B02 r ∧ u.ring r = { x with bad := some v } ∧ OnlyParts [.rings] s u) ∧
      (¬fits → x.bad = some v → s.sampleRing r = s)))

/-! ## Field input and output -/

/-- O56. The isolation link: a frame arrives as it was sent and is aligned after four good ones, a disturbed one is discarded whole; windows open on the frame
received, execute its edges while the outputs are not held off, and answer an uplink frame with a good CRC; configuration messages are applied, and COMMIT sets
CFGOK once all are there; eight windows without a good frame lead to the safe state. At the compute side a bad uplink is counted, eight are FIELD_LOST, and 64
good ones end it. -/
def Obligations.IsolationLinkCarriesFrames : Prop :=
  (∀ (seq out base cfg : Nat) (edges : List Edge) (sof : Bool), seq < 256 → out < 65536 → cfg < 256 → edges.length ≤ 4 →
    (∀ e ∈ edges, base + 81 ≤ e.step ∧ e.step ≤ base + 160 ∧ e.out < 16) →
    goodFrame (downBytes seq out edges base cfg sof) = true ∧
    readDown (downBytes seq out edges base cfg sof) = ⟨seq, out, edges.map fun e => ⟨e.step - base, !e.start, e.out⟩, cfg, sof⟩) ∧
  (∀ (err : BitVec 96) (s : State), s.phase ≠ .off → s.variant = .f →
    let b := disturb s.addLate.link.lastDown err
    (goodFrame b = true → s.die.aligned = true ∨ 3 ≤ s.die.good → ∃ t, exec (.downlinkFrame err) s = .next t ∧ t.die.aligned = true ∧
      t.die.next = some (readDown b) ∧ t.die.seq = (readDown b).seq ∧ t.die.bad = 0 ∧ t.die.drive = s.die.drive ∧ OnlyParts [.die] s.addLate t) ∧
    (goodFrame b = true → s.die.aligned = false → s.die.good < 3 → ∃ t, exec (.downlinkFrame err) s = .next t ∧
      t.die = { s.die with good := s.die.good + 1, bad := 0 } ∧ OnlyParts [.die] s.addLate t) ∧
    (goodFrame b = false → ∃ t, exec (.downlinkFrame err) s = .next t ∧
      t.die = { s.die with good := 0, bad := s.die.bad + 1, next := none, msg := none } ∧ OnlyParts [.die] s.addLate t)) ∧
  (∀ s : State, s.fold.late = [] → s.fold.lateMerged = [] → s.addLate = s) ∧
  (∀ s : State, s.phase ≠ .off → s.variant = .f →
    (s.die.cur = none ∨ (∃ f, s.die.cur = some f ∧ f.edges = []) → exec .fieldEdgeExecute s = .next s) ∧
    (∀ (e : WireEdge) (rest : List WireEdge) (f : DownFrame), s.die.cur = some f → f.edges = e :: rest → ∃ t, exec .fieldEdgeExecute s = .next t ∧
      t.die.cur = some { f with edges := rest } ∧
      t.die.drive = (if s.die.heldOff = true ∨ s.die.paired e.out = true then s.die.drive
        else ({ s.die with drive := maskSet s.die.drive e.out (!e.stop) }).mirror.drive) ∧ OnlyParts [.clk, .fold, .die] s t)) ∧
  (∀ s : State, s.phase ≠ .off → s.variant = .n →
    (s.addLate.pins.ejtEdges = [] → exec .fieldEdgeExecute s = .next s.addLate) ∧
    (∀ e rest, s.addLate.pins.ejtEdges = e :: rest → ∃ t, exec .fieldEdgeExecute s = .next t ∧
      t.pins = { s.addLate.pins with ejtEdges := rest, ejt := maskSet s.addLate.pins.ejt e.out e.start } ∧ OnlyParts [.clk, .fold, .pins] s.addLate t)) ∧
  (∀ (rdbk : BitVec 16) (s : State), s.phase ≠ .off → s.variant = .f → ∃ t, exec (.fieldWindowOpen rdbk) s = .next t ∧
    t.die.cur = s.die.next ∧ t.die.next = none ∧ t.die.supply = s.die.nextSupply ∧ t.die.prevSupply = s.die.supply ∧
    t.die.ready = none ∧ t.die.readback = rdbk.toNat ∧ t.die.miss = (if s.die.next.isSome then 0 else s.die.miss + 1) ∧
    (s.die.nextSupply = 2 ∨ t.die.cfgok = false → t.die.drive = 0) ∧ goodFrame t.die.uplink = true ∧ OnlyParts [.pos, .die] s t ∧
    (s.die.ready = none → t.die.cfgok = s.die.cfgok ∧ OnlyParts [.die] s t)) ∧
  (∀ s : State, s.phase ≠ .off →
    (∀ a v, s.die.ready = some (a, v) → a ≤ 20 → ∃ t, exec .cfgMessage s = .next t ∧ t.die.ready = none ∧ Tab.get 0 t.die.conf a = v ∧
      a ∈ t.die.received ∧ t.die.cfgok = s.die.cfgok ∧
      (19 ≤ a → v ≠ s.dieFilt (a - 17) → (t.enc (a - 17)).winA = filled (s.lineLevels (a - 17)).1 ∧
        (t.enc (a - 17)).winB = filled (s.lineLevels (a - 17)).2.1 ∧ (t.enc (a - 17)).winZ = filled (s.lineLevels (a - 17)).2.2) ∧
      OnlyParts [.pos, .die] s t ∧ (a ≤ 18 → OnlyParts [.die] s t)) ∧
    (∀ v, s.die.ready = some (255, v) → ∃ t, exec .cfgCommit s = .next t ∧ t.die.ready = none ∧
      t.die.cfgok = (s.die.cfgok || (List.range 21).all fun i => s.die.received.contains i) ∧ OnlyParts [.die] s t) ∧
    ((∀ a v, s.die.ready = some (a, v) → 20 < a) → exec .cfgMessage s = .next s) ∧
    ((∀ a v, s.die.ready = some (a, v) → a ≠ 255) → exec .cfgCommit s = .next s)) ∧
  (∀ s : State, s.phase ≠ .off → s.variant = .f →
    (8 ≤ s.die.miss → ∃ t, exec .fieldSafeState s = .next t ∧ t.die = { s.die with safe := true, drive := 0, overload := 0 } ∧ OnlyParts [.die] s t) ∧
    (s.die.miss < 8 → exec .fieldSafeState s = .next s) ∧
    (8 ≤ s.die.bad → ∃ t, exec (.isoAlignLoss true) s = .next t ∧ t.die = { s.die with aligned := false, good := 0 } ∧ OnlyParts [.die] s t) ∧
    (8 ≤ s.link.bad → ∃ t, exec (.isoAlignLoss false) s = .next t ∧ t.fld FI_LINK_STATE = 0 ∧ t.link = { s.link with good := 0 } ∧
      OnlyFields [FI_LINK_STATE] s t ∧ OnlyParts [.regs, .link] s t) ∧
    (s.die.bad < 8 → exec (.isoAlignLoss true) s = .next s) ∧ (s.link.bad < 8 → exec (.isoAlignLoss false) s = .next s)) ∧
  (∀ (err : BitVec 96) (s : State), s.phase ≠ .off → s.variant = .f → goodFrame (disturb s.die.uplink err) = false → ∃ t,
    exec (.uplinkFrameReceive err) s = .next t ∧ t.fld FI_LINKERR_UP_BAD = (s.fld FI_LINKERR_UP_BAD + 1) % 4294967296 ∧
    t.link.good = 0 ∧ t.link.bad = s.link.bad + 1 ∧ t.link.lost = s.link.lost + 1 ∧ t.link.back = 0 ∧ t.link.prevLost = true ∧
    t.link.sent = (if s.link.prevLost then s.link.sent.tail else s.link.sent) ∧
    (s.link.prevLost = false → OnlyFields [FI_LINKERR_UP_BAD] s t ∧ OnlyParts [.regs, .link] s t)) ∧
  (∀ (err : BitVec 96) (s : State), s.phase ≠ .off → s.variant = .f →
    let b := disturb s.die.uplink err
    goodFrame b = true →
    (s.fld FI_LINK_STATE ≠ 2 → s.link.good < 3 → ∃ t, exec (.uplinkFrameReceive err) s = .next t ∧ t.fld FI_LINK_STATE = 1 ∧
      t.link.good = s.link.good + 1 ∧ t.link.bad = 0 ∧ t.link.lost = s.link.lost + 1 ∧ t.link.back = 0) ∧
    (s.fld FI_LINK_STATE = 2 ∨ 3 ≤ s.link.good → ∃ t, exec (.uplinkFrameReceive err) s = .next t ∧ t.fld FI_LINK_STATE = 2 ∧ t.fld FI_OUT_RDBK = dLe b 3 2 ∧
      t.fld FI_SUPPLY_STATE = bits (dByte b 5) 1 2 ∧ t.fld FI_IN_LEVEL = dLe b 1 2 ∧ t.isOn FI_LINK_CFGOK = bit (dByte b 5) 3 ∧
      t.isOn FI_FAULT_FAULT = bit (dByte b 5) 0 ∧ t.link.bad = 0 ∧
      t.link.back = (if bit (dByte b 5) 6 && bit (dByte b 5) 3 then s.link.back + 1 else 0))) ∧
  (∀ s : State, s.phase ≠ .off → s.variant = .f →
    (8 ≤ s.link.lost → s.isOn FI_LINK_FIELD_LOST = false → ∃ t, exec .fieldLost s = .next t ∧ t.isOn FI_LINK_FIELD_LOST = true ∧
      t.fld FI_LINK_LOST_CNT = (s.fld FI_LINK_LOST_CNT + 1) % 65536 ∧ t.isOn FI_IN_VALID = false ∧ t.isOn MG_HOLD_FIELD = true ∧
      (s.isOn MG_HOLD_FIELD = false → t.pins.healthy = false)) ∧
    (s.link.lost < 8 ∨ s.isOn FI_LINK_FIELD_LOST = true → exec .fieldLost s = .next s) ∧
    (64 ≤ s.link.back → s.isOn FI_LINK_FIELD_LOST = true → ∃ t, exec .fieldBack s = .next t ∧ t.isOn FI_LINK_FIELD_LOST = false ∧
      t.isOn MG_HOLD_FIELD = false) ∧
    (s.link.back < 64 ∨ s.isOn FI_LINK_FIELD_LOST = false → exec .fieldBack s = .next s))

/-- O57. The field terminals: each of their events changes the field die's own record of it, where the terminal is fitted and the check is on; an output that
trips turns off until it has cooled. FF-3260-N has none of them. HEALTHY toggles every 500 µs while no hold stands, and is low otherwise. -/
def Obligations.FieldTerminalsAndHealthy : Prop :=
  (∀ (i : Fin 16) (s : State), s.phase ≠ .off → s.variant = .f →
    (∀ level : Bool, ∃ t, exec (.inputFilterChange i level) s = .next t ∧ t.die = { s.die with inputs := t.die.inputs } ∧ t.die.inputs.testBit i = level ∧
      (∀ k : Fin 16, k ≠ i → t.die.inputs.testBit k = s.die.inputs.testBit k) ∧ OnlyParts [.die] s t) ∧
    (s.die.wbEn i = true → ∃ t, exec (.wireBreak i) s = .next t ∧ t.die = { s.die with wireBreak := t.die.wireBreak } ∧
      t.die.wireBreak.testBit i = true ∧ t.die.inputLevels.testBit i = false ∧ OnlyParts [.die] s t) ∧
    (s.die.wbEn i = false → exec (.wireBreak i) s = .next s) ∧
    (∃ t, exec (.wireBreakClear i) s = .next t ∧ t.die = { s.die with wireBreak := t.die.wireBreak } ∧ t.die.wireBreak.testBit i = false ∧
      OnlyParts [.die] s t) ∧
    (∀ acts : Bool, ∃ t, exec (.outputOverload i acts) s = .next t ∧ t.die = { s.die with overload := t.die.overload } ∧
      t.die.overload.testBit i = (acts && s.die.drive.testBit i && !s.die.tripped.testBit i) ∧ OnlyParts [.die] s t) ∧
    (∃ t, exec (.readbackMismatch i) s = .next t ∧ t.die = { s.die with mismatch := t.die.mismatch } ∧ t.die.mismatch.testBit i = true ∧
      OnlyParts [.die] s t) ∧
    (s.die.conducts i = true → ∃ t, exec (.thermalShutdown i) s = .next t ∧
      t.die.tripped.testBit i = true ∧ t.die.overload.testBit i = false ∧ Tab.get 0 t.die.tripTime i = s.clk.enc ∧ t.die.conducts i = false ∧
      t.die.drive = s.die.drive ∧ OnlyParts [.die] s t) ∧
    (s.die.conducts i = false → exec (.thermalShutdown i) s = .next s) ∧
    (s.die.tripped.testBit i = true → s.die.drive.testBit i = true → ∃ t, exec (.thermalRestart i) s = .next t ∧ t.die.conducts i = true ∧
      t.clk.enc = max s.clk.enc (2000000 + Tab.get 0 s.die.tripTime i) ∧ OnlyParts [.clk, .die] s t) ∧
    (s.die.tripped.testBit i = false ∨ s.die.drive.testBit i = false → exec (.thermalRestart i) s = .next s)) ∧
  (∀ (st : Fin 3) (s : State), s.phase ≠ .off → s.variant = .f → ∃ t, exec (.supplyCrossing st) s = .next t ∧
    t.die = { s.die with nextSupply := st } ∧ OnlyParts [.die] s t) ∧
  (∀ (i : Fin 16) (b : Bool) (st : Fin 3) (s : State), s.phase ≠ .off → s.variant = .n →
    ∀ c ∈ [Instr.inputFilterChange i b, .wireBreak i, .wireBreakClear i, .outputOverload i b, .readbackMismatch i, .thermalShutdown i,
      .thermalRestart i, .supplyCrossing st], exec c s = .next s) ∧
  (∀ s : State, s.phase ≠ .off → ∃ t, exec .healthyToggle s = .next t ∧
    t.pins.healthy = (decide (s.holdMask = 0) && !s.pins.healthy) ∧ t.pins.healthyTime = t.clk.enc ∧
    t.clk.enc = max s.clk.enc (100000 + s.pins.healthyTime) ∧ OnlyParts [.clk, .pins] s t)

/-! ## Packages, recovery, identity, supervision and power -/

/-- O58. Package requests: VERIFY checks an EMPTY slot and leaves it VERIFIED or EMPTY with the first failure's code; ADMIT binds a verified package to its client;
RELEASE empties an admitted slot whose client is not enabled; PROMOTE erases the section's flash, programs it and makes the slot ready; START begins a warm
start. Each completes with its code, BUSY, SLOT or FORMAT among them; outside RUNNING, behind a running check, and for another operation, nothing happens. -/
def Obligations.PackageRequests : Prop :=
  (∀ (s : State) (p : Instr × Nat), p ∈ [(Instr.pkgVerify, 1), (.pkgAdmit, 2), (.pkgRelease, 3), (.pkgPromote, 4), (.pkgStart, 5)] → s.phase ≠ .off →
    (s.phase ≠ .running ∨ s.pkg.verify.isSome = true ∨ s.pkg.queue = [] ∨
      (∃ q rest, s.pkg.queue = q :: rest ∧ q.op ≠ p.2 ∧ 1 ≤ q.op ∧ q.op ≤ 5) → exec p.1 s = .next s) ∧
    (∀ q rest, s.phase = .running → s.pkg.verify = none → s.pkg.queue = q :: rest → q.op = 0 ∨ 5 < q.op →
      exec p.1 s = .next (State.pkgDone { s with pkg := { s.pkg with queue := rest } } q 3))) ∧
  (∀ s : State, s.phase ≠ .off → (s.phase ≠ .running ∨ s.pkg.verify = none → exec (.pkgVerifyDone []) s = .next s) ∧
    ∀ (fate : Fin 3) (reads : Bool), s.phase ≠ .running ∨ s.pkg.flash = none → exec (.promoteFlashDone fate reads) s = .next s) ∧
  ∀ (q : PkgReq) (rest : List PkgReq) (s : State), s.phase = .running →
    let done (c : Instr) (result : Nat) (more : State → Prop) : Prop := ∃ u, exec c s = .next (u.raise 0x0E01 q.op result) ∧
      u.fld MG_PKGSTAT_DONE_SEQ = q.seq % 256 ∧ u.fld MG_PKGSTAT_RESULT = result % 32 ∧ more u
    (s.pkg.verify = none → s.pkg.queue = q :: rest → q.slot < 4 →
      (q.op = 1 →
        (q.slot < s.candSlots → s.slotState q.slot = 0 → ∃ t, exec .pkgVerify s = .next t ∧ t.pkg.verify = some q ∧ t.pkg.queue = rest ∧
          t.fld MG_PKGSTAT_STATE = 1 ∧ OnlyFields [MG_PKGSTAT_STATE] s t ∧ OnlyParts [.regs, .pkg] s t) ∧
        (s.candSlots ≤ q.slot ∨ s.slotState q.slot ≠ 0 → done .pkgVerify 2 fun u => u.pkg.queue = rest ∧ u.pkg.verify = none)) ∧
      (q.op = 2 → s.slotState q.slot ≠ 1 ∨ (∀ h, s.content q.slot ≠ .package h) → done .pkgAdmit 2 fun u => u.slotState q.slot = s.slotState q.slot ∧
        u.content q.slot = s.content q.slot ∧ u.pkg.queue = rest) ∧
      (q.op = 2 → s.slotState q.slot = 1 → ∀ h, s.content q.slot = .package h →
        let p := readPack (s.peekN (s.candAddr q.slot) s.candSize)
        let b := s.peekN (s.candAddr q.slot) p.size
        let c := p.relocate b (s.candSite q.slot)
        (s.admitFlaws q.client p b c.isSome = [] → done .pkgAdmit 0 fun u => u.slotState q.slot = 2 ∧
          Tab.get 64 u.pkg.client q.slot = q.client ∧ u.pkg.queue = rest) ∧
        (∀ code l, s.admitFlaws q.client p b c.isSome = code :: l → done .pkgAdmit code fun u => u.slotState q.slot = 1 ∧
          OnlyFields [MG_PKGSTAT_DONE_SEQ, MG_PKGSTAT_RESULT, MG_PKGSTAT_STATE] s u ∧ OnlyParts [.regs, .pkg] s u)) ∧
      (q.op = 3 → s.slotState q.slot ≠ 2 → done .pkgRelease 2 fun u => u.slotState q.slot = s.slotState q.slot ∧ u.pkg.queue = rest) ∧
      (q.op = 3 → s.slotState q.slot = 2 →
        (s.isOn (SH_CCFG_EN (Tab.get 64 s.pkg.client q.slot)) = false → done .pkgRelease 0 fun u => u.slotState q.slot = 0 ∧
          u.content q.slot = .none ∧ u.pkg.queue = rest) ∧
        (s.isOn (SH_CCFG_EN (Tab.get 64 s.pkg.client q.slot)) = true → done .pkgRelease 9 fun u => u.slotState q.slot = 2)) ∧
      (q.op = 4 → s.image.write = none → s.slotState q.slot = 1 → ∀ h n, s.content q.slot = .section_ h n →
        let sec := s.peekN (s.candAddr q.slot) n
        (s.pkgState = 0 → (packsBad sec).isSome = false → (rangeBad s.variant s.imageNow.1 sec).isSome = false → ∃ t,
          exec .pkgPromote s = .next t ∧ t.pkg.flash = some q ∧ t.fld MG_PKGSTAT_STATE = 2 ∧ t.fld MG_PKGSTAT_PROGRESS = 0 ∧
          t.slotState q.slot = 3 ∧ (∀ a, custOfs ≤ a → a < custOfs + custMax → Tab.get 0xFF t.image.flash a = 0xFF) ∧
          (∀ a, a < custOfs ∨ custOfs + custMax ≤ a → Tab.get 0xFF t.image.flash a = Tab.get 0xFF s.image.flash a) ∧
          OnlyParts [.regs, .pkg, .image] s t) ∧
        (s.pkgState = 0 → (packsBad sec).isSome = true ∨ (rangeBad s.variant s.imageNow.1 sec).isSome = true → done .pkgPromote 3 fun u =>
          u.slotState q.slot = 1 ∧ u.image = s.image)) ∧
      (q.op = 4 → s.pkgState ≠ 0 ∨ s.image.write.isSome = true → done .pkgPromote 1 fun u =>
        u.slotState q.slot = s.slotState q.slot ∧ u.image = s.image ∧ u.pkg.queue = rest) ∧
      (q.op = 4 → s.pkgState = 0 → s.image.write = none → s.slotState q.slot ≠ 1 ∨ (∀ h n, s.content q.slot ≠ .section_ h n) →
        done .pkgPromote 2 fun u => u.slotState q.slot = s.slotState q.slot ∧ u.image = s.image) ∧
      (q.op = 5 →
        (s.pkgState = 3 → s.image.write = none → ∃ t, exec .pkgStart s = .next t ∧ t.phase = .warm 2 ∧ t.fld MG_START_KIND = 2 ∧ t.fld MG_START_CAUSE = 9 ∧
          t.start.t0 = s.clk.enc) ∧
        (s.pkgState ≠ 3 ∨ s.image.write.isSome = true → done .pkgStart 1 fun u => u.phase = .running ∧ u.pkg.queue = rest))) ∧
    (s.pkg.verify = some q → q.slot < 4 → (∀ u ∈ unitsOf (s.candAddr q.slot) s.candSize, s.mark u = .clean) →
      let v := s.verifyBytes (s.peekN (s.candAddr q.slot) s.candSize)
      (v.2 = 0 → done (.pkgVerifyDone []) 0 fun u => u.slotState q.slot = 1 ∧ u.content q.slot = v.1 ∧ u.pkg.verify = none) ∧
      (v.2 ≠ 0 → done (.pkgVerifyDone []) v.2 fun u => u.content q.slot = s.content q.slot ∧ u.pkg.verify = none ∧
        OnlyFields [MG_PKGSTAT_DONE_SEQ, MG_PKGSTAT_RESULT, MG_PKGSTAT_STATE] s u ∧ OnlyParts [.regs, .pkg] s u)) ∧
    (s.pkg.verify = some q → ∀ u, State.read { s with pkg := { s.pkg with verify := none } } (s.candAddr q.slot) s.candSize = (u, none) →
      exec (.pkgVerifyDone []) s = .next (u.pkgDone q 4)) ∧
    (s.pkg.flash = some q → q.slot < 4 →
      (∀ reads : Bool, done (.promoteFlashDone 1 reads) 12 fun u => u.slotState q.slot = 1 ∧ u.pkg.flash = none ∧ u.image = s.image) ∧
      (∀ reads : Bool, done (.promoteFlashDone 2 reads) 13 fun u => u.slotState q.slot = 1 ∧ u.pkg.flash = none ∧ u.image.copyOk = false) ∧
      (let sec := s.slotSection q.slot
       let v := ((State.setFld { s with pkg := { s.pkg with flash := none } } MG_PKGSTAT_PROGRESS ((sec.length + 1023) / 1024)).setFlash
          custOfs sec).place (copyBase + custOfs) sec
       (∀ reads, (v.imageBurns v.imageNow.1 sec reads).2 = false → done (.promoteFlashDone 0 reads) 14 fun u => u.slotState q.slot = 1 ∧
          u.pkg.flash = none ∧ u.pkg.ready = s.pkg.ready) ∧
       (∀ reads, (v.imageBurns v.imageNow.1 sec reads).2 = true → ∃ u : State,
          exec (.promoteFlashDone 0 reads) s = .next (if q.auto then (u.raise 0x0E01 q.op 0).startPromoted else u.raise 0x0E01 q.op 0) ∧
          u.fld MG_PKGSTAT_DONE_SEQ = q.seq % 256 ∧ u.fld MG_PKGSTAT_RESULT = 0 ∧ u.fld MG_PKGSTAT_STATE = 3 ∧ u.pkg.ready = some q.slot ∧
          u.pkg.flash = none ∧ u.image.copyOk = true ∧ ∀ i < sec.length, Tab.get 0xFF u.image.flash (custOfs + i) = sec.getD i 0)))

/-- O59. Recovery requests, in RUNNING and in Paddock mode: LOAD copies the staging buffers to the image copy area, CHECK tests the staged image, WRITE erases and programs the flash from it,
RESTART begins a cold start with the failed-start counts cleared; each completes with its code and phase, BUSY where DDR5 is not up or the operation may not
run, FORMAT where it is none of these. -/
def Obligations.RecoveryRequests : Prop :=
  (∀ (s : State) (p : Instr × Nat), p ∈ [(Instr.recoveryLoad, 1), (.recoveryCheck, 2), (.recoveryWrite, 3), (.recoveryRestart, 4)] → s.phase ≠ .off →
    (s.servingAll = false ∨ s.image.check.isSome = true ∨ s.image.write.isSome = true ∨ s.image.recovery = [] ∨
      (∃ q rest, s.image.recovery = q :: rest ∧ q.op ≠ p.2 ∧ 1 ≤ q.op ∧ q.op ≤ 4) → exec p.1 s = .next s) ∧
    (∀ q rest, s.servingAll = true → s.image.check = none → s.image.write = none → s.image.recovery = q :: rest →
      (q.op = p.2 ∨ q.op = 0 ∨ 4 < q.op → s.image.ddrUp = false →
        exec p.1 s = .next (State.padDone { s with image := { s.image with recovery := rest } } q 1 s.padPhase)) ∧
      (q.op = 0 ∨ 4 < q.op → s.image.ddrUp = true →
        exec p.1 s = .next (State.padDone { s with image := { s.image with recovery := rest } } q 3 s.padPhase)))) ∧
  (∀ s : State, s.phase ≠ .off → (s.servingAll = false ∨ s.image.check = none → exec .recoveryCheckDone s = .next s) ∧
    ∀ (fate : Fin 3) (reads : Bool), s.servingAll = false ∨ s.image.write = none ∨ s.staged? = none → exec (.recoveryWriteDone fate reads) s = .next s) ∧
  ∀ (q : PadReq) (rest : List PadReq) (s : State), s.phase = .running ∨ s.phase = .paddock →
    let done (c : Instr) (result phase : Nat) (more : State → Prop) : Prop := ∃ t, exec c s = .next t ∧ t.fld MG_PADSTAT_DONE_SEQ = q.seq % 256 ∧
      t.fld MG_PADSTAT_RESULT = result % 32 ∧ t.padPhase = phase % 8 ∧ more t
    (s.image.check = none → s.image.write = none → s.image.recovery = q :: rest → s.image.ddrUp = true →
      (q.op = 1 →
        (q.len ≠ 0 → q.ofs * 64 + q.len ≤ 251658240 → (∀ u ∈ unitsOf (penBase + 0x100000) q.len, s.mark u = .clean) →
          (∀ u ∈ unitsOf (copyBase + q.ofs * 64) q.len, s.mark u = .clean) → done .recoveryLoad 0 1 fun t => t.image.copyOk = false ∧
            t.image.recovery = rest ∧ t.peekN (copyBase + q.ofs * 64) q.len = s.peekN (penBase + 0x100000) q.len ∧
            (∀ a, a < copyBase + q.ofs * 64 ∨ copyBase + q.ofs * 64 + q.len ≤ a → t.peek a = s.peek a) ∧
            OnlyFields [MG_PADSTAT_DONE_SEQ, MG_PADSTAT_RESULT, MG_PADSTAT_PHASE] s t ∧ OnlyParts [.regs, .mem, .marks, .image] s t) ∧
        (q.len = 0 ∨ 251658240 < q.ofs * 64 + q.len → done .recoveryLoad 2 s.padPhase fun t => t.mem = s.mem ∧ t.image.recovery = rest)) ∧
      (q.op = 2 →
        (s.lifeNow ≠ 4 → ∃ t, exec .recoveryCheck s = .next t ∧ t.image = { s.image with recovery := rest, check := some q } ∧
          OnlyParts [.image] s t) ∧
        (s.lifeNow = 4 → done .recoveryCheck 15 s.padPhase fun t => t.image = { s.image with recovery := rest })) ∧
      (q.op = 3 →
        (s.padPhase = 2 → s.pkg.flash = none → ∃ t, exec .recoveryWrite s = .next t ∧ t.image.write = some q ∧ t.padPhase = 3 ∧ t.fld MG_PADSTAT_PROGRESS = 0 ∧
          (∀ a, fwOfs ≤ a → a < fwOfs + fwMax ∨ (custOfs ≤ a ∧ a < custOfs + custMax) → Tab.get 0xFF t.image.flash a = 0xFF) ∧
          t.image.otp = s.image.otp ∧ OnlyParts [.regs, .image] s t) ∧
        (s.padPhase ≠ 2 ∨ s.pkg.flash.isSome = true → done .recoveryWrite 1 s.padPhase fun t => t.image.flash = s.image.flash)) ∧
      (q.op = 4 →
        (s.phase = .paddock ∨ s.padPhase = 4 → ∃ t, exec .recoveryRestart s = .next t ∧ ColdStarted 6 s t ∧
          t.fld MG_START_COLD_FAIL = 0 ∧ t.fld MG_START_WARM_FAIL = 0) ∧
        (s.phase = .running → s.padPhase ≠ 4 → done .recoveryRestart 1 s.padPhase fun t => t.phase = .running))) ∧
    (s.image.check = some q →
      (∀ h fw sec, s.staged? = some (h, fw, sec) → State.imageBad { s with image := { s.image with check := none } } h fw sec = none →
        done .recoveryCheckDone 0 2 fun t => t.image = { s.image with check := none }) ∧
      (∀ h fw sec b, s.staged? = some (h, fw, sec) → State.imageBad { s with image := { s.image with check := none } } h fw sec = some b →
        done .recoveryCheckDone b.code 1 fun t => t.image.check = none ∧ t.fld MG_CFGSTAT_SOURCE = 3) ∧
      (s.staged? = none → done .recoveryCheckDone 3 1 fun t => t.image.check = none)) ∧
    (∀ h fw sec, s.image.write = some q → s.staged? = some (h, fw, sec) →
      (∀ reads : Bool, done (.recoveryWriteDone 1 reads) 12 2 fun t => t.image = { s.image with write := none }) ∧
      (∀ reads : Bool, done (.recoveryWriteDone 2 reads) 13 2 fun t => t.image = { s.image with write := none }) ∧
      (let v := State.setFld { s with image := { s.image with write := none } } MG_PADSTAT_PROGRESS
          ((fw.length + 1023) / 1024 + (sec.length + 1023) / 1024)
       ∀ reads, let r := (((v.setFlash fwOfs fw).setFlash custOfs sec).imageBurns fw sec reads).2
        (r = false → done (.recoveryWriteDone 0 reads) 14 2 fun t => t.image.write = none) ∧
        (r = true → done (.recoveryWriteDone 0 reads) 0 4 fun t => t.image.write = none ∧
          ∀ i < sec.length, Tab.get 0xFF t.image.flash (custOfs + i) = sec.getD i 0)))

/-- O60. Identity, supervision and power: an attestation spends a leaf and leaves its report, with the nonce it found, in the staging buffers; a spent tree is
replaced first; the 8,192nd signature exhausts the key; the certificate is written as it stands; what cannot be served completes with its code;
behind a waiting attestation, and without a request, nothing happens. A pass of the sequence checker consists of four writes in order and on time; a wrong or late one,
and a watchdog, hold CP and lead to a warm start. The throttle takes one step down for power or heat and one back when both have passed, and PROFILE stays at
or below the strap. -/
def Obligations.IdentitySupervisionAndPower : Prop :=
  (∀ s : State, s.phase ≠ .off → (s.servingAll = false ∨ s.ident.waiting.isSome = true ∨ s.ident.queue = [] →
      exec .attest s = .next s ∧ exec .cert s = .next s) ∧
    (s.servingAll = false ∨ s.ident.waiting = none → exec .bottomTreeDone s = .next s)) ∧
  (∀ (q : IdReq) (rest : List IdReq) (s : State), s.phase = .running ∨ s.phase = .paddock →
    let clean (n : Nat) : Prop := ∀ u ∈ unitsOf q.addr n, s.mark u = .clean
    let done (c : Instr) (result len : Nat) (more : State → Prop) : Prop := ∃ t, exec c s = .next t ∧ t.fld MG_IDDONE_DONE_SEQ = q.seq % 256 ∧
      t.fld MG_IDDONE_RESULT = result ∧ t.fld MG_IDDONE_LEN = len ∧ more t
    (s.ident.waiting = none → s.ident.queue = q :: rest →
      (q.op = 1 →
        (s.fld MG_IDSTAT_STATE = 1 → q.fits 5556 = true → s.ident.spent < 1024 → s.fld MG_IDSTAT_SIGS < 8191 → clean 5556 →
          s.image.runFw.length ≤ 32 → s.image.runCust.length ≤ 32 → done .attest 0 5556 fun t => t.ident = { s.ident with spent := s.ident.spent + 1, queue := rest } ∧
            t.fld MG_IDSTAT_SIGS = s.fld MG_IDSTAT_SIGS + 1 ∧ t.fld MG_IDSTAT_STATE = 1 ∧
            t.peekN (q.addr + 32) 32 = s.peekN (q.addr + 32) 32 ∧ (∀ a, a < q.addr ∨ q.addr + 5556 ≤ a → t.peek a = s.peek a)) ∧
        (s.fld MG_IDSTAT_STATE = 1 → q.fits 5556 = true → 1024 ≤ s.ident.spent → ∃ t, exec .attest s = .next t ∧
          t.ident = { s.ident with queue := rest, waiting := some q } ∧ OnlyParts [.ident] s t) ∧
        (s.fld MG_IDSTAT_STATE = 1 → q.fits 5556 = false → done .attest 4 0 fun t => t.ident.spent = s.ident.spent ∧ t.mem = s.mem) ∧
        (∀ code, s.fld MG_IDSTAT_STATE ≠ 1 → code = (if s.fld MG_IDSTAT_STATE = 2 then 2 else if s.fld MG_IDSTAT_STATE = 3 then 3 else 5) →
          done .attest code 0 fun t => t.ident = { s.ident with queue := rest } ∧ t.mem = s.mem) ∧
        (s.fld MG_IDSTAT_STATE = 1 → q.fits 5556 = true → s.ident.spent < 1024 → s.fld MG_IDSTAT_SIGS = 8191 → clean 5556 → ∃ u : State,
          exec .attest s = .next (u.raise 0x0E02 (s.fld MG_IDSTAT_RESV_BIT)) ∧ u.fld MG_IDSTAT_STATE = 2 ∧ u.fld MG_IDSTAT_SIGS = 8192 ∧
          u.fld MG_IDDONE_RESULT = 0)) ∧
      (q.op = 2 → s.fld MG_IDSTAT_STATE = 0 ∨ s.fld MG_IDSTAT_STATE = 4 → done .cert 5 0 fun t => t.mem = s.mem) ∧
      (q.op = 2 → s.fld MG_IDSTAT_STATE ≠ 0 → s.fld MG_IDSTAT_STATE ≠ 4 → q.fits s.cert.length = false → done .cert 4 0 fun t => t.mem = s.mem) ∧
      (q.op ≠ 1 → q.op ≠ 2 → exec .attest s = .next (State.idDone { s with ident := { s.ident with queue := rest } } q 1 0) ∧
        exec .cert s = .next (State.idDone { s with ident := { s.ident with queue := rest } } q 1 0)) ∧
      (q.op = 2 → exec .attest s = .next s) ∧ (q.op = 1 → exec .cert s = .next s) ∧
      (q.op = 2 → s.fld MG_IDSTAT_STATE ≠ 0 → s.fld MG_IDSTAT_STATE ≠ 4 → q.fits s.cert.length = true → clean s.cert.length →
        done .cert 0 s.cert.length fun t => t.peekN q.addr s.cert.length = s.cert ∧ t.ident.queue = rest ∧
          (∀ a, a < q.addr ∨ q.addr + s.cert.length ≤ a → t.peek a = s.peek a))) ∧
    (s.ident.waiting = some q → s.fld MG_IDSTAT_SIGS < 8191 → clean 5556 → done .bottomTreeDone 0 5556 fun t =>
      t.ident = { s.ident with waiting := none, tree := s.ident.tree + 1, spent := 1 } ∧ t.fld MG_IDSTAT_SIGS = s.fld MG_IDSTAT_SIGS + 1)) ∧
  (∀ (cpu : Fin 4) (num : BitVec 8) (mask : BitVec 4) (s : State), s.cpsRun = true →
    let good := cpu.val = s.health.cpu ∧ num.toNat = s.health.pass ∧ (cpu = 3 → s.clk.enc ≤ 200000 + s.health.passTime)
    (good → cpu ≠ 3 → ∃ t, exec (.sequenceWrite cpu num mask) s = .next t ∧ t.health = { s.health with cpu := s.health.cpu + 1 } ∧
      OnlyParts [.health] s t) ∧
    (good → cpu = 3 → ∃ t, exec (.sequenceWrite cpu num mask) s = .next t ∧ t.health = { s.health with
        cpu := 0, pass := (s.health.pass + 1) % 256, passTime := s.clk.enc, passes := min (s.health.passes + 1) 2 } ∧
      (1 ≤ s.health.passes → s.health.cpUntilCold = false → s.phase ≠ .warm 2 → t.isOn MG_HOLD_CP = false)) ∧
    (¬good → s.phase = .running → ∃ t, exec (.sequenceWrite cpu num mask) s = .next t ∧ t.phase = .warm 2 ∧ t.fld MG_START_CAUSE = 10 ∧
      t.fld MG_WDSTAT_SEQ_CNT = (s.fld MG_WDSTAT_SEQ_CNT + 1) % 65536 ∧ t.isOn MG_HOLD_CP = true)) ∧
  (∀ (mask : BitVec 4) (s : State), s.phase = .running →
    (∃ t, exec (.sequenceLate mask) s = .next t ∧ t.phase = .warm 2 ∧ t.fld MG_START_CAUSE = 10 ∧ t.isOn MG_HOLD_CP = true ∧
      t.fld MG_WDSTAT_SEQ_CNT = (s.fld MG_WDSTAT_SEQ_CNT + 1) % 65536 ∧ t.clk.enc = max s.clk.enc (200000 + s.health.passTime)) ∧
    (∀ cpu : Fin 4, ∃ t, exec (.mgWatchdog cpu false 0 mask) s = .next t ∧ t.phase = .warm 2 ∧ t.fld MG_START_CAUSE = 10 ∧
      t.isOn MG_HOLD_CP = true ∧ t.fld MG_WDSTAT_WD_CNT = (s.fld MG_WDSTAT_WD_CNT + 1) % 65536)) ∧
  (∀ (avg1 avg100 vin : BitVec 16) (td : BitVec 8) (s : State), s.phase ≠ .off →
    let p := profilePower (s.fld MG_PWRSTAT_PROFILE)
    let now := max s.clk.enc (20000 + s.health.thrTime)
    let power := 115 * p < 100 * avg1.toNat ∨ 97 * p < 100 * avg100.toNat
    (¬power → td.toInt < 105 → s.health.coolFrom = none → ∃ t, exec (.throttleEval avg1 avg100 td vin) s = .next t ∧ t.clk.enc = now ∧
      t.fld MG_PWRSTAT_VIN = vin.toNat ∧ t.fld MG_PWRSTAT_PIN = avg100.toNat ∧ t.sfld MG_THRSTAT_T_D = td.toInt ∧
      t.fld MG_THRSTAT_STEP = s.fld MG_THRSTAT_STEP ∧ t.fld MG_THRSTAT_DUTY = s.fld MG_THRSTAT_DUTY ∧
      (100 * avg100.toNat < 80 * p → td.toInt ≤ 100 → t.health.coolFrom = some now)) ∧
    (∀ t0, ¬power → 100 * avg100.toNat < 80 * p → td.toInt ≤ 100 → s.health.coolFrom = some t0 → 2000000 + t0 ≤ now →
      2000000 + s.health.thrChange ≤ now →
      (0 < s.fld MG_THRSTAT_DUTY → s.fld MG_THRSTAT_DUTY ≤ 4 → ∃ t, exec (.throttleEval avg1 avg100 td vin) s = .next t ∧
        t.fld MG_THRSTAT_DUTY = s.fld MG_THRSTAT_DUTY - 1 ∧ t.fld MG_THRSTAT_STEP = s.fld MG_THRSTAT_STEP % 4 ∧ t.health.thrChange = now) ∧
      (s.fld MG_THRSTAT_DUTY = 0 → s.capStep < s.fld MG_THRSTAT_STEP → s.fld MG_THRSTAT_STEP ≤ 3 → ∃ t,
        exec (.throttleEval avg1 avg100 td vin) s = .next t ∧ t.fld MG_THRSTAT_STEP = s.fld MG_THRSTAT_STEP - 1 ∧ t.health.thrChange = now)) ∧
    (power ∨ 105 ≤ td.toInt → 200000 + s.health.thrChange ≤ now → s.fld MG_THRSTAT_STEP < 3 → ∃ t,
      exec (.throttleEval avg1 avg100 td vin) s = .next t ∧ t.fld MG_THRSTAT_STEP = s.fld MG_THRSTAT_STEP + 1 ∧
      (power → t.fld MG_THRSTAT_CAUSE = 1) ∧ (¬power → t.fld MG_THRSTAT_CAUSE = 2) ∧ t.health.thrChange = now) ∧
    (power ∨ 105 ≤ td.toInt → 200000 + s.health.thrChange ≤ now → s.fld MG_THRSTAT_STEP = 3 → s.fld MG_THRSTAT_DUTY < 4 → ∃ t,
      exec (.throttleEval avg1 avg100 td vin) s = .next t ∧ t.fld MG_THRSTAT_DUTY = s.fld MG_THRSTAT_DUTY + 1 ∧ t.health.thrChange = now)) ∧
  (∀ (v : BitVec 32) (s : State), s.phase ≠ .off →
    (v.toNat % 4 = 3 ∨ s.fld MG_PWRSTAT_STRAP < v.toNat % 4 → exec (.profileWrite v) s = .next s) ∧
    (v.toNat % 4 ≠ 3 → v.toNat % 4 ≤ s.fld MG_PWRSTAT_STRAP → ∃ t, exec (.profileWrite v) s = .next t ∧
      t.fld MG_PWRCFG_PROFILE = v.toNat % 4 ∧ t.fld MG_PWRSTAT_PROFILE = v.toNat % 4 ∧ 2 - v.toNat % 4 ≤ t.fld MG_THRSTAT_STEP ∧
      OnlyParts [.regs] s t ∧ OnlyFields [MG_PWRCFG_PROFILE, MG_PWRSTAT_PROFILE, MG_THRSTAT_STEP] s t))
end

