-- ==== Sys2Proof/Laws/Tab.lean ====
section
/-! SUPPORT. The laws of sparse tables: what a read after a write gives, and that writes keep the canonical form. -/

namespace Sys2Proof

variable {α : Type}

/-- A removed key reads as an unlisted one. -/
theorem Tab.get_del_self (d : α) (t : Tab α) (k : Nat) : Tab.get d (Tab.del t k) k = d := by
  induction t with
  | nil => rfl
  | cons p t ih =>
    obtain ⟨k', v⟩ := p
    simp only [Tab.del]
    split
    · exact ih
    · rename_i h
      simp [Tab.get, h, ih]

/-- Removing a key leaves every other key. -/
theorem Tab.get_del_other (d : α) (t : Tab α) (k j : Nat) (h : j ≠ k) : Tab.get d (Tab.del t k) j = Tab.get d t j := by
  induction t with
  | nil => rfl
  | cons p t ih =>
    obtain ⟨k', v⟩ := p
    simp only [Tab.del]
    split
    · rename_i hk
      subst hk
      simp [Tab.get, h, ih]
    · simp [Tab.get, ih]

/-- A key reads as the value put at it. -/
theorem Tab.get_put_self (d : α) (t : Tab α) (k : Nat) (v : α) : Tab.get d (Tab.put t k v) k = v := by
  induction t with
  | nil => simp [Tab.put, Tab.get]
  | cons p t ih =>
    obtain ⟨k', w⟩ := p
    simp only [Tab.put]
    split
    · simp [Tab.get]
    · split
      · simp [Tab.get]
      · rename_i h
        simp [Tab.get, h, ih]

/-- Putting at a key leaves every other key. -/
theorem Tab.get_put_other (d : α) (t : Tab α) (k j : Nat) (v : α) (h : j ≠ k) : Tab.get d (Tab.put t k v) j = Tab.get d t j := by
  induction t with
  | nil => simp [Tab.put, Tab.get, h]
  | cons p t ih =>
    obtain ⟨k', w⟩ := p
    simp only [Tab.put]
    split
    · simp [Tab.get, h]
    · split
      · rename_i hk
        subst hk
        simp [Tab.get, h]
      · simp [Tab.get, ih]

/-- A read after a write to the same key gives the value written. -/
theorem Tab.get_set_self [DecidableEq α] (d : α) (t : Tab α) (k : Nat) (v : α) : Tab.get d (Tab.set d t k v) k = v := by
  unfold Tab.set
  split
  · rename_i h
    rw [h, Tab.get_del_self]
  · exact Tab.get_put_self d t k v

/-- A write leaves every other key alone. -/
theorem Tab.get_set_other [DecidableEq α] (d : α) (t : Tab α) (k j : Nat) (v : α) (h : j ≠ k) :
    Tab.get d (Tab.set d t k v) j = Tab.get d t j := by
  unfold Tab.set
  split
  · exact Tab.get_del_other d t k j h
  · exact Tab.get_put_other d t k j v h

/-- A write to another key of a table whose unlisted keys read otherwise. -/
theorem Tab.get_set_other' [DecidableEq α] (d d' : α) (t : Tab α) (k j : Nat) (v : α) (h : j ≠ k) :
    Tab.get d' (Tab.set d t k v) j = Tab.get d' t j := by
  unfold Tab.set
  split
  · exact Tab.get_del_other d' t k j h
  · exact Tab.get_put_other d' t k j v h

/-- Keys that rise from a place rise from any place below it. -/
theorem Tab.risesFrom_le {lo lo' : Nat} (h : lo' ≤ lo) (t : Tab α) (ht : Tab.risesFrom lo t = true) : Tab.risesFrom lo' t = true := by
  cases t with
  | nil => rfl
  | cons p t =>
    obtain ⟨k, v⟩ := p
    simp only [Tab.risesFrom, Bool.and_eq_true, decide_eq_true_eq] at *
    exact ⟨by omega, ht.2⟩

theorem Tab.risesFrom_del (k : Nat) (t : Tab α) : ∀ lo, Tab.risesFrom lo t = true → Tab.risesFrom lo (Tab.del t k) = true := by
  induction t with
  | nil => intro lo h; exact h
  | cons p t ih =>
    obtain ⟨k', v⟩ := p
    intro lo h
    simp only [Tab.risesFrom, Bool.and_eq_true, decide_eq_true_eq] at h
    simp only [Tab.del]
    split
    · exact ih lo (Tab.risesFrom_le (by omega) t h.2)
    · simp only [Tab.risesFrom, Bool.and_eq_true, decide_eq_true_eq]
      exact ⟨h.1, ih _ h.2⟩

theorem Tab.risesFrom_put (k : Nat) (v : α) (t : Tab α) :
    ∀ lo, lo ≤ k → Tab.risesFrom lo t = true → Tab.risesFrom lo (Tab.put t k v) = true := by
  induction t with
  | nil => intro lo hk _; simpa [Tab.put, Tab.risesFrom] using hk
  | cons p t ih =>
    obtain ⟨k', w⟩ := p
    intro lo hk h
    simp only [Tab.risesFrom, Bool.and_eq_true, decide_eq_true_eq] at h
    simp only [Tab.put]
    split
    · simp only [Tab.risesFrom, Bool.and_eq_true, decide_eq_true_eq]
      exact ⟨hk, by omega, h.2⟩
    · split
      · simp only [Tab.risesFrom, Bool.and_eq_true, decide_eq_true_eq]
        rename_i e
        exact ⟨hk, by rw [e]; exact h.2⟩
      · simp only [Tab.risesFrom, Bool.and_eq_true, decide_eq_true_eq]
        exact ⟨h.1, ih _ (by omega) h.2⟩

/-- A write keeps the keys rising. -/
theorem Tab.risesFrom_set [DecidableEq α] (d : α) (t : Tab α) (k : Nat) (v : α) (h : Tab.risesFrom 0 t = true) :
    Tab.risesFrom 0 (Tab.set d t k v) = true := by
  unfold Tab.set
  split
  · exact Tab.risesFrom_del k t 0 h
  · exact Tab.risesFrom_put k v t 0 (Nat.zero_le k) h

theorem Tab.mem_del {k : Nat} {t : Tab α} {p : Nat × α} (h : p ∈ Tab.del t k) : p ∈ t := by
  induction t with
  | nil => exact h
  | cons q t ih =>
    obtain ⟨k', v⟩ := q
    simp only [Tab.del] at h
    split at h
    · exact List.mem_cons_of_mem _ (ih h)
    · rcases List.mem_cons.mp h with h | h
      · exact h ▸ List.mem_cons_self
      · exact List.mem_cons_of_mem _ (ih h)

theorem Tab.mem_put {k : Nat} {v : α} {t : Tab α} {p : Nat × α} (h : p ∈ Tab.put t k v) : p = (k, v) ∨ p ∈ t := by
  induction t with
  | nil => simpa [Tab.put] using h
  | cons q t ih =>
    obtain ⟨k', w⟩ := q
    simp only [Tab.put] at h
    split at h
    · simpa using h
    · split at h
      · rcases List.mem_cons.mp h with h | h
        · exact .inl h
        · exact .inr (List.mem_cons_of_mem _ h)
      · rcases List.mem_cons.mp h with h | h
        · exact .inr (h ▸ List.mem_cons_self)
        · rcases ih h with h | h
          · exact .inl h
          · exact .inr (List.mem_cons_of_mem _ h)

/-- A write keeps the canonical form. -/
theorem Tab.wf_set [DecidableEq α] (d : α) (t : Tab α) (k : Nat) (v : α) (h : Tab.wf d t = true) : Tab.wf d (Tab.set d t k v) = true := by
  simp only [Tab.wf, Bool.and_eq_true, List.all_eq_true, decide_eq_true_eq] at *
  refine ⟨Tab.risesFrom_set d t k v h.1, fun p hp => ?_⟩
  unfold Tab.set at hp
  split at hp
  · exact h.2 p (Tab.mem_del hp)
  · rcases Tab.mem_put hp with e | e
    · rw [e]; assumption
    · exact h.2 p e

theorem Tab.risesFrom_filter (f : Nat × α → Bool) (t : Tab α) : ∀ lo, Tab.risesFrom lo t = true → Tab.risesFrom lo (t.filter f) = true := by
  induction t with
  | nil => intro lo h; exact h
  | cons p t ih =>
    obtain ⟨k, v⟩ := p
    intro lo h
    simp only [Tab.risesFrom, Bool.and_eq_true, decide_eq_true_eq] at h
    rw [List.filter_cons]
    split
    · simp only [Tab.risesFrom, Bool.and_eq_true, decide_eq_true_eq]
      exact ⟨h.1, ih _ h.2⟩
    · exact ih lo (Tab.risesFrom_le (by omega) t h.2)

/-- Keeping some of the entries keeps the canonical form. -/
theorem Tab.wf_filter [DecidableEq α] (d : α) (f : Nat × α → Bool) (t : Tab α) (h : Tab.wf d t = true) : Tab.wf d (t.filter f) = true := by
  simp only [Tab.wf, Bool.and_eq_true, List.all_eq_true] at *
  exact ⟨Tab.risesFrom_filter f t 0 h.1, fun p hp => h.2 p (List.mem_of_mem_filter hp)⟩

end Sys2Proof
end

