-- ==== Sys2Proof/Laws/Effect.lean ====
section
/-! SUPPORT. What a command can touch: `Eff m s t` says that `t` comes from `s` with the queue and the ordering code as they were, canonical
forms kept, no burnt OTP bit lost, and every unit of the state whose bit of `m` is clear unchanged. -/

namespace Sys2Proof.Machine

/-- An effect confined to the units whose bits are set in `m`. -/
structure Eff (m : Nat) (s t : State) : Prop where
  pending : t.pending = s.pending
  variant : t.variant = s.variant
  wf : s.wf = true → t.wf = true
  otp : OtpGrows s t
  phase : m.testBit 0 = false → t.phase = s.phase
  regs : m.testBit 1 = false → t.regs = s.regs
  mem : m.testBit 2 = false → t.mem = s.mem
  marks : m.testBit 3 = false → t.marks = s.marks
  rings : m.testBit 4 = false → t.rings = s.rings
  clk : m.testBit 5 = false → t.clk = s.clk
  ev : m.testBit 6 = false → t.ev = s.ev
  pos : m.testBit 7 = false → t.pos = s.pos
  fold : m.testBit 8 = false → t.fold = s.fold
  shep : m.testBit 9 = false → t.shep = s.shep
  cores : m.testBit 10 = false → t.cores = s.cores
  lamb : m.testBit 11 = false → t.lamb = s.lamb
  drove : m.testBit 12 = false → t.drove = s.drove
  link : m.testBit 13 = false → t.link = s.link
  die : m.testBit 14 = false → t.die = s.die
  audit : m.testBit 15 = false → t.audit = s.audit
  lanes : m.testBit 16 = false → t.lanes = s.lanes
  streams : m.testBit 17 = false → t.streams = s.streams
  px : m.testBit 18 = false → t.px = s.px
  replay : m.testBit 19 = false → t.replay = s.replay
  ptpHold : m.testBit 20 = false → t.ptpHold = s.ptpHold
  pair : m.testBit 21 = false → t.pair = s.pair
  ptp : m.testBit 22 = false → t.ptp = s.ptp
  bell : m.testBit 23 = false → t.bell = s.bell
  dma : m.testBit 24 = false → t.dma = s.dma
  host : m.testBit 25 = false → t.host = s.host
  halves : m.testBit 26 = false → t.halves = s.halves
  pkg : m.testBit 27 = false → t.pkg = s.pkg
  image : m.testBit 28 = false → t.image = s.image
  ident : m.testBit 29 = false → t.ident = s.ident
  start : m.testBit 30 = false → t.start = s.start
  health : m.testBit 31 = false → t.health = s.health
  pins : m.testBit 32 = false → t.pins = s.pins
  free : m.testBit 33 = false → t.free = s.free

/-- A bit clear in a mask is clear in a mask below it. -/
theorem testBit_below {m' m : Nat} (h : m' ||| m = m) {i : Nat} (hi : m.testBit i = false) : m'.testBit i = false := by
  have := congrArg (fun x => x.testBit i) h
  simp only [Nat.testBit_or, hi] at this
  simpa using this

theorem OtpGrows.refl (s : State) : OtpGrows s s := fun _ _ h => h

theorem OtpGrows.trans {s t u : State} (h : OtpGrows s t) (h' : OtpGrows t u) : OtpGrows s u := fun a i x => h' a i (h a i x)

theorem OtpGrows.of_eq {s t : State} (h : t.image.otp = s.image.otp) : OtpGrows s t := fun _ _ x => by rw [h]; exact x

theorem Eff.refl (m : Nat) (s : State) : Eff m s s :=
  ⟨rfl, rfl, id, OtpGrows.refl s,
    fun _ => rfl, fun _ => rfl, fun _ => rfl, fun _ => rfl, fun _ => rfl, fun _ => rfl, fun _ => rfl, fun _ => rfl, fun _ => rfl, fun _ => rfl, fun _ => rfl, fun _ => rfl, fun _ => rfl, fun _ => rfl, fun _ => rfl, fun _ => rfl, fun _ => rfl, fun _ => rfl, fun _ => rfl, fun _ => rfl, fun _ => rfl, fun _ => rfl, fun _ => rfl, fun _ => rfl, fun _ => rfl, fun _ => rfl, fun _ => rfl, fun _ => rfl, fun _ => rfl, fun _ => rfl, fun _ => rfl, fun _ => rfl, fun _ => rfl, fun _ => rfl⟩

/-- Two effects in a row. -/
theorem Eff.app {M m : Nat} {s t u : State} (h : Eff M s t) (h' : Eff m t u) (hm : m ||| M = M) : Eff M s u :=
  ⟨h'.pending.trans h.pending, h'.variant.trans h.variant, fun x => h'.wf (h.wf x), h.otp.trans h'.otp,
    fun x => (h'.phase (testBit_below hm x)).trans (h.phase x),
    fun x => (h'.regs (testBit_below hm x)).trans (h.regs x),
    fun x => (h'.mem (testBit_below hm x)).trans (h.mem x),
    fun x => (h'.marks (testBit_below hm x)).trans (h.marks x),
    fun x => (h'.rings (testBit_below hm x)).trans (h.rings x),
    fun x => (h'.clk (testBit_below hm x)).trans (h.clk x),
    fun x => (h'.ev (testBit_below hm x)).trans (h.ev x),
    fun x => (h'.pos (testBit_below hm x)).trans (h.pos x),
    fun x => (h'.fold (testBit_below hm x)).trans (h.fold x),
    fun x => (h'.shep (testBit_below hm x)).trans (h.shep x),
    fun x => (h'.cores (testBit_below hm x)).trans (h.cores x),
    fun x => (h'.lamb (testBit_below hm x)).trans (h.lamb x),
    fun x => (h'.drove (testBit_below hm x)).trans (h.drove x),
    fun x => (h'.link (testBit_below hm x)).trans (h.link x),
    fun x => (h'.die (testBit_below hm x)).trans (h.die x),
    fun x => (h'.audit (testBit_below hm x)).trans (h.audit x),
    fun x => (h'.lanes (testBit_below hm x)).trans (h.lanes x),
    fun x => (h'.streams (testBit_below hm x)).trans (h.streams x),
    fun x => (h'.px (testBit_below hm x)).trans (h.px x),
    fun x => (h'.replay (testBit_below hm x)).trans (h.replay x),
    fun x => (h'.ptpHold (testBit_below hm x)).trans (h.ptpHold x),
    fun x => (h'.pair (testBit_below hm x)).trans (h.pair x),
    fun x => (h'.ptp (testBit_below hm x)).trans (h.ptp x),
    fun x => (h'.bell (testBit_below hm x)).trans (h.bell x),
    fun x => (h'.dma (testBit_below hm x)).trans (h.dma x),
    fun x => (h'.host (testBit_below hm x)).trans (h.host x),
    fun x => (h'.halves (testBit_below hm x)).trans (h.halves x),
    fun x => (h'.pkg (testBit_below hm x)).trans (h.pkg x),
    fun x => (h'.image (testBit_below hm x)).trans (h.image x),
    fun x => (h'.ident (testBit_below hm x)).trans (h.ident x),
    fun x => (h'.start (testBit_below hm x)).trans (h.start x),
    fun x => (h'.health (testBit_below hm x)).trans (h.health x),
    fun x => (h'.pins (testBit_below hm x)).trans (h.pins x),
    fun x => (h'.free (testBit_below hm x)).trans (h.free x)⟩

theorem Eff.mono {M m : Nat} {s t : State} (h : Eff m s t) (hm : m ||| M = M) : Eff M s t := (Eff.refl M s).app h hm

/-- The two branches of a conditional. -/
theorem Eff.ite {m : Nat} {s t u : State} {p : Prop} [Decidable p] (h : p → Eff m s t) (h' : ¬p → Eff m s u) : Eff m s (if p then t else u) := by
  split
  · exact h ‹_›
  · exact h' ‹_›

/-- The two branches of a conditional that answers a state and something more. -/
theorem Eff.ite1 {β : Type} {m : Nat} {s : State} {t u : State × β} {p : Prop} [Decidable p] (h : p → Eff m s t.1) (h' : ¬p → Eff m s u.1) :
    Eff m s (if p then t else u).1 := by
  split
  · exact h ‹_›
  · exact h' ‹_›

theorem Eff.fst {β : Type} {m : Nat} {s t : State} {b : β} (h : Eff m s t) : Eff m s (t, b).1 := h

/-- An effect repeated over a list. -/
theorem Eff.foldl {α : Type} {m : Nat} {f : State → α → State} (h : ∀ s x, Eff m s (f s x)) (l : List α) (s : State) :
    Eff m s (l.foldl f s) := by
  induction l generalizing s with
  | nil => exact Eff.refl m s
  | cons x t ih => exact (h s x).app (ih _) (Nat.or_self m)

/-- An effect repeated over a list, with something carried along. -/
theorem Eff.foldlp {α β : Type} {m : Nat} {f : State × β → α → State × β} (h : ∀ p x, Eff m p.1 (f p x).1) (l : List α) (p : State × β) :
    Eff m p.1 (l.foldl f p).1 := by
  induction l generalizing p with
  | nil => exact Eff.refl m p.1
  | cons x t ih => exact (h p x).app (ih _) (Nat.or_self m)

/-- What is carried along with the state is taken apart. -/
theorem Eff.of_pair {β : Type} {m : Nat} {s t : State} {p : State × β} {b : β} (h : Eff m s p.1) (hp : p = (t, b)) : Eff m s t := by
  subst hp; exact h

/-- A state given as an option. -/
theorem Eff.of_some {m : Nat} {s t : State} {p : Option State} (h : ∀ u, p = some u → Eff m s u) (hp : p = some t) : Eff m s t := h t hp

/-- An effect that may not take place. -/
structure EffO (m : Nat) (s : State) (o : Option State) : Prop where
  all : ∀ t, o = some t → Eff m s t

theorem EffO.get {m : Nat} {s t : State} {o : Option State} (h : EffO m s o) (e : o = some t) : Eff m s t := h.all t e

theorem EffO.none {m : Nat} {s : State} : EffO m s Option.none := ⟨fun _ h => nomatch h⟩

theorem EffO.some {m : Nat} {s t : State} (h : Eff m s t) : EffO m s (Option.some t) := ⟨fun _ e => Option.some.inj e ▸ h⟩

theorem EffO.ite {m : Nat} {s : State} {t u : Option State} {p : Prop} [Decidable p] (h : p → EffO m s t) (h' : ¬p → EffO m s u) :
    EffO m s (if p then t else u) := by
  split
  · exact h ‹_›
  · exact h' ‹_›

/-- The first of several that takes place. -/
theorem EffO.findSome {α : Type} {m : Nat} {s : State} {f : α → Option State} (h : ∀ x, EffO m s (f x)) (l : List α) :
    EffO m s (l.findSome? f) := by
  refine ⟨fun t ht => ?_⟩
  obtain ⟨x, -, hx⟩ := List.exists_of_findSome?_eq_some ht
  exact (h x).all t hx

theorem EffO.mono {M m : Nat} {s : State} {o : Option State} (h : EffO m s o) (hm : m ||| M = M) : EffO M s o := ⟨fun t ht => (h.all t ht).mono hm⟩

theorem Eff.set_phase (s : State) (v) : Eff 1 s { s with phase := v } :=
  ⟨rfl, rfl, id, fun _ _ h => h, fun h => absurd h (by decide), fun _ => rfl, fun _ => rfl, fun _ => rfl, fun _ => rfl, fun _ => rfl, fun _ => rfl, fun _ => rfl, fun _ => rfl, fun _ => rfl, fun _ => rfl, fun _ => rfl, fun _ => rfl, fun _ => rfl, fun _ => rfl, fun _ => rfl, fun _ => rfl, fun _ => rfl, fun _ => rfl, fun _ => rfl, fun _ => rfl, fun _ => rfl, fun _ => rfl, fun _ => rfl, fun _ => rfl, fun _ => rfl, fun _ => rfl, fun _ => rfl, fun _ => rfl, fun _ => rfl, fun _ => rfl, fun _ => rfl, fun _ => rfl, fun _ => rfl⟩

theorem Eff.set_clk (s : State) (v) : Eff 32 s { s with clk := v } :=
  ⟨rfl, rfl, id, fun _ _ h => h, fun _ => rfl, fun _ => rfl, fun _ => rfl, fun _ => rfl, fun _ => rfl, fun h => absurd h (by decide), fun _ => rfl, fun _ => rfl, fun _ => rfl, fun _ => rfl, fun _ => rfl, fun _ => rfl, fun _ => rfl, fun _ => rfl, fun _ => rfl, fun _ => rfl, fun _ => rfl, fun _ => rfl, fun _ => rfl, fun _ => rfl, fun _ => rfl, fun _ => rfl, fun _ => rfl, fun _ => rfl, fun _ => rfl, fun _ => rfl, fun _ => rfl, fun _ => rfl, fun _ => rfl, fun _ => rfl, fun _ => rfl, fun _ => rfl, fun _ => rfl, fun _ => rfl⟩

theorem Eff.set_ev (s : State) (v) : Eff 64 s { s with ev := v } :=
  ⟨rfl, rfl, id, fun _ _ h => h, fun _ => rfl, fun _ => rfl, fun _ => rfl, fun _ => rfl, fun _ => rfl, fun _ => rfl, fun h => absurd h (by decide), fun _ => rfl, fun _ => rfl, fun _ => rfl, fun _ => rfl, fun _ => rfl, fun _ => rfl, fun _ => rfl, fun _ => rfl, fun _ => rfl, fun _ => rfl, fun _ => rfl, fun _ => rfl, fun _ => rfl, fun _ => rfl, fun _ => rfl, fun _ => rfl, fun _ => rfl, fun _ => rfl, fun _ => rfl, fun _ => rfl, fun _ => rfl, fun _ => rfl, fun _ => rfl, fun _ => rfl, fun _ => rfl, fun _ => rfl, fun _ => rfl⟩

theorem Eff.set_pos (s : State) (v) : Eff 128 s { s with pos := v } :=
  ⟨rfl, rfl, id, fun _ _ h => h, fun _ => rfl, fun _ => rfl, fun _ => rfl, fun _ => rfl, fun _ => rfl, fun _ => rfl, fun _ => rfl, fun h => absurd h (by decide), fun _ => rfl, fun _ => rfl, fun _ => rfl, fun _ => rfl, fun _ => rfl, fun _ => rfl, fun _ => rfl, fun _ => rfl, fun _ => rfl, fun _ => rfl, fun _ => rfl, fun _ => rfl, fun _ => rfl, fun _ => rfl, fun _ => rfl, fun _ => rfl, fun _ => rfl, fun _ => rfl, fun _ => rfl, fun _ => rfl, fun _ => rfl, fun _ => rfl, fun _ => rfl, fun _ => rfl, fun _ => rfl, fun _ => rfl⟩

theorem Eff.set_fold (s : State) (v) : Eff 256 s { s with fold := v } :=
  ⟨rfl, rfl, id, fun _ _ h => h, fun _ => rfl, fun _ => rfl, fun _ => rfl, fun _ => rfl, fun _ => rfl, fun _ => rfl, fun _ => rfl, fun _ => rfl, fun h => absurd h (by decide), fun _ => rfl, fun _ => rfl, fun _ => rfl, fun _ => rfl, fun _ => rfl, fun _ => rfl, fun _ => rfl, fun _ => rfl, fun _ => rfl, fun _ => rfl, fun _ => rfl, fun _ => rfl, fun _ => rfl, fun _ => rfl, fun _ => rfl, fun _ => rfl, fun _ => rfl, fun _ => rfl, fun _ => rfl, fun _ => rfl, fun _ => rfl, fun _ => rfl, fun _ => rfl, fun _ => rfl, fun _ => rfl⟩

theorem Eff.set_shep (s : State) (v) : Eff 512 s { s with shep := v } :=
  ⟨rfl, rfl, id, fun _ _ h => h, fun _ => rfl, fun _ => rfl, fun _ => rfl, fun _ => rfl, fun _ => rfl, fun _ => rfl, fun _ => rfl, fun _ => rfl, fun _ => rfl, fun h => absurd h (by decide), fun _ => rfl, fun _ => rfl, fun _ => rfl, fun _ => rfl, fun _ => rfl, fun _ => rfl, fun _ => rfl, fun _ => rfl, fun _ => rfl, fun _ => rfl, fun _ => rfl, fun _ => rfl, fun _ => rfl, fun _ => rfl, fun _ => rfl, fun _ => rfl, fun _ => rfl, fun _ => rfl, fun _ => rfl, fun _ => rfl, fun _ => rfl, fun _ => rfl, fun _ => rfl, fun _ => rfl⟩

theorem Eff.set_cores (s : State) (v) : Eff 1024 s { s with cores := v } :=
  ⟨rfl, rfl, id, fun _ _ h => h, fun _ => rfl, fun _ => rfl, fun _ => rfl, fun _ => rfl, fun _ => rfl, fun _ => rfl, fun _ => rfl, fun _ => rfl, fun _ => rfl, fun _ => rfl, fun h => absurd h (by decide), fun _ => rfl, fun _ => rfl, fun _ => rfl, fun _ => rfl, fun _ => rfl, fun _ => rfl, fun _ => rfl, fun _ => rfl, fun _ => rfl, fun _ => rfl, fun _ => rfl, fun _ => rfl, fun _ => rfl, fun _ => rfl, fun _ => rfl, fun _ => rfl, fun _ => rfl, fun _ => rfl, fun _ => rfl, fun _ => rfl, fun _ => rfl, fun _ => rfl, fun _ => rfl⟩

theorem Eff.set_lamb (s : State) (v) : Eff 2048 s { s with lamb := v } :=
  ⟨rfl, rfl, id, fun _ _ h => h, fun _ => rfl, fun _ => rfl, fun _ => rfl, fun _ => rfl, fun _ => rfl, fun _ => rfl, fun _ => rfl, fun _ => rfl, fun _ => rfl, fun _ => rfl, fun _ => rfl, fun h => absurd h (by decide), fun _ => rfl, fun _ => rfl, fun _ => rfl, fun _ => rfl, fun _ => rfl, fun _ => rfl, fun _ => rfl, fun _ => rfl, fun _ => rfl, fun _ => rfl, fun _ => rfl, fun _ => rfl, fun _ => rfl, fun _ => rfl, fun _ => rfl, fun _ => rfl, fun _ => rfl, fun _ => rfl, fun _ => rfl, fun _ => rfl, fun _ => rfl, fun _ => rfl⟩

theorem Eff.set_drove (s : State) (v) : Eff 4096 s { s with drove := v } :=
  ⟨rfl, rfl, id, fun _ _ h => h, fun _ => rfl, fun _ => rfl, fun _ => rfl, fun _ => rfl, fun _ => rfl, fun _ => rfl, fun _ => rfl, fun _ => rfl, fun _ => rfl, fun _ => rfl, fun _ => rfl, fun _ => rfl, fun h => absurd h (by decide), fun _ => rfl, fun _ => rfl, fun _ => rfl, fun _ => rfl, fun _ => rfl, fun _ => rfl, fun _ => rfl, fun _ => rfl, fun _ => rfl, fun _ => rfl, fun _ => rfl, fun _ => rfl, fun _ => rfl, fun _ => rfl, fun _ => rfl, fun _ => rfl, fun _ => rfl, fun _ => rfl, fun _ => rfl, fun _ => rfl, fun _ => rfl⟩

theorem Eff.set_link (s : State) (v) : Eff 8192 s { s with link := v } :=
  ⟨rfl, rfl, id, fun _ _ h => h, fun _ => rfl, fun _ => rfl, fun _ => rfl, fun _ => rfl, fun _ => rfl, fun _ => rfl, fun _ => rfl, fun _ => rfl, fun _ => rfl, fun _ => rfl, fun _ => rfl, fun _ => rfl, fun _ => rfl, fun h => absurd h (by decide), fun _ => rfl, fun _ => rfl, fun _ => rfl, fun _ => rfl, fun _ => rfl, fun _ => rfl, fun _ => rfl, fun _ => rfl, fun _ => rfl, fun _ => rfl, fun _ => rfl, fun _ => rfl, fun _ => rfl, fun _ => rfl, fun _ => rfl, fun _ => rfl, fun _ => rfl, fun _ => rfl, fun _ => rfl, fun _ => rfl⟩

theorem Eff.set_die (s : State) (v) : Eff 16384 s { s with die := v } :=
  ⟨rfl, rfl, id, fun _ _ h => h, fun _ => rfl, fun _ => rfl, fun _ => rfl, fun _ => rfl, fun _ => rfl, fun _ => rfl, fun _ => rfl, fun _ => rfl, fun _ => rfl, fun _ => rfl, fun _ => rfl, fun _ => rfl, fun _ => rfl, fun _ => rfl, fun h => absurd h (by decide), fun _ => rfl, fun _ => rfl, fun _ => rfl, fun _ => rfl, fun _ => rfl, fun _ => rfl, fun _ => rfl, fun _ => rfl, fun _ => rfl, fun _ => rfl, fun _ => rfl, fun _ => rfl, fun _ => rfl, fun _ => rfl, fun _ => rfl, fun _ => rfl, fun _ => rfl, fun _ => rfl, fun _ => rfl⟩

theorem Eff.set_audit (s : State) (v) : Eff 32768 s { s with audit := v } :=
  ⟨rfl, rfl, id, fun _ _ h => h, fun _ => rfl, fun _ => rfl, fun _ => rfl, fun _ => rfl, fun _ => rfl, fun _ => rfl, fun _ => rfl, fun _ => rfl, fun _ => rfl, fun _ => rfl, fun _ => rfl, fun _ => rfl, fun _ => rfl, fun _ => rfl, fun _ => rfl, fun h => absurd h (by decide), fun _ => rfl, fun _ => rfl, fun _ => rfl, fun _ => rfl, fun _ => rfl, fun _ => rfl, fun _ => rfl, fun _ => rfl, fun _ => rfl, fun _ => rfl, fun _ => rfl, fun _ => rfl, fun _ => rfl, fun _ => rfl, fun _ => rfl, fun _ => rfl, fun _ => rfl, fun _ => rfl⟩

theorem Eff.set_lanes (s : State) (v) : Eff 65536 s { s with lanes := v } :=
  ⟨rfl, rfl, id, fun _ _ h => h, fun _ => rfl, fun _ => rfl, fun _ => rfl, fun _ => rfl, fun _ => rfl, fun _ => rfl, fun _ => rfl, fun _ => rfl, fun _ => rfl, fun _ => rfl, fun _ => rfl, fun _ => rfl, fun _ => rfl, fun _ => rfl, fun _ => rfl, fun _ => rfl, fun h => absurd h (by decide), fun _ => rfl, fun _ => rfl, fun _ => rfl, fun _ => rfl, fun _ => rfl, fun _ => rfl, fun _ => rfl, fun _ => rfl, fun _ => rfl, fun _ => rfl, fun _ => rfl, fun _ => rfl, fun _ => rfl, fun _ => rfl, fun _ => rfl, fun _ => rfl, fun _ => rfl⟩

theorem Eff.set_streams (s : State) (v) : Eff 131072 s { s with streams := v } :=
  ⟨rfl, rfl, id, fun _ _ h => h, fun _ => rfl, fun _ => rfl, fun _ => rfl, fun _ => rfl, fun _ => rfl, fun _ => rfl, fun _ => rfl, fun _ => rfl, fun _ => rfl, fun _ => rfl, fun _ => rfl, fun _ => rfl, fun _ => rfl, fun _ => rfl, fun _ => rfl, fun _ => rfl, fun _ => rfl, fun h => absurd h (by decide), fun _ => rfl, fun _ => rfl, fun _ => rfl, fun _ => rfl, fun _ => rfl, fun _ => rfl, fun _ => rfl, fun _ => rfl, fun _ => rfl, fun _ => rfl, fun _ => rfl, fun _ => rfl, fun _ => rfl, fun _ => rfl, fun _ => rfl, fun _ => rfl⟩

theorem Eff.set_px (s : State) (v) : Eff 262144 s { s with px := v } :=
  ⟨rfl, rfl, id, fun _ _ h => h, fun _ => rfl, fun _ => rfl, fun _ => rfl, fun _ => rfl, fun _ => rfl, fun _ => rfl, fun _ => rfl, fun _ => rfl, fun _ => rfl, fun _ => rfl, fun _ => rfl, fun _ => rfl, fun _ => rfl, fun _ => rfl, fun _ => rfl, fun _ => rfl, fun _ => rfl, fun _ => rfl, fun h => absurd h (by decide), fun _ => rfl, fun _ => rfl, fun _ => rfl, fun _ => rfl, fun _ => rfl, fun _ => rfl, fun _ => rfl, fun _ => rfl, fun _ => rfl, fun _ => rfl, fun _ => rfl, fun _ => rfl, fun _ => rfl, fun _ => rfl, fun _ => rfl⟩

theorem Eff.set_replay (s : State) (v) : Eff 524288 s { s with replay := v } :=
  ⟨rfl, rfl, id, fun _ _ h => h, fun _ => rfl, fun _ => rfl, fun _ => rfl, fun _ => rfl, fun _ => rfl, fun _ => rfl, fun _ => rfl, fun _ => rfl, fun _ => rfl, fun _ => rfl, fun _ => rfl, fun _ => rfl, fun _ => rfl, fun _ => rfl, fun _ => rfl, fun _ => rfl, fun _ => rfl, fun _ => rfl, fun _ => rfl, fun h => absurd h (by decide), fun _ => rfl, fun _ => rfl, fun _ => rfl, fun _ => rfl, fun _ => rfl, fun _ => rfl, fun _ => rfl, fun _ => rfl, fun _ => rfl, fun _ => rfl, fun _ => rfl, fun _ => rfl, fun _ => rfl, fun _ => rfl⟩

theorem Eff.set_ptpHold (s : State) (v) : Eff 1048576 s { s with ptpHold := v } :=
  ⟨rfl, rfl, id, fun _ _ h => h, fun _ => rfl, fun _ => rfl, fun _ => rfl, fun _ => rfl, fun _ => rfl, fun _ => rfl, fun _ => rfl, fun _ => rfl, fun _ => rfl, fun _ => rfl, fun _ => rfl, fun _ => rfl, fun _ => rfl, fun _ => rfl, fun _ => rfl, fun _ => rfl, fun _ => rfl, fun _ => rfl, fun _ => rfl, fun _ => rfl, fun h => absurd h (by decide), fun _ => rfl, fun _ => rfl, fun _ => rfl, fun _ => rfl, fun _ => rfl, fun _ => rfl, fun _ => rfl, fun _ => rfl, fun _ => rfl, fun _ => rfl, fun _ => rfl, fun _ => rfl, fun _ => rfl⟩

theorem Eff.set_pair (s : State) (v) : Eff 2097152 s { s with pair := v } :=
  ⟨rfl, rfl, id, fun _ _ h => h, fun _ => rfl, fun _ => rfl, fun _ => rfl, fun _ => rfl, fun _ => rfl, fun _ => rfl, fun _ => rfl, fun _ => rfl, fun _ => rfl, fun _ => rfl, fun _ => rfl, fun _ => rfl, fun _ => rfl, fun _ => rfl, fun _ => rfl, fun _ => rfl, fun _ => rfl, fun _ => rfl, fun _ => rfl, fun _ => rfl, fun _ => rfl, fun h => absurd h (by decide), fun _ => rfl, fun _ => rfl, fun _ => rfl, fun _ => rfl, fun _ => rfl, fun _ => rfl, fun _ => rfl, fun _ => rfl, fun _ => rfl, fun _ => rfl, fun _ => rfl, fun _ => rfl⟩

theorem Eff.set_ptp (s : State) (v) : Eff 4194304 s { s with ptp := v } :=
  ⟨rfl, rfl, id, fun _ _ h => h, fun _ => rfl, fun _ => rfl, fun _ => rfl, fun _ => rfl, fun _ => rfl, fun _ => rfl, fun _ => rfl, fun _ => rfl, fun _ => rfl, fun _ => rfl, fun _ => rfl, fun _ => rfl, fun _ => rfl, fun _ => rfl, fun _ => rfl, fun _ => rfl, fun _ => rfl, fun _ => rfl, fun _ => rfl, fun _ => rfl, fun _ => rfl, fun _ => rfl, fun h => absurd h (by decide), fun _ => rfl, fun _ => rfl, fun _ => rfl, fun _ => rfl, fun _ => rfl, fun _ => rfl, fun _ => rfl, fun _ => rfl, fun _ => rfl, fun _ => rfl, fun _ => rfl⟩

theorem Eff.set_bell (s : State) (v) : Eff 8388608 s { s with bell := v } :=
  ⟨rfl, rfl, id, fun _ _ h => h, fun _ => rfl, fun _ => rfl, fun _ => rfl, fun _ => rfl, fun _ => rfl, fun _ => rfl, fun _ => rfl, fun _ => rfl, fun _ => rfl, fun _ => rfl, fun _ => rfl, fun _ => rfl, fun _ => rfl, fun _ => rfl, fun _ => rfl, fun _ => rfl, fun _ => rfl, fun _ => rfl, fun _ => rfl, fun _ => rfl, fun _ => rfl, fun _ => rfl, fun _ => rfl, fun h => absurd h (by decide), fun _ => rfl, fun _ => rfl, fun _ => rfl, fun _ => rfl, fun _ => rfl, fun _ => rfl, fun _ => rfl, fun _ => rfl, fun _ => rfl, fun _ => rfl⟩

theorem Eff.set_dma (s : State) (v) : Eff 16777216 s { s with dma := v } :=
  ⟨rfl, rfl, id, fun _ _ h => h, fun _ => rfl, fun _ => rfl, fun _ => rfl, fun _ => rfl, fun _ => rfl, fun _ => rfl, fun _ => rfl, fun _ => rfl, fun _ => rfl, fun _ => rfl, fun _ => rfl, fun _ => rfl, fun _ => rfl, fun _ => rfl, fun _ => rfl, fun _ => rfl, fun _ => rfl, fun _ => rfl, fun _ => rfl, fun _ => rfl, fun _ => rfl, fun _ => rfl, fun _ => rfl, fun _ => rfl, fun h => absurd h (by decide), fun _ => rfl, fun _ => rfl, fun _ => rfl, fun _ => rfl, fun _ => rfl, fun _ => rfl, fun _ => rfl, fun _ => rfl, fun _ => rfl⟩

theorem Eff.set_host (s : State) (v) : Eff 33554432 s { s with host := v } :=
  ⟨rfl, rfl, id, fun _ _ h => h, fun _ => rfl, fun _ => rfl, fun _ => rfl, fun _ => rfl, fun _ => rfl, fun _ => rfl, fun _ => rfl, fun _ => rfl, fun _ => rfl, fun _ => rfl, fun _ => rfl, fun _ => rfl, fun _ => rfl, fun _ => rfl, fun _ => rfl, fun _ => rfl, fun _ => rfl, fun _ => rfl, fun _ => rfl, fun _ => rfl, fun _ => rfl, fun _ => rfl, fun _ => rfl, fun _ => rfl, fun _ => rfl, fun h => absurd h (by decide), fun _ => rfl, fun _ => rfl, fun _ => rfl, fun _ => rfl, fun _ => rfl, fun _ => rfl, fun _ => rfl, fun _ => rfl⟩

theorem Eff.set_halves (s : State) (v) : Eff 67108864 s { s with halves := v } :=
  ⟨rfl, rfl, id, fun _ _ h => h, fun _ => rfl, fun _ => rfl, fun _ => rfl, fun _ => rfl, fun _ => rfl, fun _ => rfl, fun _ => rfl, fun _ => rfl, fun _ => rfl, fun _ => rfl, fun _ => rfl, fun _ => rfl, fun _ => rfl, fun _ => rfl, fun _ => rfl, fun _ => rfl, fun _ => rfl, fun _ => rfl, fun _ => rfl, fun _ => rfl, fun _ => rfl, fun _ => rfl, fun _ => rfl, fun _ => rfl, fun _ => rfl, fun _ => rfl, fun h => absurd h (by decide), fun _ => rfl, fun _ => rfl, fun _ => rfl, fun _ => rfl, fun _ => rfl, fun _ => rfl, fun _ => rfl⟩

theorem Eff.set_pkg (s : State) (v) : Eff 134217728 s { s with pkg := v } :=
  ⟨rfl, rfl, id, fun _ _ h => h, fun _ => rfl, fun _ => rfl, fun _ => rfl, fun _ => rfl, fun _ => rfl, fun _ => rfl, fun _ => rfl, fun _ => rfl, fun _ => rfl, fun _ => rfl, fun _ => rfl, fun _ => rfl, fun _ => rfl, fun _ => rfl, fun _ => rfl, fun _ => rfl, fun _ => rfl, fun _ => rfl, fun _ => rfl, fun _ => rfl, fun _ => rfl, fun _ => rfl, fun _ => rfl, fun _ => rfl, fun _ => rfl, fun _ => rfl, fun _ => rfl, fun h => absurd h (by decide), fun _ => rfl, fun _ => rfl, fun _ => rfl, fun _ => rfl, fun _ => rfl, fun _ => rfl⟩

theorem Eff.set_ident (s : State) (v) : Eff 536870912 s { s with ident := v } :=
  ⟨rfl, rfl, id, fun _ _ h => h, fun _ => rfl, fun _ => rfl, fun _ => rfl, fun _ => rfl, fun _ => rfl, fun _ => rfl, fun _ => rfl, fun _ => rfl, fun _ => rfl, fun _ => rfl, fun _ => rfl, fun _ => rfl, fun _ => rfl, fun _ => rfl, fun _ => rfl, fun _ => rfl, fun _ => rfl, fun _ => rfl, fun _ => rfl, fun _ => rfl, fun _ => rfl, fun _ => rfl, fun _ => rfl, fun _ => rfl, fun _ => rfl, fun _ => rfl, fun _ => rfl, fun _ => rfl, fun _ => rfl, fun h => absurd h (by decide), fun _ => rfl, fun _ => rfl, fun _ => rfl, fun _ => rfl⟩

theorem Eff.set_start (s : State) (v) : Eff 1073741824 s { s with start := v } :=
  ⟨rfl, rfl, id, fun _ _ h => h, fun _ => rfl, fun _ => rfl, fun _ => rfl, fun _ => rfl, fun _ => rfl, fun _ => rfl, fun _ => rfl, fun _ => rfl, fun _ => rfl, fun _ => rfl, fun _ => rfl, fun _ => rfl, fun _ => rfl, fun _ => rfl, fun _ => rfl, fun _ => rfl, fun _ => rfl, fun _ => rfl, fun _ => rfl, fun _ => rfl, fun _ => rfl, fun _ => rfl, fun _ => rfl, fun _ => rfl, fun _ => rfl, fun _ => rfl, fun _ => rfl, fun _ => rfl, fun _ => rfl, fun _ => rfl, fun h => absurd h (by decide), fun _ => rfl, fun _ => rfl, fun _ => rfl⟩

theorem Eff.set_health (s : State) (v) : Eff 2147483648 s { s with health := v } :=
  ⟨rfl, rfl, id, fun _ _ h => h, fun _ => rfl, fun _ => rfl, fun _ => rfl, fun _ => rfl, fun _ => rfl, fun _ => rfl, fun _ => rfl, fun _ => rfl, fun _ => rfl, fun _ => rfl, fun _ => rfl, fun _ => rfl, fun _ => rfl, fun _ => rfl, fun _ => rfl, fun _ => rfl, fun _ => rfl, fun _ => rfl, fun _ => rfl, fun _ => rfl, fun _ => rfl, fun _ => rfl, fun _ => rfl, fun _ => rfl, fun _ => rfl, fun _ => rfl, fun _ => rfl, fun _ => rfl, fun _ => rfl, fun _ => rfl, fun _ => rfl, fun h => absurd h (by decide), fun _ => rfl, fun _ => rfl⟩

theorem Eff.set_pins (s : State) (v) : Eff 4294967296 s { s with pins := v } :=
  ⟨rfl, rfl, id, fun _ _ h => h, fun _ => rfl, fun _ => rfl, fun _ => rfl, fun _ => rfl, fun _ => rfl, fun _ => rfl, fun _ => rfl, fun _ => rfl, fun _ => rfl, fun _ => rfl, fun _ => rfl, fun _ => rfl, fun _ => rfl, fun _ => rfl, fun _ => rfl, fun _ => rfl, fun _ => rfl, fun _ => rfl, fun _ => rfl, fun _ => rfl, fun _ => rfl, fun _ => rfl, fun _ => rfl, fun _ => rfl, fun _ => rfl, fun _ => rfl, fun _ => rfl, fun _ => rfl, fun _ => rfl, fun _ => rfl, fun _ => rfl, fun _ => rfl, fun h => absurd h (by decide), fun _ => rfl⟩

theorem Eff.set_free (s : State) (v) : Eff 8589934592 s { s with free := v } :=
  ⟨rfl, rfl, id, fun _ _ h => h, fun _ => rfl, fun _ => rfl, fun _ => rfl, fun _ => rfl, fun _ => rfl, fun _ => rfl, fun _ => rfl, fun _ => rfl, fun _ => rfl, fun _ => rfl, fun _ => rfl, fun _ => rfl, fun _ => rfl, fun _ => rfl, fun _ => rfl, fun _ => rfl, fun _ => rfl, fun _ => rfl, fun _ => rfl, fun _ => rfl, fun _ => rfl, fun _ => rfl, fun _ => rfl, fun _ => rfl, fun _ => rfl, fun _ => rfl, fun _ => rfl, fun _ => rfl, fun _ => rfl, fun _ => rfl, fun _ => rfl, fun _ => rfl, fun _ => rfl, fun h => absurd h (by decide)⟩

theorem Eff.set_image_grows (s : State) (v : Image) (h : OtpGrows s { s with image := v }) : Eff 268435456 s { s with image := v } :=
  ⟨rfl, rfl, id, h, fun _ => rfl, fun _ => rfl, fun _ => rfl, fun _ => rfl, fun _ => rfl, fun _ => rfl, fun _ => rfl, fun _ => rfl, fun _ => rfl, fun _ => rfl, fun _ => rfl, fun _ => rfl, fun _ => rfl, fun _ => rfl, fun _ => rfl, fun _ => rfl, fun _ => rfl, fun _ => rfl, fun _ => rfl, fun _ => rfl, fun _ => rfl, fun _ => rfl, fun _ => rfl, fun _ => rfl, fun _ => rfl, fun _ => rfl, fun _ => rfl, fun _ => rfl, fun h => absurd h (by decide), fun _ => rfl, fun _ => rfl, fun _ => rfl, fun _ => rfl, fun _ => rfl⟩

theorem Eff.set_image (s : State) (v : Image) (h : v.otp = s.image.otp) : Eff 268435456 s { s with image := v } :=
  ⟨rfl, rfl, id, OtpGrows.of_eq h, fun _ => rfl, fun _ => rfl, fun _ => rfl, fun _ => rfl, fun _ => rfl, fun _ => rfl, fun _ => rfl, fun _ => rfl, fun _ => rfl, fun _ => rfl, fun _ => rfl, fun _ => rfl, fun _ => rfl, fun _ => rfl, fun _ => rfl, fun _ => rfl, fun _ => rfl, fun _ => rfl, fun _ => rfl, fun _ => rfl, fun _ => rfl, fun _ => rfl, fun _ => rfl, fun _ => rfl, fun _ => rfl, fun _ => rfl, fun _ => rfl, fun _ => rfl, fun h => absurd h (by decide), fun _ => rfl, fun _ => rfl, fun _ => rfl, fun _ => rfl, fun _ => rfl⟩

theorem Eff.set_mem (s : State) (v) (h : Memory.wf s.mem = true → Memory.wf v = true) : Eff 4 s { s with mem := v } :=
  ⟨rfl, rfl, by simp only [State.wf, Bool.and_eq_true]; intro hs; simp_all, fun _ _ h => h, fun _ => rfl, fun _ => rfl, fun h => absurd h (by decide), fun _ => rfl, fun _ => rfl, fun _ => rfl, fun _ => rfl, fun _ => rfl, fun _ => rfl, fun _ => rfl, fun _ => rfl, fun _ => rfl, fun _ => rfl, fun _ => rfl, fun _ => rfl, fun _ => rfl, fun _ => rfl, fun _ => rfl, fun _ => rfl, fun _ => rfl, fun _ => rfl, fun _ => rfl, fun _ => rfl, fun _ => rfl, fun _ => rfl, fun _ => rfl, fun _ => rfl, fun _ => rfl, fun _ => rfl, fun _ => rfl, fun _ => rfl, fun _ => rfl, fun _ => rfl, fun _ => rfl⟩

theorem Eff.set_marks (s : State) (v) (h : Tab.wf .clean s.marks = true → Tab.wf .clean v = true) : Eff 8 s { s with marks := v } :=
  ⟨rfl, rfl, by simp only [State.wf, Bool.and_eq_true]; intro hs; simp_all, fun _ _ h => h, fun _ => rfl, fun _ => rfl, fun _ => rfl, fun h => absurd h (by decide), fun _ => rfl, fun _ => rfl, fun _ => rfl, fun _ => rfl, fun _ => rfl, fun _ => rfl, fun _ => rfl, fun _ => rfl, fun _ => rfl, fun _ => rfl, fun _ => rfl, fun _ => rfl, fun _ => rfl, fun _ => rfl, fun _ => rfl, fun _ => rfl, fun _ => rfl, fun _ => rfl, fun _ => rfl, fun _ => rfl, fun _ => rfl, fun _ => rfl, fun _ => rfl, fun _ => rfl, fun _ => rfl, fun _ => rfl, fun _ => rfl, fun _ => rfl, fun _ => rfl, fun _ => rfl⟩

theorem Eff.set_rings (s : State) (v) (h : Tab.wf {} s.rings = true → Tab.wf {} v = true) : Eff 16 s { s with rings := v } :=
  ⟨rfl, rfl, by simp only [State.wf, Bool.and_eq_true]; intro hs; simp_all, fun _ _ h => h, fun _ => rfl, fun _ => rfl, fun _ => rfl, fun _ => rfl, fun h => absurd h (by decide), fun _ => rfl, fun _ => rfl, fun _ => rfl, fun _ => rfl, fun _ => rfl, fun _ => rfl, fun _ => rfl, fun _ => rfl, fun _ => rfl, fun _ => rfl, fun _ => rfl, fun _ => rfl, fun _ => rfl, fun _ => rfl, fun _ => rfl, fun _ => rfl, fun _ => rfl, fun _ => rfl, fun _ => rfl, fun _ => rfl, fun _ => rfl, fun _ => rfl, fun _ => rfl, fun _ => rfl, fun _ => rfl, fun _ => rfl, fun _ => rfl, fun _ => rfl, fun _ => rfl⟩

theorem Eff.set_regs (s : State) (v) (h : regsWf s.regs = true → regsWf v = true) : Eff 2 s { s with regs := v } :=
  ⟨rfl, rfl, by simp only [State.wf, Bool.and_eq_true]; intro hs; simp_all, fun _ _ h => h, fun _ => rfl, fun h => absurd h (by decide), fun _ => rfl, fun _ => rfl, fun _ => rfl, fun _ => rfl, fun _ => rfl, fun _ => rfl, fun _ => rfl, fun _ => rfl, fun _ => rfl, fun _ => rfl, fun _ => rfl, fun _ => rfl, fun _ => rfl, fun _ => rfl, fun _ => rfl, fun _ => rfl, fun _ => rfl, fun _ => rfl, fun _ => rfl, fun _ => rfl, fun _ => rfl, fun _ => rfl, fun _ => rfl, fun _ => rfl, fun _ => rfl, fun _ => rfl, fun _ => rfl, fun _ => rfl, fun _ => rfl, fun _ => rfl, fun _ => rfl, fun _ => rfl⟩

/-- Bits of a mask with an argument's mask beside it. -/
theorem mask_or {m M0 M : Nat} (h : m ||| M0 = M0) : m ||| (M0 ||| M) = M0 ||| M := by rw [← Nat.or_assoc, h]

theorem mask_own {M0 M : Nat} : M ||| (M0 ||| M) = M0 ||| M := by rw [Nat.or_comm M0 M, ← Nat.or_assoc, Nat.or_self]

theorem Eff.set_pkg_image (s : State) (x y) (h : y.otp = s.image.otp) : Eff 402653184 s { s with pkg := x, image := y } :=
  ⟨rfl, rfl, id, OtpGrows.of_eq h, fun _ => rfl, fun _ => rfl, fun _ => rfl, fun _ => rfl, fun _ => rfl, fun _ => rfl, fun _ => rfl, fun _ => rfl, fun _ => rfl, fun _ => rfl, fun _ => rfl, fun _ => rfl, fun _ => rfl, fun _ => rfl, fun _ => rfl, fun _ => rfl, fun _ => rfl, fun _ => rfl, fun _ => rfl, fun _ => rfl, fun _ => rfl, fun _ => rfl, fun _ => rfl, fun _ => rfl, fun _ => rfl, fun _ => rfl, fun _ => rfl, fun h => absurd h (by decide), fun h => absurd h (by decide), fun _ => rfl, fun _ => rfl, fun _ => rfl, fun _ => rfl, fun _ => rfl⟩

theorem Eff.set_pos_px (s : State) (x y) : Eff 262272 s { s with pos := x, px := y } :=
  ⟨rfl, rfl, id, fun _ _ h => h, fun _ => rfl, fun _ => rfl, fun _ => rfl, fun _ => rfl, fun _ => rfl, fun _ => rfl, fun _ => rfl, fun h => absurd h (by decide), fun _ => rfl, fun _ => rfl, fun _ => rfl, fun _ => rfl, fun _ => rfl, fun _ => rfl, fun _ => rfl, fun _ => rfl, fun _ => rfl, fun _ => rfl, fun h => absurd h (by decide), fun _ => rfl, fun _ => rfl, fun _ => rfl, fun _ => rfl, fun _ => rfl, fun _ => rfl, fun _ => rfl, fun _ => rfl, fun _ => rfl, fun _ => rfl, fun _ => rfl, fun _ => rfl, fun _ => rfl, fun _ => rfl, fun _ => rfl⟩

theorem Eff.set_pkg_image_ident (s : State) (x y z) (h : y.otp = s.image.otp) : Eff 939524096 s { s with pkg := x, image := y, ident := z } :=
  ⟨rfl, rfl, id, OtpGrows.of_eq h, fun _ => rfl, fun _ => rfl, fun _ => rfl, fun _ => rfl, fun _ => rfl, fun _ => rfl, fun _ => rfl, fun _ => rfl, fun _ => rfl, fun _ => rfl, fun _ => rfl, fun _ => rfl, fun _ => rfl, fun _ => rfl, fun _ => rfl, fun _ => rfl, fun _ => rfl, fun _ => rfl, fun _ => rfl, fun _ => rfl, fun _ => rfl, fun _ => rfl, fun _ => rfl, fun _ => rfl, fun _ => rfl, fun _ => rfl, fun _ => rfl, fun h => absurd h (by decide), fun h => absurd h (by decide), fun h => absurd h (by decide), fun _ => rfl, fun _ => rfl, fun _ => rfl, fun _ => rfl⟩

theorem Eff.set_phase_start (s : State) (x y) : Eff 1073741825 s { s with phase := x, start := y } :=
  ⟨rfl, rfl, id, fun _ _ h => h, fun h => absurd h (by decide), fun _ => rfl, fun _ => rfl, fun _ => rfl, fun _ => rfl, fun _ => rfl, fun _ => rfl, fun _ => rfl, fun _ => rfl, fun _ => rfl, fun _ => rfl, fun _ => rfl, fun _ => rfl, fun _ => rfl, fun _ => rfl, fun _ => rfl, fun _ => rfl, fun _ => rfl, fun _ => rfl, fun _ => rfl, fun _ => rfl, fun _ => rfl, fun _ => rfl, fun _ => rfl, fun _ => rfl, fun _ => rfl, fun _ => rfl, fun _ => rfl, fun _ => rfl, fun _ => rfl, fun h => absurd h (by decide), fun _ => rfl, fun _ => rfl, fun _ => rfl⟩

theorem Eff.set_shep_image (s : State) (x y) (h : y.otp = s.image.otp) : Eff 268435968 s { s with shep := x, image := y } :=
  ⟨rfl, rfl, id, OtpGrows.of_eq h, fun _ => rfl, fun _ => rfl, fun _ => rfl, fun _ => rfl, fun _ => rfl, fun _ => rfl, fun _ => rfl, fun _ => rfl, fun _ => rfl, fun h => absurd h (by decide), fun _ => rfl, fun _ => rfl, fun _ => rfl, fun _ => rfl, fun _ => rfl, fun _ => rfl, fun _ => rfl, fun _ => rfl, fun _ => rfl, fun _ => rfl, fun _ => rfl, fun _ => rfl, fun _ => rfl, fun _ => rfl, fun _ => rfl, fun _ => rfl, fun _ => rfl, fun _ => rfl, fun h => absurd h (by decide), fun _ => rfl, fun _ => rfl, fun _ => rfl, fun _ => rfl, fun _ => rfl⟩

theorem Eff.set_clk_bell (s : State) (x y) : Eff 8388640 s { s with clk := x, bell := y } :=
  ⟨rfl, rfl, id, fun _ _ h => h, fun _ => rfl, fun _ => rfl, fun _ => rfl, fun _ => rfl, fun _ => rfl, fun h => absurd h (by decide), fun _ => rfl, fun _ => rfl, fun _ => rfl, fun _ => rfl, fun _ => rfl, fun _ => rfl, fun _ => rfl, fun _ => rfl, fun _ => rfl, fun _ => rfl, fun _ => rfl, fun _ => rfl, fun _ => rfl, fun _ => rfl, fun _ => rfl, fun _ => rfl, fun _ => rfl, fun h => absurd h (by decide), fun _ => rfl, fun _ => rfl, fun _ => rfl, fun _ => rfl, fun _ => rfl, fun _ => rfl, fun _ => rfl, fun _ => rfl, fun _ => rfl, fun _ => rfl⟩

theorem Eff.set_fold_lamb (s : State) (x y) : Eff 2304 s { s with fold := x, lamb := y } :=
  ⟨rfl, rfl, id, fun _ _ h => h, fun _ => rfl, fun _ => rfl, fun _ => rfl, fun _ => rfl, fun _ => rfl, fun _ => rfl, fun _ => rfl, fun _ => rfl, fun h => absurd h (by decide), fun _ => rfl, fun _ => rfl, fun h => absurd h (by decide), fun _ => rfl, fun _ => rfl, fun _ => rfl, fun _ => rfl, fun _ => rfl, fun _ => rfl, fun _ => rfl, fun _ => rfl, fun _ => rfl, fun _ => rfl, fun _ => rfl, fun _ => rfl, fun _ => rfl, fun _ => rfl, fun _ => rfl, fun _ => rfl, fun _ => rfl, fun _ => rfl, fun _ => rfl, fun _ => rfl, fun _ => rfl, fun _ => rfl⟩

theorem Eff.set_drove_pair (s : State) (x y) : Eff 2101248 s { s with drove := x, pair := y } :=
  ⟨rfl, rfl, id, fun _ _ h => h, fun _ => rfl, fun _ => rfl, fun _ => rfl, fun _ => rfl, fun _ => rfl, fun _ => rfl, fun _ => rfl, fun _ => rfl, fun _ => rfl, fun _ => rfl, fun _ => rfl, fun _ => rfl, fun h => absurd h (by decide), fun _ => rfl, fun _ => rfl, fun _ => rfl, fun _ => rfl, fun _ => rfl, fun _ => rfl, fun _ => rfl, fun _ => rfl, fun h => absurd h (by decide), fun _ => rfl, fun _ => rfl, fun _ => rfl, fun _ => rfl, fun _ => rfl, fun _ => rfl, fun _ => rfl, fun _ => rfl, fun _ => rfl, fun _ => rfl, fun _ => rfl, fun _ => rfl⟩

end Sys2Proof.Machine
end

