-- ==== Sys2Proof/Laws/EffOps.lean ====
section
/-! SUPPORT. What each operation of Machine/Ops.lean can touch, by unit of the state (see Laws/Effect.lean). -/

set_option linter.unusedVariables false
set_option linter.unusedTactic false
set_option linter.unreachableTactic false

namespace Sys2Proof.Machine

theorem State.setFld_eff (s : State) (f : Fld) (v : Nat) : Eff 2 s (s.setFld f v) :=
  Eff.set_regs s _ (fun h => Tab.risesFrom_set _ _ _ _ h)

theorem State.setSFld_eff (s : State) (f : Fld) (v : Int) : Eff 2 s (State.setSFld s f v) := by
  unfold State.setSFld
  refine Eff.app ?_ (State.setFld_eff ..) (by decide)
  exact Eff.refl _ _

theorem State.bump_eff (s : State) (f : Fld) : Eff 2 s (State.bump s f) := by
  unfold State.bump
  refine Eff.app ?_ (State.setFld_eff ..) (by decide)
  exact Eff.refl _ _

theorem State.bumpSat_eff (s : State) (f : Fld) (n : Nat) : Eff 2 s (State.bumpSat s f n) := by
  unfold State.bumpSat
  refine Eff.app ?_ (State.setFld_eff ..) (by decide)
  exact Eff.refl _ _

theorem State.setFlag_eff (s : State) (f : Fld) (b : Bool) : Eff 2 s (State.setFlag s f b) := by
  unfold State.setFlag
  refine Eff.app ?_ (State.setFld_eff ..) (by decide)
  exact Eff.refl _ _

theorem State.poke_eff (s : State) (a : Nat) (b : Byte) : Eff 4 s (s.poke a b) :=
  Eff.set_mem s _ (fun h => Tab.wf_set _ _ _ _ h)

theorem State.pokeL_eff (s : State) (a : Nat) (l : List Byte) : Eff 4 s (s.pokeL a l) := by
  induction l generalizing s a with
  | nil => exact Eff.refl _ _
  | cons b t ih => exact ((State.poke_eff s a b).mono (by decide)).app (ih _ _) (Nat.or_self _)

theorem State.setMark_eff (s : State) (a : Nat) (m : Mark) : Eff 8 s (s.setMark a m) :=
  Eff.set_marks s _ (fun h => Tab.wf_set _ _ _ _ h)

theorem State.noteCorrected_eff (s : State) (a : Nat) : Eff 2 s (State.noteCorrected s a) := by
  unfold State.noteCorrected
  refine Eff.ite (fun _ => ?_) (fun _ => ?_)
  · refine Eff.app ?_ (State.bumpSat_eff ..) (by decide)
    exact Eff.refl _ _
  · refine Eff.ite (fun _ => ?_) (fun _ => ?_)
    · refine Eff.app ?_ (State.bumpSat_eff ..) (by decide)
      exact Eff.refl _ _
    · refine Eff.ite (fun _ => ?_) (fun _ => ?_)
      · refine Eff.app ?_ (State.bumpSat_eff ..) (by decide)
        exact Eff.refl _ _
      · split
        · refine Eff.app ?_ (State.bumpSat_eff ..) (by decide)
          exact Eff.refl _ _
        · exact Eff.refl _ _

theorem State.writeUnit_eff (s : State) (a : Nat) (bs : List Byte) : Eff 14 s (State.writeUnit s a bs).1 := by
  unfold State.writeUnit
  refine Eff.ite1 (fun _ => ?_) (fun _ => ?_)
  · refine Eff.fst ?_
    refine Eff.app ?_ (State.pokeL_eff ..) (by decide)
    refine Eff.app ?_ (State.setMark_eff ..) (by decide)
    exact Eff.refl _ _
  · split
    · refine Eff.fst ?_
      refine Eff.app ?_ (State.pokeL_eff ..) (by decide)
      exact Eff.refl _ _
    · refine Eff.fst ?_
      refine Eff.app ?_ (State.pokeL_eff ..) (by decide)
      refine Eff.app ?_ (State.setMark_eff ..) (by decide)
      refine Eff.app ?_ (State.noteCorrected_eff ..) (by decide)
      exact Eff.refl _ _
    · refine Eff.ite1 (fun _ => ?_) (fun _ => ?_)
      · refine Eff.fst ?_
        exact Eff.refl _ _
      · refine Eff.fst ?_
        refine Eff.app ?_ (State.pokeL_eff ..) (by decide)
        exact Eff.refl _ _

theorem State.writeBytes_eff (s : State) (a : Nat) (bs : List Byte) : Eff 14 s (State.writeBytes s a bs).1 := by
  unfold State.writeBytes
  refine Eff.app ?_ (Eff.foldlp (m := 14) ?_ _ _) (Nat.or_self _)
  · refine Eff.fst ?_
    exact Eff.refl _ _
  · intro y0 y1
    split
    · rename_i q2
      refine Eff.fst ?_
      refine Eff.app ?_ (Eff.of_pair (State.writeUnit_eff ..) q2) (by decide)
      exact Eff.refl _ _

theorem State.setRing_eff (s : State) (r : Nat) (x : Ring) : Eff 16 s (s.setRing r x) :=
  Eff.set_rings s _ (fun h => Tab.wf_set _ _ _ _ h)

theorem State.attnUpdate_eff (s : State) (r : Nat) : Eff 4 s (State.attnUpdate s r) := by
  unfold State.attnUpdate
  extract_lets -merge -underBinder t0 t1 t2 t3
  try clear_value t0
  try clear_value t1
  try clear_value t2
  try clear_value t3
  refine Eff.app ?_ (State.poke_eff ..) (by decide)
  exact Eff.refl _ _

theorem State.writeIndex_eff (s : State) (r : Nat) : Eff 4 s (State.writeIndex s r) := by
  unfold State.writeIndex
  extract_lets -merge -underBinder t0 t1
  try clear_value t0
  have e2 : Eff 4 s t1 := by
    refine Eff.ite (fun _ => ?_) (fun _ => ?_)
    · refine Eff.app ?_ (State.pokeL_eff ..) (by decide)
      exact Eff.refl _ _
    · refine Eff.app ?_ (State.pokeL_eff ..) (by decide)
      exact Eff.refl _ _
  try clear_value t1
  refine Eff.ite (fun _ => ?_) (fun _ => ?_)
  · exact Eff.refl _ _
  · refine Eff.app ?_ (State.pokeL_eff ..) (by decide)
    exact e2

theorem State.putRing_eff (s : State) (r : Nat) (x : Ring) : Eff 20 s (State.putRing s r x) := by
  unfold State.putRing
  refine Eff.app ?_ (State.attnUpdate_eff ..) (by decide)
  refine Eff.app ?_ (State.writeIndex_eff ..) (by decide)
  refine Eff.app ?_ (State.setRing_eff ..) (by decide)
  exact Eff.refl _ _

theorem State.ringPost_eff (s : State) (r : Nat) (entry : List Byte) (slot : List Byte) : Eff 30 s (State.ringPost s r entry slot).1 := by
  unfold State.ringPost
  extract_lets -merge -underBinder t0
  try clear_value t0
  refine Eff.ite1 (fun _ => ?_) (fun _ => ?_)
  · refine Eff.fst ?_
    refine Eff.ite (fun _ => ?_) (fun _ => ?_)
    · refine Eff.app ?_ (State.putRing_eff ..) (by decide)
      exact Eff.refl _ _
    · exact Eff.refl _ _
  · split
    · rename_i q1
      split
      · rename_i q2
        extract_lets -merge -underBinder t3
        have e4 : Eff 30 s t3 := by
          refine Eff.app ?_ (State.putRing_eff ..) (by decide)
          refine Eff.app ?_ (Eff.of_pair (State.writeBytes_eff ..) q2) (by decide)
          refine Eff.app ?_ (Eff.of_pair (State.writeBytes_eff ..) q1) (by decide)
          exact Eff.refl _ _
        try clear_value t3
        refine Eff.fst ?_
        exact e4

theorem State.deliverTo_eff (s : State) (e : Event) (k : Nat) : Eff 30 s (State.deliverTo s e k).1 := by
  unfold State.deliverTo
  refine Eff.ite1 (fun _ => ?_) (fun _ => ?_)
  · split
    · refine Eff.fst ?_
      refine Eff.app ?_ (Eff.of_pair (State.ringPost_eff ..) (by assumption)) (by decide)
      exact Eff.refl _ _
    · refine Eff.fst ?_
      refine Eff.app ?_ (Eff.of_pair (State.ringPost_eff ..) (by assumption)) (by decide)
      exact Eff.refl _ _
  · refine Eff.fst ?_
    exact Eff.refl _ _

theorem State.deliver_eff (s : State) (e : Event) : Eff 30 s (State.deliver s e).1 := by
  unfold State.deliver
  refine Eff.app ?_ (Eff.foldlp (m := 30) ?_ _ _) (Nat.or_self _)
  · refine Eff.fst ?_
    exact Eff.refl _ _
  · intro y0 y1
    split
    · rename_i q2
      refine Eff.fst ?_
      refine Eff.app ?_ (Eff.of_pair (State.deliverTo_eff ..) q2) (by decide)
      exact Eff.refl _ _

theorem State.countEvent_eff (s : State) (code : Nat) : Eff 2 s (State.countEvent s code) := by
  unfold State.countEvent
  split
  · refine Eff.app ?_ (State.bump_eff ..) (by decide)
    exact Eff.refl _ _
  · refine Eff.app ?_ (State.bump_eff ..) (by decide)
    exact Eff.refl _ _
  · refine Eff.app ?_ (State.bump_eff ..) (by decide)
    exact Eff.refl _ _
  · exact Eff.refl _ _

theorem State.recordUe_eff (s : State) (a : Nat) (source : Nat) : Eff 2 s (State.recordUe s a source) := by
  unfold State.recordUe
  refine Eff.app ?_ (State.setFld_eff ..) (by decide)
  refine Eff.app ?_ (State.setFld_eff ..) (by decide)
  refine Eff.app ?_ (State.setFld_eff ..) (by decide)
  refine Eff.app ?_ (State.bumpSat_eff ..) (by decide)
  exact Eff.refl _ _

theorem State.lostEvent_eff (s : State) (a : Nat) : Eff 30 s (State.lostEvent s a) := by
  unfold State.lostEvent
  extract_lets -merge -underBinder t0
  have e1 : Eff 30 s t0 := by
    refine Eff.app ?_ (State.countEvent_eff ..) (by decide)
    refine Eff.app ?_ (State.recordUe_eff ..) (by decide)
    exact Eff.refl _ _
  try clear_value t0
  split
  · rename_i q2
    refine Eff.app ?_ (Eff.foldl (m := 30) ?_ _ _) (Nat.or_self _)
    · refine Eff.app ?_ (Eff.of_pair (State.deliver_eff ..) q2) (by decide)
      exact e1
    · intro y3 y4
      refine Eff.app ?_ (State.recordUe_eff ..) (by decide)
      exact Eff.refl _ _

theorem State.raise_eff (s : State) (code : Nat) (p0 : Nat) (p1 : Nat) (psn : Nat) : Eff 94 s (State.raise s code p0 p1 psn) := by
  unfold State.raise
  extract_lets -merge -underBinder t0 t1 t2
  try clear_value t0
  try clear_value t2
  have e3 : Eff 94 s t1 := by
    refine Eff.app ?_ (State.countEvent_eff ..) (by decide)
    exact Eff.refl _ _
  try clear_value t1
  refine Eff.ite (fun _ => ?_) (fun _ => ?_)
  · split
    · rename_i q4
      refine Eff.app ?_ (Eff.foldl (m := 94) ?_ _ _) (Nat.or_self _)
      · refine Eff.app ?_ (Eff.of_pair (State.deliver_eff ..) q4) (by decide)
        exact e3
      · intro y5 y6
        refine Eff.app ?_ (State.lostEvent_eff ..) (by decide)
        exact Eff.refl _ _
  · refine Eff.ite (fun _ => ?_) (fun _ => ?_)
    · refine Eff.app ?_ (Eff.set_ev _ _) (by decide)
      exact e3
    · refine Eff.app ?_ (State.bump_eff ..) (by decide)
      exact e3

theorem State.flushEvents_eff (s : State) : Eff 94 s (State.flushEvents s) := by
  unfold State.flushEvents
  extract_lets -merge -underBinder t0 t1
  try clear_value t0
  try clear_value t1
  refine Eff.app ?_ (Eff.foldl (m := 94) ?_ _ _) (Nat.or_self _)
  · refine Eff.app ?_ (Eff.set_ev _ _) (by decide)
    exact Eff.refl _ _
  · intro y2 y3
    split
    · rename_i q4
      refine Eff.app ?_ (Eff.foldl (m := 94) ?_ _ _) (Nat.or_self _)
      · refine Eff.app ?_ (Eff.of_pair (State.deliver_eff ..) q4) (by decide)
        exact Eff.refl _ _
      · intro y5 y6
        refine Eff.app ?_ (State.lostEvent_eff ..) (by decide)
        exact Eff.refl _ _

theorem State.noteUncorrectable_eff (s : State) (a : Nat) (source : Nat) : Eff 94 s (State.noteUncorrectable s a source) := by
  unfold State.noteUncorrectable
  refine Eff.ite (fun _ => ?_) (fun _ => ?_)
  · refine Eff.app ?_ (State.raise_eff ..) (by decide)
    refine Eff.app ?_ (State.recordUe_eff ..) (by decide)
    exact Eff.refl _ _
  · refine Eff.ite (fun _ => ?_) (fun _ => ?_)
    · refine Eff.app ?_ (State.raise_eff ..) (by decide)
      refine Eff.app ?_ (State.raise_eff ..) (by decide)
      refine Eff.app ?_ (State.bumpSat_eff ..) (by decide)
      exact Eff.refl _ _
    · refine Eff.ite (fun _ => ?_) (fun _ => ?_)
      · refine Eff.app ?_ (State.raise_eff ..) (by decide)
        refine Eff.app ?_ (State.bumpSat_eff ..) (by decide)
        exact Eff.refl _ _
      · split
        · refine Eff.app ?_ (State.raise_eff ..) (by decide)
          refine Eff.app ?_ (State.bumpSat_eff ..) (by decide)
          exact Eff.refl _ _
        · exact Eff.refl _ _

theorem State.reportRefused_eff (s : State) (l : List Nat) : Eff 94 s (State.reportRefused s l) := by
  unfold State.reportRefused
  refine Eff.app ?_ (Eff.foldl (m := 94) ?_ _ _) (Nat.or_self _)
  · exact Eff.refl _ _
  · intro y0 y1
    refine Eff.app ?_ (State.noteUncorrectable_eff ..) (by decide)
    exact Eff.refl _ _

theorem State.write_eff (s : State) (a : Nat) (bs : List Byte) : Eff 94 s (State.write s a bs).1 := by
  unfold State.write
  split
  · rename_i q0
    refine Eff.fst ?_
    refine Eff.app ?_ (State.reportRefused_eff ..) (by decide)
    refine Eff.app ?_ (Eff.of_pair (State.writeBytes_eff ..) q0) (by decide)
    exact Eff.refl _ _

theorem State.readUnit_eff (source : Nat) (s : State) (a : Nat) : Eff 94 s (State.readUnit source s a).1 := by
  unfold State.readUnit
  split
  · refine Eff.fst ?_
    exact Eff.refl _ _
  · refine Eff.fst ?_
    refine Eff.app ?_ (State.noteCorrected_eff ..) (by decide)
    exact Eff.refl _ _
  · refine Eff.fst ?_
    refine Eff.app ?_ (State.noteUncorrectable_eff ..) (by decide)
    exact Eff.refl _ _

theorem State.read_eff (s : State) (a : Nat) (n : Nat) (source : Nat) : Eff 94 s (State.read s a n source).1 := by
  unfold State.read
  split
  · rename_i q0
    refine Eff.fst ?_
    refine Eff.app ?_ (Eff.of_pair (Eff.foldlp (m := 94) ?_ _ _) q0) (Nat.or_self _)
    · refine Eff.fst ?_
      exact Eff.refl _ _
    · intro y1 y2
      refine Eff.ite1 (fun _ => ?_) (fun _ => ?_)
      · refine Eff.app ?_ (State.readUnit_eff ..) (by decide)
        exact Eff.refl _ _
      · exact Eff.refl _ _

theorem State.upset_eff (s : State) (u : Upsets) : Eff 8 s (State.upset s u) := by
  unfold State.upset
  refine Eff.app ?_ (Eff.foldl (m := 8) ?_ _ _) (Nat.or_self _)
  · exact Eff.refl _ _
  · intro y0 y1
    refine Eff.app ?_ (State.setMark_eff ..) (by decide)
    exact Eff.refl _ _

theorem State.hold_eff (s : State) (f : Fld) (b : Bool) : Eff 4294967390 s (State.hold s f b) := by
  unfold State.hold
  refine Eff.ite (fun _ => ?_) (fun _ => ?_)
  · exact Eff.refl _ _
  · extract_lets -merge -underBinder t0 t1
    try clear_value t1
    have e2 : Eff 4294967390 s t0 := by
      refine Eff.app ?_ (State.setFlag_eff ..) (by decide)
      exact Eff.refl _ _
    try clear_value t0
    refine Eff.ite (fun _ => ?_) (fun _ => ?_)
    · refine Eff.app ?_ (State.raise_eff ..) (by decide)
      refine Eff.app ?_ (Eff.set_pins _ _) (by decide)
      exact e2
    · refine Eff.ite (fun _ => ?_) (fun _ => ?_)
      · refine Eff.app ?_ (State.raise_eff ..) (by decide)
        exact e2
      · exact e2

theorem State.drawFree_eff (s : State) (w : Nat) : Eff 8589934592 s (State.drawFree s w).1 := by
  unfold State.drawFree
  refine Eff.fst ?_
  refine Eff.app ?_ (Eff.set_free _ _) (by decide)
  exact Eff.refl _ _

theorem State.drawBlock_eff (s : State) (n : Nat) : Eff 8589934592 s (State.drawBlock s n).1 := by
  unfold State.drawBlock
  refine Eff.fst ?_
  refine Eff.app ?_ (Eff.set_free _ _) (by decide)
  exact Eff.refl _ _

end Sys2Proof.Machine
end

