-- ==== Sys2Proof/Laws/EffClocks.lean ====
section
/-! SUPPORT. What each operation of Machine/Clocks.lean can touch, by unit of the state (see Laws/Effect.lean). -/

set_option linter.unusedVariables false
set_option linter.unusedTactic false
set_option linter.unreachableTactic false

namespace Sys2Proof.Machine

theorem State.advance_eff (s : State) (n : Nat) : Eff 32 s (State.advance s n) := by
  unfold State.advance
  extract_lets -merge -underBinder t0 t1 t2
  try clear_value t0
  try clear_value t1
  try clear_value t2
  refine Eff.app ?_ (Eff.set_clk _ _) (by decide)
  exact Eff.refl _ _

theorem State.advanceTo_eff (s : State) (e : Nat) : Eff 32 s (State.advanceTo s e) := by
  unfold State.advanceTo
  refine Eff.app ?_ (State.advance_eff ..) (by decide)
  exact Eff.refl _ _

theorem State.advanceDev_eff (s : State) (t : Nat) : Eff 32 s (State.advanceDev s t) := by
  unfold State.advanceDev
  refine Eff.app ?_ (State.advanceTo_eff ..) (by decide)
  exact Eff.refl _ _

theorem State.advanceBw_eff (s : State) (t : Nat) : Eff 32 s (State.advanceBw s t) := by
  unfold State.advanceBw
  refine Eff.app ?_ (State.advanceTo_eff ..) (by decide)
  exact Eff.refl _ _

end Sys2Proof.Machine
end

