-- ==== Sys2Proof/Laws/EffCoding.lean ====
section
/-! SUPPORT. What each operation of Machine/Coding.lean can touch, by unit of the state (see Laws/Effect.lean). -/

set_option linter.unusedVariables false
set_option linter.unusedTactic false
set_option linter.unreachableTactic false

namespace Sys2Proof.Machine

theorem State.setLane_eff (s : State) (l : Nat) (x : Lane) : Eff 65536 s (State.setLane s l x) := by
  unfold State.setLane
  refine Eff.app ?_ (Eff.set_lanes _ _) (by decide)
  exact Eff.refl _ _

theorem State.codeBlocks_eff (s : State) (l : Nat) (bs : List Coded) : Eff 65536 s (State.codeBlocks s l bs).1 := by
  unfold State.codeBlocks
  extract_lets -merge -underBinder t0 t1
  try clear_value t0
  try clear_value t1
  refine Eff.fst ?_
  refine Eff.app ?_ (State.setLane_eff ..) (by decide)
  exact Eff.refl _ _

theorem State.putLine_eff (s : State) (l : Nat) (bs : List Coded) : Eff 65536 s (State.putLine s l bs) := by
  unfold State.putLine
  refine Eff.app ?_ (State.setLane_eff ..) (by decide)
  exact Eff.refl _ _

theorem State.sendBlocks_eff (s : State) (l : Nat) (bs : List Coded) : Eff 65536 s (State.sendBlocks s l bs) := by
  unfold State.sendBlocks
  split
  · rename_i q0
    refine Eff.app ?_ (State.putLine_eff ..) (by decide)
    refine Eff.app ?_ (Eff.of_pair (State.codeBlocks_eff ..) q0) (by decide)
    exact Eff.refl _ _

theorem State.laneMarker_eff (s : State) (l : Nat) : Eff 65536 s (State.laneMarker s l).1 := by
  unfold State.laneMarker
  extract_lets -merge -underBinder t0
  try clear_value t0
  refine Eff.ite1 (fun _ => ?_) (fun _ => ?_)
  · refine Eff.fst ?_
    exact Eff.refl _ _
  · refine Eff.fst ?_
    refine Eff.app ?_ (State.setLane_eff ..) (by decide)
    exact Eff.refl _ _

theorem State.laneIdle_eff (s : State) (l : Nat) : Eff 65536 s (State.laneIdle s l).1 := by
  unfold State.laneIdle
  extract_lets -merge -underBinder t0
  try clear_value t0
  refine Eff.ite1 (fun _ => ?_) (fun _ => ?_)
  · refine Eff.fst ?_
    exact Eff.refl _ _
  · refine Eff.fst ?_
    refine Eff.app ?_ (State.setLane_eff ..) (by decide)
    exact Eff.refl _ _

theorem State.sendStripe_eff (s : State) (b : List Byte) (l : Nat) : Eff 65536 s (State.sendStripe s b l) := by
  unfold State.sendStripe
  split
  · rename_i q0
    split
    · rename_i q1
      extract_lets -merge -underBinder t2
      try clear_value t2
      refine Eff.app ?_ (State.sendBlocks_eff ..) (by decide)
      refine Eff.app ?_ (State.setLane_eff ..) (by decide)
      refine Eff.app ?_ (Eff.of_pair (State.laneIdle_eff ..) q1) (by decide)
      refine Eff.app ?_ (Eff.of_pair (State.laneMarker_eff ..) q0) (by decide)
      exact Eff.refl _ _

theorem State.fillBlock_eff (s : State) (l : Nat) : Eff 65536 s (State.fillBlock s l).1 := by
  unfold State.fillBlock
  refine Eff.ite1 (fun _ => ?_) (fun _ => ?_)
  · split
    · refine Eff.fst ?_
      refine Eff.app ?_ (Eff.of_pair (State.laneMarker_eff ..) (by assumption)) (by decide)
      exact Eff.refl _ _
    · extract_lets -merge -underBinder t0
      try clear_value t0
      refine Eff.fst ?_
      refine Eff.app ?_ (State.setLane_eff ..) (by decide)
      refine Eff.app ?_ (Eff.of_pair (State.laneMarker_eff ..) (by assumption)) (by decide)
      exact Eff.refl _ _
  · refine Eff.ite1 (fun _ => ?_) (fun _ => ?_)
    · refine Eff.fst ?_
      exact Eff.refl _ _
    · refine Eff.fst ?_
      exact Eff.refl _ _

theorem State.blockTime_eff (s : State) (l : Nat) : Eff 65536 s (State.blockTime s l).1 := by
  unfold State.blockTime
  refine Eff.ite1 (fun _ => ?_) (fun _ => ?_)
  · extract_lets -merge -underBinder t0 t1
    try clear_value t0
    try clear_value t1
    refine Eff.fst ?_
    refine Eff.app ?_ (State.putLine_eff ..) (by decide)
    refine Eff.app ?_ (State.setLane_eff ..) (by decide)
    exact Eff.refl _ _
  · refine Eff.ite1 (fun _ => ?_) (fun _ => ?_)
    · refine Eff.fst ?_
      refine Eff.app ?_ (State.putLine_eff ..) (by decide)
      exact Eff.refl _ _
    · split
      · rename_i q2
        split
        · rename_i q3
          refine Eff.fst ?_
          refine Eff.app ?_ (State.putLine_eff ..) (by decide)
          refine Eff.app ?_ (Eff.of_pair (State.codeBlocks_eff ..) q3) (by decide)
          refine Eff.app ?_ (Eff.of_pair (State.fillBlock_eff ..) q2) (by decide)
          exact Eff.refl _ _

theorem State.takeBlock_eff (s : State) (l : Nat) (b : Coded) : Eff 65536 s (State.takeBlock s l b).1 := by
  unfold State.takeBlock
  extract_lets -merge -underBinder t0 t1 t2
  try clear_value t0
  try clear_value t1
  try clear_value t2
  refine Eff.ite1 (fun _ => ?_) (fun _ => ?_)
  · refine Eff.fst ?_
    refine Eff.app ?_ (State.setLane_eff ..) (by decide)
    exact Eff.refl _ _
  · refine Eff.fst ?_
    refine Eff.app ?_ (State.setLane_eff ..) (by decide)
    exact Eff.refl _ _

theorem State.slipBit_eff (s : State) (l : Nat) : Eff 65536 s (State.slipBit s l) := by
  unfold State.slipBit
  extract_lets -merge -underBinder t0
  try clear_value t0
  refine Eff.ite (fun _ => ?_) (fun _ => ?_)
  · refine Eff.app ?_ (State.setLane_eff ..) (by decide)
    exact Eff.refl _ _
  · refine Eff.app ?_ (State.setLane_eff ..) (by decide)
    exact Eff.refl _ _

theorem State.rxBlock_eff (s : State) (l : Nat) (b : Coded) : Eff 65536 s (State.rxBlock s l b).1 := by
  unfold State.rxBlock
  extract_lets -merge -underBinder t0 t1 t2
  try clear_value t0
  try clear_value t1
  try clear_value t2
  refine Eff.fst ?_
  refine Eff.app ?_ (State.setLane_eff ..) (by decide)
  exact Eff.refl _ _

end Sys2Proof.Machine
end

