-- ==== Sys2Proof/Laws/EffTally.lean ====
section
/-! SUPPORT. What each operation of Machine/Tally.lean can touch, by unit of the state (see Laws/Effect.lean). -/

set_option linter.unusedVariables false
set_option linter.unusedTactic false
set_option linter.unreachableTactic false

namespace Sys2Proof.Machine

theorem State.setSlot_eff (s : State) (i : Nat) (x : Slot) : Eff 256 s (State.setSlot s i x) := by
  unfold State.setSlot
  refine Eff.app ?_ (Eff.set_fold _ _) (by decide)
  exact Eff.refl _ _

theorem State.setEnc_eff (s : State) (e : Nat) (x : Enc) : Eff 128 s (State.setEnc s e x) := by
  unfold State.setEnc
  refine Eff.app ?_ (Eff.set_pos _ _) (by decide)
  exact Eff.refl _ _

theorem State.setGout_eff (s : State) (o : Nat) (x : GateOut) : Eff 256 s (State.setGout s o x) := by
  unfold State.setGout
  refine Eff.app ?_ (Eff.set_fold _ _) (by decide)
  exact Eff.refl _ _

theorem State.reAim_eff (s : State) (i : Nat) : Eff 256 s (State.reAim s i) := by
  unfold State.reAim
  extract_lets -merge -underBinder t0
  try clear_value t0
  refine Eff.app ?_ (State.setSlot_eff ..) (by decide)
  exact Eff.refl _ _

theorem State.noteUsed_eff (s : State) : Eff 2 s (State.noteUsed s) := by
  unfold State.noteUsed
  extract_lets -merge -underBinder t0
  try clear_value t0
  refine Eff.app ?_ (State.setFld_eff ..) (by decide)
  refine Eff.app ?_ (State.setFld_eff ..) (by decide)
  exact Eff.refl _ _

theorem State.holdTile_eff (s : State) (r : Nat) (t : Nat) : Eff 32768 s (State.holdTile s r t) := by
  unfold State.holdTile
  refine Eff.app ?_ (Eff.set_audit _ _) (by decide)
  exact Eff.refl _ _

theorem State.dropTile_eff (s : State) (r : Nat) (t : Nat) : Eff 32768 s (State.dropTile s r t) := by
  unfold State.dropTile
  refine Eff.app ?_ (Eff.set_audit _ _) (by decide)
  exact Eff.refl _ _

theorem State.auditSelect_eff (s : State) (i : Nat) : Eff 32770 s (State.auditSelect s i) := by
  unfold State.auditSelect
  extract_lets -merge -underBinder t0 t1 t2 t3 t4 t5
  try clear_value t0
  try clear_value t1
  try clear_value t2
  try clear_value t3
  try clear_value t4
  try clear_value t5
  refine Eff.ite (fun _ => ?_) (fun _ => ?_)
  · exact Eff.refl _ _
  · refine Eff.ite (fun _ => ?_) (fun _ => ?_)
    · exact Eff.refl _ _
    · split
      · exact Eff.refl _ _
      · refine Eff.ite (fun _ => ?_) (fun _ => ?_)
        · extract_lets -merge -underBinder t6 t7
          try clear_value t7
          have e8 : Eff 32770 s t6 := by
            refine Eff.app ?_ (State.holdTile_eff ..) (by decide)
            exact Eff.refl _ _
          try clear_value t6
          refine Eff.app ?_ (Eff.set_audit _ _) (by decide)
          exact e8
        · refine Eff.app ?_ (State.bump_eff ..) (by decide)
          exact Eff.refl _ _

theorem State.postRecord_eff (s : State) (r : Nat) (ring : Nat) (rec : List Byte) : Eff 350 s (State.postRecord s r ring rec) := by
  unfold State.postRecord
  split
  · refine Eff.app ?_ (Eff.of_pair (State.ringPost_eff ..) (by assumption)) (by decide)
    exact Eff.refl _ _
  · refine Eff.app ?_ (State.bump_eff ..) (by decide)
    refine Eff.app ?_ (State.reportRefused_eff ..) (by decide)
    refine Eff.app ?_ (Eff.of_pair (State.ringPost_eff ..) (by assumption)) (by decide)
    exact Eff.refl _ _
  · extract_lets -merge -underBinder t0 t1 t2
    try clear_value t1
    try clear_value t2
    have e3 : Eff 350 s t0 := by
      refine Eff.app ?_ (State.bump_eff ..) (by decide)
      refine Eff.app ?_ (Eff.of_pair (State.ringPost_eff ..) (by assumption)) (by decide)
      exact Eff.refl _ _
    try clear_value t0
    refine Eff.ite (fun _ => ?_) (fun _ => ?_)
    · refine Eff.app ?_ (State.raise_eff ..) (by decide)
      refine Eff.app ?_ (Eff.set_fold _ _) (by decide)
      exact e3
    · exact e3

theorem State.fireSlot_eff (s : State) (i : Nat) (time : Nat) : Eff 256 s (State.fireSlot s i time) := by
  unfold State.fireSlot
  extract_lets -merge -underBinder t0
  try clear_value t0
  refine Eff.ite (fun _ => ?_) (fun _ => ?_)
  · refine Eff.app ?_ (State.setSlot_eff ..) (by decide)
    exact Eff.refl _ _
  · exact Eff.refl _ _

theorem State.suppressSlot_eff (s : State) (i : Nat) (sub : Nat) (time : Nat) : Eff 256 s (State.suppressSlot s i sub time) := by
  unfold State.suppressSlot
  extract_lets -merge -underBinder t0 t1
  try clear_value t1
  have e2 : Eff 256 s t0 := by
    refine Eff.app ?_ (State.fireSlot_eff ..) (by decide)
    exact Eff.refl _ _
  try clear_value t0
  refine Eff.app ?_ (State.setSlot_eff ..) (by decide)
  exact e2

theorem State.commitEntry_eff (s : State) (o : Nat) (base : Nat) (i : Nat) (late : Bool) : Eff 258 s (State.commitEntry s o base i late) := by
  unfold State.commitEntry
  extract_lets -merge -underBinder t0 t1 t2 t3 t4 t5 t6 t7 t8 t9 t10 t11 t12 t13 t14 t15 t16
  try clear_value t0
  try clear_value t1
  try clear_value t2
  try clear_value t3
  try clear_value t4
  try clear_value t6
  try clear_value t8
  try clear_value t9
  try clear_value t11
  try clear_value t13
  try clear_value t14
  try clear_value t15
  have e17 : Eff 258 s t5 := by
    refine Eff.app ?_ (State.setGout_eff ..) (by decide)
    exact Eff.refl _ _
  try clear_value t5
  have e18 : Eff 258 s t7 := by
    refine Eff.app ?_ (State.setSlot_eff ..) (by decide)
    exact e17
  try clear_value t7
  have e19 : Eff 258 s t10 := by
    refine Eff.app ?_ (State.setGout_eff ..) (by decide)
    exact e18
  try clear_value t10
  have e20 : Eff 258 s t12 := by
    refine Eff.ite (fun _ => ?_) (fun _ => ?_)
    · refine Eff.app ?_ (Eff.set_fold _ _) (by decide)
      exact e19
    · exact e19
  try clear_value t12
  have e21 : Eff 258 s t16 := by
    refine Eff.ite (fun _ => ?_) (fun _ => ?_)
    · refine Eff.app ?_ (Eff.set_fold _ _) (by decide)
      exact e19
    · refine Eff.app ?_ (Eff.set_fold _ _) (by decide)
      exact e19
  try clear_value t16
  refine Eff.ite (fun _ => ?_) (fun _ => ?_)
  · refine Eff.app ?_ (State.suppressSlot_eff ..) (by decide)
    exact e17
  · refine Eff.ite (fun _ => ?_) (fun _ => ?_)
    · refine Eff.app ?_ (State.suppressSlot_eff ..) (by decide)
      exact e17
    · refine Eff.ite (fun _ => ?_) (fun _ => ?_)
      · refine Eff.app ?_ (State.suppressSlot_eff ..) (by decide)
        exact e17
      · refine Eff.ite (fun _ => ?_) (fun _ => ?_)
        · refine Eff.app ?_ (State.bump_eff ..) (by decide)
          exact e20
        · refine Eff.app ?_ (State.bump_eff ..) (by decide)
          exact e21

theorem State.commitLate_eff (s : State) (o : Nat) (i : Nat) : Eff 258 s (State.commitLate s o i) := by
  unfold State.commitLate
  split
  · extract_lets -merge -underBinder t0
    try clear_value t0
    refine Eff.ite (fun _ => ?_) (fun _ => ?_)
    · refine Eff.app ?_ (State.commitEntry_eff ..) (by decide)
      exact Eff.refl _ _
    · exact Eff.refl _ _
  · exact Eff.refl _ _

theorem State.gateHold_eff (s : State) : Eff 4294967390 s (State.gateHold s) := by
  unfold State.gateHold
  refine Eff.app ?_ (State.hold_eff ..) (by decide)
  exact Eff.refl _ _

theorem State.enqueueFire_eff (s : State) (o : Nat) (i : Nat) : EffO 256 s (State.enqueueFire s o i) := by
  unfold State.enqueueFire
  extract_lets -merge -underBinder t0 t1
  try clear_value t0
  try clear_value t1
  refine EffO.ite (fun _ => ?_) (fun _ => ?_)
  · exact EffO.none
  · refine EffO.some ?_
    refine Eff.app ?_ (State.setGout_eff ..) (by decide)
    exact Eff.refl _ _

theorem State.arm_eff (s : State) (i : Nat) : Eff 4294967646 s (State.arm s i) := by
  unfold State.arm
  extract_lets -merge -underBinder t0 t1 t2
  try clear_value t0
  try clear_value t1
  have e3 : Eff 4294967646 s t2 := by
    refine Eff.app ?_ (State.reAim_eff ..) (by decide)
    refine Eff.app ?_ (State.setSlot_eff ..) (by decide)
    exact Eff.refl _ _
  try clear_value t2
  split
  · refine Eff.app ?_ (State.setSlot_eff ..) (by decide)
    exact e3
  · split
    · refine Eff.app ?_ (State.commitLate_eff ..) (by decide)
      refine Eff.app ?_ (State.gateHold_eff ..) (by decide)
      refine Eff.app ?_ (State.setSlot_eff ..) (by decide)
      refine Eff.app ?_ (EffO.get (State.enqueueFire_eff ..) (by assumption)) (by decide)
      exact e3
    · refine Eff.app ?_ (State.gateHold_eff ..) (by decide)
      refine Eff.app ?_ (State.raise_eff ..) (by decide)
      refine Eff.app ?_ (State.setSlot_eff ..) (by decide)
      exact e3

theorem State.disarm_eff (s : State) (i : Nat) : Eff 4294967646 s (State.disarm s i) := by
  unfold State.disarm
  extract_lets -merge -underBinder t0 t1 t2
  try clear_value t0
  try clear_value t2
  have e3 : Eff 4294967646 s t1 := by
    unfold t1
    split
    · extract_lets -merge -underBinder t4
      try clear_value t4
      refine Eff.app ?_ (State.setGout_eff ..) (by decide)
      exact Eff.refl _ _
    · exact Eff.refl _ _
  try clear_value t1
  refine Eff.app ?_ (State.gateHold_eff ..) (by decide)
  refine Eff.app ?_ (State.setSlot_eff ..) (by decide)
  exact e3

theorem State.formHalf_eff (s : State) (i : Nat) : Eff 2097154 s (State.formHalf s i) := by
  unfold State.formHalf
  extract_lets -merge -underBinder t0 t1 t2
  try clear_value t0
  try clear_value t1
  try clear_value t2
  refine Eff.ite (fun _ => ?_) (fun _ => ?_)
  · exact Eff.refl _ _
  · refine Eff.ite (fun _ => ?_) (fun _ => ?_)
    · refine Eff.app ?_ (State.bump_eff ..) (by decide)
      exact Eff.refl _ _
    · refine Eff.app ?_ (Eff.set_pair _ _) (by decide)
      exact Eff.refl _ _

theorem State.judge_eff (s : State) (i : Nat) (v : Verdict) (why : Reason) : Eff 4297097566 s (State.judge s i v why) := by
  unfold State.judge
  extract_lets -merge -underBinder t0 t1 t2 t3
  try clear_value t0
  have e4 : Eff 4297097566 s t1 := by
    refine Eff.app ?_ (State.setSlot_eff ..) (by decide)
    exact Eff.refl _ _
  try clear_value t1
  have e5 : Eff 4297097566 s t2 := by
    refine Eff.app ?_ (State.auditSelect_eff ..) (by decide)
    exact e4
  try clear_value t2
  have e6 : Eff 4297097566 s t3 := by
    refine Eff.ite (fun _ => ?_) (fun _ => ?_)
    · exact e5
    · refine Eff.app ?_ (State.formHalf_eff ..) (by decide)
      exact e5
  try clear_value t3
  refine Eff.app ?_ (State.arm_eff ..) (by decide)
  exact e6

theorem State.giveReason_eff (s : State) (i : Nat) (why : Reason) : Eff 4297097566 s (State.giveReason s i why) := by
  unfold State.giveReason
  extract_lets -merge -underBinder t0
  try clear_value t0
  refine Eff.ite (fun _ => ?_) (fun _ => ?_)
  · exact Eff.refl _ _
  · split
    · refine Eff.app ?_ (State.setSlot_eff ..) (by decide)
      exact Eff.refl _ _
    · refine Eff.app ?_ (State.judge_eff ..) (by decide)
      exact Eff.refl _ _
    · refine Eff.app ?_ (State.judge_eff ..) (by decide)
      exact Eff.refl _ _
    · refine Eff.app ?_ (State.judge_eff ..) (by decide)
      exact Eff.refl _ _
    · exact Eff.refl _ _

theorem State.lateCheck_eff (s : State) (i : Nat) : Eff 4297097566 s (State.lateCheck s i) := by
  unfold State.lateCheck
  extract_lets -merge -underBinder t0 t1 t2
  try clear_value t0
  try clear_value t1
  have e3 : Eff 4297097566 s t2 := by
    refine Eff.app ?_ (State.setSlot_eff ..) (by decide)
    exact Eff.refl _ _
  try clear_value t2
  refine Eff.ite (fun _ => ?_) (fun _ => ?_)
  · refine Eff.app ?_ (State.bump_eff ..) (by decide)
    refine Eff.app ?_ (State.judge_eff ..) (by decide)
    exact e3
  · exact Eff.refl _ _

theorem State.lateChecks_eff (s : State) (e : Nat) : Eff 4297097566 s (State.lateChecks s e) := by
  unfold State.lateChecks
  refine Eff.app ?_ (Eff.foldl (m := 4297097566) ?_ _ _) (Nat.or_self _)
  · exact Eff.refl _ _
  · intro y0 y1
    refine Eff.ite (fun _ => ?_) (fun _ => ?_)
    · refine Eff.app ?_ (State.lateCheck_eff ..) (by decide)
      exact Eff.refl _ _
    · exact Eff.refl _ _

theorem State.slipPart_eff (s : State) (i : Nat) : Eff 4297097566 s (State.slipPart s i) := by
  unfold State.slipPart
  extract_lets -merge -underBinder t0 t1 t2 t3 t4 t5 t6
  try clear_value t0
  try clear_value t3
  try clear_value t6
  have e7 : Eff 4297097566 s t1 := by
    refine Eff.app ?_ (State.setSlot_eff ..) (by decide)
    exact Eff.refl _ _
  try clear_value t1
  have e8 : Eff 4297097566 s t2 := by
    refine Eff.app ?_ (State.disarm_eff ..) (by decide)
    exact e7
  try clear_value t2
  have e9 : Eff 4297097566 s t4 := by
    refine Eff.app ?_ (State.setSlot_eff ..) (by decide)
    exact e8
  try clear_value t4
  have e10 : Eff 4297097566 s t5 := by
    refine Eff.app ?_ (State.arm_eff ..) (by decide)
    exact e9
  try clear_value t5
  refine Eff.ite (fun _ => ?_) (fun _ => ?_)
  · exact Eff.refl _ _
  · refine Eff.ite (fun _ => ?_) (fun _ => ?_)
    · exact e7
    · refine Eff.ite (fun _ => ?_) (fun _ => ?_)
      · exact e7
      · refine Eff.ite (fun _ => ?_) (fun _ => ?_)
        · refine Eff.ite (fun _ => ?_) (fun _ => ?_)
          · exact e10
          · refine Eff.app ?_ (State.setSlot_eff ..) (by decide)
            exact e10
        · refine Eff.app ?_ (State.giveReason_eff ..) (by decide)
          exact e7

theorem State.slipParts_eff (s : State) (e : Nat) : Eff 4297097566 s (State.slipParts s e) := by
  unfold State.slipParts
  refine Eff.app ?_ (Eff.foldl (m := 4297097566) ?_ _ _) (Nat.or_self _)
  · exact Eff.refl _ _
  · intro y0 y1
    refine Eff.ite (fun _ => ?_) (fun _ => ?_)
    · refine Eff.app ?_ (State.slipPart_eff ..) (by decide)
      exact Eff.refl _ _
    · exact Eff.refl _ _

theorem State.takePsn_eff (s : State) : Eff 94 s (State.takePsn s).1 := by
  unfold State.takePsn
  extract_lets -merge -underBinder t0 t1 t2
  try clear_value t0
  have e3 : Eff 94 s t1 := by
    refine Eff.app ?_ (State.setFld_eff ..) (by decide)
    exact Eff.refl _ _
  try clear_value t1
  have e4 : Eff 94 s t2 := by
    refine Eff.app ?_ (State.bump_eff ..) (by decide)
    exact e3
  try clear_value t2
  refine Eff.ite1 (fun _ => ?_) (fun _ => ?_)
  · refine Eff.fst ?_
    refine Eff.app ?_ (State.raise_eff ..) (by decide)
    exact e4
  · refine Eff.fst ?_
    exact e3

theorem State.tryRetire_eff (s : State) (i : Nat) : Eff 35166 s (State.tryRetire s i) := by
  unfold State.tryRetire
  extract_lets -merge -underBinder t0 t1 t2 t3 t4 t5 t6 t7
  try clear_value t0
  try clear_value t6
  have e8 : Eff 35166 s t1 := by
    refine Eff.app ?_ (State.postRecord_eff ..) (by decide)
    exact Eff.refl _ _
  try clear_value t1
  have e9 : Eff 35166 s t2 := by
    unfold t2
    split
    · refine Eff.app ?_ (State.postRecord_eff ..) (by decide)
      exact e8
    · exact e8
  try clear_value t2
  have e10 : Eff 35166 s t3 := by
    refine Eff.ite (fun _ => ?_) (fun _ => ?_)
    · refine Eff.app ?_ (State.bump_eff ..) (by decide)
      exact e9
    · exact e9
  try clear_value t3
  have e11 : Eff 35166 s t4 := by
    refine Eff.ite (fun _ => ?_) (fun _ => ?_)
    · refine Eff.app ?_ (State.bump_eff ..) (by decide)
      exact e10
    · exact e10
  try clear_value t4
  have e12 : Eff 35166 s t5 := by
    unfold t5
    split
    · refine Eff.app ?_ (State.dropTile_eff ..) (by decide)
      exact e11
    · exact e11
  try clear_value t5
  have e13 : Eff 35166 s t7 := by
    refine Eff.app ?_ (Eff.set_lamb _ _) (by decide)
    exact e12
  try clear_value t7
  refine Eff.ite (fun _ => ?_) (fun _ => ?_)
  · exact Eff.refl _ _
  · refine Eff.app ?_ (State.noteUsed_eff ..) (by decide)
    refine Eff.app ?_ (State.setSlot_eff ..) (by decide)
    exact e13

theorem State.retireAll_eff (s : State) : Eff 35166 s (State.retireAll s) := by
  unfold State.retireAll
  refine Eff.app ?_ (Eff.foldl (m := 35166) ?_ _ _) (Nat.or_self _)
  · exact Eff.refl _ _
  · intro y0 y1
    refine Eff.app ?_ (State.tryRetire_eff ..) (by decide)
    exact Eff.refl _ _

end Sys2Proof.Machine
end

