-- ==== Sys2Proof/Laws/EffVerdict.lean ====
section
/-! SUPPORT. What each operation of Machine/Verdict.lean can touch, by unit of the state (see Laws/Effect.lean). -/

set_option linter.unusedVariables false
set_option linter.unusedTactic false
set_option linter.unreachableTactic false

namespace Sys2Proof.Machine

theorem State.storeResult_eff (s : State) (j : Nat) (r : Result) : Eff 256 s (State.storeResult s j r) := by
  unfold State.storeResult
  extract_lets -merge -underBinder t0 t1
  try clear_value t0
  try clear_value t1
  refine Eff.app ?_ (Eff.set_fold _ _) (by decide)
  exact Eff.refl _ _

theorem State.clearResults_eff (s : State) (j : Nat) : Eff 256 s (State.clearResults s j) := by
  unfold State.clearResults
  refine Eff.app ?_ (Eff.set_fold _ _) (by decide)
  exact Eff.refl _ _

theorem State.dropHeld_eff (s : State) (n : Nat) : Eff 2101248 s (State.dropHeld s n) := by
  unfold State.dropHeld
  split
  · exact Eff.refl _ _
  · refine Eff.app ?_ (Eff.set_drove_pair _ _ _) (by decide)
    exact Eff.refl _ _

theorem State.combineHalf_eff (s : State) (i : Nat) (h : Half) : Eff 4297099614 s (State.combineHalf s i h) := by
  unfold State.combineHalf
  extract_lets -merge -underBinder t0 t1 t2 t3 t4
  try clear_value t0
  try clear_value t1
  try clear_value t2
  try clear_value t3
  have e5 : Eff 4297099614 s t4 := by
    refine Eff.app ?_ (State.bump_eff ..) (by decide)
    refine Eff.app ?_ (State.setSlot_eff ..) (by decide)
    exact Eff.refl _ _
  try clear_value t4
  refine Eff.ite (fun _ => ?_) (fun _ => ?_)
  · refine Eff.app ?_ (State.tryRetire_eff ..) (by decide)
    exact e5
  · refine Eff.ite (fun _ => ?_) (fun _ => ?_)
    · refine Eff.app ?_ (State.judge_eff ..) (by decide)
      exact e5
    · split
      · refine Eff.app ?_ (State.judge_eff ..) (by decide)
        exact e5
      · refine Eff.app ?_ (State.judge_eff ..) (by decide)
        exact e5
      · refine Eff.app ?_ (State.judge_eff ..) (by decide)
        exact e5

theorem State.settlePart_eff (s : State) (i : Nat) : Eff 4297099614 s (State.settlePart s i) := by
  unfold State.settlePart
  extract_lets -merge -underBinder t0 t1 t2 t3
  try clear_value t0
  try clear_value t2
  have e4 : Eff 4297099614 s t1 := by
    refine Eff.app ?_ (State.bump_eff ..) (by decide)
    refine Eff.app ?_ (State.setSlot_eff ..) (by decide)
    exact Eff.refl _ _
  try clear_value t1
  have e5 : Eff 4297099614 s t3 := by
    refine Eff.ite (fun _ => ?_) (fun _ => ?_)
    · exact e4
    · refine Eff.app ?_ (State.raise_eff ..) (by decide)
      refine Eff.app ?_ (Eff.set_pair _ _) (by decide)
      exact e4
  try clear_value t3
  refine Eff.ite (fun _ => ?_) (fun _ => ?_)
  · refine Eff.app ?_ (State.tryRetire_eff ..) (by decide)
    exact e5
  · split
    · refine Eff.app ?_ (State.judge_eff ..) (by decide)
      exact e5
    · refine Eff.app ?_ (State.judge_eff ..) (by decide)
      exact e5
    · refine Eff.app ?_ (State.judge_eff ..) (by decide)
      exact e5
    · refine Eff.app ?_ (State.judge_eff ..) (by decide)
      exact e5

theorem State.ownHalf_eff (s : State) (i : Nat) : Eff 4297103710 s (State.ownHalf s i) := by
  unfold State.ownHalf
  split
  · split
    · refine Eff.app ?_ (State.combineHalf_eff ..) (by decide)
      refine Eff.app ?_ (State.dropHeld_eff ..) (by decide)
      exact Eff.refl _ _
    · exact Eff.refl _ _
  · refine Eff.ite (fun _ => ?_) (fun _ => ?_)
    · refine Eff.app ?_ (State.settlePart_eff ..) (by decide)
      exact Eff.refl _ _
    · refine Eff.app ?_ (State.setSlot_eff ..) (by decide)
      exact Eff.refl _ _

theorem State.verdictFromJob_eff (s : State) (i : Nat) (st : JobStatus) (c : Content) : Eff 4297097566 s (State.verdictFromJob s i st c) := by
  unfold State.verdictFromJob
  extract_lets -merge -underBinder t0
  try clear_value t0
  refine Eff.ite (fun _ => ?_) (fun _ => ?_)
  · exact Eff.refl _ _
  · split
    · refine Eff.app ?_ (State.judge_eff ..) (by decide)
      exact Eff.refl _ _
    · refine Eff.app ?_ (State.judge_eff ..) (by decide)
      exact Eff.refl _ _
    · refine Eff.app ?_ (State.judge_eff ..) (by decide)
      exact Eff.refl _ _
    · refine Eff.app ?_ (State.judge_eff ..) (by decide)
      exact Eff.refl _ _
    · split
      · refine Eff.app ?_ (State.judge_eff ..) (by decide)
        exact Eff.refl _ _
      · refine Eff.app ?_ (State.judge_eff ..) (by decide)
        exact Eff.refl _ _
      · refine Eff.app ?_ (State.judge_eff ..) (by decide)
        exact Eff.refl _ _

theorem State.realtimeEnded_eff (s : State) (i : Nat) (c : Nat) (j : Nat) (st : JobStatus) (empty : Bool) (wide : Bool) : Eff 4297103710 s (State.realtimeEnded s i c j st empty wide) := by
  unfold State.realtimeEnded
  extract_lets -merge -underBinder t0 t1 t2 t3 t4 t5 t6
  try clear_value t0
  try clear_value t1
  try clear_value t2
  try clear_value t4
  have e7 : Eff 4297103710 s t3 := by
    refine Eff.app ?_ (State.setSlot_eff ..) (by decide)
    exact Eff.refl _ _
  try clear_value t3
  have e8 : Eff 4297103710 s t5 := by
    refine Eff.app ?_ (State.verdictFromJob_eff ..) (by decide)
    exact e7
  try clear_value t5
  have e9 : Eff 4297103710 s t6 := by
    refine Eff.ite (fun _ => ?_) (fun _ => ?_)
    · refine Eff.app ?_ (State.ownHalf_eff ..) (by decide)
      exact e7
    · refine Eff.ite (fun _ => ?_) (fun _ => ?_)
      · refine Eff.app ?_ (State.formHalf_eff ..) (by decide)
        exact e8
      · exact e8
  try clear_value t6
  refine Eff.app ?_ (State.tryRetire_eff ..) (by decide)
  exact e9

theorem State.trialEnded_eff (s : State) (i : Nat) (c : Nat) (j : Nat) (st : JobStatus) (empty : Bool) (wide : Bool) : Eff 35166 s (State.trialEnded s i c j st empty wide) := by
  unfold State.trialEnded
  extract_lets -merge -underBinder t0 t1 t2
  try clear_value t0
  try clear_value t1
  try clear_value t2
  refine Eff.app ?_ (State.tryRetire_eff ..) (by decide)
  refine Eff.app ?_ (State.setSlot_eff ..) (by decide)
  exact Eff.refl _ _

theorem State.replayRecord_eff (s : State) (r : Nat) (sample : Nat) (epoch : Nat) (o : Verdict × Reason) (con : Content) (sub : Nat) : Eff 350 s (State.replayRecord s r sample epoch o con sub) := by
  unfold State.replayRecord
  refine Eff.app ?_ (State.postRecord_eff ..) (by decide)
  exact Eff.refl _ _

end Sys2Proof.Machine
end

