-- ==== Sys2Proof/Laws/EffGate.lean ====
section
/-! SUPPORT. What each operation of Machine/Gate.lean can touch, by unit of the state (see Laws/Effect.lean). -/

set_option linter.unusedVariables false
set_option linter.unusedTactic false
set_option linter.unreachableTactic false

namespace Sys2Proof.Machine

theorem State.latchOut_eff (s : State) (o : Nat) : Eff 256 s (State.latchOut s o) := by
  unfold State.latchOut
  extract_lets -merge -underBinder t0 t1 t2
  try clear_value t0
  try clear_value t1
  try clear_value t2
  refine Eff.app ?_ (State.setGout_eff ..) (by decide)
  exact Eff.refl _ _

theorem State.latchFrame_eff (s : State) (o : Nat) : Eff 256 s (State.latchFrame s o) := by
  unfold State.latchFrame
  extract_lets -merge -underBinder t0 t1
  try clear_value t1
  have e2 : Eff 256 s t0 := by
    refine Eff.ite (fun _ => ?_) (fun _ => ?_)
    · exact Eff.refl _ _
    · refine Eff.app ?_ (State.latchOut_eff ..) (by decide)
      exact Eff.refl _ _
  try clear_value t0
  refine Eff.app ?_ (State.setGout_eff ..) (by decide)
  exact e2

theorem State.deliverSlot_eff (s : State) (i : Nat) (supply : Nat) : Eff 256 s (State.deliverSlot s i supply) := by
  unfold State.deliverSlot
  extract_lets -merge -underBinder t0
  try clear_value t0
  refine Eff.app ?_ (State.setSlot_eff ..) (by decide)
  exact Eff.refl _ _

theorem State.commitStarts_eff (s : State) (base : Nat) (o : Nat) : Eff 258 s (State.commitStarts s base o) := by
  unfold State.commitStarts
  refine Eff.app ?_ (Eff.foldl (m := 258) ?_ _ _) (Nat.or_self _)
  · exact Eff.refl _ _
  · intro y0 y1
    refine Eff.app ?_ (State.commitEntry_eff ..) (by decide)
    exact Eff.refl _ _

theorem State.commitGroupEnd_eff (s : State) (base : Nat) (o : Nat) (l : List Pulse) : Eff 256 s (State.commitGroupEnd s base o l) := by
  unfold State.commitGroupEnd
  extract_lets -merge -underBinder t0 t1 t2 t3 t4
  try clear_value t0
  try clear_value t1
  try clear_value t2
  try clear_value t4
  have e5 : Eff 256 s t3 := by
    refine Eff.app ?_ (State.setGout_eff ..) (by decide)
    exact Eff.refl _ _
  try clear_value t3
  refine Eff.ite (fun _ => ?_) (fun _ => ?_)
  · exact Eff.refl _ _
  · refine Eff.app ?_ (Eff.set_fold _ _) (by decide)
    exact e5

theorem State.commitEnd_eff (s : State) (base : Nat) (o : Nat) : Eff 256 s (State.commitEnd s base o) := by
  unfold State.commitEnd
  refine Eff.app ?_ (Eff.foldl (m := 256) ?_ _ _) (Nat.or_self _)
  · exact Eff.refl _ _
  · intro y0 y1
    refine Eff.app ?_ (State.commitGroupEnd_eff ..) (by decide)
    exact Eff.refl _ _

theorem State.slipEdge_eff (s : State) (next : Nat) (e : Edge) : Eff 258 s (State.slipEdge s next e) := by
  unfold State.slipEdge
  extract_lets -merge -underBinder t0 t1 t2 t3 t4 t5 t6
  try clear_value t0
  try clear_value t1
  try clear_value t2
  try clear_value t3
  try clear_value t5
  have e7 : Eff 258 s t4 := by
    refine Eff.app ?_ (State.setGout_eff ..) (by decide)
    exact Eff.refl _ _
  try clear_value t4
  have e8 : Eff 258 s t6 := by
    refine Eff.app ?_ (Eff.set_fold _ _) (by decide)
    exact e7
  try clear_value t6
  refine Eff.app ?_ (State.bump_eff ..) (by decide)
  exact e8

theorem State.takeEdges_eff (s : State) (base : Nat) : Eff 258 s (State.takeEdges s base).1 := by
  unfold State.takeEdges
  extract_lets -merge -underBinder t0 t1 t2
  try clear_value t0
  try clear_value t1
  have e3 : Eff 258 s t2 := by
    refine Eff.app ?_ (Eff.set_fold _ _) (by decide)
    exact Eff.refl _ _
  try clear_value t2
  refine Eff.fst ?_
  refine Eff.app ?_ (Eff.foldl (m := 258) ?_ _ _) (Nat.or_self _)
  · exact e3
  · intro y4 y5
    refine Eff.app ?_ (State.slipEdge_eff ..) (by decide)
    exact Eff.refl _ _

theorem State.endPulses_eff (s : State) (base : Nat) (o : Nat) : Eff 256 s (State.endPulses s base o) := by
  unfold State.endPulses
  extract_lets -merge -underBinder t0 t1 t2
  try clear_value t0
  try clear_value t1
  have e3 : Eff 256 s t2 := by
    refine Eff.app ?_ (State.setGout_eff ..) (by decide)
    exact Eff.refl _ _
  try clear_value t2
  refine Eff.app ?_ (Eff.foldl (m := 256) ?_ _ _) (Nat.or_self _)
  · exact e3
  · intro y4 y5
    extract_lets -merge -underBinder t6 t7
    try clear_value t7
    have e8 : Eff 256 y4 t6 := by
      refine Eff.app ?_ (State.fireSlot_eff ..) (by decide)
      exact Eff.refl _ _
    try clear_value t6
    refine Eff.app ?_ (State.setSlot_eff ..) (by decide)
    exact e8

theorem State.beginPulses_eff (s : State) (base : Nat) (o : Nat) : Eff 256 s (State.beginPulses s base o) := by
  unfold State.beginPulses
  extract_lets -merge -underBinder t0 t1 t2
  try clear_value t0
  try clear_value t1
  have e3 : Eff 256 s t2 := by
    refine Eff.app ?_ (State.setGout_eff ..) (by decide)
    exact Eff.refl _ _
  try clear_value t2
  refine Eff.app ?_ (Eff.foldl (m := 256) ?_ _ _) (Nat.or_self _)
  · exact e3
  · intro y4 y5
    refine Eff.app ?_ (State.fireSlot_eff ..) (by decide)
    exact Eff.refl _ _

theorem State.watchSlot_eff (s : State) (i : Nat) : Eff 35166 s (State.watchSlot s i) := by
  unfold State.watchSlot
  extract_lets -merge -underBinder t0 t1
  try clear_value t0
  try clear_value t1
  refine Eff.ite (fun _ => ?_) (fun _ => ?_)
  · refine Eff.app ?_ (State.tryRetire_eff ..) (by decide)
    refine Eff.app ?_ (State.setSlot_eff ..) (by decide)
    exact Eff.refl _ _
  · exact Eff.refl _ _

theorem State.fullSlot_eff (s : State) (i : Nat) : Eff 256 s (State.fullSlot s i) := by
  unfold State.fullSlot
  extract_lets -merge -underBinder t0 t1
  try clear_value t0
  try clear_value t1
  refine Eff.ite (fun _ => ?_) (fun _ => ?_)
  · refine Eff.app ?_ (State.suppressSlot_eff ..) (by decide)
    exact Eff.refl _ _
  · exact Eff.refl _ _

theorem State.nextCfg_eff (s : State) : Eff 8192 s (State.nextCfg s).1 := by
  unfold State.nextCfg
  refine Eff.ite1 (fun _ => ?_) (fun _ => ?_)
  · refine Eff.fst ?_
    exact Eff.refl _ _
  · extract_lets -merge -underBinder t0 t1 t2 t3
    try clear_value t0
    try clear_value t1
    try clear_value t2
    try clear_value t3
    refine Eff.fst ?_
    refine Eff.app ?_ (Eff.set_link _ _) (by decide)
    exact Eff.refl _ _

theorem State.sendDown_eff (s : State) (k : Nat) (edges : List Edge) (merged : List (Nat × Nat)) : Eff 8192 s (State.sendDown s k edges merged) := by
  unfold State.sendDown
  extract_lets -merge -underBinder t0 t1 t2 t3
  try clear_value t0
  try clear_value t1
  try clear_value t2
  try clear_value t3
  split
  · rename_i q4
    extract_lets -merge -underBinder t5
    try clear_value t5
    refine Eff.app ?_ (Eff.set_link _ _) (by decide)
    refine Eff.app ?_ (Eff.of_pair (State.nextCfg_eff ..) q4) (by decide)
    exact Eff.refl _ _

theorem State.ejtEdge_eff (s : State) (e : Edge) : Eff 4294967296 s (State.ejtEdge s e) := by
  unfold State.ejtEdge
  refine Eff.app ?_ (Eff.set_pins _ _) (by decide)
  exact Eff.refl _ _

theorem State.ejtFrame_eff (s : State) (base : Nat) (edges : List Edge) : Eff 4294967296 s (State.ejtFrame s base edges) := by
  unfold State.ejtFrame
  extract_lets -merge -underBinder t0 t1 t2 t3
  try clear_value t0
  try clear_value t2
  try clear_value t3
  have e4 : Eff 4294967296 s t1 := by
    refine Eff.app ?_ (Eff.foldl (m := 4294967296) ?_ _ _) (Nat.or_self _)
    · exact Eff.refl _ _
    · intro y5 y6
      refine Eff.app ?_ (State.ejtEdge_eff ..) (by decide)
      exact Eff.refl _ _
  try clear_value t1
  refine Eff.app ?_ (Eff.set_pins _ _) (by decide)
  exact e4

theorem State.addLate_eff (s : State) : Eff 4294975746 s (State.addLate s) := by
  unfold State.addLate
  split
  · exact Eff.refl _ _
  · refine Eff.ite (fun _ => ?_) (fun _ => ?_)
    · exact Eff.refl _ _
    · extract_lets -merge -underBinder t0 t1 t2 t3 t4
      try clear_value t0
      try clear_value t1
      try clear_value t2
      try clear_value t4
      have e5 : Eff 4294975746 s t3 := by
        refine Eff.app ?_ (Eff.set_fold _ _) (by decide)
        exact Eff.refl _ _
      try clear_value t3
      split
      · extract_lets -merge -underBinder t6 t7 t8 t9
        try clear_value t6
        try clear_value t7
        try clear_value t8
        have e10 : Eff 4294975746 s t9 := by
          refine Eff.app ?_ (Eff.set_pins _ _) (by decide)
          exact e5
        try clear_value t9
        refine Eff.app ?_ (Eff.foldl (m := 4294975746) ?_ _ _) (Nat.or_self _)
        · exact e10
        · intro y11 y12
          refine Eff.app ?_ (State.slipEdge_eff ..) (by decide)
          exact Eff.refl _ _
      · split
        · exact e5
        · extract_lets -merge -underBinder t13 t14 t15 t16 t17 t18
          try clear_value t13
          try clear_value t14
          try clear_value t15
          try clear_value t16
          try clear_value t17
          have e19 : Eff 4294975746 s t18 := by
            refine Eff.app ?_ (Eff.set_link _ _) (by decide)
            exact e5
          try clear_value t18
          refine Eff.app ?_ (Eff.foldl (m := 4294975746) ?_ _ _) (Nat.or_self _)
          · exact e19
          · intro y20 y21
            refine Eff.app ?_ (State.slipEdge_eff ..) (by decide)
            exact Eff.refl _ _

theorem State.noteFrame_eff (s : State) (base : Nat) : Eff 256 s (State.noteFrame s base) := by
  unfold State.noteFrame
  refine Eff.app ?_ (Eff.set_fold _ _) (by decide)
  exact Eff.refl _ _

theorem State.gateFrame_eff (s : State) : Eff 4295010686 s (State.gateFrame s) := by
  unfold State.gateFrame
  extract_lets -merge -underBinder t0 t1 t2 t3 t4 t5 t6 t7 t8 t9 t10 t11 t12 t13 t14 t15
  try clear_value t1
  try clear_value t2
  try clear_value t4
  try clear_value t5
  try clear_value t10
  try clear_value t13
  have e16 : Eff 4295010686 s t0 := by
    refine Eff.app ?_ (State.addLate_eff ..) (by decide)
    exact Eff.refl _ _
  try clear_value t0
  have e17 : Eff 4295010686 s t3 := by
    refine Eff.app ?_ (State.noteFrame_eff ..) (by decide)
    refine Eff.app ?_ (State.advanceTo_eff ..) (by decide)
    exact e16
  try clear_value t3
  have e18 : Eff 4295010686 s t6 := by
    refine Eff.app ?_ (Eff.set_link _ _) (by decide)
    exact e17
  try clear_value t6
  have e19 : Eff 4295010686 s t7 := by
    refine Eff.app ?_ (Eff.foldl (m := 4295010686) ?_ _ _) (Nat.or_self _)
    · exact e18
    · intro y20 y21
      refine Eff.app ?_ (State.endPulses_eff ..) (by decide)
      exact Eff.refl _ _
  try clear_value t7
  have e22 : Eff 4295010686 s t8 := by
    refine Eff.app ?_ (Eff.foldl (m := 4295010686) ?_ _ _) (Nat.or_self _)
    · exact e19
    · intro y23 y24
      refine Eff.app ?_ (State.beginPulses_eff ..) (by decide)
      exact Eff.refl _ _
  try clear_value t8
  have e25 : Eff 4295010686 s t9 := by
    refine Eff.app ?_ (Eff.foldl (m := 4295010686) ?_ _ _) (Nat.or_self _)
    · exact e22
    · intro y26 y27
      refine Eff.app ?_ (State.latchFrame_eff ..) (by decide)
      exact Eff.refl _ _
  try clear_value t9
  have e28 : Eff 4295010686 s t11 := by
    refine Eff.app ?_ (Eff.foldl (m := 4295010686) ?_ _ _) (Nat.or_self _)
    · exact e25
    · intro y29 y30
      refine Eff.app ?_ (State.commitStarts_eff ..) (by decide)
      exact Eff.refl _ _
  try clear_value t11
  have e31 : Eff 4295010686 s t12 := by
    refine Eff.app ?_ (Eff.foldl (m := 4295010686) ?_ _ _) (Nat.or_self _)
    · exact e28
    · intro y32 y33
      refine Eff.app ?_ (State.commitEnd_eff ..) (by decide)
      exact Eff.refl _ _
  try clear_value t12
  have e34 : Eff 4295010686 s t14 := by
    refine Eff.app ?_ (Eff.foldl (m := 4295010686) ?_ _ _) (Nat.or_self _)
    · exact e31
    · intro y35 y36
      refine Eff.app ?_ (State.fullSlot_eff ..) (by decide)
      exact Eff.refl _ _
  try clear_value t14
  have e37 : Eff 4295010686 s t15 := by
    refine Eff.app ?_ (Eff.foldl (m := 4295010686) ?_ _ _) (Nat.or_self _)
    · exact e34
    · intro y38 y39
      refine Eff.app ?_ (State.watchSlot_eff ..) (by decide)
      exact Eff.refl _ _
  try clear_value t15
  split
  · rename_i q40
    extract_lets -merge -underBinder t41
    have e42 : Eff 4295010686 s t41 := by
      unfold t41
      split
      · refine Eff.app ?_ (State.sendDown_eff ..) (by decide)
        refine Eff.app ?_ (Eff.of_pair (State.takeEdges_eff ..) q40) (by decide)
        exact e37
      · refine Eff.app ?_ (State.ejtFrame_eff ..) (by decide)
        refine Eff.app ?_ (Eff.of_pair (State.takeEdges_eff ..) q40) (by decide)
        exact e37
    try clear_value t41
    refine Eff.app ?_ (State.retireAll_eff ..) (by decide)
    refine Eff.app ?_ (State.gateHold_eff ..) (by decide)
    exact e42

theorem State.pulseMax_eff (s : State) (o : Nat) : Eff 288 s (State.pulseMax s o) := by
  unfold State.pulseMax
  extract_lets -merge -underBinder t0
  try clear_value t0
  split
  · exact Eff.refl _ _
  · extract_lets -merge -underBinder t1 t2
    try clear_value t2
    have e3 : Eff 288 s t1 := by
      refine Eff.app ?_ (State.advanceTo_eff ..) (by decide)
      exact Eff.refl _ _
    try clear_value t1
    refine Eff.app ?_ (State.setGout_eff ..) (by decide)
    exact e3

theorem State.losePulse_eff (s : State) (o : Nat) (i : Nat) (sub : Nat) : Eff 256 s (State.losePulse s o i sub) := by
  unfold State.losePulse
  extract_lets -merge -underBinder t0 t1 t2
  try clear_value t0
  try clear_value t1
  have e3 : Eff 256 s t2 := by
    refine Eff.app ?_ (State.setGout_eff ..) (by decide)
    exact Eff.refl _ _
  try clear_value t2
  refine Eff.app ?_ (State.suppressSlot_eff ..) (by decide)
  exact e3

theorem State.confirmFrame_eff (s : State) (f : SentFrame) (supply : Nat) : Eff 258 s (State.confirmFrame s f supply) := by
  unfold State.confirmFrame
  extract_lets -merge -underBinder t0 t1 t2 t3 t4
  try clear_value t3
  try clear_value t4
  have e5 : ∀ y6 y7 y8, Eff 258 y6 (t0 y6 y7 y8) := by
    intro y6 y7 y8
    unfold t0
    refine Eff.ite (fun _ => ?_) (fun _ => ?_)
    · refine Eff.app ?_ (State.losePulse_eff ..) (by decide)
      exact Eff.refl _ _
    · extract_lets -merge -underBinder t9
      have e10 : Eff 258 y6 t9 := by
        unfold t9
        split
        · refine Eff.app ?_ (State.fireSlot_eff ..) (by decide)
          exact Eff.refl _ _
        · exact Eff.refl _ _
      try clear_value t9
      refine Eff.app ?_ (State.deliverSlot_eff ..) (by decide)
      exact e10
  try clear_value t0
  have e11 : Eff 258 s t1 := by
    refine Eff.app ?_ (Eff.foldl (m := 258) ?_ _ _) (Nat.or_self _)
    · exact Eff.refl _ _
    · intro y12 y13
      split
      · refine Eff.app ?_ (e5 ..) (Nat.or_self _)
        exact Eff.refl _ _
      · exact Eff.refl _ _
  try clear_value t1
  have e14 : Eff 258 s t2 := by
    refine Eff.app ?_ (Eff.foldl (m := 258) ?_ _ _) (Nat.or_self _)
    · exact e11
    · intro y15 y16
      refine Eff.app ?_ (e5 ..) (Nat.or_self _)
      exact Eff.refl _ _
  try clear_value t2
  refine Eff.app ?_ (State.setFld_eff ..) (by decide)
  exact e14

theorem State.loseFrame_eff (s : State) (f : SentFrame) : Eff 258 s (State.loseFrame s f) := by
  unfold State.loseFrame
  extract_lets -merge -underBinder t0
  have e1 : Eff 258 s t0 := by
    refine Eff.app ?_ (Eff.foldl (m := 258) ?_ _ _) (Nat.or_self _)
    · exact Eff.refl _ _
    · intro y2 y3
      split
      · refine Eff.app ?_ (State.bump_eff ..) (by decide)
        refine Eff.app ?_ (State.losePulse_eff ..) (by decide)
        exact Eff.refl _ _
      · exact Eff.refl _ _
  try clear_value t0
  refine Eff.app ?_ (Eff.foldl (m := 258) ?_ _ _) (Nat.or_self _)
  · exact e1
  · intro y4 y5
    refine Eff.app ?_ (State.deliverSlot_eff ..) (by decide)
    exact Eff.refl _ _

theorem State.cutPulses_eff (s : State) (sub : Nat) (step : Nat) : Eff 256 s (State.cutPulses s sub step) := by
  unfold State.cutPulses
  refine Eff.app ?_ (Eff.foldl (m := 256) ?_ _ _) (Nat.or_self _)
  · exact Eff.refl _ _
  · intro y0 y1
    refine Eff.app ?_ (Eff.foldl (m := 256) ?_ _ _) (Nat.or_self _)
    · exact Eff.refl _ _
    · intro y2 y3
      refine Eff.app ?_ (State.losePulse_eff ..) (by decide)
      exact Eff.refl _ _

end Sys2Proof.Machine
end

