-- ==== Sys2Proof/Laws/EffJobs.lean ====
section
/-! SUPPORT. What each operation of Machine/Jobs.lean can touch, by unit of the state (see Laws/Effect.lean). -/

set_option linter.unusedVariables false
set_option linter.unusedTactic false
set_option linter.unreachableTactic false

namespace Sys2Proof.Machine

theorem State.setJob_eff (s : State) (j : Nat) (x : Option Job) : Eff 512 s (State.setJob s j x) := by
  unfold State.setJob
  refine Eff.app ?_ (Eff.set_shep _ _) (by decide)
  exact Eff.refl _ _

theorem State.setCmd_eff (s : State) (j : Nat) (i : Nat) (st : CmdState) : Eff 512 s (State.setCmd s j i st) := by
  unfold State.setCmd
  split
  · exact Eff.refl _ _
  · refine Eff.app ?_ (State.setJob_eff ..) (by decide)
    exact Eff.refl _ _

theorem State.markJob_eff (s : State) (j : Nat) (empty : Bool) (wide : Bool) : Eff 512 s (State.markJob s j empty wide) := by
  unfold State.markJob
  split
  · exact Eff.refl _ _
  · refine Eff.app ?_ (State.setJob_eff ..) (by decide)
    exact Eff.refl _ _

theorem State.setCore_eff (s : State) (k : Nat) (x : CoreSt) : Eff 1024 s (State.setCore s k x) := by
  unfold State.setCore
  refine Eff.app ?_ (Eff.set_cores _ _) (by decide)
  exact Eff.refl _ _

theorem State.charge_eff (s : State) (c : Nat) (t0 : Nat) : Eff 512 s (State.charge s c t0) := by
  unfold State.charge
  refine Eff.app ?_ (Eff.set_shep _ _) (by decide)
  exact Eff.refl _ _

theorem State.endSlice_eff (s : State) (k : Nat) : Eff 1536 s (State.endSlice s k) := by
  unfold State.endSlice
  extract_lets -merge -underBinder t0
  try clear_value t0
  split
  · exact Eff.refl _ _
  · refine Eff.app ?_ (State.charge_eff ..) (by decide)
    refine Eff.app ?_ (State.setCore_eff ..) (by decide)
    exact Eff.refl _ _

theorem State.idleSlice_eff (s : State) (k : Nat) : Eff 1536 s (State.idleSlice s k) := by
  unfold State.idleSlice
  extract_lets -merge -underBinder t0
  try clear_value t0
  split
  · exact Eff.refl _ _
  · refine Eff.ite (fun _ => ?_) (fun _ => ?_)
    · exact Eff.refl _ _
    · refine Eff.app ?_ (State.endSlice_eff ..) (by decide)
      exact Eff.refl _ _

theorem State.payOwed_eff (s : State) (k : Nat) : Eff 1536 s (State.payOwed s k) := by
  unfold State.payOwed
  extract_lets -merge -underBinder t0
  try clear_value t0
  split
  · exact Eff.refl _ _
  · refine Eff.app ?_ (State.charge_eff ..) (by decide)
    refine Eff.app ?_ (State.setCore_eff ..) (by decide)
    exact Eff.refl _ _

theorem State.clearCore_eff (s : State) (k : Nat) (f : QEnt → Bool) : Eff 1536 s (State.clearCore s k f) := by
  unfold State.clearCore
  extract_lets -merge -underBinder t0 t1 t2 t3
  try clear_value t0
  try clear_value t1
  try clear_value t2
  have e4 : Eff 1536 s t3 := by
    refine Eff.app ?_ (State.setCore_eff ..) (by decide)
    exact Eff.refl _ _
  try clear_value t3
  refine Eff.ite (fun _ => ?_) (fun _ => ?_)
  · exact Eff.refl _ _
  · refine Eff.app ?_ (State.idleSlice_eff ..) (by decide)
    refine Eff.ite (fun _ => ?_) (fun _ => ?_)
    · refine Eff.app ?_ (State.payOwed_eff ..) (by decide)
      exact e4
    · exact e4

theorem State.idleUnits_eff (s : State) (f : LambWork → Bool) : Eff 2560 s (State.idleUnits s f) := by
  unfold State.idleUnits
  extract_lets -merge -underBinder t0 t1 t2 t3
  try clear_value t0
  try clear_value t1
  try clear_value t3
  have e4 : Eff 2560 s t2 := by
    refine Eff.app ?_ (Eff.foldl (m := 2560) ?_ _ _) (Nat.or_self _)
    · exact Eff.refl _ _
    · intro y5 y6
      split
      · split
        · refine Eff.app ?_ (State.charge_eff ..) (by decide)
          exact Eff.refl _ _
        · exact Eff.refl _ _
      · exact Eff.refl _ _
  try clear_value t2
  refine Eff.app ?_ (Eff.set_lamb _ _) (by decide)
  exact e4

theorem State.submit_eff (s : State) (q : JobReq) : Eff 512 s (State.submit s q) := by
  unfold State.submit
  refine Eff.app ?_ (Eff.set_shep _ _) (by decide)
  exact Eff.refl _ _

theorem State.submitPart_eff (s : State) (i : Nat) : Eff 4297098078 s (State.submitPart s i) := by
  unfold State.submitPart
  extract_lets -merge -underBinder t0
  try clear_value t0
  split
  · refine Eff.app ?_ (State.giveReason_eff ..) (by decide)
    exact Eff.refl _ _
  · refine Eff.ite (fun _ => ?_) (fun _ => ?_)
    · refine Eff.app ?_ (State.giveReason_eff ..) (by decide)
      exact Eff.refl _ _
    · extract_lets -merge -underBinder t1
      have e2 : Eff 4297098078 s t1 := by
        refine Eff.app ?_ (State.submit_eff ..) (by decide)
        refine Eff.app ?_ (State.setSlot_eff ..) (by decide)
        exact Eff.refl _ _
      try clear_value t1
      split
      · exact e2
      · extract_lets -merge -underBinder t3 t4
        try clear_value t3
        try clear_value t4
        refine Eff.ite (fun _ => ?_) (fun _ => ?_)
        · refine Eff.app ?_ (State.submit_eff ..) (by decide)
          refine Eff.app ?_ (State.setSlot_eff ..) (by decide)
          exact e2
        · exact e2

theorem State.semOp_eff (s : State) (d : List Byte) : Eff 2 s (State.semOp s d) := by
  unfold State.semOp
  extract_lets -merge -underBinder t0 t1
  try clear_value t0
  try clear_value t1
  refine Eff.ite (fun _ => ?_) (fun _ => ?_)
  · refine Eff.app ?_ (State.setFld_eff ..) (by decide)
    exact Eff.refl _ _
  · refine Eff.app ?_ (State.bumpSat_eff ..) (by decide)
    exact Eff.refl _ _

theorem State.runSems_eff (s : State) (x : Job) : Eff 2 s (State.runSems s x) := by
  unfold State.runSems
  extract_lets -merge -underBinder t0
  have e1 : Eff 2 s t0 := by
    refine Eff.app ?_ (Eff.foldl (m := 2) ?_ _ _) (Nat.or_self _)
    · exact Eff.refl _ _
    · intro y2 y3
      refine Eff.ite (fun _ => ?_) (fun _ => ?_)
      · refine Eff.app ?_ (State.semOp_eff ..) (by decide)
        exact Eff.refl _ _
      · exact Eff.refl _ _
  try clear_value t0
  refine Eff.app ?_ (Eff.foldl (m := 2) ?_ _ _) (Nat.or_self _)
  · exact e1
  · intro y4 y5
    extract_lets -merge -underBinder t6
    try clear_value t6
    refine Eff.ite (fun _ => ?_) (fun _ => ?_)
    · refine Eff.app ?_ (State.semOp_eff ..) (by decide)
      exact Eff.refl _ _
    · exact Eff.refl _ _

theorem State.postCompletion_eff (s : State) (client : Nat) (jobId : Nat) (st : JobStatus) (t : Nat) : Eff 94 s (State.postCompletion s client jobId st t).1 := by
  unfold State.postCompletion
  refine Eff.ite1 (fun _ => ?_) (fun _ => ?_)
  · refine Eff.fst ?_
    exact Eff.refl _ _
  · split
    · refine Eff.fst ?_
      refine Eff.app ?_ (Eff.of_pair (State.ringPost_eff ..) (by assumption)) (by decide)
      exact Eff.refl _ _
    · refine Eff.fst ?_
      refine Eff.app ?_ (State.reportRefused_eff ..) (by decide)
      refine Eff.app ?_ (Eff.of_pair (State.ringPost_eff ..) (by assumption)) (by decide)
      exact Eff.refl _ _
    · refine Eff.fst ?_
      refine Eff.app ?_ (Eff.of_pair (State.ringPost_eff ..) (by assumption)) (by decide)
      exact Eff.refl _ _

theorem State.dropBooks_eff (s : State) (k : Nat) (j : Nat) : Eff 1024 s (State.dropBooks s k j) := by
  unfold State.dropBooks
  extract_lets -merge -underBinder t0
  try clear_value t0
  refine Eff.ite (fun _ => ?_) (fun _ => ?_)
  · refine Eff.app ?_ (State.setCore_eff ..) (by decide)
    exact Eff.refl _ _
  · exact Eff.refl _ _

theorem State.withdrawJob_eff (s : State) (j : Nat) : Eff 3840 s (State.withdrawJob s j) := by
  unfold State.withdrawJob
  extract_lets -merge -underBinder t0 t1 t2 t3 t4
  try clear_value t2
  try clear_value t3
  try clear_value t4
  have e5 : Eff 3840 s t0 := by
    refine Eff.app ?_ (Eff.foldl (m := 3840) ?_ _ _) (Nat.or_self _)
    · exact Eff.refl _ _
    · intro y6 y7
      refine Eff.app ?_ (State.dropBooks_eff ..) (by decide)
      refine Eff.app ?_ (State.clearCore_eff ..) (by decide)
      exact Eff.refl _ _
  try clear_value t0
  have e8 : Eff 3840 s t1 := by
    refine Eff.app ?_ (State.idleUnits_eff ..) (by decide)
    exact e5
  try clear_value t1
  refine Eff.app ?_ (Eff.set_fold_lamb _ _ _) (by decide)
  exact e8

theorem State.originEnded_eff (s : State) (j : Nat) (x : Job) (st : JobStatus) : Eff 4297103710 s (State.originEnded s j x st) := by
  unfold State.originEnded
  split
  · refine Eff.app ?_ (State.trialEnded_eff ..) (by decide)
    exact Eff.refl _ _
  · refine Eff.app ?_ (State.realtimeEnded_eff ..) (by decide)
    exact Eff.refl _ _
  · extract_lets -merge -underBinder t0 t1
    try clear_value t0
    try clear_value t1
    refine Eff.app ?_ (State.dropTile_eff ..) (by decide)
    refine Eff.app ?_ (State.replayRecord_eff ..) (by decide)
    exact Eff.refl _ _
  · exact Eff.refl _ _

theorem State.noteStruck_eff (s : State) (x : Job) : Eff 512 s (State.noteStruck s x) := by
  unfold State.noteStruck
  split
  · extract_lets -merge -underBinder t0 t1
    try clear_value t0
    try clear_value t1
    refine Eff.app ?_ (Eff.set_shep _ _) (by decide)
    exact Eff.refl _ _
  · exact Eff.refl _ _

theorem State.loseStruck_eff (s : State) : Eff 256 s (State.loseStruck s) := by
  unfold State.loseStruck
  refine Eff.ite (fun _ => ?_) (fun _ => ?_)
  · exact Eff.refl _ _
  · refine Eff.app ?_ (Eff.foldl (m := 256) ?_ _ _) (Nat.or_self _)
    · exact Eff.refl _ _
    · intro y0 y1
      refine Eff.ite (fun _ => ?_) (fun _ => ?_)
      · refine Eff.app ?_ (State.setSlot_eff ..) (by decide)
        exact Eff.refl _ _
      · exact Eff.refl _ _

theorem State.endJob_eff (s : State) (j : Nat) (st : JobStatus) : Eff 4297105246 s (State.endJob s j st) := by
  unfold State.endJob
  split
  · exact Eff.refl _ _
  · refine Eff.ite (fun _ => ?_) (fun _ => ?_)
    · exact Eff.refl _ _
    · extract_lets -merge -underBinder t0 t1 t2 t3 t4 t5
      have e6 : Eff 4297105246 s t0 := by
        refine Eff.app ?_ (State.withdrawJob_eff ..) (by decide)
        exact Eff.refl _ _
      try clear_value t0
      have e7 : Eff 4297105246 s t1 := by
        refine Eff.ite (fun _ => ?_) (fun _ => ?_)
        · refine Eff.app ?_ (State.runSems_eff ..) (by decide)
          exact e6
        · exact e6
      try clear_value t1
      have e8 : Eff 4297105246 s t2 := by
        refine Eff.app ?_ (State.setJob_eff ..) (by decide)
        exact e7
      try clear_value t2
      have e9 : Eff 4297105246 s t3 := by
        refine Eff.ite (fun _ => ?_) (fun _ => ?_)
        · refine Eff.app ?_ (State.noteStruck_eff ..) (by decide)
          exact e8
        · exact e8
      try clear_value t3
      have e10 : Eff 4297105246 s t4 := by
        refine Eff.app ?_ (State.originEnded_eff ..) (by decide)
        exact e9
      try clear_value t4
      have e11 : Eff 4297105246 s t5 := by
        refine Eff.app ?_ (State.bump_eff ..) (by decide)
        exact e10
      try clear_value t5
      refine Eff.ite (fun _ => ?_) (fun _ => ?_)
      · exact e11
      · split
        · refine Eff.app ?_ (Eff.of_pair (State.postCompletion_eff ..) (by assumption)) (by decide)
          exact e11
        · refine Eff.app ?_ (State.setJob_eff ..) (by decide)
          refine Eff.app ?_ (Eff.of_pair (State.postCompletion_eff ..) (by assumption)) (by decide)
          exact e11

theorem State.finishJob_eff (s : State) (j : Nat) : Eff 4297105246 s (State.finishJob s j) := by
  unfold State.finishJob
  split
  · exact Eff.refl _ _
  · refine Eff.app ?_ (State.endJob_eff ..) (by decide)
    exact Eff.refl _ _

theorem State.postRefused_eff (s : State) : Eff 606 s (State.postRefused s) := by
  unfold State.postRefused
  refine Eff.app ?_ (Eff.foldl (m := 606) ?_ _ _) (Nat.or_self _)
  · exact Eff.refl _ _
  · intro y0 y1
    split
    · refine Eff.ite (fun _ => ?_) (fun _ => ?_)
      · exact Eff.refl _ _
      · extract_lets -merge -underBinder t3
        have e4 : ∀ y5, Eff 606 y5 (t3 y5) := by
          intro y5
          unfold t3
          refine Eff.app ?_ (Eff.set_shep _ _) (by decide)
          exact Eff.refl _ _
        try clear_value t3
        split
        · refine Eff.app ?_ (e4 ..) (Nat.or_self _)
          refine Eff.app ?_ (Eff.of_pair (State.ringPost_eff ..) (by assumption)) (by decide)
          exact Eff.refl _ _
        · refine Eff.app ?_ (State.reportRefused_eff ..) (by decide)
          refine Eff.app ?_ (e4 ..) (Nat.or_self _)
          refine Eff.app ?_ (Eff.of_pair (State.ringPost_eff ..) (by assumption)) (by decide)
          exact Eff.refl _ _
        · refine Eff.app ?_ (Eff.of_pair (State.ringPost_eff ..) (by assumption)) (by decide)
          exact Eff.refl _ _

theorem State.postWaiting_eff (s : State) : Eff 606 s (State.postWaiting s) := by
  unfold State.postWaiting
  extract_lets -merge -underBinder t0
  have e1 : Eff 606 s t0 := by
    refine Eff.app ?_ (State.postRefused_eff ..) (by decide)
    exact Eff.refl _ _
  try clear_value t0
  refine Eff.app ?_ (Eff.foldl (m := 606) ?_ _ _) (Nat.or_self _)
  · exact e1
  · intro y2 y3
    split
    · split
      · split
        · refine Eff.app ?_ (State.setJob_eff ..) (by decide)
          refine Eff.app ?_ (Eff.of_pair (State.postCompletion_eff ..) (by assumption)) (by decide)
          exact Eff.refl _ _
        · refine Eff.app ?_ (Eff.of_pair (State.postCompletion_eff ..) (by assumption)) (by decide)
          exact Eff.refl _ _
      · exact Eff.refl _ _
    · exact Eff.refl _ _

theorem State.dropWaiting_eff (s : State) (q : JobReq) : Eff 35678 s (State.dropWaiting s q) := by
  unfold State.dropWaiting
  extract_lets -merge -underBinder t0 t1
  try clear_value t0
  have e2 : Eff 35678 s t1 := by
    refine Eff.app ?_ (Eff.set_shep _ _) (by decide)
    exact Eff.refl _ _
  try clear_value t1
  split
  · refine Eff.app ?_ (State.tryRetire_eff ..) (by decide)
    refine Eff.app ?_ (State.setSlot_eff ..) (by decide)
    exact e2
  · refine Eff.app ?_ (State.tryRetire_eff ..) (by decide)
    refine Eff.app ?_ (State.setSlot_eff ..) (by decide)
    exact e2
  · exact e2

theorem State.dropStream_eff (s : State) (i : Nat) : Eff 2560 s (State.dropStream s i) := by
  unfold State.dropStream
  extract_lets -merge -underBinder t0 t1
  try clear_value t1
  have e2 : Eff 2560 s t0 := by
    refine Eff.app ?_ (State.idleUnits_eff ..) (by decide)
    exact Eff.refl _ _
  try clear_value t0
  refine Eff.app ?_ (Eff.set_lamb _ _) (by decide)
  exact e2

theorem State.abandonStream_eff (s : State) (i : Nat) : Eff 8589937158 s (State.abandonStream s i) := by
  unfold State.abandonStream
  refine Eff.ite (fun _ => ?_) (fun _ => ?_)
  · exact Eff.refl _ _
  · extract_lets -merge -underBinder t0
    have e1 : Eff 8589937158 s t0 := by
      refine Eff.app ?_ (State.bump_eff ..) (by decide)
      refine Eff.app ?_ (State.dropStream_eff ..) (by decide)
      exact Eff.refl _ _
    try clear_value t0
    split
    · exact e1
    · split
      · rename_i q2
        refine Eff.app ?_ (State.pokeL_eff ..) (by decide)
        refine Eff.app ?_ (Eff.of_pair (State.drawBlock_eff ..) q2) (by decide)
        exact e1

theorem State.abandonReasoned_eff (s : State) : Eff 8589937158 s (State.abandonReasoned s) := by
  unfold State.abandonReasoned
  refine Eff.app ?_ (Eff.foldl (m := 8589937158) ?_ _ _) (Nat.or_self _)
  · exact Eff.refl _ _
  · intro y0 y1
    refine Eff.ite (fun _ => ?_) (fun _ => ?_)
    · refine Eff.app ?_ (State.abandonStream_eff ..) (by decide)
      exact Eff.refl _ _
    · exact Eff.refl _ _

theorem State.cancelReasoned_eff (s : State) : Eff 12887039838 s (State.cancelReasoned s) := by
  unfold State.cancelReasoned
  extract_lets -merge -underBinder t0 t1
  have e2 : Eff 12887039838 s t0 := by
    refine Eff.app ?_ (State.abandonReasoned_eff ..) (by decide)
    exact Eff.refl _ _
  try clear_value t0
  have e3 : Eff 12887039838 s t1 := by
    refine Eff.app ?_ (Eff.foldl (m := 12887039838) ?_ _ _) (Nat.or_self _)
    · exact e2
    · intro y4 y5
      split
      · split
        · refine Eff.ite (fun _ => ?_) (fun _ => ?_)
          · refine Eff.app ?_ (State.endJob_eff ..) (by decide)
            exact Eff.refl _ _
          · exact Eff.refl _ _
        · exact Eff.refl _ _
      · exact Eff.refl _ _
  try clear_value t1
  refine Eff.app ?_ (Eff.foldl (m := 12887039838) ?_ _ _) (Nat.or_self _)
  · exact e3
  · intro y6 y7
    split
    · refine Eff.ite (fun _ => ?_) (fun _ => ?_)
      · refine Eff.app ?_ (State.dropWaiting_eff ..) (by decide)
        exact Eff.refl _ _
      · exact Eff.refl _ _
    · exact Eff.refl _ _

theorem State.reasonAndCancel_eff (s : State) (i : Nat) (why : Reason) : Eff 12887039838 s (State.reasonAndCancel s i why) := by
  unfold State.reasonAndCancel
  refine Eff.app ?_ (State.cancelReasoned_eff ..) (by decide)
  refine Eff.app ?_ (State.giveReason_eff ..) (by decide)
  exact Eff.refl _ _

theorem State.loseWaiting_eff (s : State) (q : JobReq) : Eff 35678 s (State.loseWaiting s q) := by
  unfold State.loseWaiting
  split
  · refine Eff.app ?_ (State.dropWaiting_eff ..) (by decide)
    exact Eff.refl _ _
  · extract_lets -merge -underBinder t0
    try clear_value t0
    refine Eff.app ?_ (State.dropTile_eff ..) (by decide)
    refine Eff.app ?_ (State.replayRecord_eff ..) (by decide)
    refine Eff.app ?_ (State.dropWaiting_eff ..) (by decide)
    exact Eff.refl _ _
  · exact Eff.refl _ _

theorem State.noteFlush_eff (s : State) (c : Nat) : Eff 35678 s (State.noteFlush s c) := by
  unfold State.noteFlush
  refine Eff.ite (fun _ => ?_) (fun _ => ?_)
  · exact Eff.refl _ _
  · extract_lets -merge -underBinder t0 t1 t2 t3 t4
    try clear_value t0
    try clear_value t1
    have e5 : Eff 35678 s t2 := by
      refine Eff.app ?_ (Eff.set_shep _ _) (by decide)
      exact Eff.refl _ _
    try clear_value t2
    have e6 : Eff 35678 s t3 := by
      refine Eff.app ?_ (State.setFld_eff ..) (by decide)
      exact e5
    try clear_value t3
    have e7 : Eff 35678 s t4 := by
      refine Eff.app ?_ (State.raise_eff ..) (by decide)
      refine Eff.app ?_ (State.setFld_eff ..) (by decide)
      exact e6
    try clear_value t4
    refine Eff.ite (fun _ => ?_) (fun _ => ?_)
    · refine Eff.app ?_ (Eff.foldl (m := 35678) ?_ _ _) (Nat.or_self _)
      · exact e7
      · intro y8 y9
        refine Eff.app ?_ (State.loseWaiting_eff ..) (by decide)
        exact Eff.refl _ _
    · exact e6

theorem State.resetSems_eff (s : State) : Eff 2 s (State.resetSems s) := by
  unfold State.resetSems
  refine Eff.app ?_ (Eff.foldl (m := 2) ?_ _ _) (Nat.or_self _)
  · exact Eff.refl _ _
  · intro y0 y1
    refine Eff.app ?_ (State.setFld_eff ..) (by decide)
    exact Eff.refl _ _

theorem State.noteFault_eff (s : State) (x : Job) (cause : Nat) : Eff 2 s (State.noteFault s x cause) := by
  unfold State.noteFault
  refine Eff.app ?_ (State.setFld_eff ..) (by decide)
  refine Eff.app ?_ (State.setFld_eff ..) (by decide)
  refine Eff.app ?_ (State.setFld_eff ..) (by decide)
  exact Eff.refl _ _

theorem State.jobFault_eff (s : State) (j : Nat) (cause : Nat) : Eff 12887039838 s (State.jobFault s j cause) := by
  unfold State.jobFault
  split
  · exact Eff.refl _ _
  · extract_lets -merge -underBinder t0 t1 t2 t3 t4 t5 t6 t7 t8 t9
    try clear_value t0
    try clear_value t1
    try clear_value t5
    have e10 : Eff 12887039838 s t2 := by
      refine Eff.app ?_ (Eff.set_shep _ _) (by decide)
      exact Eff.refl _ _
    try clear_value t2
    have e11 : Eff 12887039838 s t3 := by
      refine Eff.app ?_ (Eff.foldl (m := 12887039838) ?_ _ _) (Nat.or_self _)
      · exact e10
      · intro y12 y13
        refine Eff.app ?_ (State.endJob_eff ..) (by decide)
        exact Eff.refl _ _
    try clear_value t3
    have e14 : Eff 12887039838 s t4 := by
      refine Eff.app ?_ (Eff.foldl (m := 12887039838) ?_ _ _) (Nat.or_self _)
      · exact e11
      · intro y15 y16
        refine Eff.app ?_ (State.setCore_eff ..) (by decide)
        exact Eff.refl _ _
    try clear_value t4
    have e17 : Eff 12887039838 s t6 := by
      refine Eff.app ?_ (Eff.set_lamb _ _) (by decide)
      exact e14
    try clear_value t6
    have e18 : Eff 12887039838 s t7 := by
      refine Eff.app ?_ (State.loseStruck_eff ..) (by decide)
      refine Eff.app ?_ (State.resetSems_eff ..) (by decide)
      exact e17
    try clear_value t7
    have e19 : Eff 12887039838 s t8 := by
      refine Eff.app ?_ (State.noteFault_eff ..) (by decide)
      refine Eff.app ?_ (State.bump_eff ..) (by decide)
      exact e18
    try clear_value t8
    have e20 : Eff 12887039838 s t9 := by
      refine Eff.app ?_ (State.raise_eff ..) (by decide)
      exact e19
    try clear_value t9
    refine Eff.app ?_ (State.cancelReasoned_eff ..) (by decide)
    refine Eff.app ?_ (State.noteFlush_eff ..) (by decide)
    exact e20

theorem State.faultAgain_eff (s : State) (x : Job) (cause : Nat) : Eff 35678 s (State.faultAgain s x cause) := by
  unfold State.faultAgain
  extract_lets -merge -underBinder t0
  have e1 : Eff 35678 s t0 := by
    refine Eff.ite (fun _ => ?_) (fun _ => ?_)
    · refine Eff.app ?_ (State.noteFault_eff ..) (by decide)
      exact Eff.refl _ _
    · exact Eff.refl _ _
  try clear_value t0
  refine Eff.app ?_ (State.noteFlush_eff ..) (by decide)
  exact e1

theorem State.coresHold_eff (s : State) : Eff 4294967390 s (State.coresHold s) := by
  unfold State.coresHold
  extract_lets -merge -underBinder t0 t1
  try clear_value t0
  have e2 : Eff 4294967390 s t1 := by
    refine Eff.ite (fun _ => ?_) (fun _ => ?_)
    · refine Eff.app ?_ (State.raise_eff ..) (by decide)
      exact Eff.refl _ _
    · exact Eff.refl _ _
  try clear_value t1
  refine Eff.app ?_ (State.hold_eff ..) (by decide)
  exact e2

theorem State.fence_eff (s : State) (k : Nat) (cause : Nat) : Eff 4294969182 s (State.fence s k cause) := by
  unfold State.fence
  extract_lets -merge -underBinder t0 t1 t2 t3 t4 t5 t6 t7 t8 t9 t10
  try clear_value t0
  try clear_value t1
  try clear_value t2
  try clear_value t8
  try clear_value t9
  have e11 : Eff 4294969182 s t3 := by
    refine Eff.app ?_ (State.setFld_eff ..) (by decide)
    refine Eff.app ?_ (State.setFld_eff ..) (by decide)
    exact Eff.refl _ _
  try clear_value t3
  have e12 : Eff 4294969182 s t4 := by
    refine Eff.app ?_ (Eff.foldl (m := 4294969182) ?_ _ _) (Nat.or_self _)
    · exact e11
    · intro y13 y14
      split
      · refine Eff.app ?_ (State.setJob_eff ..) (by decide)
        exact Eff.refl _ _
      · exact Eff.refl _ _
  try clear_value t4
  have e15 : Eff 4294969182 s t5 := by
    refine Eff.app ?_ (Eff.foldl (m := 4294969182) ?_ _ _) (Nat.or_self _)
    · exact e12
    · intro y16 y17
      refine Eff.ite (fun _ => ?_) (fun _ => ?_)
      · exact Eff.refl _ _
      · refine Eff.app ?_ (State.clearCore_eff ..) (by decide)
        exact Eff.refl _ _
  try clear_value t5
  have e18 : Eff 4294969182 s t6 := by
    refine Eff.app ?_ (State.endSlice_eff ..) (by decide)
    refine Eff.app ?_ (State.payOwed_eff ..) (by decide)
    exact e15
  try clear_value t6
  have e19 : Eff 4294969182 s t7 := by
    refine Eff.app ?_ (State.setCore_eff ..) (by decide)
    exact e18
  try clear_value t7
  have e20 : Eff 4294969182 s t10 := by
    refine Eff.app ?_ (Eff.set_fold _ _) (by decide)
    exact e19
  try clear_value t10
  refine Eff.app ?_ (State.coresHold_eff ..) (by decide)
  refine Eff.app ?_ (State.raise_eff ..) (by decide)
  exact e20

end Sys2Proof.Machine
end

