-- ==== Sys2Proof/Laws/EffPosition.lean ====
section
/-! SUPPORT. What each operation of Machine/Position.lean can touch, by unit of the state (see Laws/Effect.lean). -/

set_option linter.unusedVariables false
set_option linter.unusedTactic false
set_option linter.unreachableTactic false

namespace Sys2Proof.Machine

theorem State.encHold_eff (s : State) : Eff 4294967390 s (State.encHold s) := by
  unfold State.encHold
  refine Eff.app ?_ (State.hold_eff ..) (by decide)
  exact Eff.refl _ _

theorem State.slip_eff (s : State) (e : Nat) (cause : Nat) (err : Int) : Eff 12887039838 s (State.slip s e cause err) := by
  unfold State.slip
  extract_lets -merge -underBinder t0 t1 t2
  try clear_value t0
  have e3 : Eff 12887039838 s t1 := by
    refine Eff.app ?_ (State.bumpSat_eff ..) (by decide)
    refine Eff.app ?_ (State.setFld_eff ..) (by decide)
    exact Eff.refl _ _
  try clear_value t1
  have e4 : Eff 12887039838 s t2 := by
    refine Eff.app ?_ (State.raise_eff ..) (by decide)
    exact e3
  try clear_value t2
  refine Eff.app ?_ (State.cancelReasoned_eff ..) (by decide)
  refine Eff.app ?_ (State.slipParts_eff ..) (by decide)
  exact e4

theorem State.encFail_eff (s : State) (e : Nat) (cause : Nat) : Eff 12887039838 s (State.encFail s e cause) := by
  unfold State.encFail
  refine Eff.ite (fun _ => ?_) (fun _ => ?_)
  · refine Eff.app ?_ (State.encHold_eff ..) (by decide)
    refine Eff.app ?_ (State.setFld_eff ..) (by decide)
    refine Eff.app ?_ (State.slip_eff ..) (by decide)
    exact Eff.refl _ _
  · exact Eff.refl _ _

theorem State.setTrig_eff (s : State) (t : Nat) (x : Trig) : Eff 128 s (State.setTrig s t x) := by
  unfold State.setTrig
  refine Eff.app ?_ (Eff.set_pos _ _) (by decide)
  exact Eff.refl _ _

theorem State.setStream_eff (s : State) (n : Nat) (x : Stream) : Eff 131072 s (State.setStream s n x) := by
  unfold State.setStream
  refine Eff.app ?_ (Eff.set_streams _ _) (by decide)
  exact Eff.refl _ _

theorem State.expectLine_eff (s : State) (t : Nat) (num : Nat) (pos : Int) : Eff 131072 s (State.expectLine s t num pos) := by
  unfold State.expectLine
  refine Eff.ite (fun _ => ?_) (fun _ => ?_)
  · exact Eff.refl _ _
  · refine Eff.app ?_ (Eff.foldl (m := 131072) ?_ _ _) (Nat.or_self _)
    · exact Eff.refl _ _
    · intro y0 y1
      extract_lets -merge -underBinder t2 t3
      try clear_value t2
      try clear_value t3
      refine Eff.ite (fun _ => ?_) (fun _ => ?_)
      · refine Eff.app ?_ (State.setStream_eff ..) (by decide)
        exact Eff.refl _ _
      · exact Eff.refl _ _

theorem State.issueTrig_eff (s : State) (t : Nat) : Eff 131202 s (State.issueTrig s t) := by
  unfold State.issueTrig
  extract_lets -merge -underBinder t0 t1 t2 t3
  try clear_value t0
  try clear_value t1
  try clear_value t2
  have e4 : Eff 131202 s t3 := by
    refine Eff.app ?_ (State.setTrig_eff ..) (by decide)
    exact Eff.refl _ _
  try clear_value t3
  refine Eff.app ?_ (State.expectLine_eff ..) (by decide)
  refine Eff.app ?_ (State.setSFld_eff ..) (by decide)
  refine Eff.app ?_ (State.bump_eff ..) (by decide)
  exact e4

theorem State.reachTarget_eff (s : State) (t : Nat) (target : Int) : Eff 131294 s (State.reachTarget s t target) := by
  unfold State.reachTarget
  extract_lets -merge -underBinder t0 t1 t2 t3
  try clear_value t0
  try clear_value t3
  have e4 : Eff 131294 s t1 := by
    refine Eff.app ?_ (State.setTrig_eff ..) (by decide)
    exact Eff.refl _ _
  try clear_value t1
  have e5 : Eff 131294 s t2 := by
    refine Eff.app ?_ (State.bumpSat_eff ..) (by decide)
    refine Eff.app ?_ (State.setFld_eff ..) (by decide)
    exact e4
  try clear_value t2
  refine Eff.ite (fun _ => ?_) (fun _ => ?_)
  · refine Eff.app ?_ (State.raise_eff ..) (by decide)
    exact e5
  · refine Eff.ite (fun _ => ?_) (fun _ => ?_)
    · refine Eff.app ?_ (State.issueTrig_eff ..) (by decide)
      exact e4
    · refine Eff.app ?_ (State.setTrig_eff ..) (by decide)
      exact e4

theorem State.trigCheck_eff (a0 : Nat) (a1 : State) (a2 : Nat) : Eff 131294 a1 (State.trigCheck a0 a1 a2) := by
  induction a0 generalizing a1 a2 with
  | zero =>
    rw [State.trigCheck]
    exact Eff.refl _ _
  | succ fuel ih =>
    rw [State.trigCheck]
    split
    · exact Eff.refl _ _
    · refine Eff.ite (fun _ => ?_) (fun _ => ?_)
      · refine Eff.app ?_ (ih ..) (Nat.or_self _)
        refine Eff.app ?_ (State.reachTarget_eff ..) (by decide)
        exact Eff.refl _ _
      · exact Eff.refl _ _

theorem State.trigMove_eff (s : State) (e : Nat) (n : Nat) : Eff 131294 s (State.trigMove s e n) := by
  unfold State.trigMove
  refine Eff.app ?_ (Eff.foldl (m := 131294) ?_ _ _) (Nat.or_self _)
  · exact Eff.refl _ _
  · intro y0 y1
    refine Eff.ite (fun _ => ?_) (fun _ => ?_)
    · extract_lets -merge -underBinder t2 t3 t4
      try clear_value t2
      try clear_value t3
      have e5 : Eff 131294 y0 t4 := by
        refine Eff.app ?_ (State.setTrig_eff ..) (by decide)
        exact Eff.refl _ _
      try clear_value t4
      refine Eff.app ?_ (State.trigCheck_eff ..) (by decide)
      exact e5
    · exact Eff.refl _ _

theorem State.startTrig_eff (s : State) (t : Nat) : Eff 128 s (State.startTrig s t) := by
  unfold State.startTrig
  extract_lets -merge -underBinder t0 t1 t2 t3 t4 t5
  try clear_value t0
  try clear_value t1
  try clear_value t2
  try clear_value t3
  try clear_value t4
  try clear_value t5
  refine Eff.app ?_ (State.setTrig_eff ..) (by decide)
  exact Eff.refl _ _

theorem State.stopTrig_eff (s : State) (t : Nat) : Eff 128 s (State.stopTrig s t) := by
  unfold State.stopTrig
  refine Eff.app ?_ (State.setTrig_eff ..) (by decide)
  exact Eff.refl _ _

theorem State.enableTrig_eff (s : State) (t : Nat) (on : Bool) : Eff 130 s (State.enableTrig s t on) := by
  unfold State.enableTrig
  extract_lets -merge -underBinder t0 t1
  try clear_value t0
  have e2 : Eff 130 s t1 := by
    refine Eff.app ?_ (State.setFlag_eff ..) (by decide)
    exact Eff.refl _ _
  try clear_value t1
  refine Eff.ite (fun _ => ?_) (fun _ => ?_)
  · refine Eff.app ?_ (State.startTrig_eff ..) (by decide)
    exact e2
  · refine Eff.ite (fun _ => ?_) (fun _ => ?_)
    · refine Eff.app ?_ (State.stopTrig_eff ..) (by decide)
      exact e2
    · exact e2

theorem State.triggerPending_eff (s : State) (t : Nat) : Eff 131234 s (State.triggerPending s t) := by
  unfold State.triggerPending
  extract_lets -merge -underBinder t0 t1
  try clear_value t0
  have e2 : Eff 131234 s t1 := by
    unfold t1
    split
    · refine Eff.app ?_ (State.advanceTo_eff ..) (by decide)
      exact Eff.refl _ _
    · exact Eff.refl _ _
  try clear_value t1
  refine Eff.ite (fun _ => ?_) (fun _ => ?_)
  · refine Eff.app ?_ (State.issueTrig_eff ..) (by decide)
    exact e2
  · exact Eff.refl _ _

theorem State.triggerEnd_eff (s : State) (t : Nat) : Eff 160 s (State.triggerEnd s t) := by
  unfold State.triggerEnd
  split
  · extract_lets -merge -underBinder t0 t1
    try clear_value t1
    have e2 : Eff 160 s t0 := by
      refine Eff.app ?_ (State.advanceTo_eff ..) (by decide)
      exact Eff.refl _ _
    try clear_value t0
    refine Eff.app ?_ (State.setTrig_eff ..) (by decide)
    exact e2
  · exact Eff.refl _ _

theorem State.spanCancel_eff (s : State) (e : Nat) : Eff 12887039838 s (State.spanCancel s e) := by
  unfold State.spanCancel
  extract_lets -merge -underBinder t0 t1 t2 t3
  try clear_value t0
  have e4 : Eff 12887039838 s t1 := by
    refine Eff.app ?_ (Eff.foldl (m := 12887039838) ?_ _ _) (Nat.or_self _)
    · exact Eff.refl _ _
    · intro y5 y6
      split
      · split
        · refine Eff.ite (fun _ => ?_) (fun _ => ?_)
          · refine Eff.app ?_ (State.endJob_eff ..) (by decide)
            refine Eff.app ?_ (State.giveReason_eff ..) (by decide)
            exact Eff.refl _ _
          · exact Eff.refl _ _
        · exact Eff.refl _ _
      · exact Eff.refl _ _
  try clear_value t1
  have e7 : Eff 12887039838 s t2 := by
    refine Eff.app ?_ (Eff.foldl (m := 12887039838) ?_ _ _) (Nat.or_self _)
    · exact e4
    · intro y8 y9
      split
      · refine Eff.ite (fun _ => ?_) (fun _ => ?_)
        · refine Eff.app ?_ (State.dropWaiting_eff ..) (by decide)
          refine Eff.app ?_ (State.giveReason_eff ..) (by decide)
          exact Eff.refl _ _
        · exact Eff.refl _ _
      · exact Eff.refl _ _
  try clear_value t2
  have e10 : Eff 12887039838 s t3 := by
    refine Eff.app ?_ (Eff.foldl (m := 12887039838) ?_ _ _) (Nat.or_self _)
    · exact e7
    · intro y11 y12
      extract_lets -merge -underBinder t13
      try clear_value t13
      refine Eff.ite (fun _ => ?_) (fun _ => ?_)
      · refine Eff.app ?_ (State.tryRetire_eff ..) (by decide)
        refine Eff.app ?_ (State.setSlot_eff ..) (by decide)
        exact Eff.refl _ _
      · exact Eff.refl _ _
  try clear_value t3
  refine Eff.app ?_ (State.cancelReasoned_eff ..) (by decide)
  exact e10

theorem State.halfDiscard_eff (s : State) (e : Nat) : Eff 2101342 s (State.halfDiscard s e) := by
  unfold State.halfDiscard
  extract_lets -merge -underBinder t0
  try clear_value t0
  refine Eff.app ?_ (Eff.foldl (m := 2101342) ?_ _ _) (Nat.or_self _)
  · exact Eff.refl _ _
  · intro y1 y2
    refine Eff.ite (fun _ => ?_) (fun _ => ?_)
    · split
      · refine Eff.app ?_ (State.raise_eff ..) (by decide)
        refine Eff.app ?_ (State.bump_eff ..) (by decide)
        refine Eff.app ?_ (State.dropHeld_eff ..) (by decide)
        exact Eff.refl _ _
      · exact Eff.refl _ _
    · exact Eff.refl _ _

theorem State.afterMove_eff (s : State) (e : Nat) (n : Nat) : Eff 12887171038 s (State.afterMove s e n) := by
  unfold State.afterMove
  refine Eff.app ?_ (State.halfDiscard_eff ..) (by decide)
  refine Eff.app ?_ (State.spanCancel_eff ..) (by decide)
  refine Eff.app ?_ (State.cancelReasoned_eff ..) (by decide)
  refine Eff.app ?_ (State.lateChecks_eff ..) (by decide)
  refine Eff.app ?_ (State.trigMove_eff ..) (by decide)
  exact Eff.refl _ _

theorem State.move_eff (s : State) (e : Nat) (c : Nat) (d : Int) : Eff 130 s (State.move s e c d) := by
  unfold State.move
  extract_lets -merge -underBinder t0 t1 t2
  try clear_value t0
  try clear_value t2
  have e3 : Eff 130 s t1 := by
    refine Eff.app ?_ (State.setFld_eff ..) (by decide)
    refine Eff.app ?_ (State.setSFld_eff ..) (by decide)
    exact Eff.refl _ _
  try clear_value t1
  refine Eff.ite (fun _ => ?_) (fun _ => ?_)
  · exact e3
  · refine Eff.app ?_ (State.setEnc_eff ..) (by decide)
    exact e3

theorem State.indexAt_eff (s : State) (e : Nat) (q : Int) : Eff 12887039966 s (State.indexAt s e q) := by
  unfold State.indexAt
  extract_lets -merge -underBinder t0 t1 t2 t3 t4 t5 t6
  try clear_value t0
  try clear_value t1
  try clear_value t4
  try clear_value t5
  try clear_value t6
  have e7 : Eff 12887039966 s t2 := by
    refine Eff.app ?_ (State.setFld_eff ..) (by decide)
    refine Eff.app ?_ (State.setSFld_eff ..) (by decide)
    exact Eff.refl _ _
  try clear_value t2
  have e8 : Eff 12887039966 s t3 := by
    refine Eff.app ?_ (State.setEnc_eff ..) (by decide)
    exact e7
  try clear_value t3
  refine Eff.ite (fun _ => ?_) (fun _ => ?_)
  · refine Eff.ite (fun _ => ?_) (fun _ => ?_)
    · refine Eff.app ?_ (State.setSFld_eff ..) (by decide)
      exact e8
    · refine Eff.app ?_ (State.slip_eff ..) (by decide)
      exact e8
  · exact e8

theorem State.countPair_eff (s : State) (e : Nat) (c : Nat) (a : Bool) (b : Bool) : Eff 12887171038 s (State.countPair s e c a b) := by
  unfold State.countPair
  extract_lets -merge -underBinder t0 t1
  try clear_value t0
  have e2 : Eff 12887171038 s t1 := by
    refine Eff.app ?_ (State.setEnc_eff ..) (by decide)
    exact Eff.refl _ _
  try clear_value t1
  split
  · refine Eff.app ?_ (State.slip_eff ..) (by decide)
    exact e2
  · refine Eff.ite (fun _ => ?_) (fun _ => ?_)
    · exact e2
    · extract_lets -merge -underBinder t3 t4 t5
      try clear_value t3
      have e6 : Eff 12887171038 s t4 := by
        refine Eff.app ?_ (State.move_eff ..) (by decide)
        exact e2
      try clear_value t4
      have e7 : Eff 12887171038 s t5 := by
        refine Eff.app ?_ (State.setEnc_eff ..) (by decide)
        exact e6
      try clear_value t5
      refine Eff.app ?_ (State.afterMove_eff ..) (by decide)
      exact e7

theorem State.countCycle_eff (s : State) (e : Nat) (c : Nat) : Eff 12887171038 s (State.countCycle s e c) := by
  unfold State.countCycle
  extract_lets -merge -underBinder t0 t1 t2 t3 t4 t5 t6
  try clear_value t0
  try clear_value t1
  try clear_value t2
  try clear_value t3
  try clear_value t4
  try clear_value t5
  have e7 : Eff 12887171038 s t6 := by
    refine Eff.app ?_ (State.countPair_eff ..) (by decide)
    refine Eff.app ?_ (State.setEnc_eff ..) (by decide)
    exact Eff.refl _ _
  try clear_value t6
  refine Eff.ite (fun _ => ?_) (fun _ => ?_)
  · refine Eff.app ?_ (State.indexAt_eff ..) (by decide)
    exact e7
  · exact e7

theorem State.passTo_eff (s : State) (e : Nat) (c : Nat) : Eff 12887039870 s (State.passTo s e c) := by
  unfold State.passTo
  split
  · refine Eff.ite (fun _ => ?_) (fun _ => ?_)
    · refine Eff.app ?_ (State.advanceTo_eff ..) (by decide)
      refine Eff.app ?_ (State.encFail_eff ..) (by decide)
      refine Eff.app ?_ (State.advanceTo_eff ..) (by decide)
      exact Eff.refl _ _
    · refine Eff.app ?_ (State.advanceTo_eff ..) (by decide)
      exact Eff.refl _ _
  · refine Eff.app ?_ (State.advanceTo_eff ..) (by decide)
    exact Eff.refl _ _

theorem State.encCycle_eff (s : State) (e : Nat) (p : Sample) : Eff 12887171070 s (State.encCycle s e p) := by
  unfold State.encCycle
  extract_lets -merge -underBinder t0 t1 t2
  try clear_value t1
  try clear_value t2
  have e3 : Eff 12887171070 s t0 := by
    refine Eff.app ?_ (State.passTo_eff ..) (by decide)
    exact Eff.refl _ _
  try clear_value t0
  refine Eff.ite (fun _ => ?_) (fun _ => ?_)
  · refine Eff.app ?_ (State.countCycle_eff ..) (by decide)
    refine Eff.app ?_ (State.setEnc_eff ..) (by decide)
    exact e3
  · refine Eff.app ?_ (State.setEnc_eff ..) (by decide)
    exact e3

theorem State.dieCycle_eff (s : State) (e : Nat) (p : Sample) : Eff 16512 s (State.dieCycle s e p) := by
  unfold State.dieCycle
  extract_lets -merge -underBinder t0 t1 t2 t3 t4 t5 t6 t7 t8 t9
  try clear_value t0
  try clear_value t1
  try clear_value t2
  try clear_value t3
  try clear_value t4
  try clear_value t5
  try clear_value t6
  try clear_value t7
  try clear_value t8
  try clear_value t9
  refine Eff.app ?_ (State.setEnc_eff ..) (by decide)
  refine Eff.app ?_ (Eff.set_die _ _) (by decide)
  exact Eff.refl _ _

theorem State.sampleTo_eff (s : State) (e : Nat) (dt : Nat) (wa : BitVec 64) (wb : BitVec 64) (wz : BitVec 64) : Eff 12887187454 s (State.sampleTo s e dt wa wb wz) := by
  unfold State.sampleTo
  refine Eff.ite (fun _ => ?_) (fun _ => ?_)
  · refine Eff.app ?_ (State.advance_eff ..) (by decide)
    exact Eff.refl _ _
  · extract_lets -merge -underBinder t0 t1 t2 t3 t4 t5
    try clear_value t0
    try clear_value t1
    try clear_value t2
    try clear_value t3
    try clear_value t5
    have e6 : Eff 12887187454 s t4 := by
      refine Eff.app ?_ (Eff.foldl (m := 12887187454) ?_ _ _) (Nat.or_self _)
      · refine Eff.app ?_ (State.advance_eff ..) (by decide)
        exact Eff.refl _ _
      · intro y7 y8
        refine Eff.app ?_ (State.dieCycle_eff ..) (by decide)
        exact Eff.refl _ _
    try clear_value t4
    refine Eff.ite (fun _ => ?_) (fun _ => ?_)
    · refine Eff.app ?_ (State.passTo_eff ..) (by decide)
      refine Eff.app ?_ (Eff.foldl (m := 12887187454) ?_ _ _) (Nat.or_self _)
      · exact Eff.refl _ _
      · intro y9 y10
        refine Eff.app ?_ (State.encCycle_eff ..) (by decide)
        exact Eff.refl _ _
    · refine Eff.app ?_ (State.setEnc_eff ..) (by decide)
      exact e6

theorem State.sampleStanding_eff (s : State) (e : Nat) : Eff 12887187454 s (State.sampleStanding s e) := by
  unfold State.sampleStanding
  extract_lets -merge -underBinder t0
  try clear_value t0
  refine Eff.app ?_ (State.sampleTo_eff ..) (by decide)
  exact Eff.refl _ _

theorem State.encoderCount_eff (s : State) (e : Nat) (dt : Nat) (wa : BitVec 64) (wb : BitVec 64) (wz : BitVec 64) : Eff 12887187454 s (State.encoderCount s e dt wa wb wz) := by
  unfold State.encoderCount
  refine Eff.app ?_ (State.sampleTo_eff ..) (by decide)
  exact Eff.refl _ _

theorem State.indexEvent_eff (s : State) (e : Nat) (dt : Nat) (wa : BitVec 64) (wb : BitVec 64) (wz : BitVec 64) : Eff 12887187454 s (State.indexEvent s e dt wa wb wz) := by
  unfold State.indexEvent
  refine Eff.app ?_ (State.sampleTo_eff ..) (by decide)
  exact Eff.refl _ _

theorem State.htlFrame_eff (s : State) (e : Nat) (cnt : Nat) (zcnt : Nat) (zev : Bool) : Eff 12887171038 s (State.htlFrame s e cnt zcnt zev) := by
  unfold State.htlFrame
  refine Eff.ite (fun _ => ?_) (fun _ => ?_)
  · exact Eff.refl _ _
  · split
    · refine Eff.app ?_ (State.setEnc_eff ..) (by decide)
      exact Eff.refl _ _
    · extract_lets -merge -underBinder t0 t1 t2 t3 t4 t5 t6 t7 t8 t9 t10 t11
      try clear_value t0
      try clear_value t1
      try clear_value t2
      try clear_value t3
      try clear_value t4
      try clear_value t6
      try clear_value t7
      try clear_value t8
      have e12 : Eff 12887171038 s t5 := by
        refine Eff.app ?_ (State.move_eff ..) (by decide)
        refine Eff.app ?_ (State.setEnc_eff ..) (by decide)
        exact Eff.refl _ _
      try clear_value t5
      have e13 : Eff 12887171038 s t9 := by
        refine Eff.app ?_ (State.setEnc_eff ..) (by decide)
        exact e12
      try clear_value t9
      have e14 : Eff 12887171038 s t10 := by
        refine Eff.app ?_ (State.indexAt_eff ..) (by decide)
        exact e13
      try clear_value t10
      have e15 : Eff 12887171038 s t11 := by
        refine Eff.ite (fun _ => ?_) (fun _ => ?_)
        · refine Eff.app ?_ (State.setEnc_eff ..) (by decide)
          exact e12
        · refine Eff.app ?_ (State.setEnc_eff ..) (by decide)
          exact e14
      try clear_value t11
      refine Eff.ite (fun _ => ?_) (fun _ => ?_)
      · exact e15
      · refine Eff.app ?_ (State.afterMove_eff ..) (by decide)
        exact e15

theorem State.lineFault_eff (s : State) (e : Nat) (dt : Nat) (lines : Nat) : Eff 12887039998 s (State.lineFault s e dt lines) := by
  unfold State.lineFault
  extract_lets -merge -underBinder t0 t1
  try clear_value t1
  have e2 : Eff 12887039998 s t0 := by
    refine Eff.app ?_ (State.passTo_eff ..) (by decide)
    exact Eff.refl _ _
  try clear_value t0
  refine Eff.ite (fun _ => ?_) (fun _ => ?_)
  · exact e2
  · refine Eff.app ?_ (State.setEnc_eff ..) (by decide)
    exact e2

theorem State.fillFilters_eff (s : State) (e : Nat) : Eff 128 s (State.fillFilters s e) := by
  unfold State.fillFilters
  extract_lets -merge -underBinder t0 t1 t2 t3
  try clear_value t0
  try clear_value t1
  try clear_value t2
  try clear_value t3
  refine Eff.ite (fun _ => ?_) (fun _ => ?_)
  · refine Eff.app ?_ (State.setEnc_eff ..) (by decide)
    exact Eff.refl _ _
  · refine Eff.app ?_ (State.setEnc_eff ..) (by decide)
    exact Eff.refl _ _

theorem State.clrFail_eff (s : State) (e : Nat) : Eff 12887187454 s (State.clrFail s e) := by
  unfold State.clrFail
  refine Eff.ite (fun _ => ?_) (fun _ => ?_)
  · extract_lets -merge -underBinder t0 t1
    try clear_value t1
    have e2 : Eff 12887187454 s t0 := by
      refine Eff.app ?_ (State.fillFilters_eff ..) (by decide)
      refine Eff.app ?_ (State.setFld_eff ..) (by decide)
      refine Eff.app ?_ (State.sampleStanding_eff ..) (by decide)
      exact Eff.refl _ _
    try clear_value t0
    refine Eff.app ?_ (State.encHold_eff ..) (by decide)
    refine Eff.app ?_ (State.setEnc_eff ..) (by decide)
    exact e2
  · exact Eff.refl _ _

theorem State.clrDrift_eff (s : State) (e : Nat) : Eff 2 s (State.clrDrift s e) := by
  unfold State.clrDrift
  refine Eff.app ?_ (State.setFld_eff ..) (by decide)
  exact Eff.refl _ _

theorem State.openWindow_eff (s : State) (e : Nat) (c : Nat) : Eff 128 s (State.openWindow s e c) := by
  unfold State.openWindow
  refine Eff.app ?_ (State.setEnc_eff ..) (by decide)
  exact Eff.refl _ _

theorem State.gateRecompute_eff (s : State) (e : Nat) : Eff 12887039838 s (State.gateRecompute s e) := by
  unfold State.gateRecompute
  extract_lets -merge -underBinder t0 t1
  have e2 : Eff 12887039838 s t0 := by
    refine Eff.app ?_ (Eff.foldl (m := 12887039838) ?_ _ _) (Nat.or_self _)
    · exact Eff.refl _ _
    · intro y3 y4
      refine Eff.ite (fun _ => ?_) (fun _ => ?_)
      · refine Eff.app ?_ (State.latchOut_eff ..) (by decide)
        exact Eff.refl _ _
      · exact Eff.refl _ _
  try clear_value t0
  have e5 : Eff 12887039838 s t1 := by
    refine Eff.app ?_ (Eff.foldl (m := 12887039838) ?_ _ _) (Nat.or_self _)
    · exact e2
    · intro y6 y7
      refine Eff.ite (fun _ => ?_) (fun _ => ?_)
      · refine Eff.app ?_ (State.reAim_eff ..) (by decide)
        exact Eff.refl _ _
      · exact Eff.refl _ _
  try clear_value t1
  refine Eff.app ?_ (State.cancelReasoned_eff ..) (by decide)
  refine Eff.app ?_ (State.lateChecks_eff ..) (by decide)
  exact e5

theorem State.speedWindowEnd_eff (s : State) (e : Nat) : Eff 12887039998 s (State.speedWindowEnd s e) := by
  unfold State.speedWindowEnd
  refine Eff.ite (fun _ => ?_) (fun _ => ?_)
  · exact Eff.refl _ _
  · extract_lets -merge -underBinder t0 t1 t2 t3 t4 t5 t6 t7 t8 t9
    try clear_value t0
    try clear_value t1
    try clear_value t3
    try clear_value t4
    try clear_value t5
    try clear_value t8
    try clear_value t9
    have e10 : Eff 12887039998 s t2 := by
      refine Eff.app ?_ (State.advanceTo_eff ..) (by decide)
      exact Eff.refl _ _
    try clear_value t2
    have e11 : Eff 12887039998 s t6 := by
      refine Eff.app ?_ (State.setSFld_eff ..) (by decide)
      refine Eff.app ?_ (State.setFld_eff ..) (by decide)
      refine Eff.app ?_ (State.setFlag_eff ..) (by decide)
      refine Eff.app ?_ (State.setFlag_eff ..) (by decide)
      refine Eff.app ?_ (State.setFlag_eff ..) (by decide)
      exact e10
    try clear_value t6
    have e12 : Eff 12887039998 s t7 := by
      refine Eff.app ?_ (State.openWindow_eff ..) (by decide)
      exact e11
    try clear_value t7
    refine Eff.ite (fun _ => ?_) (fun _ => ?_)
    · refine Eff.app ?_ (State.gateRecompute_eff ..) (by decide)
      exact e12
    · refine Eff.app ?_ (State.gateRecompute_eff ..) (by decide)
      refine Eff.app ?_ (Eff.set_fold _ _) (by decide)
      exact e12

theorem State.encCfgWrite_eff (s : State) (e : Nat) (v : Nat) : Eff 12887187454 s (State.encCfgWrite s e v) := by
  unfold State.encCfgWrite
  refine Eff.ite (fun _ => ?_) (fun _ => ?_)
  · exact Eff.refl _ _
  · extract_lets -merge -underBinder t0 t1 t2 t3 t4 t5 t6
    try clear_value t0
    try clear_value t2
    try clear_value t5
    have e7 : Eff 12887187454 s t1 := by
      refine Eff.app ?_ (State.setFld_eff ..) (by decide)
      exact Eff.refl _ _
    try clear_value t1
    have e8 : Eff 12887187454 s t3 := by
      refine Eff.ite (fun _ => ?_) (fun _ => ?_)
      · refine Eff.app ?_ (State.setFld_eff ..) (by decide)
        exact e7
      · exact e7
    try clear_value t3
    have e9 : Eff 12887187454 s t4 := by
      refine Eff.app ?_ (State.openWindow_eff ..) (by decide)
      refine Eff.app ?_ (State.fillFilters_eff ..) (by decide)
      refine Eff.app ?_ (State.setFld_eff ..) (by decide)
      refine Eff.app ?_ (State.sampleStanding_eff ..) (by decide)
      exact e8
    try clear_value t4
    have e10 : Eff 12887187454 s t6 := by
      refine Eff.app ?_ (State.setEnc_eff ..) (by decide)
      exact e9
    try clear_value t6
    refine Eff.ite (fun _ => ?_) (fun _ => ?_)
    · refine Eff.ite (fun _ => ?_) (fun _ => ?_)
      · exact Eff.refl _ _
      · refine Eff.app ?_ (State.setFld_eff ..) (by decide)
        refine Eff.app ?_ (State.sampleStanding_eff ..) (by decide)
        exact Eff.refl _ _
    · refine Eff.ite (fun _ => ?_) (fun _ => ?_)
      · refine Eff.ite (fun _ => ?_) (fun _ => ?_)
        · refine Eff.app ?_ (State.encFail_eff ..) (by decide)
          exact e10
        · exact e10
      · exact e8

theorem State.trgCfgWrite_eff (s : State) (t : Nat) (v : Nat) : Eff 130 s (State.trgCfgWrite s t v) := by
  unfold State.trgCfgWrite
  extract_lets -merge -underBinder t0 t1 t2 t3
  try clear_value t0
  try clear_value t2
  have e4 : Eff 130 s t1 := by
    refine Eff.ite (fun _ => ?_) (fun _ => ?_)
    · refine Eff.app ?_ (State.setFld_eff ..) (by decide)
      exact Eff.refl _ _
    · exact Eff.refl _ _
  try clear_value t1
  have e5 : Eff 130 s t3 := by
    refine Eff.ite (fun _ => ?_) (fun _ => ?_)
    · refine Eff.app ?_ (State.setFld_eff ..) (by decide)
      exact e4
    · exact e4
  try clear_value t3
  refine Eff.app ?_ (State.enableTrig_eff ..) (by decide)
  exact e5

theorem State.trgDivWrite_eff (s : State) (t : Nat) (v : Nat) : Eff 2 s (State.trgDivWrite s t v) := by
  unfold State.trgDivWrite
  extract_lets -merge -underBinder t0 t1
  try clear_value t0
  have e2 : Eff 2 s t1 := by
    refine Eff.ite (fun _ => ?_) (fun _ => ?_)
    · refine Eff.app ?_ (State.setFld_eff ..) (by decide)
      exact Eff.refl _ _
    · exact Eff.refl _ _
  try clear_value t1
  refine Eff.app ?_ (State.setFld_eff ..) (by decide)
  exact e2

theorem State.trgStatClear_eff (s : State) (t : Nat) (v : Nat) : Eff 2 s (State.trgStatClear s t v) := by
  unfold State.trgStatClear
  refine Eff.ite (fun _ => ?_) (fun _ => ?_)
  · refine Eff.app ?_ (State.setFld_eff ..) (by decide)
    refine Eff.app ?_ (State.setFld_eff ..) (by decide)
    exact Eff.refl _ _
  · exact Eff.refl _ _

theorem State.flushTrack_eff (s : State) (e : Nat) (l : List (Nat × Nat)) : Eff 94 s (State.flushTrack s e l) := by
  unfold State.flushTrack
  split
  · exact Eff.refl _ _
  · refine Eff.app ?_ (State.write_eff ..) (by decide)
    exact Eff.refl _ _

theorem State.writeTrack_eff (s : State) (i : Nat) (e : Nat) : Eff 222 s (State.writeTrack s i e) := by
  unfold State.writeTrack
  extract_lets -merge -underBinder t0 t1 t2 t3 t4 t5 t6
  try clear_value t0
  try clear_value t1
  try clear_value t3
  try clear_value t5
  try clear_value t6
  have e7 : Eff 222 s t2 := by
    refine Eff.ite (fun _ => ?_) (fun _ => ?_)
    · exact Eff.refl _ _
    · refine Eff.app ?_ (State.flushTrack_eff ..) (by decide)
      exact Eff.refl _ _
  try clear_value t2
  have e8 : Eff 222 s t4 := by
    refine Eff.ite (fun _ => ?_) (fun _ => ?_)
    · refine Eff.app ?_ (State.flushTrack_eff ..) (by decide)
      exact e7
    · exact e7
  try clear_value t4
  refine Eff.app ?_ (Eff.set_pos _ _) (by decide)
  exact e8

theorem State.trackTick_eff (s : State) : Eff 254 s (State.trackTick s) := by
  unfold State.trackTick
  extract_lets -merge -underBinder t0 t1
  try clear_value t0
  have e2 : Eff 254 s t1 := by
    refine Eff.app ?_ (State.advanceDev_eff ..) (by decide)
    exact Eff.refl _ _
  try clear_value t1
  refine Eff.ite (fun _ => ?_) (fun _ => ?_)
  · refine Eff.app ?_ (Eff.foldl (m := 254) ?_ _ _) (Nat.or_self _)
    · exact e2
    · intro y3 y4
      refine Eff.ite (fun _ => ?_) (fun _ => ?_)
      · refine Eff.app ?_ (State.writeTrack_eff ..) (by decide)
        exact Eff.refl _ _
      · exact Eff.refl _ _
  · exact e2

theorem State.trackEntry_eff (s : State) (e : Nat) (i : Nat) : Eff 94 s (State.trackEntry s e i).1 := by
  unfold State.trackEntry
  split
  · refine Eff.fst ?_
    exact Eff.refl _ _
  · extract_lets -merge -underBinder t0
    have e1 : Eff 94 s t0.1 := by
      refine Eff.app ?_ (State.read_eff ..) (by decide)
      exact Eff.refl _ _
    try clear_value t0
    refine Eff.fst ?_
    exact e1

theorem State.trackRead_eff (s : State) (e : Nat) (i : Nat) (f : Nat) : Eff 94 s (State.trackRead s e i f).1 := by
  unfold State.trackRead
  split
  · refine Eff.fst ?_
    exact Eff.refl _ _
  · refine Eff.ite1 (fun _ => ?_) (fun _ => ?_)
    · refine Eff.fst ?_
      exact Eff.refl _ _
    · refine Eff.ite1 (fun _ => ?_) (fun _ => ?_)
      · refine Eff.fst ?_
        exact Eff.refl _ _
      · extract_lets -merge -underBinder t0 t1
        have e2 : Eff 94 s t0.1 := by
          refine Eff.app ?_ (State.trackEntry_eff ..) (by decide)
          exact Eff.refl _ _
        try clear_value t0
        have e3 : Eff 94 s t1.1 := by
          refine Eff.ite1 (fun _ => ?_) (fun _ => ?_)
          · refine Eff.app ?_ (State.trackEntry_eff ..) (by decide)
            exact e2
          · refine Eff.fst ?_
            exact e2
        try clear_value t1
        refine Eff.fst ?_
        exact e3

theorem State.trackLookup_eff (s : State) (e : Nat) (t : Nat) : Eff 94 s (State.trackLookup s e t).1 := by
  unfold State.trackLookup
  refine Eff.ite1 (fun _ => ?_) (fun _ => ?_)
  · refine Eff.fst ?_
    exact Eff.refl _ _
  · refine Eff.app ?_ (State.trackRead_eff ..) (by decide)
    exact Eff.refl _ _

end Sys2Proof.Machine
end

