-- ==== Sys2Proof/Laws/EffFieldIO.lean ====
section
/-! SUPPORT. What each operation of Machine/FieldIO.lean can touch, by unit of the state (see Laws/Effect.lean). -/

set_option linter.unusedVariables false
set_option linter.unusedTactic false
set_option linter.unreachableTactic false

namespace Sys2Proof.Machine

theorem State.downlinkFrame_eff (s : State) (err : BitVec 96) : Eff 4294992130 s (State.downlinkFrame s err) := by
  unfold State.downlinkFrame
  refine Eff.ite (fun _ => ?_) (fun _ => ?_)
  · exact Eff.refl _ _
  · extract_lets -merge -underBinder t0 t1 t2 t3 t4 t5 t6
    try clear_value t1
    try clear_value t2
    try clear_value t3
    try clear_value t4
    try clear_value t5
    try clear_value t6
    have e7 : Eff 4294992130 s t0 := by
      refine Eff.app ?_ (State.addLate_eff ..) (by decide)
      exact Eff.refl _ _
    try clear_value t0
    refine Eff.ite (fun _ => ?_) (fun _ => ?_)
    · refine Eff.app ?_ (Eff.set_die _ _) (by decide)
      exact e7
    · refine Eff.app ?_ (Eff.set_die _ _) (by decide)
      exact e7

theorem State.isoAlignLoss_eff (s : State) (onDie : Bool) : Eff 24578 s (State.isoAlignLoss s onDie) := by
  unfold State.isoAlignLoss
  refine Eff.ite (fun _ => ?_) (fun _ => ?_)
  · exact Eff.refl _ _
  · refine Eff.ite (fun _ => ?_) (fun _ => ?_)
    · refine Eff.ite (fun _ => ?_) (fun _ => ?_)
      · refine Eff.app ?_ (Eff.set_die _ _) (by decide)
        exact Eff.refl _ _
      · exact Eff.refl _ _
    · refine Eff.ite (fun _ => ?_) (fun _ => ?_)
      · refine Eff.app ?_ (State.setFld_eff ..) (by decide)
        refine Eff.app ?_ (Eff.set_link _ _) (by decide)
        exact Eff.refl _ _
      · exact Eff.refl _ _

theorem State.applyCfg_eff (s : State) : Eff 16512 s (State.applyCfg s) := by
  unfold State.applyCfg
  split
  · exact Eff.refl _ _
  · extract_lets -merge -underBinder t0 t1 t2 t3 t4 t5 t6 t7
    try clear_value t0
    try clear_value t1
    try clear_value t2
    try clear_value t3
    try clear_value t4
    try clear_value t6
    try clear_value t7
    have e8 : Eff 16512 s t5 := by
      refine Eff.app ?_ (Eff.set_die _ _) (by decide)
      exact Eff.refl _ _
    try clear_value t5
    refine Eff.ite (fun _ => ?_) (fun _ => ?_)
    · refine Eff.app ?_ (Eff.set_die _ _) (by decide)
      exact Eff.refl _ _
    · refine Eff.ite (fun _ => ?_) (fun _ => ?_)
      · refine Eff.ite (fun _ => ?_) (fun _ => ?_)
        · refine Eff.app ?_ (State.setEnc_eff ..) (by decide)
          exact e8
        · exact e8
      · refine Eff.app ?_ (Eff.set_die _ _) (by decide)
        exact Eff.refl _ _

theorem State.cfgMessage_eff (s : State) : Eff 16512 s (State.cfgMessage s) := by
  unfold State.cfgMessage
  split
  · refine Eff.ite (fun _ => ?_) (fun _ => ?_)
    · refine Eff.app ?_ (State.applyCfg_eff ..) (by decide)
      exact Eff.refl _ _
    · exact Eff.refl _ _
  · exact Eff.refl _ _

theorem State.cfgCommit_eff (s : State) : Eff 16512 s (State.cfgCommit s) := by
  unfold State.cfgCommit
  split
  · refine Eff.ite (fun _ => ?_) (fun _ => ?_)
    · refine Eff.app ?_ (State.applyCfg_eff ..) (by decide)
      exact Eff.refl _ _
    · exact Eff.refl _ _
  · exact Eff.refl _ _

theorem State.windowOpen_eff (s : State) (rdbk : BitVec 16) : Eff 16512 s (State.windowOpen s rdbk) := by
  unfold State.windowOpen
  refine Eff.ite (fun _ => ?_) (fun _ => ?_)
  · exact Eff.refl _ _
  · extract_lets -merge -underBinder t0 t1 t2 t3 t4 t5 t6
    try clear_value t0
    try clear_value t1
    try clear_value t2
    try clear_value t4
    try clear_value t5
    try clear_value t6
    have e7 : Eff 16512 s t3 := by
      refine Eff.app ?_ (State.applyCfg_eff ..) (by decide)
      refine Eff.app ?_ (Eff.set_die _ _) (by decide)
      exact Eff.refl _ _
    try clear_value t3
    refine Eff.app ?_ (Eff.set_die _ _) (by decide)
    exact e7

theorem State.startedBy_eff (s : State) (o : Nat) (p : Pulse) : Eff 256 s (State.startedBy s o p) := by
  unfold State.startedBy
  extract_lets -merge -underBinder t0 t1
  try clear_value t0
  have e2 : Eff 256 s t1 := by
    refine Eff.app ?_ (State.setGout_eff ..) (by decide)
    exact Eff.refl _ _
  try clear_value t1
  refine Eff.app ?_ (State.fireSlot_eff ..) (by decide)
  exact e2

theorem State.ejtExecute_eff (s : State) : Eff 4294967584 s (State.ejtExecute s) := by
  unfold State.ejtExecute
  split
  · exact Eff.refl _ _
  · extract_lets -merge -underBinder t0 t1 t2
    try clear_value t1
    have e3 : Eff 4294967584 s t0 := by
      refine Eff.app ?_ (State.advanceTo_eff ..) (by decide)
      exact Eff.refl _ _
    try clear_value t0
    have e4 : Eff 4294967584 s t2 := by
      refine Eff.app ?_ (State.ejtEdge_eff ..) (by decide)
      refine Eff.app ?_ (Eff.set_pins _ _) (by decide)
      exact e3
    try clear_value t2
    refine Eff.ite (fun _ => ?_) (fun _ => ?_)
    · split
      · refine Eff.app ?_ (State.startedBy_eff ..) (by decide)
        exact e4
      · exact e4
    · exact e4

theorem State.edgeExecute_eff (s : State) : Eff 4294992162 s (State.edgeExecute s) := by
  unfold State.edgeExecute
  refine Eff.ite (fun _ => ?_) (fun _ => ?_)
  · refine Eff.app ?_ (State.ejtExecute_eff ..) (by decide)
    refine Eff.app ?_ (State.addLate_eff ..) (by decide)
    exact Eff.refl _ _
  · split
    · exact Eff.refl _ _
    · split
      · exact Eff.refl _ _
      · extract_lets -merge -underBinder t0 t1 t2 t3 t4 t5
        try clear_value t1
        try clear_value t2
        try clear_value t3
        try clear_value t4
        have e6 : Eff 4294992162 s t0 := by
          unfold t0
          split
          · refine Eff.app ?_ (State.advanceTo_eff ..) (by decide)
            exact Eff.refl _ _
          · exact Eff.refl _ _
        try clear_value t0
        have e7 : Eff 4294992162 s t5 := by
          refine Eff.app ?_ (Eff.set_die _ _) (by decide)
          exact e6
        try clear_value t5
        refine Eff.ite (fun _ => ?_) (fun _ => ?_)
        · split
          · refine Eff.app ?_ (State.startedBy_eff ..) (by decide)
            exact e7
          · exact e7
        · exact e7

theorem State.safeState_eff (s : State) : Eff 16384 s (State.safeState s) := by
  unfold State.safeState
  refine Eff.ite (fun _ => ?_) (fun _ => ?_)
  · refine Eff.app ?_ (Eff.set_die _ _) (by decide)
    exact Eff.refl _ _
  · exact Eff.refl _ _

theorem State.inputChange_eff (s : State) (i : Nat) (level : Bool) : Eff 16384 s (State.inputChange s i level) := by
  unfold State.inputChange
  refine Eff.ite (fun _ => ?_) (fun _ => ?_)
  · exact Eff.refl _ _
  · refine Eff.app ?_ (Eff.set_die _ _) (by decide)
    exact Eff.refl _ _

theorem State.wireBreak_eff (s : State) (i : Nat) : Eff 16384 s (State.wireBreak s i) := by
  unfold State.wireBreak
  refine Eff.ite (fun _ => ?_) (fun _ => ?_)
  · refine Eff.app ?_ (Eff.set_die _ _) (by decide)
    exact Eff.refl _ _
  · exact Eff.refl _ _

theorem State.wireBreakClear_eff (s : State) (i : Nat) : Eff 16384 s (State.wireBreakClear s i) := by
  unfold State.wireBreakClear
  refine Eff.ite (fun _ => ?_) (fun _ => ?_)
  · exact Eff.refl _ _
  · refine Eff.app ?_ (Eff.set_die _ _) (by decide)
    exact Eff.refl _ _

theorem State.supplyCrossing_eff (s : State) (st : Nat) : Eff 16384 s (State.supplyCrossing s st) := by
  unfold State.supplyCrossing
  refine Eff.ite (fun _ => ?_) (fun _ => ?_)
  · exact Eff.refl _ _
  · refine Eff.app ?_ (Eff.set_die _ _) (by decide)
    exact Eff.refl _ _

theorem State.overload_eff (s : State) (o : Nat) (acts : Bool) : Eff 16384 s (State.overload s o acts) := by
  unfold State.overload
  refine Eff.ite (fun _ => ?_) (fun _ => ?_)
  · exact Eff.refl _ _
  · refine Eff.app ?_ (Eff.set_die _ _) (by decide)
    exact Eff.refl _ _

theorem State.thermalShutdown_eff (s : State) (o : Nat) : Eff 16384 s (State.thermalShutdown s o) := by
  unfold State.thermalShutdown
  refine Eff.ite (fun _ => ?_) (fun _ => ?_)
  · refine Eff.app ?_ (Eff.set_die _ _) (by decide)
    exact Eff.refl _ _
  · exact Eff.refl _ _

theorem State.thermalRestart_eff (s : State) (o : Nat) : Eff 16416 s (State.thermalRestart s o) := by
  unfold State.thermalRestart
  refine Eff.ite (fun _ => ?_) (fun _ => ?_)
  · extract_lets -merge -underBinder t0 t1
    try clear_value t1
    have e2 : Eff 16416 s t0 := by
      refine Eff.app ?_ (State.advanceTo_eff ..) (by decide)
      exact Eff.refl _ _
    try clear_value t0
    refine Eff.app ?_ (Eff.set_die _ _) (by decide)
    exact e2
  · exact Eff.refl _ _

theorem State.readbackMismatch_eff (s : State) (o : Nat) : Eff 16384 s (State.readbackMismatch s o) := by
  unfold State.readbackMismatch
  refine Eff.ite (fun _ => ?_) (fun _ => ?_)
  · exact Eff.refl _ _
  · refine Eff.app ?_ (Eff.set_die _ _) (by decide)
    exact Eff.refl _ _

theorem State.upReceiver_eff (s : State) (good : Bool) : Eff 8194 s (State.upReceiver s good).1 := by
  unfold State.upReceiver
  extract_lets -merge -underBinder t0 t1 t2 t3 t4 t5
  try clear_value t0
  try clear_value t1
  try clear_value t3
  try clear_value t4
  have e6 : Eff 8194 s t2 := by
    refine Eff.app ?_ (Eff.set_link _ _) (by decide)
    exact Eff.refl _ _
  try clear_value t2
  have e7 : Eff 8194 s t5 := by
    refine Eff.app ?_ (Eff.set_link _ _) (by decide)
    exact Eff.refl _ _
  try clear_value t5
  refine Eff.ite1 (fun _ => ?_) (fun _ => ?_)
  · refine Eff.fst ?_
    refine Eff.app ?_ (State.setFld_eff ..) (by decide)
    exact e6
  · refine Eff.fst ?_
    refine Eff.app ?_ (State.bump_eff ..) (by decide)
    exact e7

theorem State.popSent_eff (s : State) : Eff 8192 s (State.popSent s).1 := by
  unfold State.popSent
  split
  · refine Eff.fst ?_
    exact Eff.refl _ _
  · refine Eff.fst ?_
    refine Eff.app ?_ (Eff.set_link _ _) (by decide)
    exact Eff.refl _ _

theorem State.settleSent_eff (s : State) (ok : Bool) (supply : Nat) : Eff 8450 s (State.settleSent s ok supply) := by
  unfold State.settleSent
  split
  · refine Eff.app ?_ (Eff.of_pair (State.popSent_eff ..) (by assumption)) (by decide)
    exact Eff.refl _ _
  · refine Eff.ite (fun _ => ?_) (fun _ => ?_)
    · refine Eff.app ?_ (State.confirmFrame_eff ..) (by decide)
      refine Eff.app ?_ (Eff.of_pair (State.popSent_eff ..) (by assumption)) (by decide)
      exact Eff.refl _ _
    · refine Eff.app ?_ (State.loseFrame_eff ..) (by decide)
      refine Eff.app ?_ (Eff.of_pair (State.popSent_eff ..) (by assumption)) (by decide)
      exact Eff.refl _ _

theorem State.takeSupply_eff (s : State) (st : Nat) (step : Nat) : Eff 4294967646 s (State.takeSupply s st step) := by
  unfold State.takeSupply
  extract_lets -merge -underBinder t0 t1 t2
  try clear_value t0
  have e3 : Eff 4294967646 s t1 := by
    refine Eff.app ?_ (State.setFld_eff ..) (by decide)
    exact Eff.refl _ _
  try clear_value t1
  have e4 : Eff 4294967646 s t2 := by
    refine Eff.ite (fun _ => ?_) (fun _ => ?_)
    · exact e3
    · refine Eff.ite (fun _ => ?_) (fun _ => ?_)
      · refine Eff.app ?_ (State.raise_eff ..) (by decide)
        refine Eff.app ?_ (State.setFld_eff ..) (by decide)
        refine Eff.app ?_ (State.bump_eff ..) (by decide)
        exact e3
      · refine Eff.ite (fun _ => ?_) (fun _ => ?_)
        · refine Eff.app ?_ (State.cutPulses_eff ..) (by decide)
          refine Eff.app ?_ (State.raise_eff ..) (by decide)
          refine Eff.app ?_ (State.setFld_eff ..) (by decide)
          refine Eff.app ?_ (State.bump_eff ..) (by decide)
          exact e3
        · exact e3
  try clear_value t2
  refine Eff.app ?_ (State.hold_eff ..) (by decide)
  exact e4

theorem State.takeFault_eff (s : State) (f : Bool) : Eff 94 s (State.takeFault s f) := by
  unfold State.takeFault
  extract_lets -merge -underBinder t0 t1
  try clear_value t0
  have e2 : Eff 94 s t1 := by
    refine Eff.app ?_ (State.setFlag_eff ..) (by decide)
    exact Eff.refl _ _
  try clear_value t1
  refine Eff.ite (fun _ => ?_) (fun _ => ?_)
  · refine Eff.app ?_ (State.raise_eff ..) (by decide)
    refine Eff.app ?_ (State.bump_eff ..) (by decide)
    refine Eff.app ?_ (State.setFld_eff ..) (by decide)
    exact e2
  · exact e2

theorem State.takeInputs_eff (s : State) (lv : Nat) (valid : Bool) : Eff 8194 s (State.takeInputs s lv valid).1 := by
  unfold State.takeInputs
  extract_lets -merge -underBinder t0 t1 t2 t3 t4
  try clear_value t2
  try clear_value t3
  have e5 : Eff 8194 s t0 := by
    refine Eff.app ?_ (State.setFld_eff ..) (by decide)
    exact Eff.refl _ _
  try clear_value t0
  have e6 : Eff 8194 s t1 := by
    refine Eff.app ?_ (State.setFlag_eff ..) (by decide)
    exact e5
  try clear_value t1
  have e7 : Eff 8194 s t4 := by
    refine Eff.app ?_ (Eff.set_link _ _) (by decide)
    exact e6
  try clear_value t4
  split
  · refine Eff.fst ?_
    exact e7
  · refine Eff.fst ?_
    exact e7

theorem State.uplinkFrame_eff (s : State) (err : BitVec 96) : Eff 12887179230 s (State.uplinkFrame s err).1 := by
  unfold State.uplinkFrame
  refine Eff.ite1 (fun _ => ?_) (fun _ => ?_)
  · refine Eff.fst ?_
    exact Eff.refl _ _
  · extract_lets -merge -underBinder t0
    try clear_value t0
    split
    · rename_i q1
      extract_lets -merge -underBinder t2 t3 t4 t5 t6 t7 t8 t9 t10 t11 t12 t13 t14 t15 t16 t17 t18 t19 t20 t21 t22
      try clear_value t2
      try clear_value t4
      try clear_value t5
      try clear_value t6
      try clear_value t7
      try clear_value t8
      try clear_value t9
      try clear_value t17
      try clear_value t18
      have e23 : Eff 12887179230 s t3 := by
        refine Eff.ite (fun _ => ?_) (fun _ => ?_)
        · refine Eff.app ?_ (State.settleSent_eff ..) (by decide)
          refine Eff.app ?_ (Eff.of_pair (State.upReceiver_eff ..) q1) (by decide)
          exact Eff.refl _ _
        · refine Eff.app ?_ (Eff.of_pair (State.upReceiver_eff ..) q1) (by decide)
          exact Eff.refl _ _
      try clear_value t3
      have e24 : Eff 12887179230 s t10 := by
        refine Eff.app ?_ (State.setFld_eff ..) (by decide)
        refine Eff.app ?_ (Eff.of_pair (State.upReceiver_eff ..) q1) (by decide)
        exact Eff.refl _ _
      try clear_value t10
      have e25 : Eff 12887179230 s t11 := by
        refine Eff.app ?_ (State.takeSupply_eff ..) (by decide)
        exact e24
      try clear_value t11
      have e26 : Eff 12887179230 s t12 := by
        refine Eff.ite (fun _ => ?_) (fun _ => ?_)
        · refine Eff.app ?_ (State.settleSent_eff ..) (by decide)
          exact e25
        · exact e24
      try clear_value t12
      have e27 : Eff 12887179230 s t13 := by
        refine Eff.app ?_ (State.takeSupply_eff ..) (by decide)
        exact e26
      try clear_value t13
      have e28 : Eff 12887179230 s t14 := by
        refine Eff.app ?_ (State.settleSent_eff ..) (by decide)
        exact e27
      try clear_value t14
      have e29 : Eff 12887179230 s t15 := by
        refine Eff.ite (fun _ => ?_) (fun _ => ?_)
        · exact e28
        · refine Eff.app ?_ (State.bump_eff ..) (by decide)
          exact e28
      try clear_value t15
      have e30 : Eff 12887179230 s t16 := by
        refine Eff.app ?_ (State.setFlag_eff ..) (by decide)
        exact e29
      try clear_value t16
      have e31 : Eff 12887179230 s t19 := by
        refine Eff.app ?_ (Eff.set_link _ _) (by decide)
        exact e30
      try clear_value t19
      have e32 : Eff 12887179230 s t20 := by
        refine Eff.app ?_ (State.takeFault_eff ..) (by decide)
        exact e31
      try clear_value t20
      have e33 : Eff 12887179230 s t21 := by
        refine Eff.app ?_ (State.htlFrame_eff ..) (by decide)
        exact e32
      try clear_value t21
      have e34 : Eff 12887179230 s t22 := by
        refine Eff.app ?_ (State.htlFrame_eff ..) (by decide)
        exact e33
      try clear_value t22
      refine Eff.ite1 (fun _ => ?_) (fun _ => ?_)
      · refine Eff.fst ?_
        refine Eff.app ?_ (Eff.set_link _ _) (by decide)
        exact e23
      · split
        · rename_i q35
          refine Eff.fst ?_
          refine Eff.app ?_ (State.retireAll_eff ..) (by decide)
          refine Eff.app ?_ (Eff.of_pair (State.takeInputs_eff ..) q35) (by decide)
          exact e34

theorem State.fieldLost_eff (s : State) : Eff 12887048030 s (State.fieldLost s) := by
  unfold State.fieldLost
  refine Eff.ite (fun _ => ?_) (fun _ => ?_)
  · extract_lets -merge -underBinder t0 t1 t2 t3 t4 t5
    try clear_value t4
    have e6 : Eff 12887048030 s t0 := by
      refine Eff.app ?_ (State.setFld_eff ..) (by decide)
      refine Eff.app ?_ (State.bump_eff ..) (by decide)
      refine Eff.app ?_ (State.setFld_eff ..) (by decide)
      exact Eff.refl _ _
    try clear_value t0
    have e7 : Eff 12887048030 s t1 := by
      refine Eff.app ?_ (State.raise_eff ..) (by decide)
      exact e6
    try clear_value t1
    have e8 : Eff 12887048030 s t2 := by
      refine Eff.app ?_ (State.encFail_eff ..) (by decide)
      refine Eff.app ?_ (State.encFail_eff ..) (by decide)
      exact e7
    try clear_value t2
    have e9 : Eff 12887048030 s t3 := by
      refine Eff.app ?_ (State.setFld_eff ..) (by decide)
      exact e8
    try clear_value t3
    have e10 : Eff 12887048030 s t5 := by
      refine Eff.app ?_ (Eff.set_link _ _) (by decide)
      exact e9
    try clear_value t5
    refine Eff.app ?_ (State.retireAll_eff ..) (by decide)
    refine Eff.app ?_ (State.hold_eff ..) (by decide)
    refine Eff.app ?_ (State.cutPulses_eff ..) (by decide)
    exact e10
  · exact Eff.refl _ _

theorem State.fieldBack_eff (s : State) : Eff 4294967390 s (State.fieldBack s) := by
  unfold State.fieldBack
  refine Eff.ite (fun _ => ?_) (fun _ => ?_)
  · extract_lets -merge -underBinder t0
    have e1 : Eff 4294967390 s t0 := by
      refine Eff.app ?_ (State.setFld_eff ..) (by decide)
      exact Eff.refl _ _
    try clear_value t0
    refine Eff.app ?_ (State.hold_eff ..) (by decide)
    refine Eff.app ?_ (State.raise_eff ..) (by decide)
    exact e1
  · exact Eff.refl _ _

theorem State.outCfgWrite_eff (s : State) (v : Nat) : Eff 2 s (State.outCfgWrite s v) := by
  unfold State.outCfgWrite
  extract_lets -merge -underBinder t0
  try clear_value t0
  refine Eff.app ?_ (State.setFld_eff ..) (by decide)
  exact Eff.refl _ _

end Sys2Proof.Machine
end

