-- ==== Sys2Proof/Laws/EffTensor.lean ====
section
/-! SUPPORT. What each operation of Machine/Tensor.lean can touch, by unit of the state (see Laws/Effect.lean). -/

set_option linter.unusedVariables false
set_option linter.unusedTactic false
set_option linter.unreachableTactic false

namespace Sys2Proof.Machine

theorem State.readUnits_eff (s : State) (t : Units) : Eff 94 s (State.readUnits s t).1 := by
  unfold State.readUnits
  refine Eff.app ?_ (Eff.foldlp (m := 94) ?_ _ _) (Nat.or_self _)
  · refine Eff.fst ?_
    exact Eff.refl _ _
  · intro y0 y1
    refine Eff.ite1 (fun _ => ?_) (fun _ => ?_)
    · refine Eff.app ?_ (State.readUnit_eff ..) (by decide)
      exact Eff.refl _ _
    · exact Eff.refl _ _

theorem State.writeRow_eff (k : Nat) (p : Plan) (t : TileAt) (o : TileOut) (dst : Nat) (q : State × Bool) (c : Nat) (y : Nat) (codes : List Nat) : Eff 8589934686 q.1 (State.writeRow k p t o dst q c y codes).1 := by
  unfold State.writeRow
  refine Eff.ite1 (fun _ => ?_) (fun _ => ?_)
  · exact Eff.refl _ _
  · extract_lets -merge -underBinder t0 t1 t2 t3 t4 t5
    try clear_value t0
    try clear_value t1
    try clear_value t2
    try clear_value t3
    try clear_value t5
    have e6 : Eff 8589934686 q.1 t4.1 := by
      refine Eff.app ?_ (State.write_eff ..) (by decide)
      exact Eff.refl _ _
    try clear_value t4
    refine Eff.ite1 (fun _ => ?_) (fun _ => ?_)
    · refine Eff.ite1 (fun _ => ?_) (fun _ => ?_)
      · split
        · rename_i q7
          refine Eff.app ?_ (State.write_eff ..) (by decide)
          refine Eff.app ?_ (Eff.of_pair (State.drawBlock_eff ..) q7) (by decide)
          exact e6
      · exact e6
    · refine Eff.app ?_ (State.write_eff ..) (by decide)
      exact Eff.refl _ _

theorem State.writeTile_eff (k : Nat) (x : Job) (d : List Byte) (p : Plan) (q : State × Bool) (t : TileAt) (o : TileOut) : Eff 8589934686 q.1 (State.writeTile k x d p q t o).1 := by
  unfold State.writeTile
  extract_lets -merge -underBinder t0 t1
  try clear_value t0
  have e2 : Eff 8589934686 q.1 t1.1 := by
    refine Eff.app ?_ (Eff.foldlp (m := 8589934686) ?_ _ _) (Nat.or_self _)
    · exact Eff.refl _ _
    · intro y3 y4
      split
      · refine Eff.app ?_ (Eff.foldlp (m := 8589934686) ?_ _ _) (Nat.or_self _)
        · exact Eff.refl _ _
        · intro y6 y7
          split
          · refine Eff.app ?_ (State.writeRow_eff ..) (by decide)
            exact Eff.refl _ _
  try clear_value t1
  refine Eff.ite1 (fun _ => ?_) (fun _ => ?_)
  · refine Eff.app ?_ (State.write_eff ..) (by decide)
    exact e2
  · exact e2

/-- Tiles written in order touch only what one tile's write does. -/
theorem State.writeTiles_eff (s : State) (k : Nat) (x : Job) (d : List Byte) (p : Plan) (l : List (TileAt × TileOut)) :
    Eff 8589934686 s (s.writeTiles k x d p l).1.1 := by
  have go : ∀ (l : List (TileAt × TileOut)) (q : (State × Bool) × Bool), Eff 8589934686 s q.1.1 → Eff 8589934686 s (l.foldl
      (fun (q : (State × Bool) × Bool) (t, o) =>
        if !q.1.2 then q
        else
          let r := State.writeTile k x d p q.1 t o
          (r, q.2 || (r.2 && o.wide))) q).1.1 := by
    intro l
    induction l with
    | nil => exact fun _ h => h
    | cons a l ih =>
      intro q h
      refine ih _ ?_
      dsimp only
      split
      · exact h
      · exact h.app (State.writeTile_eff ..) (by decide)
  exact go l _ (Eff.refl _ _)

theorem State.runPlan_eff (s : State) (k : Nat) (x : Job) (d : List Byte) (p : Plan) (flaws : List Flaw) :
    Eff 8589934686 s (s.runPlan k x d p flaws).1 := by
  unfold State.runPlan
  split
  · exact Eff.refl _ _
  · extract_lets -merge -underBinder t0 t1 t2
    split
    · exact (Eff.of_pair (State.readUnits_eff ..) (by assumption)).mono (by decide)
    · rename_i t hr
      have e0 : Eff 8589934686 s t := (Eff.of_pair (State.readUnits_eff ..) hr).mono (by decide)
      extract_lets -merge -underBinder t3
      split
      · rename_i q wide hq
        have e1 : Eff 8589934686 s q.1 := by
          have := e0.app (State.writeTiles_eff t k x d p t3) (by decide)
          rw [hq] at this
          exact this
        extract_lets -merge -underBinder t5 t6
        have e7 : Eff 8589934686 s t6.1 := Eff.ite1 (fun _ => e1.app (State.write_eff ..) (by decide)) (fun _ => e1)
        clear_value t6
        exact Eff.ite1 (fun _ => e7) (fun _ => e7)

theorem some_fst_of_ite {β : Type} {c : Prop} [Decidable c] {v t : State} {a b p : β} (h : (if c then some (v, a) else some (v, b)) = some (t, p)) :
    v = t := by
  split at h <;> (cases h; rfl)

/-- A command as far as a boundary touches only memory and what a write notes. -/
theorem State.runUpTo_eff (s : State) (k : Nat) (x : Job) (d : List Byte) (p : Plan) (flaws : List Flaw) (instr step groups : Nat)
    (t : State) (pr : Progress) (w : Bool) (h : s.runUpTo k x d p flaws instr step groups = some (t, pr, w)) : Eff 8589934686 s t := by
  unfold State.runUpTo at h
  dsimp only at h
  split at h
  · split at h
    · cases h
    · split at h
      · cases h
      · rename_i u hr
        have e0 : Eff 8589934686 s u := (Eff.of_pair (State.readUnits_eff ..) hr).mono (by decide)
        split at h
        · cases h
        · rename_i v wide hq
          have e1 : Eff 8589934686 s v := by
            rw [← show (State.writeTiles u k x d p _).1.1 = v from congrArg (fun q => q.1.1) hq]
            exact e0.app (State.writeTiles_eff ..) (by decide)
          rw [← some_fst_of_ite h]
          exact e1
  · cases h

end Sys2Proof.Machine
end

