-- ==== Sys2Proof/Laws/EffCorePlan.lean ====
section
/-! SUPPORT. What each operation of Machine/CorePlan.lean can touch, by unit of the state (see Laws/Effect.lean). -/

set_option linter.unusedVariables false
set_option linter.unusedTactic false
set_option linter.unreachableTactic false

namespace Sys2Proof.Machine

theorem State.nearSearch_eff (s : State) (k : Nat) (x : Job) (d : List Byte) (flaws : List Flaw) : Eff 8589934686 s (State.nearSearch s k x d flaws).1 := by
  unfold State.nearSearch
  split
  · refine Eff.app ?_ (State.runPlan_eff ..) (by decide)
    exact Eff.refl _ _

theorem State.nearMerge_eff (s : State) (k : Nat) (x : Job) (d : List Byte) (flaws : List Flaw) : Eff 8589934686 s (State.nearMerge s k x d flaws).1 := by
  unfold State.nearMerge
  refine Eff.app ?_ (State.runPlan_eff ..) (by decide)
  exact Eff.refl _ _

end Sys2Proof.Machine
end

