-- ==== Sys2Proof/Laws/EffLambConv.lean ====
section
/-! SUPPORT. What each operation of Machine/LambConv.lean can touch, by unit of the state (see Laws/Effect.lean). -/

set_option linter.unusedVariables false
set_option linter.unusedTactic false
set_option linter.unreachableTactic false

namespace Sys2Proof.Machine

theorem State.lbWrite_eff (s : State) (g : LbConv) (dst : Nat) (h : Nat) (w : Nat) (v : List (List (List Int))) : Eff 94 s (State.lbWrite s g dst h w v).1 := by
  unfold State.lbWrite
  extract_lets -merge -underBinder t0
  have e1 : ∀ y2 y3 y4 y5, Eff 94 y4.1 (t0 y2 y3 y4 y5).1 := by
    intro y2 y3 y4 y5
    unfold t0
    refine Eff.app ?_ (Eff.foldlp (m := 94) ?_ _ _) (Nat.or_self _)
    · exact Eff.refl _ _
    · intro y6 y7
      split
      · refine Eff.ite1 (fun _ => ?_) (fun _ => ?_)
        · refine Eff.app ?_ (State.write_eff ..) (by decide)
          exact Eff.refl _ _
        · exact Eff.refl _ _
  try clear_value t0
  refine Eff.app ?_ (Eff.foldlp (m := 94) ?_ _ _) (Nat.or_self _)
  · refine Eff.fst ?_
    exact Eff.refl _ _
  · intro y9 y10
    split
    · split
      · refine Eff.app ?_ (e1 ..) (Nat.or_self _)
        exact Eff.refl _ _
      · refine Eff.ite1 (fun _ => ?_) (fun _ => ?_)
        · refine Eff.app ?_ (e1 ..) (Nat.or_self _)
          exact Eff.refl _ _
        · refine Eff.app ?_ (e1 ..) (Nat.or_self _)
          exact Eff.refl _ _

theorem State.lbPlane_eff (s : State) (g : LbConv) (base : Nat) (y0 : Nat) (c : Nat) (rows : List (List (List Int))) : Eff 94 s (State.lbPlane s g base y0 c rows).1 := by
  unfold State.lbPlane
  extract_lets -merge -underBinder t0
  try clear_value t0
  refine Eff.app ?_ (Eff.foldlp (m := 94) ?_ _ _) (Nat.or_self _)
  · refine Eff.fst ?_
    exact Eff.refl _ _
  · intro y1 y2
    split
    · refine Eff.ite1 (fun _ => ?_) (fun _ => ?_)
      · refine Eff.app ?_ (State.write_eff ..) (by decide)
        exact Eff.refl _ _
      · exact Eff.refl _ _

end Sys2Proof.Machine
end

