-- ==== Sys2Proof/Laws/EffPixel.lean ====
section
/-! SUPPORT. What each operation of Machine/Pixel.lean can touch, by unit of the state (see Laws/Effect.lean). -/

set_option linter.unusedVariables false
set_option linter.unusedTactic false
set_option linter.unreachableTactic false

namespace Sys2Proof.Machine

theorem State.setView_eff (s : State) (v : Nat) (x : View) : Eff 262144 s (State.setView s v x) := by
  unfold State.setView
  refine Eff.app ?_ (Eff.set_px _ _) (by decide)
  exact Eff.refl _ _

theorem State.setRace_eff (s : State) (r : Nat) (x : RaceSt) : Eff 262144 s (State.setRace s r x) := by
  unfold State.setRace
  refine Eff.app ?_ (Eff.set_px _ _) (by decide)
  exact Eff.refl _ _

theorem State.setTile_eff (s : State) (i : Nat) (x : Option Tile) : Eff 262144 s (State.setTile s i x) := by
  unfold State.setTile
  refine Eff.app ?_ (Eff.set_px _ _) (by decide)
  exact Eff.refl _ _

theorem State.illuminate_eff (s : State) (v : Nat) (l : Line) : Eff 262146 s (State.illuminate s v l).1 := by
  unfold State.illuminate
  refine Eff.ite1 (fun _ => ?_) (fun _ => ?_)
  · refine Eff.fst ?_
    refine Eff.app ?_ (State.setFld_eff ..) (by decide)
    exact Eff.refl _ _
  · extract_lets -merge -underBinder t0 t1 t2 t3 t4 t5 t6 t7 t8 t9
    try clear_value t0
    try clear_value t1
    try clear_value t2
    try clear_value t3
    try clear_value t4
    try clear_value t5
    try clear_value t6
    try clear_value t9
    have e10 : Eff 262146 s t7 := by
      refine Eff.app ?_ (State.setView_eff ..) (by decide)
      exact Eff.refl _ _
    try clear_value t7
    have e11 : Eff 262146 s t8 := by
      refine Eff.ite (fun _ => ?_) (fun _ => ?_)
      · refine Eff.app ?_ (State.bump_eff ..) (by decide)
        exact e10
      · exact e10
    try clear_value t8
    refine Eff.fst ?_
    refine Eff.app ?_ (State.setFld_eff ..) (by decide)
    exact e11

theorem State.captureRow_eff (s : State) (i : Nat) (l : Line) : Eff 262494 s (State.captureRow s i l) := by
  unfold State.captureRow
  split
  · extract_lets -merge -underBinder t0
    try clear_value t0
    split
    · extract_lets -merge -underBinder t1 t2 t3 t4 t5 t6
      try clear_value t1
      try clear_value t2
      try clear_value t4
      try clear_value t6
      have e7 : Eff 262494 s t3 := by
        refine Eff.app ?_ (State.setTile_eff ..) (by decide)
        exact Eff.refl _ _
      try clear_value t3
      have e8 : Eff 262494 s t5 := by
        refine Eff.ite (fun _ => ?_) (fun _ => ?_)
        · refine Eff.app ?_ (State.setSlot_eff ..) (by decide)
          exact e7
        · exact e7
      try clear_value t5
      refine Eff.ite (fun _ => ?_) (fun _ => ?_)
      · exact Eff.refl _ _
      · refine Eff.ite (fun _ => ?_) (fun _ => ?_)
        · refine Eff.ite (fun _ => ?_) (fun _ => ?_)
          · refine Eff.app ?_ (State.write_eff ..) (by decide)
            exact e8
          · exact e8
        · exact e8
    · exact Eff.refl _ _
  · exact Eff.refl _ _

theorem State.feedParts_eff (s : State) (r : Nat) (v : Nat) (l : Line) : Eff 262494 s (State.feedParts s r v l) := by
  unfold State.feedParts
  refine Eff.ite (fun _ => ?_) (fun _ => ?_)
  · exact Eff.refl _ _
  · refine Eff.app ?_ (Eff.foldl (m := 262494) ?_ _ _) (Nat.or_self _)
    · exact Eff.refl _ _
    · intro y0 y1
      split
      · refine Eff.ite (fun _ => ?_) (fun _ => ?_)
        · refine Eff.app ?_ (Eff.foldl (m := 262494) ?_ _ _) (Nat.or_self _)
          · exact Eff.refl _ _
          · intro y2 y3
            refine Eff.app ?_ (State.captureRow_eff ..) (by decide)
            exact Eff.refl _ _
        · refine Eff.app ?_ (State.captureRow_eff ..) (by decide)
          exact Eff.refl _ _
      · exact Eff.refl _ _

theorem State.setRun_eff (s : State) (i : Nat) (x : StreamRun) : Eff 2048 s (State.setRun s i x) := by
  unfold State.setRun
  refine Eff.app ?_ (Eff.set_lamb _ _) (by decide)
  exact Eff.refl _ _

theorem State.streamError_eff (s : State) (i : Nat) : Eff 12887039838 s (State.streamError s i) := by
  unfold State.streamError
  refine Eff.app ?_ (State.reasonAndCancel_eff ..) (by decide)
  refine Eff.app ?_ (State.abandonStream_eff ..) (by decide)
  exact Eff.refl _ _

theorem State.streamPut_eff (s : State) (i : Nat) (g : LbConv) (x : StreamRun) : Eff 12887039838 s (State.streamPut s i g x) := by
  unfold State.streamPut
  extract_lets -merge -underBinder t0
  try clear_value t0
  split
  · exact Eff.refl _ _
  · split
    · refine Eff.app ?_ (State.setRun_eff ..) (by decide)
      refine Eff.app ?_ (Eff.of_pair (State.lbPlane_eff ..) (by assumption)) (by decide)
      exact Eff.refl _ _
    · refine Eff.app ?_ (State.streamError_eff ..) (by decide)
      refine Eff.app ?_ (Eff.of_pair (State.lbPlane_eff ..) (by assumption)) (by decide)
      exact Eff.refl _ _

theorem State.streamRow_eff (s : State) (i : Nat) (ready : Nat) (limit : Option Nat) : EffO 12887039838 s (State.streamRow s i ready limit) := by
  unfold State.streamRow
  split
  · extract_lets -merge -underBinder t0 t1 t2 t3 t4 t5
    try clear_value t0
    try clear_value t1
    try clear_value t2
    try clear_value t3
    try clear_value t4
    try clear_value t5
    split
    · exact EffO.none
    · extract_lets -merge -underBinder t6 t7 t8 t9 t10 t11 t12
      try clear_value t6
      try clear_value t7
      try clear_value t8
      try clear_value t9
      try clear_value t10
      try clear_value t11
      try clear_value t12
      refine EffO.ite (fun _ => ?_) (fun _ => ?_)
      · exact EffO.none
      · refine EffO.some ?_
        refine Eff.app ?_ (State.streamPut_eff ..) (by decide)
        exact Eff.refl _ _
  · exact EffO.none

theorem State.streamRun_eff (a0 : Nat) (a1 : State) (a2 : Nat) (a3 : Nat) (a4 : Option Nat) : Eff 12887039838 a1 (State.streamRun a0 a1 a2 a3 a4) := by
  induction a0 generalizing a1 a2 a3 a4 with
  | zero =>
    rw [State.streamRun]
    exact Eff.refl _ _
  | succ fuel ih =>
    rw [State.streamRun]
    split
    · refine Eff.app ?_ (ih ..) (Nat.or_self _)
      refine Eff.app ?_ (EffO.get (State.streamRow_eff ..) (by assumption)) (by decide)
      exact Eff.refl _ _
    · exact Eff.refl _ _

theorem State.runStreams_eff (s : State) (v : Nat) (ready : Nat) : Eff 12887039838 s (State.runStreams s v ready) := by
  unfold State.runStreams
  refine Eff.app ?_ (Eff.foldl (m := 12887039838) ?_ _ _) (Nat.or_self _)
  · exact Eff.refl _ _
  · intro y0 y1
    refine Eff.ite (fun _ => ?_) (fun _ => ?_)
    · refine Eff.app ?_ (State.streamRun_eff ..) (by decide)
      exact Eff.refl _ _
    · exact Eff.refl _ _

theorem State.refuseRun_eff (s : State) (r : Nat) (code : Nat) (pos : Int) : Eff 94 s (State.refuseRun s r code pos) := by
  unfold State.refuseRun
  refine Eff.app ?_ (State.raise_eff ..) (by decide)
  refine Eff.app ?_ (State.bump_eff ..) (by decide)
  exact Eff.refl _ _

theorem State.openPart_eff (s : State) (r : Nat) (l : Line) : Eff 297310 s (State.openPart s r l) := by
  unfold State.openPart
  extract_lets -merge -underBinder t0
  try clear_value t0
  split
  · refine Eff.app ?_ (State.refuseRun_eff ..) (by decide)
    refine Eff.app ?_ (State.setRace_eff ..) (by decide)
    exact Eff.refl _ _
  · split
    · refine Eff.app ?_ (State.refuseRun_eff ..) (by decide)
      refine Eff.app ?_ (State.setRace_eff ..) (by decide)
      exact Eff.refl _ _
    · extract_lets -merge -underBinder t1 t2 t3 t4 t5 t6 t7 t8
      try clear_value t1
      try clear_value t7
      have e9 : Eff 297310 s t2 := by
        refine Eff.app ?_ (State.setRace_eff ..) (by decide)
        exact Eff.refl _ _
      try clear_value t2
      have e10 : Eff 297310 s t3 := by
        refine Eff.app ?_ (State.setSlot_eff ..) (by decide)
        exact e9
      try clear_value t3
      have e11 : Eff 297310 s t4 := by
        refine Eff.app ?_ (State.noteUsed_eff ..) (by decide)
        refine Eff.app ?_ (State.holdTile_eff ..) (by decide)
        exact e10
      try clear_value t4
      have e12 : Eff 297310 s t5 := by
        refine Eff.app ?_ (State.setTile_eff ..) (by decide)
        exact e11
      try clear_value t5
      have e13 : Eff 297310 s t6 := by
        refine Eff.ite (fun _ => ?_) (fun _ => ?_)
        · exact e12
        · refine Eff.app ?_ (State.bump_eff ..) (by decide)
          exact e12
      try clear_value t6
      have e14 : Eff 297310 s t8 := by
        refine Eff.ite (fun _ => ?_) (fun _ => ?_)
        · refine Eff.app ?_ (Eff.set_lamb _ _) (by decide)
          exact e13
        · exact e12
      try clear_value t8
      refine Eff.app ?_ (Eff.foldl (m := 297310) ?_ _ _) (Nat.or_self _)
      · exact e14
      · intro y15 y16
        refine Eff.app ?_ (State.captureRow_eff ..) (by decide)
        exact Eff.refl _ _

theorem State.freePart_eff (s : State) (i : Nat) : Eff 8590232326 s (State.freePart s i) := by
  unfold State.freePart
  extract_lets -merge -underBinder t0 t1
  try clear_value t0
  have e2 : Eff 8590232326 s t1 := by
    unfold t1
    split
    · refine Eff.app ?_ (State.dropTile_eff ..) (by decide)
      exact Eff.refl _ _
    · exact Eff.refl _ _
  try clear_value t1
  refine Eff.app ?_ (State.noteUsed_eff ..) (by decide)
  refine Eff.app ?_ (State.setSlot_eff ..) (by decide)
  refine Eff.app ?_ (State.setTile_eff ..) (by decide)
  refine Eff.app ?_ (State.abandonStream_eff ..) (by decide)
  exact e2

theorem State.endRun_eff (s : State) (r : Nat) (i : Nat) (n : Int) (p : Int) (next : SegMode) : Eff 8590232326 s (State.endRun s r i n p next) := by
  unfold State.endRun
  extract_lets -merge -underBinder t0 t1 t2 t3 t4 t5 t6 t7
  try clear_value t0
  try clear_value t1
  try clear_value t2
  try clear_value t3
  try clear_value t5
  have e8 : Eff 8590232326 s t4 := by
    refine Eff.app ?_ (State.setRace_eff ..) (by decide)
    exact Eff.refl _ _
  try clear_value t4
  have e9 : Eff 8590232326 s t6 := by
    refine Eff.app ?_ (State.setSlot_eff ..) (by decide)
    exact e8
  try clear_value t6
  have e10 : Eff 8590232326 s t7 := by
    unfold t7
    split
    · refine Eff.app ?_ (State.setTile_eff ..) (by decide)
      exact e9
    · exact e9
  try clear_value t7
  refine Eff.ite (fun _ => ?_) (fun _ => ?_)
  · refine Eff.app ?_ (State.bump_eff ..) (by decide)
    refine Eff.app ?_ (State.freePart_eff ..) (by decide)
    exact e10
  · exact e10

theorem State.closePart_eff (s : State) (i : Nat) : Eff 12887039838 s (State.closePart s i) := by
  unfold State.closePart
  split
  · rename_i q0
    extract_lets -merge -underBinder t1 t2 t3 t4
    try clear_value t1
    try clear_value t2
    try clear_value t3
    try clear_value t4
    split
    · extract_lets -merge -underBinder t6 t7
      have e8 : Eff 12887039838 s t6 := by
        refine Eff.app ?_ (State.setSlot_eff ..) (by decide)
        refine Eff.app ?_ (Eff.of_pair (State.takePsn_eff ..) q0) (by decide)
        exact Eff.refl _ _
      try clear_value t6
      have e9 : Eff 12887039838 s t7 := by
        refine Eff.app ?_ (State.reAim_eff ..) (by decide)
        exact e8
      try clear_value t7
      refine Eff.ite (fun _ => ?_) (fun _ => ?_)
      · refine Eff.app ?_ (State.judge_eff ..) (by decide)
        exact e9
      · refine Eff.app ?_ (State.cancelReasoned_eff ..) (by decide)
        refine Eff.app ?_ (State.lateCheck_eff ..) (by decide)
        refine Eff.app ?_ (State.submitPart_eff ..) (by decide)
        exact e9

theorem State.closeParts_eff (s : State) (r : Nat) : Eff 12887039838 s (State.closeParts s r) := by
  unfold State.closeParts
  extract_lets -merge -underBinder t0
  try clear_value t0
  refine Eff.app ?_ (Eff.foldl (m := 12887039838) ?_ _ _) (Nat.or_self _)
  · exact Eff.refl _ _
  · intro y1 y2
    extract_lets -merge -underBinder t3 t4
    try clear_value t3
    have e5 : Eff 12887039838 y1 t4 := by
      refine Eff.ite (fun _ => ?_) (fun _ => ?_)
      · refine Eff.app ?_ (State.cancelReasoned_eff ..) (by decide)
        refine Eff.app ?_ (State.giveReason_eff ..) (by decide)
        exact Eff.refl _ _
      · exact Eff.refl _ _
    try clear_value t4
    refine Eff.app ?_ (State.closePart_eff ..) (by decide)
    exact e5

theorem State.closeReady_eff (s : State) : Eff 12887039838 s (State.closeReady s) := by
  unfold State.closeReady
  refine Eff.app ?_ (Eff.foldl (m := 12887039838) ?_ _ _) (Nat.or_self _)
  · exact Eff.refl _ _
  · intro y0 y1
    refine Eff.app ?_ (State.closeParts_eff ..) (by decide)
    exact Eff.refl _ _

theorem State.spoil_eff (s : State) (i : Nat) (why : Reason) : Eff 12887039838 s (State.spoil s i why) := by
  unfold State.spoil
  refine Eff.app ?_ (State.cancelReasoned_eff ..) (by decide)
  refine Eff.app ?_ (State.giveReason_eff ..) (by decide)
  exact Eff.refl _ _

theorem State.gapSweep_eff (s : State) (r : Nat) : Eff 12887039838 s (State.gapSweep s r) := by
  unfold State.gapSweep
  refine Eff.app ?_ (Eff.foldl (m := 12887039838) ?_ _ _) (Nat.or_self _)
  · exact Eff.refl _ _
  · intro y0 y1
    split
    · refine Eff.ite (fun _ => ?_) (fun _ => ?_)
      · refine Eff.app ?_ (State.spoil_eff ..) (by decide)
        exact Eff.refl _ _
      · exact Eff.refl _ _
    · exact Eff.refl _ _

theorem State.gapParts_eff (s : State) (r : Nat) (v : Nat) (l : Line) : Eff 12887301982 s (State.gapParts s r v l) := by
  unfold State.gapParts
  refine Eff.ite (fun _ => ?_) (fun _ => ?_)
  · extract_lets -merge -underBinder t0 t1
    try clear_value t0
    try clear_value t1
    refine Eff.app ?_ (State.gapSweep_eff ..) (by decide)
    refine Eff.app ?_ (State.setRace_eff ..) (by decide)
    exact Eff.refl _ _
  · exact Eff.refl _ _

theorem State.adopt_eff (s : State) (r : Nat) (l : Line) : Eff 262494 s (State.adopt s r l) := by
  unfold State.adopt
  extract_lets -merge -underBinder t0 t1 t2 t3 t4
  try clear_value t0
  try clear_value t1
  try clear_value t2
  have e5 : Eff 262494 s t3 := by
    refine Eff.app ?_ (State.setRace_eff ..) (by decide)
    exact Eff.refl _ _
  try clear_value t3
  have e6 : Eff 262494 s t4 := by
    refine Eff.app ?_ (Eff.foldl (m := 262494) ?_ _ _) (Nat.or_self _)
    · exact e5
    · intro y7 y8
      split
      · extract_lets -merge -underBinder t9
        try clear_value t9
        refine Eff.app ?_ (State.setSlot_eff ..) (by decide)
        refine Eff.app ?_ (State.setTile_eff ..) (by decide)
        exact Eff.refl _ _
      · exact Eff.refl _ _
  try clear_value t4
  refine Eff.ite (fun _ => ?_) (fun _ => ?_)
  · exact Eff.refl _ _
  · refine Eff.ite (fun _ => ?_) (fun _ => ?_)
    · refine Eff.app ?_ (State.setRace_eff ..) (by decide)
      exact Eff.refl _ _
    · refine Eff.ite (fun _ => ?_) (fun _ => ?_)
      · refine Eff.app ?_ (State.raise_eff ..) (by decide)
        refine Eff.app ?_ (State.bump_eff ..) (by decide)
        exact e6
      · refine Eff.app ?_ (State.setRace_eff ..) (by decide)
        exact Eff.refl _ _

theorem State.extendRun_eff (s : State) (r : Nat) (i : Nat) (l : Line) : Eff 12887301982 s (State.extendRun s r i l) := by
  unfold State.extendRun
  extract_lets -merge -underBinder t0 t1 t2 t3 t4 t5 t6
  try clear_value t0
  try clear_value t1
  have e7 : Eff 12887301982 s t2 := by
    refine Eff.app ?_ (State.setRace_eff ..) (by decide)
    exact Eff.refl _ _
  try clear_value t2
  have e8 : Eff 12887301982 s t3 := by
    refine Eff.app ?_ (State.setSlot_eff ..) (by decide)
    exact e7
  try clear_value t3
  have e9 : Eff 12887301982 s t4 := by
    unfold t4
    split
    · refine Eff.app ?_ (State.setTile_eff ..) (by decide)
      exact e8
    · exact e8
  try clear_value t4
  have e10 : Eff 12887301982 s t5 := by
    refine Eff.app ?_ (State.gapSweep_eff ..) (by decide)
    exact e9
  try clear_value t5
  have e11 : Eff 12887301982 s t6 := by
    refine Eff.app ?_ (State.bump_eff ..) (by decide)
    refine Eff.app ?_ (State.spoil_eff ..) (by decide)
    exact e10
  try clear_value t6
  refine Eff.ite (fun _ => ?_) (fun _ => ?_)
  · refine Eff.app ?_ (State.endRun_eff ..) (by decide)
    exact e11
  · exact e10

theorem State.segThreshold_eff (s : State) (r : Nat) (l : Line) : Eff 12887301982 s (State.segThreshold s r l) := by
  unfold State.segThreshold
  extract_lets -merge -underBinder t0 t1
  try clear_value t0
  try clear_value t1
  split
  · refine Eff.ite (fun _ => ?_) (fun _ => ?_)
    · extract_lets -merge -underBinder t2
      have e3 : Eff 12887301982 s t2 := by
        refine Eff.app ?_ (State.gapSweep_eff ..) (by decide)
        refine Eff.app ?_ (State.openPart_eff ..) (by decide)
        exact Eff.refl _ _
      try clear_value t2
      split
      · refine Eff.ite (fun _ => ?_) (fun _ => ?_)
        · refine Eff.app ?_ (State.spoil_eff ..) (by decide)
          exact e3
        · exact e3
      · exact e3
    · exact Eff.refl _ _
  · extract_lets -merge -underBinder t4 t5 t6
    try clear_value t5
    try clear_value t6
    have e7 : Eff 12887301982 s t4 := by
      refine Eff.ite (fun _ => ?_) (fun _ => ?_)
      · refine Eff.app ?_ (State.spoil_eff ..) (by decide)
        exact Eff.refl _ _
      · exact Eff.refl _ _
    try clear_value t4
    refine Eff.ite (fun _ => ?_) (fun _ => ?_)
    · refine Eff.app ?_ (State.extendRun_eff ..) (by decide)
      exact e7
    · refine Eff.ite (fun _ => ?_) (fun _ => ?_)
      · split
        · refine Eff.app ?_ (State.endRun_eff ..) (by decide)
          exact e7
        · refine Eff.app ?_ (State.setRace_eff ..) (by decide)
          exact e7
      · refine Eff.app ?_ (State.setRace_eff ..) (by decide)
        exact e7
  · extract_lets -merge -underBinder t8
    try clear_value t8
    refine Eff.ite (fun _ => ?_) (fun _ => ?_)
    · refine Eff.app ?_ (State.setRace_eff ..) (by decide)
      exact Eff.refl _ _
    · refine Eff.app ?_ (State.setRace_eff ..) (by decide)
      exact Eff.refl _ _

theorem State.segEdges_eff (a0 : Nat) (a1 : State) (a2 : Nat) (a3 : Line) : Eff 12887301982 a1 (State.segEdges a0 a1 a2 a3) := by
  induction a0 generalizing a1 a2 a3 with
  | zero =>
    rw [State.segEdges]
    exact Eff.refl _ _
  | succ fuel ih =>
    rw [State.segEdges]
    split
    · exact Eff.refl _ _
    · refine Eff.ite (fun _ => ?_) (fun _ => ?_)
      · extract_lets -merge -underBinder t0 t1 t2
        have e3 : Eff 12887301982 a1 t0 := by
          refine Eff.app ?_ (State.setRace_eff ..) (by decide)
          exact Eff.refl _ _
        try clear_value t0
        have e4 : Eff 12887301982 a1 t1 := by
          refine Eff.ite (fun _ => ?_) (fun _ => ?_)
          · refine Eff.app ?_ (State.openPart_eff ..) (by decide)
            exact e3
          · exact e3
        try clear_value t1
        have e5 : Eff 12887301982 a1 t2 := by
          unfold t2
          split
          · refine Eff.app ?_ (State.spoil_eff ..) (by decide)
            exact e4
          · exact e4
        try clear_value t2
        refine Eff.app ?_ (ih ..) (Nat.or_self _)
        exact e5
      · exact Eff.refl _ _
    · refine Eff.ite (fun _ => ?_) (fun _ => ?_)
      · extract_lets -merge -underBinder t6 t7
        have e8 : Eff 12887301982 a1 t6 := by
          refine Eff.app ?_ (State.setRace_eff ..) (by decide)
          exact Eff.refl _ _
        try clear_value t6
        have e9 : Eff 12887301982 a1 t7 := by
          unfold t7
          split
          · split
            · refine Eff.app ?_ (State.endRun_eff ..) (by decide)
              exact e8
            · exact e8
          · refine Eff.app ?_ (State.setRace_eff ..) (by decide)
            exact e8
        try clear_value t7
        refine Eff.app ?_ (ih ..) (Nat.or_self _)
        exact e9
      · exact Eff.refl _ _

theorem State.segSensor_eff (s : State) (r : Nat) (l : Line) : Eff 12887301982 s (State.segSensor s r l) := by
  unfold State.segSensor
  extract_lets -merge -underBinder t0
  have e1 : Eff 12887301982 s t0 := by
    refine Eff.app ?_ (State.segEdges_eff ..) (by decide)
    exact Eff.refl _ _
  try clear_value t0
  split
  · refine Eff.app ?_ (State.extendRun_eff ..) (by decide)
    exact e1
  · exact e1

theorem State.warmGap_eff (s : State) (r : Nat) (p : Int) : Eff 1073741918 s (State.warmGap s r p) := by
  unfold State.warmGap
  split
  · extract_lets -merge -underBinder t0 t1 t2
    try clear_value t0
    try clear_value t2
    have e3 : Eff 1073741918 s t1 := by
      refine Eff.app ?_ (State.raise_eff ..) (by decide)
      exact Eff.refl _ _
    try clear_value t1
    refine Eff.app ?_ (Eff.set_start _ _) (by decide)
    exact e3
  · exact Eff.refl _ _

theorem State.segLine_eff (s : State) (r : Nat) (l : Line) : Eff 13961043806 s (State.segLine s r l) := by
  unfold State.segLine
  extract_lets -merge -underBinder t0 t1 t2 t3 t4 t5
  try clear_value t1
  try clear_value t5
  have e6 : Eff 13961043806 s t0 := by
    refine Eff.app ?_ (State.adopt_eff ..) (by decide)
    exact Eff.refl _ _
  try clear_value t0
  have e7 : Eff 13961043806 s t2 := by
    refine Eff.app ?_ (State.setRace_eff ..) (by decide)
    exact e6
  try clear_value t2
  have e8 : Eff 13961043806 s t3 := by
    refine Eff.ite (fun _ => ?_) (fun _ => ?_)
    · refine Eff.app ?_ (State.segSensor_eff ..) (by decide)
      exact e7
    · refine Eff.app ?_ (State.segThreshold_eff ..) (by decide)
      exact e7
  try clear_value t3
  have e9 : Eff 13961043806 s t4 := by
    refine Eff.ite (fun _ => ?_) (fun _ => ?_)
    · refine Eff.app ?_ (State.warmGap_eff ..) (by decide)
      exact e8
    · exact e8
  try clear_value t4
  refine Eff.app ?_ (State.setRace_eff ..) (by decide)
  exact e9

theorem State.raceLine_eff (s : State) (v : Nat) (l : Line) (r : Nat) : Eff 13961043806 s (State.raceLine s v l r) := by
  unfold State.raceLine
  refine Eff.ite (fun _ => ?_) (fun _ => ?_)
  · exact Eff.refl _ _
  · extract_lets -merge -underBinder t0 t1
    try clear_value t0
    have e2 : Eff 13961043806 s t1 := by
      refine Eff.ite (fun _ => ?_) (fun _ => ?_)
      · refine Eff.app ?_ (State.segLine_eff ..) (by decide)
        exact Eff.refl _ _
      · exact Eff.refl _ _
    try clear_value t1
    refine Eff.ite (fun _ => ?_) (fun _ => ?_)
    · exact Eff.refl _ _
    · refine Eff.app ?_ (State.feedParts_eff ..) (by decide)
      refine Eff.app ?_ (State.gapParts_eff ..) (by decide)
      exact e2

theorem State.accumulate_eff (s : State) (r : Nat) (p : Nat) (v : Nat) (l : Line) : Eff 262144 s (State.accumulate s r p v l) := by
  unfold State.accumulate
  extract_lets -merge -underBinder t0 t1 t2 t3
  try clear_value t0
  try clear_value t1
  try clear_value t2
  try clear_value t3
  refine Eff.ite (fun _ => ?_) (fun _ => ?_)
  · exact Eff.refl _ _
  · refine Eff.app ?_ (Eff.set_px _ _) (by decide)
    exact Eff.refl _ _

theorem State.grazeLine_eff (s : State) (v : Nat) (l : Line) (r : Nat) : Eff 262144 s (State.grazeLine s v l r).1 := by
  unfold State.grazeLine
  refine Eff.ite1 (fun _ => ?_) (fun _ => ?_)
  · refine Eff.fst ?_
    exact Eff.refl _ _
  · extract_lets -merge -underBinder t0 t1
    try clear_value t0
    have e2 : Eff 262144 s t1 := by
      refine Eff.ite (fun _ => ?_) (fun _ => ?_)
      · refine Eff.app ?_ (Eff.foldl (m := 262144) ?_ _ _) (Nat.or_self _)
        · exact Eff.refl _ _
        · intro y3 y4
          refine Eff.ite (fun _ => ?_) (fun _ => ?_)
          · refine Eff.app ?_ (State.accumulate_eff ..) (by decide)
            exact Eff.refl _ _
          · exact Eff.refl _ _
      · exact Eff.refl _ _
    try clear_value t1
    refine Eff.ite1 (fun _ => ?_) (fun _ => ?_)
    · refine Eff.fst ?_
      exact Eff.refl _ _
    · refine Eff.fst ?_
      exact e2

theorem State.grazeView_eff (s : State) (v : Nat) : Eff 262144 s (State.grazeView s v) := by
  unfold State.grazeView
  refine Eff.ite (fun _ => ?_) (fun _ => ?_)
  · exact Eff.refl _ _
  · split
    · rename_i q0
      refine Eff.app ?_ (State.setView_eff ..) (by decide)
      refine Eff.app ?_ (Eff.of_pair (Eff.foldlp (m := 262144) ?_ _ _) q0) (Nat.or_self _)
      · refine Eff.fst ?_
        exact Eff.refl _ _
      · intro y1 y2
        split
        · rename_i q3
          refine Eff.fst ?_
          refine Eff.app ?_ (Eff.of_pair (Eff.foldlp (m := 262144) ?_ _ _) q3) (Nat.or_self _)
          · refine Eff.fst ?_
            exact Eff.refl _ _
          · intro y4 y5
            refine Eff.app ?_ (State.grazeLine_eff ..) (by decide)
            exact Eff.refl _ _

theorem State.freeLines_eff (a0 : Nat) (a1 : State) (a2 : Nat) : Eff 262144 a1 (State.freeLines a0 a1 a2) := by
  induction a0 generalizing a1 a2 with
  | zero =>
    rw [State.freeLines]
    exact Eff.refl _ _
  | succ fuel ih =>
    rw [State.freeLines]
    split
    · exact Eff.refl _ _
    · refine Eff.ite (fun _ => ?_) (fun _ => ?_)
      · refine Eff.app ?_ (ih ..) (Nat.or_self _)
        refine Eff.app ?_ (State.setView_eff ..) (by decide)
        exact Eff.refl _ _
      · exact Eff.refl _ _

theorem State.setCycle_eff (s : State) (c : Nat) : Eff 262146 s (State.setCycle s c) := by
  unfold State.setCycle
  refine Eff.app ?_ (State.setFld_eff ..) (by decide)
  refine Eff.app ?_ (Eff.set_px _ _) (by decide)
  exact Eff.refl _ _

theorem State.beginBuild_eff (s : State) : Eff 262146 s (State.beginBuild s) := by
  unfold State.beginBuild
  refine Eff.app ?_ (State.setCycle_eff ..) (by decide)
  refine Eff.app ?_ (Eff.set_px _ _) (by decide)
  exact Eff.refl _ _

theorem State.grazeAdvance_eff (s : State) : Eff 262146 s (State.grazeAdvance s) := by
  unfold State.grazeAdvance
  refine Eff.ite (fun _ => ?_) (fun _ => ?_)
  · extract_lets -merge -underBinder t0 t1
    try clear_value t0
    try clear_value t1
    refine Eff.ite (fun _ => ?_) (fun _ => ?_)
    · refine Eff.app ?_ (State.beginBuild_eff ..) (by decide)
      exact Eff.refl _ _
    · exact Eff.refl _ _
  · exact Eff.refl _ _

theorem State.beginSwap_eff (s : State) : Eff 262146 s (State.beginSwap s) := by
  unfold State.beginSwap
  extract_lets -merge -underBinder t0 t1 t2 t3
  try clear_value t0
  try clear_value t2
  have e4 : Eff 262146 s t1 := by
    refine Eff.app ?_ (Eff.set_px _ _) (by decide)
    exact Eff.refl _ _
  try clear_value t1
  have e5 : Eff 262146 s t3 := by
    refine Eff.app ?_ (Eff.foldl (m := 262146) ?_ _ _) (Nat.or_self _)
    · exact e4
    · intro y6 y7
      refine Eff.app ?_ (State.setRace_eff ..) (by decide)
      exact Eff.refl _ _
  try clear_value t3
  refine Eff.app ?_ (State.grazeAdvance_eff ..) (by decide)
  refine Eff.app ?_ (State.setCycle_eff ..) (by decide)
  exact e5

theorem State.publish_eff (s : State) (approve : Bool) : Eff 262238 s (State.publish s approve) := by
  unfold State.publish
  extract_lets -merge -underBinder t0 t1 t2 t3 t4
  try clear_value t0
  try clear_value t2
  have e5 : Eff 262238 s t1 := by
    refine Eff.app ?_ (State.setFld_eff ..) (by decide)
    exact Eff.refl _ _
  try clear_value t1
  have e6 : Eff 262238 s t3 := by
    refine Eff.app ?_ (Eff.set_px _ _) (by decide)
    exact e5
  try clear_value t3
  have e7 : Eff 262238 s t4 := by
    refine Eff.app ?_ (State.raise_eff ..) (by decide)
    exact e6
  try clear_value t4
  refine Eff.ite (fun _ => ?_) (fun _ => ?_)
  · refine Eff.app ?_ (State.setCycle_eff ..) (by decide)
    exact e7
  · refine Eff.app ?_ (State.beginSwap_eff ..) (by decide)
    exact e7

theorem State.grazeBuild_eff (s : State) : Eff 262238 s (State.grazeBuild s) := by
  unfold State.grazeBuild
  extract_lets -merge -underBinder t0 t1 t2 t3 t4
  try clear_value t0
  try clear_value t1
  try clear_value t2
  try clear_value t3
  try clear_value t4
  refine Eff.ite (fun _ => ?_) (fun _ => ?_)
  · exact Eff.refl _ _
  · split
    · extract_lets -merge -underBinder t6 t7
      have e8 : Eff 262238 s t6 := by
        refine Eff.app ?_ (Eff.set_px _ _) (by decide)
        exact Eff.refl _ _
      try clear_value t6
      have e9 : Eff 262238 s t7 := by
        refine Eff.app ?_ (Eff.foldl (m := 262238) ?_ _ _) (Nat.or_self _)
        · exact e8
        · intro y10 y11
          refine Eff.ite (fun _ => ?_) (fun _ => ?_)
          · refine Eff.app ?_ (State.setFld_eff ..) (by decide)
            exact Eff.refl _ _
          · exact Eff.refl _ _
      try clear_value t7
      refine Eff.app ?_ (State.publish_eff ..) (by decide)
      exact e9

theorem State.approve_eff (s : State) : Eff 262146 s (State.approve s) := by
  unfold State.approve
  refine Eff.ite (fun _ => ?_) (fun _ => ?_)
  · refine Eff.app ?_ (State.beginSwap_eff ..) (by decide)
    exact Eff.refl _ _
  · exact Eff.refl _ _

theorem State.discard_eff (s : State) : Eff 262146 s (State.discard s) := by
  unfold State.discard
  refine Eff.ite (fun _ => ?_) (fun _ => ?_)
  · refine Eff.app ?_ (State.beginBuild_eff ..) (by decide)
    exact Eff.refl _ _
  · exact Eff.refl _ _

theorem State.grazeIdle_eff (s : State) : Eff 262146 s (State.grazeIdle s) := by
  unfold State.grazeIdle
  refine Eff.ite (fun _ => ?_) (fun _ => ?_)
  · refine Eff.app ?_ (State.beginBuild_eff ..) (by decide)
    exact Eff.refl _ _
  · refine Eff.app ?_ (State.setCycle_eff ..) (by decide)
    exact Eff.refl _ _

theorem State.streamBehind_eff (s : State) (v : Nat) : Eff 2142 s (State.streamBehind s v) := by
  unfold State.streamBehind
  split
  · exact Eff.refl _ _
  · split
    · exact Eff.refl _ _
    · extract_lets -merge -underBinder t0 t1
      try clear_value t0
      have e2 : Eff 2142 s t1 := by
        refine Eff.app ?_ (Eff.set_lamb _ _) (by decide)
        exact Eff.refl _ _
      try clear_value t1
      refine Eff.app ?_ (State.raise_eff ..) (by decide)
      refine Eff.app ?_ (State.bump_eff ..) (by decide)
      exact e2

theorem State.freeAll_eff (s : State) : Eff 262144 s (State.freeAll s) := by
  unfold State.freeAll
  refine Eff.app ?_ (Eff.foldl (m := 262144) ?_ _ _) (Nat.or_self _)
  · exact Eff.refl _ _
  · intro y0 y1
    refine Eff.app ?_ (State.freeLines_eff ..) (by decide)
    exact Eff.refl _ _

theorem State.lineRead_eff (s : State) (v : Nat) (l : Line) : Eff 13961043806 s (State.lineRead s v l) := by
  unfold State.lineRead
  extract_lets -merge -underBinder t0 t1
  have e2 : Eff 13961043806 s t0 := by
    refine Eff.app ?_ (Eff.foldl (m := 13961043806) ?_ _ _) (Nat.or_self _)
    · exact Eff.refl _ _
    · intro y3 y4
      refine Eff.app ?_ (State.raceLine_eff ..) (by decide)
      exact Eff.refl _ _
  try clear_value t0
  have e5 : Eff 13961043806 s t1 := by
    refine Eff.app ?_ (State.runStreams_eff ..) (by decide)
    exact e2
  try clear_value t1
  refine Eff.app ?_ (State.grazeAdvance_eff ..) (by decide)
  refine Eff.app ?_ (State.freeAll_eff ..) (by decide)
  refine Eff.app ?_ (Eff.foldl (m := 13961043806) ?_ _ _) (Nat.or_self _)
  · exact e5
  · intro y6 y7
    refine Eff.app ?_ (State.grazeView_eff ..) (by decide)
    exact Eff.refl _ _

theorem State.enterLine_eff (s : State) (v : Nat) (l : Line) : Eff 13961043806 s (State.enterLine s v l) := by
  unfold State.enterLine
  extract_lets -merge -underBinder t0 t1 t2 t3 t4 t5 t6 t7
  try clear_value t1
  try clear_value t3
  try clear_value t6
  have e8 : Eff 13961043806 s t0 := by
    refine Eff.app ?_ (State.freeAll_eff ..) (by decide)
    refine Eff.app ?_ (State.runStreams_eff ..) (by decide)
    exact Eff.refl _ _
  try clear_value t0
  have e9 : Eff 13961043806 s t2 := by
    refine Eff.app ?_ (State.streamBehind_eff ..) (by decide)
    exact e8
  try clear_value t2
  have e10 : Eff 13961043806 s t4 := by
    refine Eff.app ?_ (State.bump_eff ..) (by decide)
    exact e9
  try clear_value t4
  have e11 : Eff 13961043806 s t5 := by
    refine Eff.ite (fun _ => ?_) (fun _ => ?_)
    · exact e10
    · refine Eff.app ?_ (State.raise_eff ..) (by decide)
      exact e10
  try clear_value t5
  have e12 : Eff 13961043806 s t7 := by
    refine Eff.app ?_ (State.setView_eff ..) (by decide)
    exact e11
  try clear_value t7
  refine Eff.ite (fun _ => ?_) (fun _ => ?_)
  · refine Eff.app ?_ (State.lineRead_eff ..) (by decide)
    exact e12
  · split
    · rename_i q13
      extract_lets -merge -underBinder t14 t15 t16 t17 t18
      try clear_value t14
      try clear_value t15
      have e19 : Eff 13961043806 s t16 := by
        refine Eff.app ?_ (State.setView_eff ..) (by decide)
        refine Eff.app ?_ (Eff.of_pair (State.illuminate_eff ..) q13) (by decide)
        exact e8
      try clear_value t16
      have e20 : Eff 13961043806 s t17 := by
        refine Eff.app ?_ (State.setFld_eff ..) (by decide)
        exact e19
      try clear_value t17
      have e21 : Eff 13961043806 s t18 := by
        refine Eff.ite (fun _ => ?_) (fun _ => ?_)
        · refine Eff.app ?_ (State.streamBehind_eff ..) (by decide)
          exact e20
        · exact e20
      try clear_value t18
      refine Eff.app ?_ (State.lineRead_eff ..) (by decide)
      exact e21

theorem State.pixelLine_eff (s : State) (v : Nat) (l : Line) : Eff 13961043806 s (State.pixelLine s v l) := by
  unfold State.pixelLine
  refine Eff.ite (fun _ => ?_) (fun _ => ?_)
  · refine Eff.app ?_ (State.enterLine_eff ..) (by decide)
    exact Eff.refl _ _
  · extract_lets -merge -underBinder t0
    try clear_value t0
    split
    · refine Eff.app ?_ (State.setView_eff ..) (by decide)
      exact Eff.refl _ _
    · refine Eff.ite (fun _ => ?_) (fun _ => ?_)
      · exact Eff.refl _ _
      · extract_lets -merge -underBinder t1 t2 t3
        try clear_value t1
        try clear_value t2
        have e4 : Eff 13961043806 s t3 := by
          refine Eff.app ?_ (State.setView_eff ..) (by decide)
          exact Eff.refl _ _
        try clear_value t3
        refine Eff.app ?_ (Eff.foldl (m := 13961043806) ?_ _ _) (Nat.or_self _)
        · exact e4
        · intro y5 y6
          refine Eff.app ?_ (State.enterLine_eff ..) (by decide)
          exact Eff.refl _ _

theorem State.lateRising_eff (s : State) (r : Nat) (q : Int) : Eff 12887301982 s (State.lateRising s r q) := by
  unfold State.lateRising
  extract_lets -merge -underBinder t0
  try clear_value t0
  split
  · exact Eff.refl _ _
  · extract_lets -merge -underBinder t1
    have e2 : Eff 12887301982 s t1 := by
      refine Eff.app ?_ (State.openPart_eff ..) (by decide)
      exact Eff.refl _ _
    try clear_value t1
    split
    · extract_lets -merge -underBinder t3 t4
      have e5 : Eff 12887301982 s t3 := by
        refine Eff.ite (fun _ => ?_) (fun _ => ?_)
        · refine Eff.app ?_ (State.spoil_eff ..) (by decide)
          exact e2
        · exact e2
      try clear_value t3
      have e6 : Eff 12887301982 s t4 := by
        refine Eff.app ?_ (Eff.foldl (m := 12887301982) ?_ _ _) (Nat.or_self _)
        · exact e5
        · intro y7 y8
          refine Eff.app ?_ (State.gapParts_eff ..) (by decide)
          exact Eff.refl _ _
      try clear_value t4
      split
      · refine Eff.ite (fun _ => ?_) (fun _ => ?_)
        · refine Eff.app ?_ (State.extendRun_eff ..) (by decide)
          exact e6
        · exact e6
      · exact e6
    · exact e2

theorem State.lateFalling_eff (s : State) (r : Nat) (q : Int) : Eff 8590232326 s (State.lateFalling s r q) := by
  unfold State.lateFalling
  split
  · split
    · refine Eff.ite (fun _ => ?_) (fun _ => ?_)
      · refine Eff.app ?_ (State.endRun_eff ..) (by decide)
        exact Eff.refl _ _
      · refine Eff.app ?_ (State.endRun_eff ..) (by decide)
        exact Eff.refl _ _
    · refine Eff.app ?_ (State.endRun_eff ..) (by decide)
      exact Eff.refl _ _
    · exact Eff.refl _ _
  · refine Eff.app ?_ (State.setRace_eff ..) (by decide)
    exact Eff.refl _ _

theorem State.sensorEdge_eff (s : State) (rising : Bool) (r : Nat) : Eff 12887301982 s (State.sensorEdge s rising r) := by
  unfold State.sensorEdge
  extract_lets -merge -underBinder t0 t1 t2 t3
  try clear_value t0
  try clear_value t1
  try clear_value t2
  try clear_value t3
  refine Eff.ite (fun _ => ?_) (fun _ => ?_)
  · exact Eff.refl _ _
  · refine Eff.ite (fun _ => ?_) (fun _ => ?_)
    · refine Eff.app ?_ (State.setRace_eff ..) (by decide)
      exact Eff.refl _ _
    · refine Eff.ite (fun _ => ?_) (fun _ => ?_)
      · refine Eff.ite (fun _ => ?_) (fun _ => ?_)
        · exact Eff.refl _ _
        · refine Eff.app ?_ (State.lateRising_eff ..) (by decide)
          exact Eff.refl _ _
      · refine Eff.app ?_ (State.lateFalling_eff ..) (by decide)
        exact Eff.refl _ _

theorem State.sensorEdges_eff (s : State) (up : Nat) (down : Nat) : Eff 12887301982 s (State.sensorEdges s up down) := by
  unfold State.sensorEdges
  refine Eff.app ?_ (Eff.foldl (m := 12887301982) ?_ _ _) (Nat.or_self _)
  · exact Eff.refl _ _
  · intro y0 y1
    extract_lets -merge -underBinder t2 t3
    try clear_value t2
    have e4 : Eff 12887301982 y0 t3 := by
      refine Eff.ite (fun _ => ?_) (fun _ => ?_)
      · refine Eff.app ?_ (State.sensorEdge_eff ..) (by decide)
        exact Eff.refl _ _
      · exact Eff.refl _ _
    try clear_value t3
    refine Eff.ite (fun _ => ?_) (fun _ => ?_)
    · refine Eff.app ?_ (State.sensorEdge_eff ..) (by decide)
      exact e4
    · exact e4

theorem State.sensorSettle_eff (s : State) : Eff 12887301982 s (State.sensorSettle s) := by
  unfold State.sensorSettle
  refine Eff.app ?_ (State.closeReady_eff ..) (by decide)
  refine Eff.app ?_ (State.freeAll_eff ..) (by decide)
  refine Eff.app ?_ (Eff.foldl (m := 12887301982) ?_ _ _) (Nat.or_self _)
  · exact Eff.refl _ _
  · intro y0 y1
    refine Eff.app ?_ (State.runStreams_eff ..) (by decide)
    exact Eff.refl _ _

theorem State.uplinkReceive_eff (s : State) (err : BitVec 96) : Eff 12887441374 s (State.uplinkReceive s err) := by
  unfold State.uplinkReceive
  split
  · rename_i q0
    refine Eff.ite (fun _ => ?_) (fun _ => ?_)
    · refine Eff.app ?_ (Eff.of_pair (State.uplinkFrame_eff ..) q0) (by decide)
      exact Eff.refl _ _
    · refine Eff.app ?_ (State.sensorSettle_eff ..) (by decide)
      refine Eff.app ?_ (State.sensorEdges_eff ..) (by decide)
      refine Eff.app ?_ (Eff.of_pair (State.uplinkFrame_eff ..) q0) (by decide)
      exact Eff.refl _ _

theorem State.raceEnable_eff (s : State) (r : Nat) (on : Bool) : Eff 4295229534 s (State.raceEnable s r on) := by
  unfold State.raceEnable
  extract_lets -merge -underBinder t0 t1
  try clear_value t1
  have e2 : Eff 4295229534 s t0 := by
    refine Eff.app ?_ (State.encHold_eff ..) (by decide)
    refine Eff.app ?_ (State.setFlag_eff ..) (by decide)
    exact Eff.refl _ _
  try clear_value t0
  refine Eff.ite (fun _ => ?_) (fun _ => ?_)
  · exact e2
  · refine Eff.app ?_ (State.grazeAdvance_eff ..) (by decide)
    refine Eff.app ?_ (State.setRace_eff ..) (by decide)
    exact e2

theorem State.tileWrite_eff (s : State) (i : Nat) : Eff 297310 s (State.tileWrite s i) := by
  unfold State.tileWrite
  extract_lets -merge -underBinder t0 t1
  try clear_value t0
  try clear_value t1
  split
  · refine Eff.ite (fun _ => ?_) (fun _ => ?_)
    · exact Eff.refl _ _
    · extract_lets -merge -underBinder t2 t3 t4 t5 t6 t7 t8 t9 t10 t11
      try clear_value t2
      try clear_value t3
      try clear_value t4
      try clear_value t7
      try clear_value t9
      have e12 : Eff 297310 s t5 := by
        refine Eff.app ?_ (Eff.foldl (m := 297310) ?_ _ _) (Nat.or_self _)
        · exact Eff.refl _ _
        · intro y13 y14
          refine Eff.ite (fun _ => ?_) (fun _ => ?_)
          · exact Eff.refl _ _
          · refine Eff.app ?_ (State.write_eff ..) (by decide)
            exact Eff.refl _ _
      try clear_value t5
      have e15 : Eff 297310 s t6 := by
        refine Eff.app ?_ (Eff.foldl (m := 297310) ?_ _ _) (Nat.or_self _)
        · exact e12
        · intro y16 y17
          refine Eff.app ?_ (Eff.foldl (m := 297310) ?_ _ _) (Nat.or_self _)
          · exact Eff.refl _ _
          · intro y18 y19
            extract_lets -merge -underBinder t20 t21 t22
            try clear_value t20
            try clear_value t21
            have e23 : Eff 297310 y18 t22 := by
              unfold t22
              split
              · refine Eff.ite (fun _ => ?_) (fun _ => ?_)
                · refine Eff.app ?_ (State.setSlot_eff ..) (by decide)
                  exact Eff.refl _ _
                · exact Eff.refl _ _
              · exact Eff.refl _ _
            try clear_value t22
            refine Eff.app ?_ (State.write_eff ..) (by decide)
            exact e23
      try clear_value t6
      have e24 : Eff 297310 s t8 := by
        refine Eff.app ?_ (State.write_eff ..) (by decide)
        exact e15
      try clear_value t8
      have e25 : Eff 297310 s t10 := by
        refine Eff.app ?_ (State.setSlot_eff ..) (by decide)
        exact e24
      try clear_value t10
      have e26 : Eff 297310 s t11 := by
        refine Eff.ite (fun _ => ?_) (fun _ => ?_)
        · exact e25
        · refine Eff.app ?_ (State.setTile_eff ..) (by decide)
          exact e25
      try clear_value t11
      refine Eff.app ?_ (State.tryRetire_eff ..) (by decide)
      refine Eff.app ?_ (State.grazeAdvance_eff ..) (by decide)
      refine Eff.app ?_ (State.freeAll_eff ..) (by decide)
      exact e26
  · exact Eff.refl _ _

end Sys2Proof.Machine
end

