-- ==== Sys2Proof/Laws/EffSched.lean ====
section
/-! SUPPORT. What each operation of Machine/Sched.lean can touch, by unit of the state (see Laws/Effect.lean). -/

set_option linter.unusedVariables false
set_option linter.unusedTactic false
set_option linter.unreachableTactic false

namespace Sys2Proof.Machine

theorem State.activate_eff (s : State) (c : Nat) : Eff 512 s (State.activate s c) := by
  unfold State.activate
  extract_lets -merge -underBinder t0 t1
  try clear_value t0
  try clear_value t1
  refine Eff.ite (fun _ => ?_) (fun _ => ?_)
  · exact Eff.refl _ _
  · split
    · exact Eff.refl _ _
    · extract_lets -merge -underBinder t2 t3
      try clear_value t2
      try clear_value t3
      refine Eff.ite (fun _ => ?_) (fun _ => ?_)
      · refine Eff.app ?_ (Eff.set_shep _ _) (by decide)
        exact Eff.refl _ _
      · exact Eff.refl _ _

theorem State.enterJob_eff (s : State) (q : JobReq) (j : Nat) (scratch : Nat) : Eff 12887039838 s (State.enterJob s q j scratch) := by
  unfold State.enterJob
  extract_lets -merge -underBinder t0 t1 t2 t3 t4 t5 t6
  try clear_value t0
  try clear_value t4
  have e7 : Eff 12887039838 s t1 := by
    refine Eff.app ?_ (Eff.set_shep _ _) (by decide)
    exact Eff.refl _ _
  try clear_value t1
  have e8 : Eff 12887039838 s t2 := by
    refine Eff.ite (fun _ => ?_) (fun _ => ?_)
    · exact e7
    · refine Eff.app ?_ (State.activate_eff ..) (by decide)
      exact e7
  try clear_value t2
  have e9 : Eff 12887039838 s t3 := by
    refine Eff.app ?_ (State.clearResults_eff ..) (by decide)
    exact e8
  try clear_value t3
  have e10 : Eff 12887039838 s t5 := by
    refine Eff.app ?_ (State.setJob_eff ..) (by decide)
    exact e9
  try clear_value t5
  have e11 : Eff 12887039838 s t6 := by
    unfold t6
    split
    · refine Eff.app ?_ (State.setSlot_eff ..) (by decide)
      exact e10
    · refine Eff.app ?_ (State.setSlot_eff ..) (by decide)
      exact e10
    · exact e10
  try clear_value t6
  split
  · refine Eff.app ?_ (State.endJob_eff ..) (by decide)
    refine Eff.app ?_ (Eff.of_pair (State.read_eff ..) (by assumption)) (by decide)
    exact e11
  · split
    · refine Eff.app ?_ (State.jobFault_eff ..) (by decide)
      refine Eff.app ?_ (Eff.of_pair (State.read_eff ..) (by assumption)) (by decide)
      exact e11
    · split
      · refine Eff.app ?_ (State.endJob_eff ..) (by decide)
        refine Eff.app ?_ (Eff.of_pair (State.read_eff ..) (by assumption)) (by decide)
        refine Eff.app ?_ (State.setJob_eff ..) (by decide)
        refine Eff.app ?_ (Eff.of_pair (State.read_eff ..) (by assumption)) (by decide)
        exact e11
      · refine Eff.ite (fun _ => ?_) (fun _ => ?_)
        · refine Eff.app ?_ (State.setJob_eff ..) (by decide)
          refine Eff.app ?_ (Eff.of_pair (State.read_eff ..) (by assumption)) (by decide)
          refine Eff.app ?_ (State.setJob_eff ..) (by decide)
          refine Eff.app ?_ (Eff.of_pair (State.read_eff ..) (by assumption)) (by decide)
          exact e11
        · refine Eff.app ?_ (State.jobFault_eff ..) (by decide)
          refine Eff.app ?_ (Eff.of_pair (State.read_eff ..) (by assumption)) (by decide)
          refine Eff.app ?_ (State.setJob_eff ..) (by decide)
          refine Eff.app ?_ (Eff.of_pair (State.read_eff ..) (by assumption)) (by decide)
          exact e11

theorem State.jobTableEnter_eff (s : State) : Eff 12887039838 s (State.jobTableEnter s) := by
  unfold State.jobTableEnter
  refine Eff.ite (fun _ => ?_) (fun _ => ?_)
  · exact Eff.refl _ _
  · split
    · split
      · refine Eff.app ?_ (State.enterJob_eff ..) (by decide)
        exact Eff.refl _ _
      · exact Eff.refl _ _
    · exact Eff.refl _ _

theorem State.consume_eff (s : State) (r : Nat) : Eff 20 s (State.consume s r) := by
  unfold State.consume
  extract_lets -merge -underBinder t0
  try clear_value t0
  refine Eff.app ?_ (State.putRing_eff ..) (by decide)
  exact Eff.refl _ _

theorem State.takeEntry_eff (s : State) (r : Nat) : Eff 94 s (State.takeEntry s r).1 := by
  unfold State.takeEntry
  extract_lets -merge -underBinder t0
  try clear_value t0
  refine Eff.ite1 (fun _ => ?_) (fun _ => ?_)
  · refine Eff.fst ?_
    exact Eff.refl _ _
  · split
    · refine Eff.fst ?_
      refine Eff.app ?_ (State.consume_eff ..) (by decide)
      refine Eff.app ?_ (Eff.of_pair (State.read_eff ..) (by assumption)) (by decide)
      exact Eff.refl _ _
    · refine Eff.fst ?_
      refine Eff.app ?_ (State.raise_eff ..) (by decide)
      refine Eff.app ?_ (State.consume_eff ..) (by decide)
      refine Eff.app ?_ (Eff.of_pair (State.read_eff ..) (by assumption)) (by decide)
      exact Eff.refl _ _

theorem State.refuse_eff (s : State) (c : Nat) (n : Nat) (jobId : Nat) : Eff 606 s (State.refuse s c n jobId) := by
  unfold State.refuse
  extract_lets -merge -underBinder t0 t1
  try clear_value t0
  try clear_value t1
  refine Eff.app ?_ (State.postRefused_eff ..) (by decide)
  refine Eff.app ?_ (Eff.set_shep _ _) (by decide)
  exact Eff.refl _ _

theorem State.takeSubmission_eff (s : State) (c : Nat) (n : Nat) (jobId : Nat) (prog : Nat) (legal : Bool) : Eff 606 s (State.takeSubmission s c n jobId prog legal) := by
  unfold State.takeSubmission
  refine Eff.ite (fun _ => ?_) (fun _ => ?_)
  · refine Eff.app ?_ (State.submit_eff ..) (by decide)
    exact Eff.refl _ _
  · refine Eff.app ?_ (State.refuse_eff ..) (by decide)
    exact Eff.refl _ _

theorem State.housekeepingSubmit_eff (s : State) (c : Nat) (own : Option (Nat × Nat)) : Eff 606 s (State.housekeepingSubmit s c own) := by
  unfold State.housekeepingSubmit
  refine Eff.ite (fun _ => ?_) (fun _ => ?_)
  · exact Eff.refl _ _
  · split
    · refine Eff.app ?_ (State.takeSubmission_eff ..) (by decide)
      exact Eff.refl _ _
    · split
      · refine Eff.app ?_ (Eff.of_pair (State.takeEntry_eff ..) (by assumption)) (by decide)
        exact Eff.refl _ _
      · refine Eff.app ?_ (State.takeSubmission_eff ..) (by decide)
        refine Eff.app ?_ (Eff.of_pair (State.takeEntry_eff ..) (by assumption)) (by decide)
        exact Eff.refl _ _

theorem State.scoreboardAdmit_eff (s : State) (j : Nat) (up : Upsets) : Eff 12887039838 s (State.scoreboardAdmit s j up) := by
  unfold State.scoreboardAdmit
  extract_lets -merge -underBinder t0
  have e1 : Eff 12887039838 s t0 := by
    refine Eff.app ?_ (State.upset_eff ..) (by decide)
    exact Eff.refl _ _
  try clear_value t0
  split
  · exact e1
  · refine Eff.ite (fun _ => ?_) (fun _ => ?_)
    · exact e1
    · split
      · refine Eff.app ?_ (State.endJob_eff ..) (by decide)
        refine Eff.app ?_ (Eff.of_pair (State.read_eff ..) (by assumption)) (by decide)
        exact e1
      · split
        · refine Eff.app ?_ (State.endJob_eff ..) (by decide)
          refine Eff.app ?_ (Eff.of_pair (State.read_eff ..) (by assumption)) (by decide)
          refine Eff.app ?_ (Eff.of_pair (State.read_eff ..) (by assumption)) (by decide)
          exact e1
        · extract_lets -merge -underBinder t2 t3 t4 t5
          try clear_value t2
          try clear_value t3
          try clear_value t4
          try clear_value t5
          refine Eff.ite (fun _ => ?_) (fun _ => ?_)
          · refine Eff.app ?_ (State.jobFault_eff ..) (by decide)
            refine Eff.app ?_ (Eff.of_pair (State.read_eff ..) (by assumption)) (by decide)
            refine Eff.app ?_ (Eff.of_pair (State.read_eff ..) (by assumption)) (by decide)
            exact e1
          · refine Eff.app ?_ (State.setJob_eff ..) (by decide)
            refine Eff.app ?_ (Eff.of_pair (State.read_eff ..) (by assumption)) (by decide)
            refine Eff.app ?_ (Eff.of_pair (State.read_eff ..) (by assumption)) (by decide)
            exact e1

theorem State.beginJob_eff (s : State) (j : Nat) : Eff 768 s (State.beginJob s j) := by
  unfold State.beginJob
  split
  · exact Eff.refl _ _
  · extract_lets -merge -underBinder t0
    have e1 : Eff 768 s t0 := by
      unfold t0
      split
      · refine Eff.ite (fun _ => ?_) (fun _ => ?_)
        · refine Eff.app ?_ (State.setSlot_eff ..) (by decide)
          exact Eff.refl _ _
        · exact Eff.refl _ _
      · exact Eff.refl _ _
    try clear_value t0
    refine Eff.ite (fun _ => ?_) (fun _ => ?_)
    · refine Eff.app ?_ (State.setJob_eff ..) (by decide)
      exact e1
    · refine Eff.app ?_ (State.setJob_eff ..) (by decide)
      exact e1

theorem State.standOn_eff (s : State) (k : Nat) (e : QEnt) (saved : Bool) : Eff 1024 s (State.standOn s k e saved) := by
  unfold State.standOn
  extract_lets -merge -underBinder t0
  try clear_value t0
  refine Eff.ite (fun _ => ?_) (fun _ => ?_)
  · refine Eff.app ?_ (State.setCore_eff ..) (by decide)
    exact Eff.refl _ _
  · refine Eff.app ?_ (State.setCore_eff ..) (by decide)
    exact Eff.refl _ _

theorem State.placeOn_eff (s : State) (k : Nat) (j : Nat) (c : Cmd) (payer : Option Nat) : Eff 1792 s (State.placeOn s k j c payer) := by
  unfold State.placeOn
  split
  · exact Eff.refl _ _
  · extract_lets -merge -underBinder t0 t1 t2 t3 t4 t5 t6 t7 t8
    try clear_value t0
    try clear_value t1
    try clear_value t3
    try clear_value t4
    try clear_value t5
    try clear_value t8
    have e9 : Eff 1792 s t2 := by
      refine Eff.app ?_ (State.beginJob_eff ..) (by decide)
      exact Eff.refl _ _
    try clear_value t2
    have e10 : Eff 1792 s t6 := by
      refine Eff.app ?_ (State.setJob_eff ..) (by decide)
      exact e9
    try clear_value t6
    have e11 : Eff 1792 s t7 := by
      refine Eff.app ?_ (Eff.foldl (m := 1792) ?_ _ _) (Nat.or_self _)
      · exact e10
      · intro y12 y13
        split
        · refine Eff.app ?_ (State.standOn_eff ..) (by decide)
          exact Eff.refl _ _
    try clear_value t7
    refine Eff.app ?_ (Eff.set_shep _ _) (by decide)
    exact e11

theorem State.beginSlice_eff (s : State) (k : Nat) (m : Nat) : Eff 1536 s (State.beginSlice s k m) := by
  unfold State.beginSlice
  extract_lets -merge -underBinder t0 t1 t2
  try clear_value t0
  try clear_value t2
  have e3 : Eff 1536 s t1 := by
    refine Eff.app ?_ (State.setCore_eff ..) (by decide)
    exact Eff.refl _ _
  try clear_value t1
  refine Eff.app ?_ (Eff.set_shep _ _) (by decide)
  exact e3

theorem State.serveCore_eff (s : State) (k : Nat) : EffO 1792 s (State.serveCore s k) := by
  unfold State.serveCore
  refine EffO.ite (fun _ => EffO.none) (fun _ => ?_)
  split
  · refine EffO.some (Eff.app ?_ (Eff.set_shep _ _) (by decide))
    exact Eff.app (Eff.refl _ _) (State.placeOn_eff ..) (by decide)
  · extract_lets -merge -underBinder t3
    clear_value t3
    split
    · exact EffO.some (Eff.app (Eff.refl _ _) (State.placeOn_eff ..) (by decide))
    · split
      · exact EffO.none
      · refine ⟨fun t ht => ?_⟩
        obtain ⟨p, -, rfl⟩ := Option.map_eq_some_iff.1 ht
        exact (((State.endSlice_eff s k).mono (M := 1792) (by decide)).app (State.beginSlice_eff ..) (by decide)).app (State.placeOn_eff ..) (by decide)

theorem State.serveLamb_eff (s : State) : EffO 3840 s s.serveLamb := by
  refine EffO.findSome (fun j => ?_) _
  split
  · exact EffO.none
  · refine EffO.ite (fun _ => EffO.none) (fun _ => ⟨fun t ht => ?_⟩)
    obtain ⟨c, -, rfl⟩ := Option.map_eq_some_iff.1 ht
    have e := (((State.setCmd_eff s j c.idx .queued).mono (M := 3840) (by decide)).app (State.beginJob_eff _ j) (by decide))
    exact e.app (Eff.set_lamb _ _) (by decide)

theorem State.withdrawEnt_eff (s : State) (e : QEnt) : Eff 1536 s (State.withdrawEnt s e) := by
  unfold State.withdrawEnt
  extract_lets -merge -underBinder t0
  have e1 : Eff 1536 s t0 := by
    unfold t0
    split
    · refine Eff.app ?_ (State.setJob_eff ..) (by decide)
      exact Eff.refl _ _
    · exact Eff.refl _ _
  try clear_value t0
  refine Eff.app ?_ (Eff.foldl (m := 1536) ?_ _ _) (Nat.or_self _)
  · exact e1
  · intro y2 y3
    refine Eff.app ?_ (State.clearCore_eff ..) (by decide)
    exact Eff.refl _ _

theorem State.progressTo_eff (s : State) (k : Nat) (e : QEnt) (x : Job) (c : Cmd) (b : Boundary) : Eff 8589936222 s (State.progressTo s k e x c b) := by
  unfold State.progressTo
  split
  · exact Eff.refl _ _
  · split
    · exact Eff.refl _ _
    · rename_i t pr wide h
      refine Eff.app ?_ (Eff.foldl (m := 8589936222) ?_ _ _) (Nat.or_self _)
      · exact ((State.runUpTo_eff _ _ _ _ _ _ _ _ _ _ _ _ h).mono (M := 8589936222) (by decide)).app (State.markJob_eff ..) (by decide)
      · intro _ _
        exact (State.setCore_eff ..).mono (by decide)

theorem State.beginSave_eff (s : State) (k : Nat) (e : QEnt) : Eff 1536 s (State.beginSave s k e) := by
  unfold State.beginSave
  extract_lets -merge -underBinder t0 t1 t2 t3 t4
  try clear_value t0
  try clear_value t2
  try clear_value t3
  have e5 : Eff 1536 s t1 := by
    refine Eff.app ?_ (Eff.foldl (m := 1536) ?_ _ _) (Nat.or_self _)
    · exact Eff.refl _ _
    · intro y6 y7
      refine Eff.app ?_ (State.withdrawEnt_eff ..) (by decide)
      exact Eff.refl _ _
  try clear_value t1
  have e8 : Eff 1536 s t4 := by
    refine Eff.app ?_ (State.setCore_eff ..) (by decide)
    exact e5
  try clear_value t4
  refine Eff.app ?_ (State.endSlice_eff ..) (by decide)
  exact e8

theorem State.preempt_eff (s : State) (k : Nat) (b : Boundary) : Eff 8589936222 s (State.preempt s k b) := by
  unfold State.preempt
  split
  · refine Eff.ite (fun _ => ?_) (fun _ => ?_)
    · extract_lets -merge -underBinder t0
      try clear_value t0
      refine Eff.app ?_ (Eff.foldl (m := 8589936222) ?_ _ _) (Nat.or_self _)
      · refine Eff.app ?_ (State.progressTo_eff ..) (by decide)
        exact Eff.refl _ _
      · intro y1 y2
        refine Eff.app ?_ (State.beginSave_eff ..) (by decide)
        exact Eff.refl _ _
    · refine Eff.app ?_ (State.withdrawEnt_eff ..) (by decide)
      exact Eff.refl _ _
  · split
    · refine Eff.app ?_ (State.beginSave_eff ..) (by decide)
      exact Eff.refl _ _
    · exact Eff.refl _ _

theorem State.commandPlace_eff (s : State) (b : Boundary) : Eff 8589938526 s (s.commandPlace b) := by
  unfold State.commandPlace
  refine Eff.ite (fun _ => Eff.refl _ _) (fun _ => ?_)
  have core : ∀ k, EffO 8589938526 s (s.serveCore k) := fun k => (State.serveCore_eff ..).mono (by decide)
  extract_lets rt
  have hr : EffO 8589938526 s rt := EffO.findSome (fun k => EffO.ite (fun _ => core k) (fun _ => EffO.none)) _
  clear_value rt
  split
  · exact hr.get rfl
  · refine Eff.ite (fun _ => ?_) (fun _ => ?_)
    · split
      · exact (State.preempt_eff ..).mono (by decide)
      · exact Eff.refl _ _
    · split
      · exact (EffO.findSome core _).get (by assumption)
      · cases h : s.serveLamb with
        | none => exact Eff.refl _ _
        | some t => exact ((State.serveLamb_eff s).get h).mono (by decide)

theorem State.completeCmd_eff (s : State) (j : Nat) (i : Nat) : Eff 4297105246 s (State.completeCmd s j i) := by
  unfold State.completeCmd
  split
  · exact Eff.refl _ _
  · split
    · exact Eff.refl _ _
    · extract_lets -merge -underBinder t0 t1 t2
      try clear_value t0
      try clear_value t1
      have e3 : Eff 4297105246 s t2 := by
        refine Eff.app ?_ (State.setJob_eff ..) (by decide)
        exact Eff.refl _ _
      try clear_value t2
      refine Eff.ite (fun _ => ?_) (fun _ => ?_)
      · refine Eff.app ?_ (State.finishJob_eff ..) (by decide)
        exact e3
      · exact e3

theorem State.popCommand_eff (s : State) (e : QEnt) : Eff 1536 s (State.popCommand s e) := by
  unfold State.popCommand
  refine Eff.app ?_ (Eff.foldl (m := 1536) ?_ _ _) (Nat.or_self _)
  · exact Eff.refl _ _
  · intro y0 y1
    extract_lets -merge -underBinder t2
    have e3 : Eff 1536 y0 t2 := by
      refine Eff.app ?_ (State.clearCore_eff ..) (by decide)
      exact Eff.refl _ _
    try clear_value t2
    split
    · refine Eff.ite (fun _ => ?_) (fun _ => ?_)
      · refine Eff.app ?_ (State.endSlice_eff ..) (by decide)
        exact e3
      · exact e3
    · exact e3

theorem State.dataErrorJob_eff (s : State) (j : Nat) : Eff 12887039838 s (State.dataErrorJob s j) := by
  unfold State.dataErrorJob
  refine Eff.app ?_ (State.cancelReasoned_eff ..) (by decide)
  refine Eff.app ?_ (State.endJob_eff ..) (by decide)
  exact Eff.refl _ _

theorem State.coreComplete_eff (s : State) (k : Nat) : Eff 12887039838 s (State.coreComplete s k) := by
  unfold State.coreComplete
  split
  · refine Eff.ite (fun _ => ?_) (fun _ => ?_)
    · refine Eff.app ?_ (State.cancelReasoned_eff ..) (by decide)
      refine Eff.app ?_ (State.completeCmd_eff ..) (by decide)
      refine Eff.app ?_ (State.bump_eff ..) (by decide)
      refine Eff.app ?_ (State.popCommand_eff ..) (by decide)
      exact Eff.refl _ _
    · exact Eff.refl _ _
  · exact Eff.refl _ _

theorem State.pushResult_eff (s : State) (f : Nat) (r : Result) : Eff 256 s (State.pushResult s f r) := by
  unfold State.pushResult
  refine Eff.app ?_ (Eff.set_fold _ _) (by decide)
  exact Eff.refl _ _

theorem State.unitComplete_eff (s : State) (u : Nat) : Eff 12887039838 s (State.unitComplete s u) := by
  unfold State.unitComplete
  split
  · split
    · extract_lets -merge -underBinder t0 t1 t2 t3 t4
      try clear_value t0
      try clear_value t2
      have e5 : Eff 12887039838 s t1 := by
        refine Eff.app ?_ (State.idleUnits_eff ..) (by decide)
        exact Eff.refl _ _
      try clear_value t1
      have e6 : Eff 12887039838 s t3 := by
        refine Eff.app ?_ (Eff.set_lamb _ _) (by decide)
        exact e5
      try clear_value t3
      have e7 : Eff 12887039838 s t4 := by
        unfold t4
        split
        · refine Eff.app ?_ (State.pushResult_eff ..) (by decide)
          exact e6
        · exact e6
      try clear_value t4
      refine Eff.ite (fun _ => ?_) (fun _ => ?_)
      · refine Eff.app ?_ (State.cancelReasoned_eff ..) (by decide)
        refine Eff.app ?_ (State.completeCmd_eff ..) (by decide)
        exact e7
      · exact Eff.refl _ _
    · exact Eff.refl _ _
  · exact Eff.refl _ _

theorem State.commandComplete_eff (s : State) (e : Engine) : Eff 12887039838 s (State.commandComplete s e) := by
  unfold State.commandComplete
  split
  · refine Eff.app ?_ (State.coreComplete_eff ..) (by decide)
    exact Eff.refl _ _
  · refine Eff.app ?_ (State.unitComplete_eff ..) (by decide)
    exact Eff.refl _ _

theorem State.shepExec_eff {M : Nat} (s : State) (j : Nat) (f : List Byte → Bool) (act : State → Job → Cmd → State) (h_act : ∀ v0 v1 v2, Eff M v0 (act v0 v1 v2)) : Eff (12887039838 ||| M) s (State.shepExec s j f act) := by
  unfold State.shepExec
  split
  · exact Eff.refl _ _
  · split
    · refine Eff.app ?_ (State.jobFault_eff ..) (mask_or (by decide))
      exact Eff.refl _ _
    · refine Eff.ite (fun _ => ?_) (fun _ => ?_)
      · refine Eff.app ?_ (State.jobFault_eff ..) (mask_or (by decide))
        exact Eff.refl _ _
      · refine Eff.app ?_ (h_act ..) mask_own
        refine Eff.app ?_ (State.beginJob_eff ..) (mask_or (by decide))
        exact Eff.refl _ _

theorem State.releaseSem_eff (s : State) (j : Nat) (i : Nat) : Eff 512 s (State.releaseSem s j i) := by
  unfold State.releaseSem
  split
  · exact Eff.refl _ _
  · refine Eff.app ?_ (State.setJob_eff ..) (by decide)
    exact Eff.refl _ _

theorem State.semCmd_eff (s : State) (j : Nat) (op : Nat) : Eff 12887039838 s (State.semCmd s j op) := by
  unfold State.semCmd
  refine Eff.app ?_ (State.shepExec_eff (M := 12887039838) (h_act := ?_) ..) (by decide)
  · exact Eff.refl _ _
  · intro y0 y1 y2
    refine Eff.app ?_ (State.completeCmd_eff ..) (by decide)
    refine Eff.app ?_ (State.releaseSem_eff ..) (by decide)
    refine Eff.app ?_ (State.semOp_eff ..) (by decide)
    exact Eff.refl _ _

theorem State.setProd_eff (s : State) (r : Nat) (v : Nat) : Eff 94 s (State.setProd s r v) := by
  unfold State.setProd
  extract_lets -merge -underBinder t0
  try clear_value t0
  refine Eff.ite (fun _ => ?_) (fun _ => ?_)
  · refine Eff.app ?_ (State.raise_eff ..) (by decide)
    exact Eff.refl _ _
  · refine Eff.app ?_ (State.putRing_eff ..) (by decide)
    exact Eff.refl _ _

theorem State.doorbell_eff (s : State) (j : Nat) : Eff 12887039838 s (State.doorbell s j) := by
  unfold State.doorbell
  refine Eff.app ?_ (State.shepExec_eff (M := 12887039838) (h_act := ?_) ..) (by decide)
  · exact Eff.refl _ _
  · intro y0 y1 y2
    refine Eff.app ?_ (State.completeCmd_eff ..) (by decide)
    refine Eff.app ?_ (State.setProd_eff ..) (by decide)
    exact Eff.refl _ _

theorem State.finishWait_eff (s : State) (j : Nat) (c : Cmd) : Eff 4297105246 s (State.finishWait s j c) := by
  unfold State.finishWait
  extract_lets -merge -underBinder t0 t1 t2
  try clear_value t0
  have e3 : Eff 4297105246 s t1 := by
    refine Eff.app ?_ (State.setFld_eff ..) (by decide)
    exact Eff.refl _ _
  try clear_value t1
  have e4 : Eff 4297105246 s t2 := by
    refine Eff.ite (fun _ => ?_) (fun _ => ?_)
    · split
      · refine Eff.app ?_ (State.setJob_eff ..) (by decide)
        exact e3
      · exact e3
    · exact Eff.refl _ _
  try clear_value t2
  refine Eff.app ?_ (State.completeCmd_eff ..) (by decide)
  exact e4

theorem State.waitCmd_eff (s : State) (j : Nat) : Eff 12887039838 s (State.waitCmd s j) := by
  unfold State.waitCmd
  refine Eff.app ?_ (State.shepExec_eff (M := 12887039838) (h_act := ?_) ..) (by decide)
  · exact Eff.refl _ _
  · intro y0 y1 y2
    refine Eff.ite (fun _ => ?_) (fun _ => ?_)
    · refine Eff.app ?_ (State.finishWait_eff ..) (by decide)
      exact Eff.refl _ _
    · refine Eff.app ?_ (State.setCmd_eff ..) (by decide)
      exact Eff.refl _ _

theorem State.waitSatisfy_eff (s : State) : Eff 4297105246 s (State.waitSatisfy s) := by
  unfold State.waitSatisfy
  refine Eff.ite (fun _ => ?_) (fun _ => ?_)
  · exact Eff.refl _ _
  · split
    · exact Eff.refl _ _
    · refine Eff.app ?_ (State.finishWait_eff ..) (by decide)
      refine Eff.app ?_ (Eff.set_shep _ _) (by decide)
      exact Eff.refl _ _

theorem State.newSlice_eff (s : State) (k : Nat) (m : Nat) (b : Boundary) : Eff 8589936222 s (State.newSlice s k m b) := by
  unfold State.newSlice
  extract_lets -merge -underBinder t0
  have e1 : Eff 8589936222 s t0 := by
    refine Eff.app ?_ (State.endSlice_eff ..) (by decide)
    exact Eff.refl _ _
  try clear_value t0
  split
  · exact e1
  · refine Eff.ite (fun _ => ?_) (fun _ => ?_)
    · refine Eff.app ?_ (State.beginSlice_eff ..) (by decide)
      exact e1
    · split
      · refine Eff.ite (fun _ => ?_) (fun _ => ?_)
        · refine Eff.app ?_ (State.preempt_eff ..) (by decide)
          exact e1
        · refine Eff.app ?_ (Eff.foldl (m := 8589936222) ?_ _ _) (Nat.or_self _)
          · exact e1
          · intro y2 y3
            refine Eff.app ?_ (State.withdrawEnt_eff ..) (by decide)
            exact Eff.refl _ _
      · refine Eff.app ?_ (State.preempt_eff ..) (by decide)
        exact e1

theorem State.sliceExpiry_eff (s : State) (k : Nat) (b : Boundary) : Eff 8589936254 s (State.sliceExpiry s k b) := by
  unfold State.sliceExpiry
  split
  · exact Eff.refl _ _
  · extract_lets -merge -underBinder t0
    have e1 : Eff 8589936254 s t0 := by
      refine Eff.app ?_ (State.advanceTo_eff ..) (by decide)
      exact Eff.refl _ _
    try clear_value t0
    split
    · refine Eff.ite (fun _ => ?_) (fun _ => ?_)
      · exact e1
      · refine Eff.app ?_ (State.newSlice_eff ..) (by decide)
        exact e1
    · refine Eff.app ?_ (State.newSlice_eff ..) (by decide)
      exact e1

theorem State.contextBytes_eff (s : State) (k : Nat) (e : QEnt) (x : Job) (run : Bool) : Eff 8589934592 s (State.contextBytes s k e x run).1 := by
  unfold State.contextBytes
  extract_lets -merge -underBinder t0
  try clear_value t0
  split
  · rename_i q1
    extract_lets -merge -underBinder t2
    try clear_value t2
    split
    · rename_i q3
      extract_lets -merge -underBinder t4 t5
      try clear_value t4
      try clear_value t5
      refine Eff.fst ?_
      refine Eff.app ?_ (Eff.of_pair (State.drawBlock_eff ..) q3) (by decide)
      refine Eff.app ?_ (Eff.of_pair (State.drawBlock_eff ..) q1) (by decide)
      exact Eff.refl _ _

theorem State.saveOut_eff (s : State) (k : Nat) (e : QEnt) (x : Job) : Eff 8589936222 s (State.saveOut s k e x) := by
  unfold State.saveOut
  extract_lets -merge -underBinder t0
  try clear_value t0
  split
  · rename_i q1
    extract_lets -merge -underBinder t2 t3 t4 t5 t6
    try clear_value t3
    try clear_value t4
    have e7 : Eff 8589936222 s t2 := by
      refine Eff.app ?_ (State.write_eff ..) (by decide)
      refine Eff.app ?_ (Eff.of_pair (State.contextBytes_eff ..) q1) (by decide)
      exact Eff.refl _ _
    try clear_value t2
    have e8 : Eff 8589936222 s t5 := by
      refine Eff.app ?_ (Eff.set_shep _ _) (by decide)
      exact e7
    try clear_value t5
    have e9 : Eff 8589936222 s t6 := by
      refine Eff.app ?_ (State.payOwed_eff ..) (by decide)
      refine Eff.app ?_ (State.setCore_eff ..) (by decide)
      exact e8
    try clear_value t6
    refine Eff.ite (fun _ => ?_) (fun _ => ?_)
    · exact e9
    · refine Eff.app ?_ (State.setJob_eff ..) (by decide)
      exact e9

theorem State.saveComplete_eff (s : State) (k : Nat) : Eff 8589936222 s (State.saveComplete s k) := by
  unfold State.saveComplete
  split
  · split
    · refine Eff.app ?_ (State.payOwed_eff ..) (by decide)
      refine Eff.app ?_ (State.setCore_eff ..) (by decide)
      exact Eff.refl _ _
    · refine Eff.app ?_ (State.saveOut_eff ..) (by decide)
      exact Eff.refl _ _
  · exact Eff.refl _ _

theorem State.restoreComplete_eff (s : State) (k : Nat) : Eff 12887039838 s (State.restoreComplete s k) := by
  unfold State.restoreComplete
  split
  · split
    · refine Eff.app ?_ (State.setCore_eff ..) (by decide)
      exact Eff.refl _ _
    · extract_lets -merge -underBinder t0 t1 t2
      try clear_value t0
      try clear_value t1
      try clear_value t2
      split
      · refine Eff.app ?_ (State.dataErrorJob_eff ..) (by decide)
        refine Eff.app ?_ (State.setCore_eff ..) (by decide)
        refine Eff.app ?_ (Eff.of_pair (State.read_eff ..) (by assumption)) (by decide)
        exact Eff.refl _ _
      · extract_lets -merge -underBinder t3 t4 t5 t6 t7
        try clear_value t3
        try clear_value t4
        try clear_value t6
        have e8 : Eff 12887039838 s t5 := by
          refine Eff.ite (fun _ => ?_) (fun _ => ?_)
          · refine Eff.app ?_ (State.pokeL_eff ..) (by decide)
            refine Eff.app ?_ (Eff.of_pair (State.read_eff ..) (by assumption)) (by decide)
            exact Eff.refl _ _
          · refine Eff.app ?_ (Eff.of_pair (State.read_eff ..) (by assumption)) (by decide)
            exact Eff.refl _ _
        try clear_value t5
        have e9 : Eff 12887039838 s t7 := by
          refine Eff.app ?_ (State.setCore_eff ..) (by decide)
          exact e8
        try clear_value t7
        refine Eff.ite (fun _ => ?_) (fun _ => ?_)
        · exact e9
        · refine Eff.app ?_ (State.setJob_eff ..) (by decide)
          exact e9
  · exact Eff.refl _ _

theorem State.flushResume_eff (s : State) : Eff 512 s (State.flushResume s) := by
  unfold State.flushResume
  refine Eff.app ?_ (Eff.set_shep _ _) (by decide)
  exact Eff.refl _ _

theorem State.readmit_eff (s : State) (c : Nat) : Eff 514 s (State.readmit s c) := by
  unfold State.readmit
  extract_lets -merge -underBinder t0 t1
  try clear_value t0
  have e2 : Eff 514 s t1 := by
    refine Eff.app ?_ (Eff.set_shep _ _) (by decide)
    exact Eff.refl _ _
  try clear_value t1
  refine Eff.app ?_ (State.setFld_eff ..) (by decide)
  refine Eff.app ?_ (State.setFld_eff ..) (by decide)
  exact e2

theorem State.flushExpiry_eff (s : State) (c : Nat) : Eff 514 s (State.flushExpiry s c) := by
  unfold State.flushExpiry
  extract_lets -merge -underBinder t0 t1 t2
  try clear_value t0
  try clear_value t1
  have e3 : Eff 514 s t2 := by
    refine Eff.app ?_ (Eff.set_shep _ _) (by decide)
    exact Eff.refl _ _
  try clear_value t2
  refine Eff.app ?_ (State.setFld_eff ..) (by decide)
  exact e3

theorem State.collectorAccept_eff (s : State) : Eff 768 s (State.collectorAccept s) := by
  unfold State.collectorAccept
  split
  · exact Eff.refl _ _
  · split
    · exact Eff.refl _ _
    · extract_lets -merge -underBinder t0 t1
      try clear_value t0
      have e2 : Eff 768 s t1 := by
        refine Eff.app ?_ (Eff.set_fold _ _) (by decide)
        exact Eff.refl _ _
      try clear_value t1
      split
      · exact e2
      · split
        · exact e2
        · extract_lets -merge -underBinder t3
          have e4 : Eff 768 s t3 := by
            refine Eff.ite (fun _ => ?_) (fun _ => ?_)
            · exact e2
            · refine Eff.app ?_ (State.storeResult_eff ..) (by decide)
              exact e2
          try clear_value t3
          split
          · refine Eff.app ?_ (State.setCmd_eff ..) (by decide)
            exact e4
          · exact e4

end Sys2Proof.Machine
end

