-- ==== Sys2Proof/Laws/EffDrove.lean ====
section
/-! SUPPORT. What each operation of Machine/Drove.lean can touch, by unit of the state (see Laws/Effect.lean). -/

set_option linter.unusedVariables false
set_option linter.unusedTactic false
set_option linter.unreachableTactic false

namespace Sys2Proof.Machine

theorem State.settleWaiting_eff (s : State) : Eff 4297099614 s (State.settleWaiting s) := by
  unfold State.settleWaiting
  refine Eff.app ?_ (Eff.foldl (m := 4297099614) ?_ _ _) (Nat.or_self _)
  · exact Eff.refl _ _
  · intro y0 y1
    refine Eff.ite (fun _ => ?_) (fun _ => ?_)
    · refine Eff.app ?_ (State.settlePart_eff ..) (by decide)
      exact Eff.refl _ _
    · exact Eff.refl _ _

theorem State.pairDown_eff (s : State) : Eff 4297099614 s (State.pairDown s) := by
  unfold State.pairDown
  extract_lets -merge -underBinder t0 t1 t2
  try clear_value t2
  have e3 : Eff 4297099614 s t0 := by
    refine Eff.app ?_ (Eff.foldl (m := 4297099614) ?_ _ _) (Nat.or_self _)
    · exact Eff.refl _ _
    · intro y4 y5
      refine Eff.app ?_ (State.setSlot_eff ..) (by decide)
      exact Eff.refl _ _
  try clear_value t0
  have e6 : Eff 4297099614 s t1 := by
    refine Eff.app ?_ (Eff.foldl (m := 4297099614) ?_ _ _) (Nat.or_self _)
    · exact e3
    · intro y7 y8
      refine Eff.app ?_ (State.bump_eff ..) (by decide)
      exact Eff.refl _ _
  try clear_value t1
  refine Eff.app ?_ (State.settleWaiting_eff ..) (by decide)
  refine Eff.app ?_ (Eff.set_pair _ _) (by decide)
  exact e6

theorem State.linkAlign_eff (s : State) : Eff 4098 s (State.linkAlign s) := by
  unfold State.linkAlign
  extract_lets -merge -underBinder t0 t1
  try clear_value t1
  have e2 : Eff 4098 s t0 := by
    refine Eff.app ?_ (State.setFld_eff ..) (by decide)
    exact Eff.refl _ _
  try clear_value t0
  refine Eff.app ?_ (Eff.set_drove _ _) (by decide)
  exact e2

theorem State.linkDown_eff (s : State) (cause : Nat) : Eff 4305492830 s (State.linkDown s cause) := by
  unfold State.linkDown
  extract_lets -merge -underBinder t0 t1 t2 t3 t4 t5 t6 t7
  try clear_value t0
  try clear_value t1
  try clear_value t6
  have e8 : Eff 4305492830 s t2 := by
    refine Eff.app ?_ (Eff.set_drove _ _) (by decide)
    exact Eff.refl _ _
  try clear_value t2
  have e9 : Eff 4305492830 s t3 := by
    refine Eff.app ?_ (Eff.foldl (m := 4305492830) ?_ _ _) (Nat.or_self _)
    · exact e8
    · intro y10 y11
      split
      · refine Eff.app ?_ (State.setJob_eff ..) (by decide)
        exact Eff.refl _ _
      · exact Eff.refl _ _
  try clear_value t3
  have e12 : Eff 4305492830 s t4 := by
    refine Eff.app ?_ (State.raise_eff ..) (by decide)
    refine Eff.app ?_ (State.setFld_eff ..) (by decide)
    refine Eff.app ?_ (State.setFld_eff ..) (by decide)
    refine Eff.app ?_ (State.bump_eff ..) (by decide)
    exact e9
  try clear_value t4
  have e13 : Eff 4305492830 s t5 := by
    refine Eff.app ?_ (State.pairDown_eff ..) (by decide)
    refine Eff.app ?_ (State.linkAlign_eff ..) (by decide)
    exact e12
  try clear_value t5
  have e14 : Eff 4305492830 s t7 := by
    refine Eff.app ?_ (Eff.set_bell _ _) (by decide)
    exact e13
  try clear_value t7
  refine Eff.ite (fun _ => ?_) (fun _ => ?_)
  · refine Eff.app ?_ (State.raise_eff ..) (by decide)
    refine Eff.app ?_ (State.setFld_eff ..) (by decide)
    exact e14
  · exact e13

theorem State.droveLockLost_eff (s : State) : Eff 4305492830 s (State.droveLockLost s) := by
  unfold State.droveLockLost
  refine Eff.ite (fun _ => ?_) (fun _ => ?_)
  · refine Eff.app ?_ (State.linkDown_eff ..) (by decide)
    exact Eff.refl _ _
  · refine Eff.app ?_ (Eff.set_drove _ _) (by decide)
    exact Eff.refl _ _

theorem State.linkInit_eff (s : State) : Eff 4098 s (State.linkInit s) := by
  unfold State.linkInit
  extract_lets -merge -underBinder t0 t1
  try clear_value t1
  have e2 : Eff 4098 s t0 := by
    refine Eff.app ?_ (State.setFld_eff ..) (by decide)
    exact Eff.refl _ _
  try clear_value t0
  refine Eff.app ?_ (Eff.set_drove _ _) (by decide)
  exact e2

theorem State.linkEnterUp_eff (s : State) : Eff 94 s (State.linkEnterUp s) := by
  unfold State.linkEnterUp
  refine Eff.app ?_ (State.raise_eff ..) (by decide)
  refine Eff.app ?_ (State.setFld_eff ..) (by decide)
  exact Eff.refl _ _

theorem State.sendFlit_eff (s : State) (kind : Nat) (seq : Nat) (cls : Nat) (data : List Byte) : Eff 69632 s (State.sendFlit s kind seq cls data) := by
  unfold State.sendFlit
  extract_lets -merge -underBinder t0 t1 t2 t3
  try clear_value t0
  try clear_value t1
  try clear_value t2
  have e4 : Eff 69632 s t3 := by
    refine Eff.app ?_ (Eff.set_drove _ _) (by decide)
    exact Eff.refl _ _
  try clear_value t3
  refine Eff.app ?_ (Eff.foldl (m := 69632) ?_ _ _) (Nat.or_self _)
  · exact e4
  · intro y5 y6
    refine Eff.app ?_ (State.sendStripe_eff ..) (by decide)
    exact Eff.refl _ _

theorem State.submitFlit_eff (s : State) (cls : Nat) (data : List Byte) : Eff 4096 s (State.submitFlit s cls data) := by
  unfold State.submitFlit
  refine Eff.app ?_ (Eff.set_drove _ _) (by decide)
  exact Eff.refl _ _

theorem State.freeCredit_eff (s : State) (cls : Nat) : Eff 4096 s (State.freeCredit s cls) := by
  unfold State.freeCredit
  refine Eff.app ?_ (Eff.set_drove _ _) (by decide)
  exact Eff.refl _ _

theorem State.launchActions_eff (s : State) : Eff 4305750494 s (State.launchActions s) := by
  unfold State.launchActions
  extract_lets -merge -underBinder t0 t1 t2 t3 t4 t5 t6 t7 t8
  try clear_value t0
  try clear_value t1
  try clear_value t7
  have e9 : Eff 4305750494 s t2 := by
    refine Eff.app ?_ (Eff.foldl (m := 4305750494) ?_ _ _) (Nat.or_self _)
    · exact Eff.refl _ _
    · intro y10 y11
      refine Eff.ite (fun _ => ?_) (fun _ => ?_)
      · refine Eff.app ?_ (State.enableTrig_eff ..) (by decide)
        exact Eff.refl _ _
      · exact Eff.refl _ _
  try clear_value t2
  have e12 : Eff 4305750494 s t3 := by
    refine Eff.app ?_ (Eff.foldl (m := 4305750494) ?_ _ _) (Nat.or_self _)
    · exact e9
    · intro y13 y14
      refine Eff.ite (fun _ => ?_) (fun _ => ?_)
      · refine Eff.app ?_ (State.raceEnable_eff ..) (by decide)
        exact Eff.refl _ _
      · exact Eff.refl _ _
  try clear_value t3
  have e15 : Eff 4305750494 s t4 := by
    refine Eff.app ?_ (Eff.foldl (m := 4305750494) ?_ _ _) (Nat.or_self _)
    · exact e12
    · intro y16 y17
      refine Eff.ite (fun _ => ?_) (fun _ => ?_)
      · refine Eff.app ?_ (State.setFlag_eff ..) (by decide)
        refine Eff.app ?_ (State.setSFld_eff ..) (by decide)
        exact Eff.refl _ _
      · exact Eff.refl _ _
  try clear_value t4
  have e18 : Eff 4305750494 s t5 := by
    refine Eff.app ?_ (Eff.foldl (m := 4305750494) ?_ _ _) (Nat.or_self _)
    · exact e15
    · intro y19 y20
      refine Eff.app ?_ (State.setFld_eff ..) (by decide)
      exact Eff.refl _ _
  try clear_value t5
  have e21 : Eff 4305750494 s t6 := by
    refine Eff.app ?_ (State.encHold_eff ..) (by decide)
    refine Eff.app ?_ (State.setFld_eff ..) (by decide)
    refine Eff.app ?_ (State.setFld_eff ..) (by decide)
    exact e18
  try clear_value t6
  have e22 : Eff 4305750494 s t8 := by
    refine Eff.app ?_ (Eff.set_bell _ _) (by decide)
    exact e21
  try clear_value t8
  refine Eff.app ?_ (State.settleWaiting_eff ..) (by decide)
  refine Eff.app ?_ (State.raise_eff ..) (by decide)
  exact e22

theorem State.launchMiss_eff (s : State) : Eff 4303355998 s (State.launchMiss s) := by
  unfold State.launchMiss
  extract_lets -merge -underBinder t0 t1 t2
  try clear_value t1
  have e3 : Eff 4303355998 s t0 := by
    refine Eff.app ?_ (State.encHold_eff ..) (by decide)
    refine Eff.app ?_ (State.setFld_eff ..) (by decide)
    refine Eff.app ?_ (State.setFld_eff ..) (by decide)
    exact Eff.refl _ _
  try clear_value t0
  have e4 : Eff 4303355998 s t2 := by
    refine Eff.app ?_ (Eff.set_bell _ _) (by decide)
    exact e3
  try clear_value t2
  refine Eff.app ?_ (State.raise_eff ..) (by decide)
  exact e4

theorem State.sendLaunch_eff (s : State) : Eff 4096 s (State.sendLaunch s) := by
  unfold State.sendLaunch
  refine Eff.app ?_ (State.submitFlit_eff ..) (by decide)
  exact Eff.refl _ _

theorem State.sendLaunchPos_eff (s : State) : Eff 4096 s (State.sendLaunchPos s) := by
  unfold State.sendLaunchPos
  extract_lets -merge -underBinder t0
  try clear_value t0
  refine Eff.app ?_ (State.submitFlit_eff ..) (by decide)
  exact Eff.refl _ _

theorem State.pairOffsets_eff (s : State) (l : List Nat) : Eff 8388610 s (State.pairOffsets s l) := by
  unfold State.pairOffsets
  extract_lets -merge -underBinder t0 t1
  try clear_value t1
  have e2 : Eff 8388610 s t0 := by
    refine Eff.app ?_ (Eff.foldl (m := 8388610) ?_ _ _) (Nat.or_self _)
    · exact Eff.refl _ _
    · intro y3 y4
      extract_lets -merge -underBinder t5
      try clear_value t5
      refine Eff.ite (fun _ => ?_) (fun _ => ?_)
      · refine Eff.app ?_ (State.setFld_eff ..) (by decide)
        refine Eff.app ?_ (State.setSFld_eff ..) (by decide)
        exact Eff.refl _ _
      · exact Eff.refl _ _
  try clear_value t0
  refine Eff.app ?_ (Eff.set_bell _ _) (by decide)
  exact e2

theorem State.launchCheck_eff (s : State) : Eff 8388640 s (State.launchCheck s) := by
  unfold State.launchCheck
  refine Eff.ite (fun _ => ?_) (fun _ => ?_)
  · extract_lets -merge -underBinder t0 t1
    try clear_value t1
    have e2 : Eff 8388640 s t0 := by
      refine Eff.app ?_ (State.advanceBw_eff ..) (by decide)
      exact Eff.refl _ _
    try clear_value t0
    refine Eff.app ?_ (Eff.set_bell _ _) (by decide)
    exact e2
  · exact Eff.refl _ _

theorem State.launch_eff (s : State) : Eff 4305754622 s (State.launch s) := by
  unfold State.launch
  refine Eff.ite (fun _ => ?_) (fun _ => ?_)
  · exact Eff.refl _ _
  · extract_lets -merge -underBinder t0 t1 t2 t3 t4 t5 t6 t7
    try clear_value t0
    try clear_value t1
    try clear_value t3
    try clear_value t6
    have e8 : Eff 4305754622 s t2 := by
      refine Eff.ite (fun _ => ?_) (fun _ => ?_)
      · refine Eff.app ?_ (State.launchCheck_eff ..) (by decide)
        exact Eff.refl _ _
      · exact Eff.refl _ _
    try clear_value t2
    have e9 : Eff 4305754622 s t4 := by
      refine Eff.app ?_ (State.advanceBw_eff ..) (by decide)
      exact e8
    try clear_value t4
    have e10 : Eff 4305754622 s t5 := by
      refine Eff.app ?_ (State.launchActions_eff ..) (by decide)
      exact e9
    try clear_value t5
    have e11 : Eff 4305754622 s t7 := by
      refine Eff.app ?_ (Eff.set_bell _ _) (by decide)
      exact e10
    try clear_value t7
    refine Eff.ite (fun _ => ?_) (fun _ => ?_)
    · refine Eff.app ?_ (State.launchMiss_eff ..) (by decide)
      exact e9
    · refine Eff.ite (fun _ => ?_) (fun _ => ?_)
      · exact e10
      · refine Eff.ite (fun _ => ?_) (fun _ => ?_)
        · exact e11
        · split
          · refine Eff.ite (fun _ => ?_) (fun _ => ?_)
            · refine Eff.app ?_ (State.pairOffsets_eff ..) (by decide)
              refine Eff.app ?_ (State.sendLaunchPos_eff ..) (by decide)
              exact e11
            · refine Eff.app ?_ (State.sendLaunchPos_eff ..) (by decide)
              exact e11
          · refine Eff.app ?_ (State.sendLaunchPos_eff ..) (by decide)
            exact e11

theorem State.launchPosTimeout_eff (s : State) : Eff 4305488254 s (State.launchPosTimeout s) := by
  unfold State.launchPosTimeout
  split
  · exact Eff.refl _ _
  · extract_lets -merge -underBinder t0 t1
    try clear_value t1
    have e2 : Eff 4305488254 s t0 := by
      refine Eff.app ?_ (State.advanceBw_eff ..) (by decide)
      exact Eff.refl _ _
    try clear_value t0
    refine Eff.app ?_ (State.settleWaiting_eff ..) (by decide)
    refine Eff.app ?_ (Eff.set_bell _ _) (by decide)
    exact e2

theorem State.launchArm_eff (s : State) (v : Nat) : Eff 4303360094 s (State.launchArm s v) := by
  unfold State.launchArm
  extract_lets -merge -underBinder t0 t1 t2 t3 t4 t5 t6 t7 t8
  try clear_value t0
  try clear_value t2
  try clear_value t4
  try clear_value t7
  have e9 : Eff 4303360094 s t1 := by
    refine Eff.app ?_ (State.setFld_eff ..) (by decide)
    refine Eff.app ?_ (State.setFld_eff ..) (by decide)
    exact Eff.refl _ _
  try clear_value t1
  have e10 : Eff 4303360094 s t3 := by
    refine Eff.app ?_ (State.setFld_eff ..) (by decide)
    exact e9
  try clear_value t3
  have e11 : Eff 4303360094 s t5 := by
    refine Eff.app ?_ (Eff.set_bell _ _) (by decide)
    exact e10
  try clear_value t5
  have e12 : Eff 4303360094 s t6 := by
    refine Eff.app ?_ (State.setFld_eff ..) (by decide)
    exact e11
  try clear_value t6
  have e13 : Eff 4303360094 s t8 := by
    refine Eff.ite (fun _ => ?_) (fun _ => ?_)
    · refine Eff.app ?_ (Eff.set_bell _ _) (by decide)
      exact e12
    · refine Eff.ite (fun _ => ?_) (fun _ => ?_)
      · refine Eff.app ?_ (State.sendLaunch_eff ..) (by decide)
        exact e11
      · exact e11
  try clear_value t8
  refine Eff.ite (fun _ => ?_) (fun _ => ?_)
  · refine Eff.app ?_ (State.encHold_eff ..) (by decide)
    refine Eff.ite (fun _ => ?_) (fun _ => ?_)
    · exact e9
    · refine Eff.app ?_ (State.setFld_eff ..) (by decide)
      exact e9
  · refine Eff.ite (fun _ => ?_) (fun _ => ?_)
    · refine Eff.app ?_ (State.encHold_eff ..) (by decide)
      exact e9
    · refine Eff.ite (fun _ => ?_) (fun _ => ?_)
      · refine Eff.app ?_ (State.encHold_eff ..) (by decide)
        refine Eff.app ?_ (State.submitFlit_eff ..) (by decide)
        refine Eff.app ?_ (State.setFld_eff ..) (by decide)
        exact e9
      · refine Eff.ite (fun _ => ?_) (fun _ => ?_)
        · refine Eff.app ?_ (State.encHold_eff ..) (by decide)
          refine Eff.app ?_ (State.setFld_eff ..) (by decide)
          exact e9
        · refine Eff.app ?_ (State.encHold_eff ..) (by decide)
          exact e13

theorem State.barrierLaunch_eff (s : State) : Eff 4305750526 s (State.barrierLaunch s) := by
  unfold State.barrierLaunch
  split
  · exact Eff.refl _ _
  · refine Eff.ite (fun _ => ?_) (fun _ => ?_)
    · refine Eff.app ?_ (State.launchActions_eff ..) (by decide)
      refine Eff.app ?_ (State.advanceBw_eff ..) (by decide)
      exact Eff.refl _ _
    · refine Eff.app ?_ (Eff.set_bell _ _) (by decide)
      exact Eff.refl _ _

theorem State.alignTimer_eff (s : State) : Eff 8392736 s (State.alignTimer s) := by
  unfold State.alignTimer
  extract_lets -merge -underBinder t0 t1 t2
  try clear_value t0
  try clear_value t2
  have e3 : Eff 8392736 s t1 := by
    refine Eff.app ?_ (State.advanceDev_eff ..) (by decide)
    exact Eff.refl _ _
  try clear_value t1
  refine Eff.ite (fun _ => ?_) (fun _ => ?_)
  · refine Eff.app ?_ (State.submitFlit_eff ..) (by decide)
    refine Eff.app ?_ (Eff.set_bell _ _) (by decide)
    exact e3
  · exact Eff.refl _ _

theorem State.alignExchange_eff (s : State) (trip : Int) (err2 : Int) : Eff 8598327330 s (State.alignExchange s trip err2) := by
  unfold State.alignExchange
  extract_lets -merge -underBinder t0 t1 t2 t3 t4 t5 t6 t7 t8
  try clear_value t1
  try clear_value t2
  try clear_value t3
  try clear_value t4
  try clear_value t6
  have e9 : Eff 8598327330 s t0 := by
    refine Eff.app ?_ (State.setSFld_eff ..) (by decide)
    exact Eff.refl _ _
  try clear_value t0
  have e10 : Eff 8598327330 s t5 := by
    refine Eff.app ?_ (State.setFld_eff ..) (by decide)
    exact e9
  try clear_value t5
  have e11 : Eff 8598327330 s t7 := by
    refine Eff.app ?_ (Eff.set_clk_bell _ _ _) (by decide)
    exact e10
  try clear_value t7
  have e12 : Eff 8598327330 s t8 := by
    refine Eff.app ?_ (Eff.set_bell _ _) (by decide)
    exact e9
  try clear_value t8
  refine Eff.ite (fun _ => ?_) (fun _ => ?_)
  · refine Eff.ite (fun _ => ?_) (fun _ => ?_)
    · refine Eff.app ?_ (Eff.set_bell _ _) (by decide)
      exact e9
    · refine Eff.ite (fun _ => ?_) (fun _ => ?_)
      · refine Eff.app ?_ (State.sendLaunch_eff ..) (by decide)
        exact e11
      · exact e11
  · refine Eff.ite (fun _ => ?_) (fun _ => ?_)
    · refine Eff.ite (fun _ => ?_) (fun _ => ?_)
      · split
        · rename_i q13
          refine Eff.app ?_ (Eff.set_clk _ _) (by decide)
          refine Eff.app ?_ (Eff.of_pair (State.drawFree_eff ..) q13) (by decide)
          exact e12
      · exact e12
    · exact e9

theorem State.bellReceive_eff (s : State) (p : List Byte) : Eff 8598327330 s (State.bellReceive s p) := by
  unfold State.bellReceive
  extract_lets -merge -underBinder t0 t1
  try clear_value t0
  have e2 : Eff 8598327330 s t1 := by
    refine Eff.app ?_ (State.freeCredit_eff ..) (by decide)
    exact Eff.refl _ _
  try clear_value t1
  split
  · refine Eff.ite (fun _ => ?_) (fun _ => ?_)
    · refine Eff.app ?_ (State.submitFlit_eff ..) (by decide)
      exact e2
    · exact e2
  · refine Eff.ite (fun _ => ?_) (fun _ => ?_)
    · extract_lets -merge -underBinder t3 t4 t5 t6
      try clear_value t3
      try clear_value t4
      try clear_value t5
      try clear_value t6
      refine Eff.app ?_ (State.alignExchange_eff ..) (by decide)
      exact e2
    · exact e2
  · refine Eff.app ?_ (Eff.set_bell _ _) (by decide)
    exact e2
  · extract_lets -merge -underBinder t7 t8
    try clear_value t7
    try clear_value t8
    refine Eff.ite (fun _ => ?_) (fun _ => ?_)
    · refine Eff.app ?_ (State.pairOffsets_eff ..) (by decide)
      exact e2
    · refine Eff.app ?_ (Eff.set_bell _ _) (by decide)
      exact e2
  · exact e2

theorem State.barrierReceive_eff (s : State) (p : List Byte) : Eff 8392704 s (State.barrierReceive s p) := by
  unfold State.barrierReceive
  extract_lets -merge -underBinder t0 t1
  try clear_value t1
  have e2 : Eff 8392704 s t0 := by
    refine Eff.app ?_ (State.freeCredit_eff ..) (by decide)
    exact Eff.refl _ _
  try clear_value t0
  refine Eff.ite (fun _ => ?_) (fun _ => ?_)
  · refine Eff.app ?_ (Eff.set_bell _ _) (by decide)
    exact e2
  · exact e2

theorem State.halfReceive_eff (s : State) (r : Nat) (p : List Byte) : Eff 4297103710 s (State.halfReceive s r p) := by
  unfold State.halfReceive
  extract_lets -merge -underBinder t0
  try clear_value t0
  refine Eff.ite (fun _ => ?_) (fun _ => ?_)
  · refine Eff.app ?_ (State.freeCredit_eff ..) (by decide)
    exact Eff.refl _ _
  · split
    · refine Eff.app ?_ (State.combineHalf_eff ..) (by decide)
      refine Eff.app ?_ (State.freeCredit_eff ..) (by decide)
      exact Eff.refl _ _
    · refine Eff.app ?_ (Eff.set_pair _ _) (by decide)
      exact Eff.refl _ _

theorem State.halfSend_eff (s : State) : Eff 2101250 s (State.halfSend s) := by
  unfold State.halfSend
  split
  · exact Eff.refl _ _
  · extract_lets -merge -underBinder t0 t1
    try clear_value t0
    have e2 : Eff 2101250 s t1 := by
      refine Eff.app ?_ (Eff.set_pair _ _) (by decide)
      exact Eff.refl _ _
    try clear_value t1
    refine Eff.ite (fun _ => ?_) (fun _ => ?_)
    · refine Eff.app ?_ (State.bump_eff ..) (by decide)
      exact e2
    · refine Eff.ite (fun _ => ?_) (fun _ => ?_)
      · exact Eff.refl _ _
      · refine Eff.app ?_ (State.submitFlit_eff ..) (by decide)
        exact e2

theorem State.flitAck_eff (s : State) (seq : Nat) : Eff 4096 s (State.flitAck s seq) := by
  unfold State.flitAck
  extract_lets -merge -underBinder t0 t1 t2
  try clear_value t0
  try clear_value t1
  try clear_value t2
  refine Eff.ite (fun _ => ?_) (fun _ => ?_)
  · refine Eff.app ?_ (Eff.set_drove _ _) (by decide)
    exact Eff.refl _ _
  · exact Eff.refl _ _

theorem State.flitCredits_eff (s : State) (c : Nat) (n : Nat) : Eff 4096 s (State.flitCredits s c n) := by
  unfold State.flitCredits
  extract_lets -merge -underBinder t0 t1
  try clear_value t0
  try clear_value t1
  refine Eff.app ?_ (Eff.set_drove _ _) (by decide)
  exact Eff.refl _ _

theorem State.startReplay_eff (s : State) (seq : Nat) : Eff 4305492830 s (State.startReplay s seq) := by
  unfold State.startReplay
  refine Eff.ite (fun _ => ?_) (fun _ => ?_)
  · exact Eff.refl _ _
  · extract_lets -merge -underBinder t0 t1 t2 t3
    try clear_value t0
    try clear_value t1
    have e4 : Eff 4305492830 s t2 := by
      refine Eff.app ?_ (Eff.set_drove _ _) (by decide)
      exact Eff.refl _ _
    try clear_value t2
    have e5 : Eff 4305492830 s t3 := by
      refine Eff.app ?_ (State.bump_eff ..) (by decide)
      exact e4
    try clear_value t3
    refine Eff.ite (fun _ => ?_) (fun _ => ?_)
    · refine Eff.app ?_ (State.linkDown_eff ..) (by decide)
      exact e5
    · exact e5

theorem State.oweNak_eff (s : State) : Eff 4096 s (State.oweNak s) := by
  unfold State.oweNak
  refine Eff.ite (fun _ => ?_) (fun _ => ?_)
  · exact Eff.refl _ _
  · refine Eff.app ?_ (Eff.set_drove _ _) (by decide)
    exact Eff.refl _ _

theorem State.flitBadCrc_eff (s : State) : Eff 4098 s (State.flitBadCrc s) := by
  unfold State.flitBadCrc
  refine Eff.ite (fun _ => ?_) (fun _ => ?_)
  · exact Eff.refl _ _
  · extract_lets -merge -underBinder t0
    have e1 : Eff 4098 s t0 := by
      refine Eff.app ?_ (State.bump_eff ..) (by decide)
      exact Eff.refl _ _
    try clear_value t0
    refine Eff.ite (fun _ => ?_) (fun _ => ?_)
    · refine Eff.app ?_ (State.oweNak_eff ..) (by decide)
      exact e1
    · exact e1

theorem State.recvFlit_eff {M : Nat} (s : State) (b : List Byte) (kind : Nat) (f : Flit → State → State) (h_f : ∀ v0 v1, Eff M v1 (f v0 v1)) : Eff (4305492830 ||| M) s (State.recvFlit s b kind f) := by
  unfold State.recvFlit
  refine Eff.ite (fun _ => ?_) (fun _ => ?_)
  · exact Eff.refl _ _
  · refine Eff.ite (fun _ => ?_) (fun _ => ?_)
    · refine Eff.app ?_ (State.flitBadCrc_eff ..) (mask_or (by decide))
      exact Eff.refl _ _
    · refine Eff.ite (fun _ => ?_) (fun _ => ?_)
      · refine Eff.app ?_ (State.linkDown_eff ..) (mask_or (by decide))
        exact Eff.refl _ _
      · refine Eff.ite (fun _ => ?_) (fun _ => ?_)
        · refine Eff.app ?_ (h_f ..) mask_own
          exact Eff.refl _ _
        · exact Eff.refl _ _

theorem State.initFlit_eff (s : State) (b : List Byte) : Eff 4305492830 s (State.initFlit s b) := by
  unfold State.initFlit
  refine Eff.app ?_ (State.recvFlit_eff (M := 4305492830) (h_f := ?_) ..) (by decide)
  · exact Eff.refl _ _
  · intro y0 y1
    refine Eff.ite (fun _ => ?_) (fun _ => ?_)
    · refine Eff.app ?_ (State.linkDown_eff ..) (by decide)
      exact Eff.refl _ _
    · refine Eff.app ?_ (Eff.set_drove _ _) (by decide)
      exact Eff.refl _ _

theorem State.maybeUp_eff (s : State) : Eff 94 s (State.maybeUp s) := by
  unfold State.maybeUp
  refine Eff.ite (fun _ => ?_) (fun _ => ?_)
  · refine Eff.app ?_ (State.linkEnterUp_eff ..) (by decide)
    exact Eff.refl _ _
  · exact Eff.refl _ _

theorem State.nopFlit_eff (s : State) (b : List Byte) : Eff 4305492830 s (State.nopFlit s b) := by
  unfold State.nopFlit
  refine Eff.app ?_ (State.recvFlit_eff (M := 4305492830) (h_f := ?_) ..) (by decide)
  · exact Eff.refl _ _
  · intro y0 y1
    extract_lets -merge -underBinder t2
    have e3 : Eff 4305492830 y1 t2 := by
      refine Eff.app ?_ (State.maybeUp_eff ..) (by decide)
      exact Eff.refl _ _
    try clear_value t2
    refine Eff.ite (fun _ => ?_) (fun _ => ?_)
    · refine Eff.app ?_ (State.flitCredits_eff ..) (by decide)
      refine Eff.app ?_ (State.flitAck_eff ..) (by decide)
      exact e3
    · exact e3

theorem State.deliverFlit_eff (s : State) (f : Flit) : Eff 12895426942 s (State.deliverFlit s f) := by
  unfold State.deliverFlit
  refine Eff.ite (fun _ => ?_) (fun _ => ?_)
  · refine Eff.app ?_ (State.bellReceive_eff ..) (by decide)
    exact Eff.refl _ _
  · refine Eff.ite (fun _ => ?_) (fun _ => ?_)
    · refine Eff.app ?_ (State.barrierReceive_eff ..) (by decide)
      exact Eff.refl _ _
    · refine Eff.app ?_ (State.halfReceive_eff ..) (by decide)
      exact Eff.refl _ _

theorem State.dataFlit_eff (s : State) (b : List Byte) : Eff 12895427454 s (State.dataFlit s b) := by
  unfold State.dataFlit
  refine Eff.app ?_ (State.recvFlit_eff (M := 12895427454) (h_f := ?_) ..) (by decide)
  · exact Eff.refl _ _
  · intro y0 y1
    extract_lets -merge -underBinder t2 t3 t4
    try clear_value t4
    have e5 : Eff 12895427454 y1 t2 := by
      refine Eff.app ?_ (State.maybeUp_eff ..) (by decide)
      exact Eff.refl _ _
    try clear_value t2
    have e6 : Eff 12895427454 y1 t3 := by
      refine Eff.app ?_ (State.flitCredits_eff ..) (by decide)
      refine Eff.app ?_ (State.flitAck_eff ..) (by decide)
      exact e5
    try clear_value t3
    refine Eff.ite (fun _ => ?_) (fun _ => ?_)
    · exact e5
    · refine Eff.ite (fun _ => ?_) (fun _ => ?_)
      · refine Eff.app ?_ (State.deliverFlit_eff ..) (by decide)
        refine Eff.app ?_ (Eff.set_drove _ _) (by decide)
        exact e6
      · refine Eff.app ?_ (State.oweNak_eff ..) (by decide)
        exact e6

theorem State.nakFlit_eff (s : State) (b : List Byte) : Eff 4305492830 s (State.nakFlit s b) := by
  unfold State.nakFlit
  refine Eff.app ?_ (State.recvFlit_eff (M := 4305492830) (h_f := ?_) ..) (by decide)
  · exact Eff.refl _ _
  · intro y0 y1
    refine Eff.ite (fun _ => ?_) (fun _ => ?_)
    · exact Eff.refl _ _
    · refine Eff.app ?_ (State.startReplay_eff ..) (by decide)
      refine Eff.app ?_ (State.flitAck_eff ..) (by decide)
      refine Eff.app ?_ (State.flitCredits_eff ..) (by decide)
      refine Eff.app ?_ (State.flitAck_eff ..) (by decide)
      exact Eff.refl _ _

theorem State.flitArrives_eff (s : State) (b : List Byte) : Eff 12895427454 s (State.flitArrives s b) := by
  unfold State.flitArrives
  refine Eff.ite (fun _ => ?_) (fun _ => ?_)
  · refine Eff.app ?_ (State.flitBadCrc_eff ..) (by decide)
    exact Eff.refl _ _
  · split
    · refine Eff.app ?_ (State.nopFlit_eff ..) (by decide)
      exact Eff.refl _ _
    · refine Eff.app ?_ (State.dataFlit_eff ..) (by decide)
      exact Eff.refl _ _
    · refine Eff.app ?_ (State.nakFlit_eff ..) (by decide)
      exact Eff.refl _ _
    · refine Eff.app ?_ (State.initFlit_eff ..) (by decide)
      exact Eff.refl _ _

theorem State.ackTimeout_eff (s : State) : Eff 4305492862 s (State.ackTimeout s) := by
  unfold State.ackTimeout
  refine Eff.ite (fun _ => ?_) (fun _ => ?_)
  · exact Eff.refl _ _
  · split
    · exact Eff.refl _ _
    · refine Eff.app ?_ (State.startReplay_eff ..) (by decide)
      refine Eff.app ?_ (State.advanceDev_eff ..) (by decide)
      exact Eff.refl _ _

theorem State.sendNew_eff (s : State) (c : Nat) : Eff 69632 s (State.sendNew s c) := by
  unfold State.sendNew
  split
  · exact Eff.refl _ _
  · extract_lets -merge -underBinder t0 t1 t2 t3
    try clear_value t0
    try clear_value t1
    try clear_value t2
    have e4 : Eff 69632 s t3 := by
      refine Eff.app ?_ (Eff.set_drove _ _) (by decide)
      exact Eff.refl _ _
    try clear_value t3
    refine Eff.app ?_ (State.sendFlit_eff ..) (by decide)
    exact e4

theorem State.flitTransmit_eff (s : State) : Eff 69632 s (State.flitTransmit s) := by
  unfold State.flitTransmit
  extract_lets -merge -underBinder t0
  try clear_value t0
  refine Eff.ite (fun _ => ?_) (fun _ => ?_)
  · refine Eff.ite (fun _ => ?_) (fun _ => ?_)
    · refine Eff.app ?_ (State.sendFlit_eff ..) (by decide)
      exact Eff.refl _ _
    · exact Eff.refl _ _
  · refine Eff.ite (fun _ => ?_) (fun _ => ?_)
    · exact Eff.refl _ _
    · refine Eff.ite (fun _ => ?_) (fun _ => ?_)
      · refine Eff.app ?_ (State.sendFlit_eff ..) (by decide)
        refine Eff.app ?_ (Eff.set_drove _ _) (by decide)
        exact Eff.refl _ _
      · split
        · extract_lets -merge -underBinder t1
          try clear_value t1
          refine Eff.app ?_ (State.sendFlit_eff ..) (by decide)
          refine Eff.app ?_ (Eff.set_drove _ _) (by decide)
          exact Eff.refl _ _
        · refine Eff.ite (fun _ => ?_) (fun _ => ?_)
          · refine Eff.app ?_ (State.sendFlit_eff ..) (by decide)
            exact Eff.refl _ _
          · split
            · refine Eff.app ?_ (State.sendNew_eff ..) (by decide)
              exact Eff.refl _ _
            · refine Eff.app ?_ (State.sendFlit_eff ..) (by decide)
              exact Eff.refl _ _

theorem State.initSend_eff (s : State) : Eff 69664 s (State.initSend s) := by
  unfold State.initSend
  refine Eff.ite (fun _ => ?_) (fun _ => ?_)
  · exact Eff.refl _ _
  · extract_lets -merge -underBinder t0 t1
    try clear_value t0
    have e2 : Eff 69664 s t1 := by
      refine Eff.app ?_ (State.advanceDev_eff ..) (by decide)
      exact Eff.refl _ _
    try clear_value t1
    refine Eff.app ?_ (State.sendFlit_eff ..) (by decide)
    exact e2

theorem State.initTimeout_eff (s : State) : Eff 4130 s (State.initTimeout s) := by
  unfold State.initTimeout
  refine Eff.ite (fun _ => ?_) (fun _ => ?_)
  · exact Eff.refl _ _
  · refine Eff.app ?_ (State.linkAlign_eff ..) (by decide)
    refine Eff.app ?_ (State.advanceDev_eff ..) (by decide)
    exact Eff.refl _ _

end Sys2Proof.Machine
end

