-- ==== Sys2Proof/Laws/EffIntake.lean ====
section
/-! SUPPORT. What each operation of Machine/Intake.lean can touch, by unit of the state (see Laws/Effect.lean). -/

set_option linter.unusedVariables false
set_option linter.unusedTactic false
set_option linter.unreachableTactic false

namespace Sys2Proof.Machine

theorem State.releaseLines_eff (a0 : Nat) (a1 : State) (a2 : Nat) : Eff 13961043806 a1 (State.releaseLines a0 a1 a2) := by
  induction a0 generalizing a1 a2 with
  | zero =>
    rw [State.releaseLines]
    exact Eff.refl _ _
  | succ fuel ih =>
    rw [State.releaseLines]
    split
    · exact Eff.refl _ _
    · refine Eff.ite (fun _ => ?_) (fun _ => ?_)
      · extract_lets -merge -underBinder t0
        have e1 : Eff 13961043806 a1 t0 := by
          refine Eff.app ?_ (State.setView_eff ..) (by decide)
          exact Eff.refl _ _
        try clear_value t0
        refine Eff.app ?_ (ih ..) (Nat.or_self _)
        refine Eff.app ?_ (State.pixelLine_eff ..) (by decide)
        exact e1
      · exact Eff.refl _ _

theorem State.givePart_eff (s : State) (n : Nat) (num : Nat) (tag : Int) (p : LinePart) : Eff 13961043806 s (State.givePart s n num tag p) := by
  unfold State.givePart
  extract_lets -merge -underBinder t0 t1 t2
  try clear_value t0
  try clear_value t1
  have e3 : Eff 13961043806 s t2 := by
    refine Eff.app ?_ (State.setView_eff ..) (by decide)
    exact Eff.refl _ _
  try clear_value t2
  refine Eff.app ?_ (State.releaseLines_eff ..) (by decide)
  exact e3

theorem State.deliverLine_eff (s : State) (n : Nat) (num : Nat) (tag : Int) (px : List Nat) : Eff 13961174878 s (State.deliverLine s n num tag px) := by
  unfold State.deliverLine
  extract_lets -merge -underBinder t0
  try clear_value t0
  refine Eff.app ?_ (State.givePart_eff ..) (by decide)
  refine Eff.app ?_ (State.setStream_eff ..) (by decide)
  exact Eff.refl _ _

theorem State.missLine_eff (s : State) (n : Nat) (num : Nat) (tag : Int) : Eff 13961174878 s (State.missLine s n num tag) := by
  unfold State.missLine
  extract_lets -merge -underBinder t0 t1 t2 t3 t4 t5
  try clear_value t0
  try clear_value t2
  try clear_value t3
  try clear_value t4
  have e6 : Eff 13961174878 s t1 := by
    refine Eff.app ?_ (State.bump_eff ..) (by decide)
    exact Eff.refl _ _
  try clear_value t1
  have e7 : Eff 13961174878 s t5 := by
    refine Eff.app ?_ (State.setStream_eff ..) (by decide)
    exact e6
  try clear_value t5
  split
  · refine Eff.ite (fun _ => ?_) (fun _ => ?_)
    · refine Eff.app ?_ (State.givePart_eff ..) (by decide)
      refine Eff.app ?_ (State.bump_eff ..) (by decide)
      exact e7
    · extract_lets -merge -underBinder t8
      have e9 : Eff 13961174878 s t8 := by
        refine Eff.ite (fun _ => ?_) (fun _ => ?_)
        · exact e7
        · refine Eff.app ?_ (State.raise_eff ..) (by decide)
          refine Eff.app ?_ (State.setStream_eff ..) (by decide)
          exact e7
      try clear_value t8
      refine Eff.app ?_ (State.givePart_eff ..) (by decide)
      exact e9
  · extract_lets -merge -underBinder t10
    have e11 : Eff 13961174878 s t10 := by
      refine Eff.ite (fun _ => ?_) (fun _ => ?_)
      · exact e7
      · refine Eff.app ?_ (State.raise_eff ..) (by decide)
        refine Eff.app ?_ (State.setStream_eff ..) (by decide)
        exact e7
    try clear_value t10
    refine Eff.app ?_ (State.givePart_eff ..) (by decide)
    exact e11

theorem State.tagInvalid_eff (s : State) (n : Nat) : Eff 262238 s (State.tagInvalid s n) := by
  unfold State.tagInvalid
  extract_lets -merge -underBinder t0 t1 t2
  try clear_value t0
  try clear_value t2
  have e3 : Eff 262238 s t1 := by
    refine Eff.app ?_ (State.bump_eff ..) (by decide)
    exact Eff.refl _ _
  try clear_value t1
  refine Eff.ite (fun _ => ?_) (fun _ => ?_)
  · refine Eff.app ?_ (State.raise_eff ..) (by decide)
    refine Eff.app ?_ (State.setView_eff ..) (by decide)
    exact e3
  · exact e3

theorem State.missExpected_eff (s : State) (n : Nat) (e : Expect) : Eff 13961174878 s (State.missExpected s n e) := by
  unfold State.missExpected
  extract_lets -merge -underBinder t0
  try clear_value t0
  refine Eff.app ?_ (State.missLine_eff ..) (by decide)
  refine Eff.app ?_ (State.setStream_eff ..) (by decide)
  exact Eff.refl _ _

theorem State.missUpTo_eff (s : State) (n : Nat) (k : Nat) : Eff 13961174878 s (State.missUpTo s n k) := by
  unfold State.missUpTo
  refine Eff.app ?_ (Eff.foldl (m := 13961174878) ?_ _ _) (Nat.or_self _)
  · exact Eff.refl _ _
  · intro y0 y1
    refine Eff.app ?_ (State.missExpected_eff ..) (by decide)
    exact Eff.refl _ _

theorem State.triggerLine_eff (s : State) (n : Nat) (k : Nat) (px : List Nat) : Eff 13961174878 s (State.triggerLine s n k px) := by
  unfold State.triggerLine
  extract_lets -merge -underBinder t0 t1
  try clear_value t0
  try clear_value t1
  split
  · extract_lets -merge -underBinder t2
    have e3 : Eff 13961174878 s t2 := by
      refine Eff.app ?_ (State.tagInvalid_eff ..) (by decide)
      exact Eff.refl _ _
    try clear_value t2
    split
    · refine Eff.app ?_ (State.missExpected_eff ..) (by decide)
      refine Eff.app ?_ (State.missUpTo_eff ..) (by decide)
      exact e3
    · exact e3
  · split
    · extract_lets -merge -underBinder t4 t5
      try clear_value t5
      have e6 : Eff 13961174878 s t4 := by
        refine Eff.app ?_ (State.missUpTo_eff ..) (by decide)
        exact Eff.refl _ _
      try clear_value t4
      refine Eff.app ?_ (State.deliverLine_eff ..) (by decide)
      refine Eff.app ?_ (State.setStream_eff ..) (by decide)
      exact e6
    · refine Eff.app ?_ (State.bump_eff ..) (by decide)
      exact Eff.refl _ _

theorem State.nextSeq_eff (s : State) (n : Nat) (tag : Int) : Eff 131072 s (State.nextSeq s n tag).1 := by
  unfold State.nextSeq
  extract_lets -merge -underBinder t0 t1 t2 t3
  try clear_value t0
  try clear_value t1
  try clear_value t2
  have e4 : Eff 131072 s t3 := by
    refine Eff.app ?_ (State.setStream_eff ..) (by decide)
    exact Eff.refl _ _
  try clear_value t3
  refine Eff.fst ?_
  exact e4

theorem State.missPtp_eff (s : State) (n : Nat) : Eff 13961174878 s (State.missPtp s n) := by
  unfold State.missPtp
  extract_lets -merge -underBinder t0 t1 t2
  try clear_value t0
  try clear_value t1
  try clear_value t2
  refine Eff.ite (fun _ => ?_) (fun _ => ?_)
  · refine Eff.app ?_ (State.bump_eff ..) (by decide)
    exact Eff.refl _ _
  · split
    · refine Eff.app ?_ (State.missLine_eff ..) (by decide)
      refine Eff.app ?_ (Eff.of_pair (State.nextSeq_eff ..) (by assumption)) (by decide)
      refine Eff.app ?_ (State.setStream_eff ..) (by decide)
      exact Eff.refl _ _
    · refine Eff.app ?_ (State.bump_eff ..) (by decide)
      refine Eff.app ?_ (Eff.of_pair (State.nextSeq_eff ..) (by assumption)) (by decide)
      refine Eff.app ?_ (State.setStream_eff ..) (by decide)
      exact Eff.refl _ _

theorem State.tagPtp_eff (s : State) (n : Nat) (tag : Int) (px : List Nat) : Eff 13961174878 s (State.tagPtp s n tag px) := by
  unfold State.tagPtp
  extract_lets -merge -underBinder t0 t1 t2
  try clear_value t0
  try clear_value t1
  try clear_value t2
  split
  · refine Eff.app ?_ (State.deliverLine_eff ..) (by decide)
    refine Eff.app ?_ (State.setView_eff ..) (by decide)
    refine Eff.app ?_ (Eff.of_pair (State.nextSeq_eff ..) (by assumption)) (by decide)
    refine Eff.app ?_ (State.setStream_eff ..) (by decide)
    exact Eff.refl _ _
  · refine Eff.app ?_ (State.bump_eff ..) (by decide)
    refine Eff.app ?_ (Eff.of_pair (State.nextSeq_eff ..) (by assumption)) (by decide)
    refine Eff.app ?_ (State.setStream_eff ..) (by decide)
    exact Eff.refl _ _

theorem State.resumeHeld_eff (a0 : Nat) (a1 : State) (a2 : Nat) : Eff 13961174878 a1 (State.resumeHeld a0 a1 a2) := by
  induction a0 generalizing a1 a2 with
  | zero =>
    rw [State.resumeHeld]
    exact Eff.refl _ _
  | succ fuel ih =>
    rw [State.resumeHeld]
    split
    · exact Eff.refl _ _
    · extract_lets -merge -underBinder t0
      have e1 : ∀ y2, Eff 13961174878 y2 (t0 y2) := by
        intro y2
        unfold t0
        refine Eff.app ?_ (State.setStream_eff ..) (by decide)
        exact Eff.refl _ _
      try clear_value t0
      split
      · refine Eff.app ?_ (ih ..) (Nat.or_self _)
        refine Eff.app ?_ (State.missPtp_eff ..) (by decide)
        refine Eff.app ?_ (e1 ..) (Nat.or_self _)
        exact Eff.refl _ _
      · split
        · refine Eff.app ?_ (Eff.of_pair (State.trackLookup_eff ..) (by assumption)) (by decide)
          exact Eff.refl _ _
        · refine Eff.app ?_ (ih ..) (Nat.or_self _)
          refine Eff.app ?_ (State.missPtp_eff ..) (by decide)
          refine Eff.app ?_ (State.tagInvalid_eff ..) (by decide)
          refine Eff.app ?_ (e1 ..) (Nat.or_self _)
          refine Eff.app ?_ (Eff.of_pair (State.trackLookup_eff ..) (by assumption)) (by decide)
          exact Eff.refl _ _
        · refine Eff.app ?_ (ih ..) (Nat.or_self _)
          refine Eff.app ?_ (State.tagPtp_eff ..) (by decide)
          refine Eff.app ?_ (e1 ..) (Nat.or_self _)
          refine Eff.app ?_ (Eff.of_pair (State.trackLookup_eff ..) (by assumption)) (by decide)
          exact Eff.refl _ _

theorem State.holdLines_eff (s : State) (n : Nat) (l : List HeldLine) : Eff 13961174878 s (State.holdLines s n l) := by
  unfold State.holdLines
  extract_lets -merge -underBinder t0 t1
  try clear_value t0
  have e2 : Eff 13961174878 s t1 := by
    refine Eff.app ?_ (State.setStream_eff ..) (by decide)
    exact Eff.refl _ _
  try clear_value t1
  refine Eff.app ?_ (State.resumeHeld_eff ..) (by decide)
  exact e2

theorem State.ptpLine_eff (s : State) (n : Nat) (ts : Nat) (px : List Nat) : Eff 13961174878 s (State.ptpLine s n ts px) := by
  unfold State.ptpLine
  extract_lets -merge -underBinder t0 t1 t2 t3
  try clear_value t0
  try clear_value t1
  try clear_value t2
  have e4 : Eff 13961174878 s t3 := by
    refine Eff.app ?_ (State.setStream_eff ..) (by decide)
    exact Eff.refl _ _
  try clear_value t3
  refine Eff.ite (fun _ => ?_) (fun _ => ?_)
  · refine Eff.app ?_ (State.holdLines_eff ..) (by decide)
    exact e4
  · refine Eff.app ?_ (State.holdLines_eff ..) (by decide)
    refine Eff.app ?_ (State.tagInvalid_eff ..) (by decide)
    exact e4

theorem State.ptpBlock_eff (s : State) (n : Nat) (id : Nat) (ext : Bool) (ts : Nat) (px : List Nat) : Eff 13961174878 s (State.ptpBlock s n id ext ts px) := by
  unfold State.ptpBlock
  extract_lets -merge -underBinder t0 t1 t2
  try clear_value t0
  try clear_value t1
  try clear_value t2
  split
  · refine Eff.app ?_ (State.bump_eff ..) (by decide)
    exact Eff.refl _ _
  · refine Eff.ite (fun _ => ?_) (fun _ => ?_)
    · refine Eff.app ?_ (State.bump_eff ..) (by decide)
      exact Eff.refl _ _
    · extract_lets -merge -underBinder t3
      have e4 : Eff 13961174878 s t3 := by
        refine Eff.app ?_ (State.setStream_eff ..) (by decide)
        exact Eff.refl _ _
      try clear_value t3
      refine Eff.app ?_ (State.ptpLine_eff ..) (by decide)
      refine Eff.app ?_ (State.holdLines_eff ..) (by decide)
      exact e4

theorem State.closeBlock_eff (s : State) (n : Nat) (b : Block) : Eff 131072 s (State.closeBlock s n b) := by
  unfold State.closeBlock
  extract_lets -merge -underBinder t0
  try clear_value t0
  refine Eff.app ?_ (State.setStream_eff ..) (by decide)
  exact Eff.refl _ _

theorem State.loseBlock_eff (s : State) (n : Nat) (b : Block) : Eff 13961174878 s (State.loseBlock s n b) := by
  unfold State.loseBlock
  refine Eff.ite (fun _ => ?_) (fun _ => ?_)
  · exact Eff.refl _ _
  · extract_lets -merge -underBinder t0
    try clear_value t0
    split
    · refine Eff.app ?_ (Eff.foldl (m := 13961174878) ?_ _ _) (Nat.or_self _)
      · exact Eff.refl _ _
      · intro y1 y2
        split
        · refine Eff.app ?_ (State.missExpected_eff ..) (by decide)
          exact Eff.refl _ _
        · exact Eff.refl _ _
    · exact Eff.refl _ _

theorem State.abandonBlock_eff (s : State) (n : Nat) (b : Block) : Eff 13961174878 s (State.abandonBlock s n b) := by
  unfold State.abandonBlock
  extract_lets -merge -underBinder t0
  have e1 : Eff 13961174878 s t0 := by
    refine Eff.app ?_ (State.bump_eff ..) (by decide)
    refine Eff.app ?_ (State.closeBlock_eff ..) (by decide)
    exact Eff.refl _ _
  try clear_value t0
  refine Eff.app ?_ (State.loseBlock_eff ..) (by decide)
  refine Eff.app ?_ (State.setFld_eff ..) (by decide)
  exact e1

theorem State.discardBlock_eff (s : State) (n : Nat) (b : Block) : Eff 13961174878 s (State.discardBlock s n b) := by
  unfold State.discardBlock
  refine Eff.app ?_ (State.loseBlock_eff ..) (by decide)
  refine Eff.app ?_ (State.bump_eff ..) (by decide)
  refine Eff.app ?_ (State.closeBlock_eff ..) (by decide)
  exact Eff.refl _ _

theorem State.finishBlock_eff (s : State) (n : Nat) (b : Block) (ext : Bool) : Eff 13961174878 s (State.finishBlock s n b ext) := by
  unfold State.finishBlock
  refine Eff.ite (fun _ => ?_) (fun _ => ?_)
  · refine Eff.app ?_ (State.discardBlock_eff ..) (by decide)
    exact Eff.refl _ _
  · extract_lets -merge -underBinder t0 t1 t2 t3 t4 t5
    try clear_value t0
    try clear_value t1
    try clear_value t2
    try clear_value t3
    try clear_value t5
    have e6 : Eff 13961174878 s t4 := by
      refine Eff.app ?_ (State.closeBlock_eff ..) (by decide)
      exact Eff.refl _ _
    try clear_value t4
    refine Eff.ite (fun _ => ?_) (fun _ => ?_)
    · exact e6
    · refine Eff.ite (fun _ => ?_) (fun _ => ?_)
      · split
        · refine Eff.app ?_ (State.ptpBlock_eff ..) (by decide)
          exact e6
        · exact e6
      · split
        · refine Eff.app ?_ (Eff.foldl (m := 13961174878) ?_ _ _) (Nat.or_self _)
          · exact e6
          · intro y7 y8
            refine Eff.app ?_ (State.triggerLine_eff ..) (by decide)
            exact Eff.refl _ _
        · exact e6

theorem State.takePacket_eff (s : State) (n : Nat) (b : List Byte) : Eff 13961174878 s (State.takePacket s n b) := by
  unfold State.takePacket
  split
  · refine Eff.app ?_ (State.bump_eff ..) (by decide)
    exact Eff.refl _ _
  · extract_lets -merge -underBinder t0
    try clear_value t0
    split
    · refine Eff.ite (fun _ => ?_) (fun _ => ?_)
      · refine Eff.app ?_ (State.bump_eff ..) (by decide)
        exact Eff.refl _ _
      · exact Eff.refl _ _
    · extract_lets -merge -underBinder t1 t2 t3 t4 t5 t6 t7
      try clear_value t2
      try clear_value t3
      try clear_value t4
      try clear_value t5
      try clear_value t6
      have e8 : Eff 13961174878 s t1 := by
        refine Eff.ite (fun _ => ?_) (fun _ => ?_)
        · exact Eff.refl _ _
        · split
          · refine Eff.app ?_ (State.abandonBlock_eff ..) (by decide)
            exact Eff.refl _ _
          · exact Eff.refl _ _
      try clear_value t1
      have e9 : Eff 13961174878 s t7 := by
        refine Eff.app ?_ (State.setStream_eff ..) (by decide)
        exact e8
      try clear_value t7
      refine Eff.ite (fun _ => ?_) (fun _ => ?_)
      · refine Eff.app ?_ (State.bump_eff ..) (by decide)
        exact e8
      · refine Eff.ite (fun _ => ?_) (fun _ => ?_)
        · refine Eff.app ?_ (State.discardBlock_eff ..) (by decide)
          exact e9
        · refine Eff.ite (fun _ => ?_) (fun _ => ?_)
          · refine Eff.app ?_ (State.finishBlock_eff ..) (by decide)
            exact e9
          · exact e9

theorem State.gvspPacket_eff (s : State) (n : Nat) (b : List Byte) : Eff 13961174878 s (State.gvspPacket s n b) := by
  unfold State.gvspPacket
  refine Eff.app ?_ (State.closeReady_eff ..) (by decide)
  refine Eff.app ?_ (State.takePacket_eff ..) (by decide)
  exact Eff.refl _ _

theorem State.ptpSilent_eff (s : State) (n : Nat) (tmo : Nat) : Eff 13961174910 s (State.ptpSilent s n tmo) := by
  unfold State.ptpSilent
  extract_lets -merge -underBinder t0 t1 t2
  try clear_value t0
  try clear_value t1
  try clear_value t2
  split
  · exact Eff.refl _ _
  · refine Eff.ite (fun _ => ?_) (fun _ => ?_)
    · exact Eff.refl _ _
    · refine Eff.ite (fun _ => ?_) (fun _ => ?_)
      · extract_lets -merge -underBinder t3 t4 t5
        try clear_value t4
        have e6 : Eff 13961174910 s t3 := by
          refine Eff.app ?_ (State.advanceDev_eff ..) (by decide)
          exact Eff.refl _ _
        try clear_value t3
        have e7 : Eff 13961174910 s t5 := by
          refine Eff.app ?_ (State.setStream_eff ..) (by decide)
          exact e6
        try clear_value t5
        refine Eff.app ?_ (State.releaseLines_eff ..) (by decide)
        exact e7
      · extract_lets -merge -underBinder t8 t9 t10
        try clear_value t8
        try clear_value t10
        have e11 : Eff 13961174910 s t9 := by
          refine Eff.app ?_ (State.advanceDev_eff ..) (by decide)
          exact Eff.refl _ _
        try clear_value t9
        refine Eff.app ?_ (State.holdLines_eff ..) (by decide)
        refine Eff.app ?_ (State.setStream_eff ..) (by decide)
        exact e11

theorem State.lineTimeout_eff (s : State) (n : Nat) : Eff 13961174910 s (State.lineTimeout s n) := by
  unfold State.lineTimeout
  extract_lets -merge -underBinder t0 t1
  try clear_value t0
  try clear_value t1
  refine Eff.ite (fun _ => ?_) (fun _ => ?_)
  · exact Eff.refl _ _
  · refine Eff.ite (fun _ => ?_) (fun _ => ?_)
    · refine Eff.app ?_ (State.closeReady_eff ..) (by decide)
      refine Eff.app ?_ (State.ptpSilent_eff ..) (by decide)
      exact Eff.refl _ _
    · split
      · exact Eff.refl _ _
      · refine Eff.app ?_ (State.closeReady_eff ..) (by decide)
        refine Eff.app ?_ (State.missExpected_eff ..) (by decide)
        refine Eff.app ?_ (State.advanceDev_eff ..) (by decide)
        exact Eff.refl _ _

theorem State.streamEn_eff (s : State) (n : Nat) (on : Bool) : Eff 13961174878 s (State.streamEn s n on) := by
  unfold State.streamEn
  extract_lets -merge -underBinder t0 t1 t2
  try clear_value t0
  try clear_value t2
  have e3 : Eff 13961174878 s t1 := by
    refine Eff.app ?_ (State.setStream_eff ..) (by decide)
    refine Eff.app ?_ (State.setFlag_eff ..) (by decide)
    exact Eff.refl _ _
  try clear_value t1
  refine Eff.ite (fun _ => ?_) (fun _ => ?_)
  · exact Eff.refl _ _
  · refine Eff.ite (fun _ => ?_) (fun _ => ?_)
    · exact e3
    · refine Eff.app ?_ (State.closeReady_eff ..) (by decide)
      refine Eff.app ?_ (State.releaseLines_eff ..) (by decide)
      exact e3

theorem State.viewEn_eff (s : State) (v : Nat) (on : Bool) : Eff 12887433054 s (State.viewEn s v on) := by
  unfold State.viewEn
  refine Eff.ite (fun _ => ?_) (fun _ => ?_)
  · exact Eff.refl _ _
  · extract_lets -merge -underBinder t0 t1 t2
    have e3 : Eff 12887433054 s t0 := by
      refine Eff.app ?_ (State.setFlag_eff ..) (by decide)
      exact Eff.refl _ _
    try clear_value t0
    have e4 : Eff 12887433054 s t1 := by
      refine Eff.app ?_ (Eff.foldl (m := 12887433054) ?_ _ _) (Nat.or_self _)
      · exact e3
      · intro y5 y6
        refine Eff.app ?_ (State.setStream_eff ..) (by decide)
        exact Eff.refl _ _
    try clear_value t1
    have e7 : Eff 12887433054 s t2 := by
      refine Eff.app ?_ (State.setView_eff ..) (by decide)
      exact e4
    try clear_value t2
    refine Eff.ite (fun _ => ?_) (fun _ => ?_)
    · exact e7
    · refine Eff.app ?_ (Eff.foldl (m := 12887433054) ?_ _ _) (Nat.or_self _)
      · exact e7
      · intro y8 y9
        extract_lets -merge -underBinder t10
        try clear_value t10
        refine Eff.ite (fun _ => ?_) (fun _ => ?_)
        · refine Eff.app ?_ (State.spoil_eff ..) (by decide)
          exact Eff.refl _ _
        · exact Eff.refl _ _

theorem State.trackSample_eff (s : State) : Eff 13961175038 s (State.trackSample s) := by
  unfold State.trackSample
  refine Eff.app ?_ (State.closeReady_eff ..) (by decide)
  refine Eff.app ?_ (Eff.foldl (m := 13961175038) ?_ _ _) (Nat.or_self _)
  · refine Eff.app ?_ (State.trackTick_eff ..) (by decide)
    exact Eff.refl _ _
  · intro y0 y1
    refine Eff.app ?_ (State.resumeHeld_eff ..) (by decide)
    exact Eff.refl _ _

end Sys2Proof.Machine
end

