-- ==== Sys2Proof/Laws/EffLanes.lean ====
section
/-! SUPPORT. What each operation of Machine/Lanes.lean can touch, by unit of the state (see Laws/Effect.lean). -/

set_option linter.unusedVariables false
set_option linter.unusedTactic false
set_option linter.unreachableTactic false

namespace Sys2Proof.Machine

theorem State.laneEnter_eff (s : State) (l : Nat) (st : Nat) : Eff 65538 s (State.laneEnter s l st) := by
  unfold State.laneEnter
  refine Eff.app ?_ (State.setFld_eff ..) (by decide)
  refine Eff.app ?_ (State.setLane_eff ..) (by decide)
  exact Eff.refl _ _

theorem State.laneCfgWrite_eff (s : State) (l : Nat) (v : Nat) : Eff 4305558366 s (State.laneCfgWrite s l v) := by
  unfold State.laneCfgWrite
  extract_lets -merge -underBinder t0 t1 t2 t3 t4 t5 t6 t7 t8 t9
  try clear_value t0
  try clear_value t1
  try clear_value t2
  try clear_value t7
  have e10 : Eff 4305558366 s t3 := by
    refine Eff.ite (fun _ => ?_) (fun _ => ?_)
    · exact Eff.refl _ _
    · refine Eff.app ?_ (State.setFld_eff ..) (by decide)
      exact Eff.refl _ _
  try clear_value t3
  have e11 : Eff 4305558366 s t4 := by
    refine Eff.app ?_ (State.setFld_eff ..) (by decide)
    refine Eff.app ?_ (State.setFld_eff ..) (by decide)
    refine Eff.app ?_ (State.setFld_eff ..) (by decide)
    refine Eff.app ?_ (State.setFld_eff ..) (by decide)
    refine Eff.app ?_ (State.setFld_eff ..) (by decide)
    exact e10
  try clear_value t4
  have e12 : Eff 4305558366 s t5 := by
    refine Eff.ite (fun _ => ?_) (fun _ => ?_)
    · exact e11
    · refine Eff.app ?_ (State.setFld_eff ..) (by decide)
      exact e11
  try clear_value t5
  have e13 : Eff 4305558366 s t6 := by
    refine Eff.app ?_ (State.setFlag_eff ..) (by decide)
    exact e12
  try clear_value t6
  have e14 : Eff 4305558366 s t8 := by
    refine Eff.app ?_ (State.laneEnter_eff ..) (by decide)
    refine Eff.app ?_ (State.setLane_eff ..) (by decide)
    exact e13
  try clear_value t8
  have e15 : Eff 4305558366 s t9 := by
    refine Eff.ite (fun _ => ?_) (fun _ => ?_)
    · refine Eff.app ?_ (State.laneEnter_eff ..) (by decide)
      exact e13
    · exact e13
  try clear_value t9
  refine Eff.ite (fun _ => ?_) (fun _ => ?_)
  · refine Eff.ite (fun _ => ?_) (fun _ => ?_)
    · refine Eff.app ?_ (State.droveLockLost_eff ..) (by decide)
      exact e14
    · exact e14
  · refine Eff.ite (fun _ => ?_) (fun _ => ?_)
    · refine Eff.app ?_ (State.laneEnter_eff ..) (by decide)
      exact e13
    · refine Eff.ite (fun _ => ?_) (fun _ => ?_)
      · refine Eff.ite (fun _ => ?_) (fun _ => ?_)
        · refine Eff.app ?_ (State.droveLockLost_eff ..) (by decide)
          exact e15
        · exact e15
      · exact e13

theorem State.adaptConverged_eff (s : State) (l : Nat) : Eff 65538 s (State.adaptConverged s l) := by
  unfold State.adaptConverged
  refine Eff.ite (fun _ => ?_) (fun _ => ?_)
  · refine Eff.app ?_ (State.laneEnter_eff ..) (by decide)
    exact Eff.refl _ _
  · exact Eff.refl _ _

theorem State.signalLoss_eff (s : State) (l : Nat) : Eff 4305558366 s (State.signalLoss s l) := by
  unfold State.signalLoss
  refine Eff.ite (fun _ => ?_) (fun _ => ?_)
  · exact Eff.refl _ _
  · extract_lets -merge -underBinder t0
    have e1 : Eff 4305558366 s t0 := by
      refine Eff.app ?_ (State.laneEnter_eff ..) (by decide)
      exact Eff.refl _ _
    try clear_value t0
    refine Eff.ite (fun _ => ?_) (fun _ => ?_)
    · refine Eff.app ?_ (State.droveLockLost_eff ..) (by decide)
      exact e1
    · exact e1

theorem State.droveAlign_eff (s : State) : Eff 4305492830 s (State.droveAlign s) := by
  unfold State.droveAlign
  split
  · refine Eff.ite (fun _ => ?_) (fun _ => ?_)
    · extract_lets -merge -underBinder t0 t1
      try clear_value t0
      try clear_value t1
      split
      · refine Eff.app ?_ (State.linkDown_eff ..) (by decide)
        exact Eff.refl _ _
      · refine Eff.ite (fun _ => ?_) (fun _ => ?_)
        · refine Eff.app ?_ (State.linkDown_eff ..) (by decide)
          exact Eff.refl _ _
        · extract_lets -merge -underBinder t2
          have e3 : Eff 4305492830 s t2 := by
            refine Eff.app ?_ (State.setFld_eff ..) (by decide)
            refine Eff.app ?_ (State.setFlag_eff ..) (by decide)
            exact Eff.refl _ _
          try clear_value t2
          refine Eff.ite (fun _ => ?_) (fun _ => ?_)
          · refine Eff.app ?_ (State.linkInit_eff ..) (by decide)
            exact e3
          · exact e3
    · exact Eff.refl _ _
  · exact Eff.refl _ _

theorem State.setFifo_eff (s : State) (l : Nat) (q : List (BitVec 64)) : Eff 4096 s (State.setFifo s l q) := by
  unfold State.setFifo
  refine Eff.app ?_ (Eff.set_drove _ _) (by decide)
  exact Eff.refl _ _

theorem State.joinFlit_eff (s : State) : Eff 12895427454 s (State.joinFlit s) := by
  unfold State.joinFlit
  refine Eff.ite (fun _ => ?_) (fun _ => ?_)
  · extract_lets -merge -underBinder t0
    try clear_value t0
    refine Eff.app ?_ (State.flitArrives_eff ..) (by decide)
    refine Eff.app ?_ (Eff.foldl (m := 12895427454) ?_ _ _) (Nat.or_self _)
    · exact Eff.refl _ _
    · intro y1 y2
      refine Eff.app ?_ (State.setFifo_eff ..) (by decide)
      exact Eff.refl _ _
  · exact Eff.refl _ _

theorem State.droveData_eff (s : State) (l : Nat) (d : BitVec 64) : Eff 12895427454 s (State.droveData s l d) := by
  unfold State.droveData
  refine Eff.ite (fun _ => ?_) (fun _ => ?_)
  · exact Eff.refl _ _
  · refine Eff.app ?_ (State.joinFlit_eff ..) (by decide)
    refine Eff.app ?_ (State.setFifo_eff ..) (by decide)
    exact Eff.refl _ _

theorem State.droveControl_eff (s : State) (l : Nat) : Eff 4096 s (State.droveControl s l) := by
  unfold State.droveControl
  extract_lets -merge -underBinder t0
  try clear_value t0
  refine Eff.app ?_ (State.setFifo_eff ..) (by decide)
  exact Eff.refl _ _

theorem State.markerIn_eff (s : State) (l : Nat) (n : Nat) (q : Nat) (at_ : Nat) : Eff 4305492830 s (State.markerIn s l n q at_) := by
  unfold State.markerIn
  extract_lets -merge -underBinder t0 t1
  try clear_value t1
  have e2 : Eff 4305492830 s t0 := by
    refine Eff.ite (fun _ => ?_) (fun _ => ?_)
    · refine Eff.app ?_ (State.setFifo_eff ..) (by decide)
      exact Eff.refl _ _
    · refine Eff.app ?_ (State.droveControl_eff ..) (by decide)
      exact Eff.refl _ _
  try clear_value t0
  refine Eff.app ?_ (State.droveAlign_eff ..) (by decide)
  refine Eff.app ?_ (Eff.set_drove _ _) (by decide)
  exact e2

theorem State.droveBlock_eff (s : State) (l : Nat) (b : Coded) (at_ : Nat) : Eff 12895427454 s (State.droveBlock s l b at_) := by
  unfold State.droveBlock
  split
  · refine Eff.app ?_ (State.markerIn_eff ..) (by decide)
    exact Eff.refl _ _
  · refine Eff.ite (fun _ => ?_) (fun _ => ?_)
    · refine Eff.app ?_ (State.droveData_eff ..) (by decide)
      exact Eff.refl _ _
    · refine Eff.app ?_ (State.droveControl_eff ..) (by decide)
      exact Eff.refl _ _

theorem State.lockLost_eff (s : State) (l : Nat) : Eff 4305558366 s (State.lockLost s l) := by
  unfold State.lockLost
  extract_lets -merge -underBinder t0
  have e1 : Eff 4305558366 s t0 := by
    refine Eff.app ?_ (State.raise_eff ..) (by decide)
    refine Eff.app ?_ (State.setFld_eff ..) (by decide)
    refine Eff.app ?_ (State.bump_eff ..) (by decide)
    refine Eff.app ?_ (State.laneEnter_eff ..) (by decide)
    exact Eff.refl _ _
  try clear_value t0
  refine Eff.ite (fun _ => ?_) (fun _ => ?_)
  · refine Eff.app ?_ (State.droveLockLost_eff ..) (by decide)
    exact e1
  · exact e1

theorem State.polarity_eff (s : State) (l : Nat) (b : Coded) : Eff 65538 s (State.polarity s l b) := by
  unfold State.polarity
  refine Eff.ite (fun _ => ?_) (fun _ => ?_)
  · refine Eff.app ?_ (State.setLane_eff ..) (by decide)
    exact Eff.refl _ _
  · extract_lets -merge -underBinder t0
    try clear_value t0
    refine Eff.ite (fun _ => ?_) (fun _ => ?_)
    · refine Eff.ite (fun _ => ?_) (fun _ => ?_)
      · refine Eff.app ?_ (State.setLane_eff ..) (by decide)
        exact Eff.refl _ _
      · refine Eff.app ?_ (State.setFlag_eff ..) (by decide)
        refine Eff.app ?_ (State.setLane_eff ..) (by decide)
        exact Eff.refl _ _
    · refine Eff.app ?_ (State.setLane_eff ..) (by decide)
      exact Eff.refl _ _

theorem State.blockLocked_eff (s : State) (l : Nat) (b : Coded) (at_ : Nat) : Eff 12895492990 s (State.blockLocked s l b at_) := by
  unfold State.blockLocked
  extract_lets -merge -underBinder t0 t1 t2 t3 t4 t5 t6 t7 t8 t9
  try clear_value t0
  try clear_value t1
  try clear_value t6
  try clear_value t7
  try clear_value t8
  have e10 : Eff 12895492990 s t2 := by
    refine Eff.ite (fun _ => ?_) (fun _ => ?_)
    · exact Eff.refl _ _
    · refine Eff.app ?_ (State.bump_eff ..) (by decide)
      exact Eff.refl _ _
  try clear_value t2
  have e11 : Eff 12895492990 s t3 := by
    refine Eff.app ?_ (State.setLane_eff ..) (by decide)
    exact e10
  try clear_value t3
  have e12 : Eff 12895492990 s t4 := by
    refine Eff.app ?_ (State.polarity_eff ..) (by decide)
    exact e11
  try clear_value t4
  have e13 : Eff 12895492990 s t5 := by
    refine Eff.app ?_ (State.setFlag_eff ..) (by decide)
    exact e12
  try clear_value t5
  have e14 : Eff 12895492990 s t9 := by
    refine Eff.app ?_ (State.setLane_eff ..) (by decide)
    exact e13
  try clear_value t9
  refine Eff.ite (fun _ => ?_) (fun _ => ?_)
  · refine Eff.app ?_ (State.lockLost_eff ..) (by decide)
    exact e11
  · refine Eff.ite (fun _ => ?_) (fun _ => ?_)
    · refine Eff.app ?_ (State.droveBlock_eff ..) (by decide)
      exact e12
    · refine Eff.ite (fun _ => ?_) (fun _ => ?_)
      · refine Eff.app ?_ (State.setFld_eff ..) (by decide)
        refine Eff.app ?_ (State.setLane_eff ..) (by decide)
        exact e13
      · refine Eff.ite (fun _ => ?_) (fun _ => ?_)
        · refine Eff.app ?_ (State.setFld_eff ..) (by decide)
          exact e14
        · refine Eff.ite (fun _ => ?_) (fun _ => ?_)
          · refine Eff.app ?_ (State.setFld_eff ..) (by decide)
            exact e14
          · exact e14

theorem State.blockHunt_eff (s : State) (l : Nat) (b : Coded) : Eff 65538 s (State.blockHunt s l b) := by
  unfold State.blockHunt
  extract_lets -merge -underBinder t0
  try clear_value t0
  refine Eff.ite (fun _ => ?_) (fun _ => ?_)
  · refine Eff.app ?_ (State.slipBit_eff ..) (by decide)
    refine Eff.app ?_ (State.setLane_eff ..) (by decide)
    exact Eff.refl _ _
  · refine Eff.ite (fun _ => ?_) (fun _ => ?_)
    · refine Eff.app ?_ (State.setLane_eff ..) (by decide)
      exact Eff.refl _ _
    · refine Eff.app ?_ (State.laneEnter_eff ..) (by decide)
      exact Eff.refl _ _

theorem State.blockIn_eff (s : State) (l : Nat) (b : Coded) (at_ : Nat) : Eff 12895492990 s (State.blockIn s l b at_) := by
  unfold State.blockIn
  extract_lets -merge -underBinder t0 t1
  try clear_value t0
  have e2 : Eff 12895492990 s t1 := by
    refine Eff.ite (fun _ => ?_) (fun _ => ?_)
    · refine Eff.app ?_ (State.setLane_eff ..) (by decide)
      exact Eff.refl _ _
    · exact Eff.refl _ _
  try clear_value t1
  split
  · rename_i q3
    refine Eff.ite (fun _ => ?_) (fun _ => ?_)
    · refine Eff.app ?_ (State.blockHunt_eff ..) (by decide)
      refine Eff.app ?_ (Eff.of_pair (State.rxBlock_eff ..) q3) (by decide)
      exact e2
    · refine Eff.app ?_ (State.blockLocked_eff ..) (by decide)
      refine Eff.app ?_ (Eff.of_pair (State.rxBlock_eff ..) q3) (by decide)
      exact e2

theorem State.blockReceive_eff (s : State) (l : Nat) (hdr : BitVec 2) (data : BitVec 64) (at_ : Nat) : Eff 12895492990 s (State.blockReceive s l hdr data at_) := by
  unfold State.blockReceive
  refine Eff.ite (fun _ => ?_) (fun _ => ?_)
  · exact Eff.refl _ _
  · split
    · rename_i q0
      extract_lets -merge -underBinder t1 t2 t3
      try clear_value t1
      try clear_value t2
      try clear_value t3
      refine Eff.ite (fun _ => ?_) (fun _ => ?_)
      · refine Eff.app ?_ (Eff.of_pair (State.blockTime_eff ..) q0) (by decide)
        exact Eff.refl _ _
      · refine Eff.ite (fun _ => ?_) (fun _ => ?_)
        · refine Eff.ite (fun _ => ?_) (fun _ => ?_)
          · refine Eff.app ?_ (Eff.of_pair (State.blockTime_eff ..) q0) (by decide)
            exact Eff.refl _ _
          · refine Eff.app ?_ (State.setFld_eff ..) (by decide)
            refine Eff.app ?_ (Eff.of_pair (State.blockTime_eff ..) q0) (by decide)
            exact Eff.refl _ _
        · split
          · refine Eff.app ?_ (Eff.of_pair (State.takeBlock_eff ..) (by assumption)) (by decide)
            refine Eff.app ?_ (Eff.of_pair (State.blockTime_eff ..) q0) (by decide)
            exact Eff.refl _ _
          · refine Eff.app ?_ (State.blockIn_eff ..) (by decide)
            refine Eff.app ?_ (Eff.of_pair (State.takeBlock_eff ..) (by assumption)) (by decide)
            refine Eff.app ?_ (Eff.of_pair (State.blockTime_eff ..) q0) (by decide)
            exact Eff.refl _ _

theorem State.queueTx_eff (s : State) (l : Nat) (f : TxFrame) : Eff 65536 s (State.queueTx s l f) := by
  unfold State.queueTx
  extract_lets -merge -underBinder t0 t1
  try clear_value t0
  try clear_value t1
  refine Eff.ite (fun _ => ?_) (fun _ => ?_)
  · refine Eff.app ?_ (State.setLane_eff ..) (by decide)
    exact Eff.refl _ _
  · refine Eff.app ?_ (State.setLane_eff ..) (by decide)
    exact Eff.refl _ _

theorem State.lpiEntry_eff (s : State) (l : Nat) : Eff 65570 s (State.lpiEntry s l) := by
  unfold State.lpiEntry
  extract_lets -merge -underBinder t0 t1
  try clear_value t0
  have e2 : Eff 65570 s t1 := by
    refine Eff.app ?_ (State.advanceTo_eff ..) (by decide)
    exact Eff.refl _ _
  try clear_value t1
  refine Eff.ite (fun _ => ?_) (fun _ => ?_)
  · exact Eff.refl _ _
  · refine Eff.app ?_ (State.setFld_eff ..) (by decide)
    refine Eff.app ?_ (State.setLane_eff ..) (by decide)
    exact e2

theorem State.popTx_eff (s : State) (l : Nat) : Eff 8590000128 s (State.popTx s l) := by
  unfold State.popTx
  split
  · exact Eff.refl _ _
  · extract_lets -merge -underBinder t0 t1
    try clear_value t0
    have e2 : Eff 8590000128 s t1 := by
      refine Eff.app ?_ (State.setLane_eff ..) (by decide)
      exact Eff.refl _ _
    try clear_value t1
    split
    · rename_i q3
      refine Eff.app ?_ (State.sendBlocks_eff ..) (by decide)
      refine Eff.app ?_ (Eff.of_pair (State.drawFree_eff ..) q3) (by decide)
      exact e2

theorem State.stampTx_eff (s : State) (l : Nat) : Eff 4259840 s (State.stampTx s l) := by
  unfold State.stampTx
  split
  · refine Eff.app ?_ (State.queueTx_eff ..) (by decide)
    exact Eff.refl _ _
  · refine Eff.ite (fun _ => ?_) (fun _ => ?_)
    · refine Eff.app ?_ (Eff.set_ptp _ _) (by decide)
      exact Eff.refl _ _
    · exact Eff.refl _ _
  · exact Eff.refl _ _

theorem State.lpiWake_eff (s : State) (l : Nat) : Eff 8594194466 s (State.lpiWake s l) := by
  unfold State.lpiWake
  extract_lets -merge -underBinder t0 t1 t2
  try clear_value t0
  have e3 : Eff 8594194466 s t1 := by
    refine Eff.app ?_ (State.advanceTo_eff ..) (by decide)
    exact Eff.refl _ _
  try clear_value t1
  have e4 : Eff 8594194466 s t2 := by
    refine Eff.app ?_ (State.setFld_eff ..) (by decide)
    refine Eff.app ?_ (State.setLane_eff ..) (by decide)
    exact e3
  try clear_value t2
  refine Eff.ite (fun _ => ?_) (fun _ => ?_)
  · exact Eff.refl _ _
  · refine Eff.ite (fun _ => ?_) (fun _ => ?_)
    · exact e4
    · refine Eff.app ?_ (State.stampTx_eff ..) (by decide)
      refine Eff.app ?_ (State.popTx_eff ..) (by decide)
      exact e4

theorem State.frameTransmit_eff (s : State) (l : Nat) : Eff 8594194432 s (State.frameTransmit s l) := by
  unfold State.frameTransmit
  extract_lets -merge -underBinder t0
  try clear_value t0
  refine Eff.ite (fun _ => ?_) (fun _ => ?_)
  · exact Eff.refl _ _
  · refine Eff.app ?_ (State.stampTx_eff ..) (by decide)
    refine Eff.app ?_ (State.popTx_eff ..) (by decide)
    exact Eff.refl _ _

theorem State.frameReceive_eff (s : State) (l : Nat) (b : List Byte) : Eff 13961240414 s (State.frameReceive s l b) := by
  unfold State.frameReceive
  refine Eff.ite (fun _ => ?_) (fun _ => ?_)
  · exact Eff.refl _ _
  · extract_lets -merge -underBinder t0 t1
    try clear_value t0
    have e2 : Eff 13961240414 s t1 := by
      refine Eff.app ?_ (State.setLane_eff ..) (by decide)
      exact Eff.refl _ _
    try clear_value t1
    refine Eff.ite (fun _ => ?_) (fun _ => ?_)
    · refine Eff.app ?_ (State.bump_eff ..) (by decide)
      exact e2
    · split
      · refine Eff.app ?_ (State.bump_eff ..) (by decide)
        exact e2
      · refine Eff.app ?_ (State.bump_eff ..) (by decide)
        exact e2
      · refine Eff.app ?_ (State.bump_eff ..) (by decide)
        exact e2
      · exact e2
      · extract_lets -merge -underBinder t3
        try clear_value t3
        refine Eff.ite (fun _ => ?_) (fun _ => ?_)
        · refine Eff.app ?_ (State.bump_eff ..) (by decide)
          exact e2
        · refine Eff.app ?_ (State.setLane_eff ..) (by decide)
          exact e2
      · refine Eff.app ?_ (State.gvspPacket_eff ..) (by decide)
        exact e2

theorem State.drvCfgWrite_eff (s : State) (v : Nat) : Eff 4305558366 s (State.drvCfgWrite s v) := by
  unfold State.drvCfgWrite
  extract_lets -merge -underBinder t0 t1 t2 t3 t4 t5 t6 t7 t8
  try clear_value t0
  try clear_value t1
  try clear_value t2
  try clear_value t3
  try clear_value t4
  have e9 : Eff 4305558366 s t5 := by
    refine Eff.ite (fun _ => ?_) (fun _ => ?_)
    · exact Eff.refl _ _
    · refine Eff.app ?_ (State.setFld_eff ..) (by decide)
      exact Eff.refl _ _
  try clear_value t5
  have e10 : Eff 4305558366 s t6 := by
    refine Eff.ite (fun _ => ?_) (fun _ => ?_)
    · exact e9
    · refine Eff.app ?_ (State.setFld_eff ..) (by decide)
      exact e9
  try clear_value t6
  have e11 : Eff 4305558366 s t7 := by
    refine Eff.app ?_ (State.linkAlign_eff ..) (by decide)
    refine Eff.app ?_ (State.setFld_eff ..) (by decide)
    exact e10
  try clear_value t7
  have e12 : Eff 4305558366 s t8 := by
    refine Eff.app ?_ (State.linkDown_eff ..) (by decide)
    refine Eff.app ?_ (State.setFld_eff ..) (by decide)
    exact e10
  try clear_value t8
  refine Eff.ite (fun _ => ?_) (fun _ => ?_)
  · exact Eff.refl _ _
  · refine Eff.ite (fun _ => ?_) (fun _ => ?_)
    · refine Eff.app ?_ (Eff.foldl (m := 4305558366) ?_ _ _) (Nat.or_self _)
      · exact e11
      · intro y13 y14
        extract_lets -merge -underBinder t15 t16 t17
        try clear_value t15
        have e18 : Eff 4305558366 y13 t16 := by
          refine Eff.app ?_ (State.setLane_eff ..) (by decide)
          exact Eff.refl _ _
        try clear_value t16
        have e19 : Eff 4305558366 y13 t17 := by
          refine Eff.app ?_ (State.setFld_eff ..) (by decide)
          exact e18
        try clear_value t17
        refine Eff.ite (fun _ => ?_) (fun _ => ?_)
        · refine Eff.app ?_ (State.setFld_eff ..) (by decide)
          exact e19
        · exact e19
    · refine Eff.ite (fun _ => ?_) (fun _ => ?_)
      · refine Eff.app ?_ (Eff.foldl (m := 4305558366) ?_ _ _) (Nat.or_self _)
        · exact e12
        · intro y20 y21
          refine Eff.ite (fun _ => ?_) (fun _ => ?_)
          · refine Eff.app ?_ (State.laneEnter_eff ..) (by decide)
            exact Eff.refl _ _
          · exact Eff.refl _ _
      · exact e10

end Sys2Proof.Machine
end

