-- ==== Sys2Proof/Laws/EffCamera.lean ====
section
/-! SUPPORT. What each operation of Machine/Camera.lean can touch, by unit of the state (see Laws/Effect.lean). -/

set_option linter.unusedVariables false
set_option linter.unusedTactic false
set_option linter.unreachableTactic false

namespace Sys2Proof.Machine

theorem State.dropOther_eff (s : State) (l : Nat) : Eff 65536 s (State.dropOther s l) := by
  unfold State.dropOther
  extract_lets -merge -underBinder t0
  try clear_value t0
  refine Eff.app ?_ (State.setLane_eff ..) (by decide)
  exact Eff.refl _ _

theorem State.takeFrame_eff (s : State) (l : Nat) (p : List Byte → Bool) : Eff 65536 s (State.takeFrame s l p).1 := by
  unfold State.takeFrame
  extract_lets -merge -underBinder t0
  have e1 : Eff 65536 s t0 := by
    refine Eff.app ?_ (State.dropOther_eff ..) (by decide)
    exact Eff.refl _ _
  try clear_value t0
  split
  · refine Eff.ite1 (fun _ => ?_) (fun _ => ?_)
    · refine Eff.fst ?_
      refine Eff.app ?_ (State.setLane_eff ..) (by decide)
      exact e1
    · refine Eff.fst ?_
      exact e1
  · refine Eff.fst ?_
    exact e1

theorem State.arpRequest_eff (s : State) (l : Nat) : Eff 65536 s (State.arpRequest s l) := by
  unfold State.arpRequest
  refine Eff.ite (fun _ => ?_) (fun _ => ?_)
  · exact Eff.refl _ _
  · split
    · refine Eff.app ?_ (State.queueTx_eff ..) (by decide)
      refine Eff.app ?_ (Eff.of_pair (State.takeFrame_eff ..) (by assumption)) (by decide)
      exact Eff.refl _ _
    · refine Eff.app ?_ (Eff.of_pair (State.takeFrame_eff ..) (by assumption)) (by decide)
      exact Eff.refl _ _

theorem State.icmpEcho_eff (s : State) (l : Nat) : Eff 65536 s (State.icmpEcho s l) := by
  unfold State.icmpEcho
  refine Eff.ite (fun _ => ?_) (fun _ => ?_)
  · exact Eff.refl _ _
  · split
    · refine Eff.app ?_ (State.queueTx_eff ..) (by decide)
      refine Eff.app ?_ (Eff.of_pair (State.takeFrame_eff ..) (by assumption)) (by decide)
      exact Eff.refl _ _
    · refine Eff.app ?_ (Eff.of_pair (State.takeFrame_eff ..) (by assumption)) (by decide)
      exact Eff.refl _ _

theorem State.sendGvcp_eff (s : State) (l : Nat) (use : GvcpUse) (body : Nat → List Byte) : Eff 65536 s (State.sendGvcp s l use body) := by
  unfold State.sendGvcp
  extract_lets -merge -underBinder t0 t1 t2
  try clear_value t0
  try clear_value t1
  have e3 : Eff 65536 s t2 := by
    refine Eff.app ?_ (State.setLane_eff ..) (by decide)
    exact Eff.refl _ _
  try clear_value t2
  refine Eff.app ?_ (State.queueTx_eff ..) (by decide)
  exact e3

theorem State.setupDone_eff (s : State) (n : Nat) : Eff 196610 s (State.setupDone s n) := by
  unfold State.setupDone
  extract_lets -merge -underBinder t0 t1 t2 t3
  try clear_value t0
  try clear_value t2
  have e4 : Eff 196610 s t1 := by
    refine Eff.app ?_ (State.setLane_eff ..) (by decide)
    exact Eff.refl _ _
  try clear_value t1
  have e5 : Eff 196610 s t3 := by
    refine Eff.app ?_ (State.setStream_eff ..) (by decide)
    exact e4
  try clear_value t3
  refine Eff.app ?_ (State.setFld_eff ..) (by decide)
  refine Eff.app ?_ (State.setFld_eff ..) (by decide)
  refine Eff.app ?_ (State.setFld_eff ..) (by decide)
  exact e5

theorem State.setupFail_eff (s : State) (n : Nat) (step : Nat) : Eff 65630 s (State.setupFail s n step) := by
  unfold State.setupFail
  extract_lets -merge -underBinder t0 t1
  try clear_value t0
  have e2 : Eff 65630 s t1 := by
    refine Eff.app ?_ (State.setLane_eff ..) (by decide)
    exact Eff.refl _ _
  try clear_value t1
  refine Eff.app ?_ (State.raise_eff ..) (by decide)
  refine Eff.app ?_ (State.setFld_eff ..) (by decide)
  refine Eff.app ?_ (State.setFld_eff ..) (by decide)
  refine Eff.app ?_ (State.setFld_eff ..) (by decide)
  exact e2

theorem State.setupGo_eff (a0 : Nat) (a1 : State) (a2 : Nat) (a3 : Nat) (a4 : Nat) : Eff 196610 a1 (State.setupGo a0 a1 a2 a3 a4) := by
  induction a0 generalizing a1 a2 a3 a4 with
  | zero =>
    rw [State.setupGo]
    refine Eff.app ?_ (State.setupDone_eff ..) (by decide)
    exact Eff.refl _ _
  | succ fuel ih =>
    rw [State.setupGo]
    split
    · refine Eff.app ?_ (State.sendGvcp_eff ..) (by decide)
      exact Eff.refl _ _
    · refine Eff.app ?_ (ih ..) (Nat.or_self _)
      exact Eff.refl _ _

theorem State.setupStart_eff (s : State) (n : Nat) : Eff 196610 s (State.setupStart s n) := by
  unfold State.setupStart
  refine Eff.app ?_ (State.setupGo_eff ..) (by decide)
  refine Eff.app ?_ (State.setFld_eff ..) (by decide)
  exact Eff.refl _ _

theorem State.strctlSetup_eff (s : State) (n : Nat) (v : Nat) : Eff 196610 s (State.strctlSetup s n v) := by
  unfold State.strctlSetup
  refine Eff.ite (fun _ => ?_) (fun _ => ?_)
  · refine Eff.app ?_ (State.setupStart_eff ..) (by decide)
    exact Eff.refl _ _
  · exact Eff.refl _ _

theorem State.sendHeartbeat_eff (s : State) (l : Nat) (use : GvcpUse) : Eff 65536 s (State.sendHeartbeat s l use) := by
  unfold State.sendHeartbeat
  refine Eff.app ?_ (State.sendGvcp_eff ..) (by decide)
  refine Eff.app ?_ (State.setLane_eff ..) (by decide)
  exact Eff.refl _ _

theorem State.cameraHeartbeat_eff (s : State) (l : Nat) : Eff 65568 s (State.cameraHeartbeat s l) := by
  unfold State.cameraHeartbeat
  extract_lets -merge -underBinder t0
  try clear_value t0
  refine Eff.ite (fun _ => ?_) (fun _ => ?_)
  · exact Eff.refl _ _
  · refine Eff.app ?_ (State.sendHeartbeat_eff ..) (by decide)
    refine Eff.app ?_ (State.advanceTo_eff ..) (by decide)
    exact Eff.refl _ _

theorem State.probeCameras_eff (s : State) : Eff 65536 s (State.probeCameras s) := by
  unfold State.probeCameras
  refine Eff.app ?_ (Eff.foldl (m := 65536) ?_ _ _) (Nat.or_self _)
  · exact Eff.refl _ _
  · intro y0 y1
    refine Eff.ite (fun _ => ?_) (fun _ => ?_)
    · refine Eff.app ?_ (State.sendHeartbeat_eff ..) (by decide)
      exact Eff.refl _ _
    · exact Eff.refl _ _

theorem State.dropSetups_eff (s : State) : Eff 65536 s (State.dropSetups s) := by
  unfold State.dropSetups
  refine Eff.app ?_ (Eff.foldl (m := 65536) ?_ _ _) (Nat.or_self _)
  · exact Eff.refl _ _
  · intro y0 y1
    refine Eff.app ?_ (State.setLane_eff ..) (by decide)
    exact Eff.refl _ _

theorem State.channelOpen_eff (s : State) (l : Nat) : Eff 65536 s (State.channelOpen s l) := by
  unfold State.channelOpen
  refine Eff.app ?_ (State.setLane_eff ..) (by decide)
  exact Eff.refl _ _

theorem State.setupGiveUp_eff (s : State) (n : Nat) : Eff 65662 s (State.setupGiveUp s n) := by
  unfold State.setupGiveUp
  refine Eff.ite (fun _ => ?_) (fun _ => ?_)
  · extract_lets -merge -underBinder t0 t1 t2 t3
    try clear_value t1
    try clear_value t2
    have e4 : Eff 65662 s t0 := by
      refine Eff.app ?_ (State.advanceTo_eff ..) (by decide)
      exact Eff.refl _ _
    try clear_value t0
    have e5 : Eff 65662 s t3 := by
      refine Eff.app ?_ (State.setLane_eff ..) (by decide)
      exact e4
    try clear_value t3
    refine Eff.app ?_ (State.setupFail_eff ..) (by decide)
    exact e5
  · exact Eff.refl _ _

theorem State.setReady_eff (s : State) (i : Nat) (b : Bool) : Eff 4 s (State.setReady s i b) := by
  unfold State.setReady
  refine Eff.app ?_ (State.poke_eff ..) (by decide)
  exact Eff.refl _ _

theorem State.mboxReply_eff (s : State) (i : Nat) (lane : Nat) (status : Nat) (pkt : List Byte) : Eff 94 s (State.mboxReply s i lane status pkt) := by
  unfold State.mboxReply
  extract_lets -merge -underBinder t0 t1 t2
  try clear_value t0
  have e3 : Eff 94 s t1 := by
    refine Eff.app ?_ (State.write_eff ..) (by decide)
    exact Eff.refl _ _
  try clear_value t1
  have e4 : Eff 94 s t2 := by
    refine Eff.app ?_ (State.write_eff ..) (by decide)
    exact e3
  try clear_value t2
  refine Eff.app ?_ (State.setReady_eff ..) (by decide)
  refine Eff.app ?_ (State.write_eff ..) (by decide)
  exact e4

theorem State.mailboxRequest_eff (s : State) : Eff 65630 s (State.mailboxRequest s) := by
  unfold State.mailboxRequest
  refine Eff.ite (fun _ => ?_) (fun _ => ?_)
  · exact Eff.refl _ _
  · split
    · exact Eff.refl _ _
    · extract_lets -merge -underBinder t0 t1 t2 t3
      try clear_value t0
      try clear_value t1
      try clear_value t3
      have e4 : Eff 65630 s t2 := by
        refine Eff.app ?_ (State.write_eff ..) (by decide)
        exact Eff.refl _ _
      try clear_value t2
      refine Eff.ite (fun _ => ?_) (fun _ => ?_)
      · refine Eff.app ?_ (State.mboxReply_eff ..) (by decide)
        exact e4
      · refine Eff.ite (fun _ => ?_) (fun _ => ?_)
        · refine Eff.app ?_ (State.mboxReply_eff ..) (by decide)
          exact e4
        · refine Eff.ite (fun _ => ?_) (fun _ => ?_)
          · refine Eff.app ?_ (State.mboxReply_eff ..) (by decide)
            exact e4
          · refine Eff.app ?_ (State.sendGvcp_eff ..) (by decide)
            exact e4

theorem State.mailboxRelease_eff (s : State) (i : Nat) : Eff 4 s (State.mailboxRelease s i) := by
  unfold State.mailboxRelease
  refine Eff.app ?_ (State.setReady_eff ..) (by decide)
  refine Eff.app ?_ (State.poke_eff ..) (by decide)
  exact Eff.refl _ _

theorem State.dropGvcp_eff (s : State) (l : Nat) (req : Nat) : Eff 65536 s (State.dropGvcp s l req) := by
  unfold State.dropGvcp
  refine Eff.app ?_ (State.setLane_eff ..) (by decide)
  exact Eff.refl _ _

theorem State.gvcpAcked_eff (s : State) (l : Nat) (g : Gvcp) (status : Nat) (pkt : List Byte) : Eff 196702 s (State.gvcpAcked s l g status pkt) := by
  unfold State.gvcpAcked
  extract_lets -merge -underBinder t0
  have e1 : Eff 196702 s t0 := by
    refine Eff.app ?_ (State.dropGvcp_eff ..) (by decide)
    exact Eff.refl _ _
  try clear_value t0
  split
  · refine Eff.ite (fun _ => ?_) (fun _ => ?_)
    · refine Eff.app ?_ (State.setupGo_eff ..) (by decide)
      exact e1
    · refine Eff.app ?_ (State.setupFail_eff ..) (by decide)
      exact e1
  · refine Eff.ite (fun _ => ?_) (fun _ => ?_)
    · refine Eff.app ?_ (State.setupStart_eff ..) (by decide)
      exact e1
    · exact e1
  · refine Eff.ite (fun _ => ?_) (fun _ => ?_)
    · refine Eff.app ?_ (State.setupStart_eff ..) (by decide)
      exact e1
    · refine Eff.app ?_ (State.channelOpen_eff ..) (by decide)
      exact e1
  · refine Eff.app ?_ (State.mboxReply_eff ..) (by decide)
    exact e1

theorem State.gvcpAck_eff (s : State) (l : Nat) : Eff 196702 s (State.gvcpAck s l) := by
  unfold State.gvcpAck
  refine Eff.ite (fun _ => ?_) (fun _ => ?_)
  · exact Eff.refl _ _
  · split
    · refine Eff.app ?_ (Eff.of_pair (State.takeFrame_eff ..) (by assumption)) (by decide)
      exact Eff.refl _ _
    · extract_lets -merge -underBinder t0
      try clear_value t0
      split
      · refine Eff.app ?_ (State.gvcpAcked_eff ..) (by decide)
        refine Eff.app ?_ (Eff.of_pair (State.takeFrame_eff ..) (by assumption)) (by decide)
        exact Eff.refl _ _
      · refine Eff.app ?_ (Eff.of_pair (State.takeFrame_eff ..) (by assumption)) (by decide)
        exact Eff.refl _ _

theorem State.gvcpTimeout_eff (s : State) (l : Nat) : Eff 196734 s (State.gvcpTimeout s l) := by
  unfold State.gvcpTimeout
  refine Eff.ite (fun _ => ?_) (fun _ => ?_)
  · exact Eff.refl _ _
  · split
    · exact Eff.refl _ _
    · extract_lets -merge -underBinder t0 t1 t2
      try clear_value t1
      have e3 : Eff 196734 s t0 := by
        refine Eff.app ?_ (State.advanceTo_eff ..) (by decide)
        exact Eff.refl _ _
      try clear_value t0
      have e4 : Eff 196734 s t2 := by
        refine Eff.app ?_ (State.dropGvcp_eff ..) (by decide)
        exact e3
      try clear_value t2
      refine Eff.ite (fun _ => ?_) (fun _ => ?_)
      · refine Eff.app ?_ (State.queueTx_eff ..) (by decide)
        refine Eff.app ?_ (State.setLane_eff ..) (by decide)
        exact e3
      · split
        · refine Eff.app ?_ (State.setupFail_eff ..) (by decide)
          exact e4
        · refine Eff.app ?_ (State.sendHeartbeat_eff ..) (by decide)
          exact e4
        · refine Eff.app ?_ (State.setupStart_eff ..) (by decide)
          exact e4
        · refine Eff.app ?_ (State.mboxReply_eff ..) (by decide)
          exact e4

end Sys2Proof.Machine
end

