-- ==== Sys2Proof/Laws/EffCoreOps.lean ====
section
/-! SUPPORT. What each operation of Machine/CoreOps.lean can touch, by unit of the state (see Laws/Effect.lean). -/

set_option linter.unusedVariables false
set_option linter.unusedTactic false
set_option linter.unreachableTactic false

namespace Sys2Proof.Machine

theorem State.tableCmd_eff (s : State) (k : Nat) (j : Nat) (x : Job) (d : List Byte) (flaws : List Flaw) : Eff 1118 s (State.tableCmd s k j x d flaws).1 := by
  unfold State.tableCmd
  extract_lets -merge -underBinder t0
  try clear_value t0
  split
  · refine Eff.fst ?_
    exact Eff.refl _ _
  · extract_lets -merge -underBinder t1
    try clear_value t1
    split
    · refine Eff.fst ?_
      refine Eff.app ?_ (Eff.of_pair (State.readUnits_eff ..) (by assumption)) (by decide)
      exact Eff.refl _ _
    · extract_lets -merge -underBinder t2 t3 t4
      try clear_value t2
      try clear_value t3
      try clear_value t4
      refine Eff.fst ?_
      refine Eff.app ?_ (State.setCore_eff ..) (by decide)
      refine Eff.app ?_ (Eff.of_pair (State.readUnits_eff ..) (by assumption)) (by decide)
      exact Eff.refl _ _

theorem State.emitCmd_eff (s : State) (k : Nat) (j : Nat) (x : Job) (c : Cmd) (flaws : List Flaw) : Eff 350 s (State.emitCmd s k j x c flaws).1 := by
  unfold State.emitCmd
  extract_lets -merge -underBinder t0 t1
  try clear_value t0
  try clear_value t1
  split
  · refine Eff.fst ?_
    exact Eff.refl _ _
  · extract_lets -merge -underBinder t2
    try clear_value t2
    split
    · refine Eff.fst ?_
      refine Eff.app ?_ (Eff.of_pair (State.readUnits_eff ..) (by assumption)) (by decide)
      exact Eff.refl _ _
    · extract_lets -merge -underBinder t3
      try clear_value t3
      split
      · extract_lets -merge -underBinder t5 t6
        try clear_value t5
        try clear_value t6
        refine Eff.fst ?_
        refine Eff.app ?_ (State.pushResult_eff ..) (by decide)
        refine Eff.app ?_ (Eff.of_pair (State.readUnits_eff ..) (by assumption)) (by decide)
        exact Eff.refl _ _

theorem State.reportIllegal_eff (s : State) (k : Nat) (x : Job) (c : Cmd) (f : Flaw) : Eff 94 s (State.reportIllegal s k x c f) := by
  unfold State.reportIllegal
  extract_lets -merge -underBinder t0
  have e1 : Eff 94 s t0 := by
    refine Eff.app ?_ (State.setFld_eff ..) (by decide)
    refine Eff.app ?_ (State.setFld_eff ..) (by decide)
    refine Eff.app ?_ (State.setFld_eff ..) (by decide)
    refine Eff.app ?_ (State.setFld_eff ..) (by decide)
    refine Eff.app ?_ (State.setFld_eff ..) (by decide)
    exact Eff.refl _ _
  try clear_value t0
  refine Eff.app ?_ (State.raise_eff ..) (by decide)
  exact e1

theorem State.noteEmpty_eff (s : State) (k : Nat) (x : Job) : Eff 2 s (State.noteEmpty s k x) := by
  unfold State.noteEmpty
  refine Eff.app ?_ (State.setFld_eff ..) (by decide)
  refine Eff.app ?_ (State.bump_eff ..) (by decide)
  exact Eff.refl _ _

theorem State.coreEnd_eff (s : State) (k : Nat) (e : QEnt) (x : Job) (c : Cmd) (after : CmdState) (r : Ran) : Eff 12887039838 s (State.coreEnd s k e x c after r) := by
  unfold State.coreEnd
  split
  · refine Eff.app ?_ (State.jobFault_eff ..) (by decide)
    refine Eff.app ?_ (State.reportIllegal_eff ..) (by decide)
    exact Eff.refl _ _
  · refine Eff.app ?_ (State.dataErrorJob_eff ..) (by decide)
    refine Eff.app ?_ (State.markJob_eff ..) (by decide)
    exact Eff.refl _ _
  · extract_lets -merge -underBinder t0
    have e1 : Eff 12887039838 s t0 := by
      refine Eff.app ?_ (State.markJob_eff ..) (by decide)
      refine Eff.app ?_ (State.setCmd_eff ..) (by decide)
      exact Eff.refl _ _
    try clear_value t0
    refine Eff.ite (fun _ => ?_) (fun _ => ?_)
    · refine Eff.app ?_ (State.noteEmpty_eff ..) (by decide)
      exact e1
    · exact e1

theorem State.lateFault_eff (s : State) (k : Nat) (a : CoreAct) : Eff 35678 s (State.lateFault s k a) := by
  unfold State.lateFault
  split
  · refine Eff.ite (fun _ => ?_) (fun _ => ?_)
    · exact Eff.refl _ _
    · extract_lets -merge -underBinder t0 t1
      try clear_value t0
      try clear_value t1
      split
      · refine Eff.app ?_ (State.faultAgain_eff ..) (by decide)
        refine Eff.app ?_ (State.reportIllegal_eff ..) (by decide)
        exact Eff.refl _ _
      · exact Eff.refl _ _
  · exact Eff.refl _ _

theorem State.coreRun_eff (s : State) (k : Nat) (up : Upsets) (err : StateErr) (a : CoreAct)
    (h_run : ∀ v j x c f, Eff 12887039838 v (a.run v j x c f).1) : Eff 12887039838 s (State.coreRun s k up err a) := by
  unfold State.coreRun
  refine Eff.ite (fun _ => ?_) (fun _ => ?_)
  · refine Eff.ite (fun _ => ?_) (fun _ => Eff.refl _ _)
    exact ((State.raise_eff ..).mono (M := 12887039838) (by decide)).app (State.fence_eff ..) (by decide)
  · extract_lets -merge -underBinder t0
    have e1 : Eff 12887039838 s t0 := Eff.ite (fun _ => (State.bumpSat_eff ..).mono (by decide)) (fun _ => Eff.refl _ _)
    clear_value t0
    split
    · exact e1.app (State.lateFault_eff ..) (by decide)
    · refine Eff.ite (fun _ => e1) (fun _ => ?_)
      extract_lets -merge -underBinder t2 t3 t4
      have e5 : Eff 12887039838 s t2 := e1.app (State.upset_eff ..) (by decide)
      clear_value t2
      have e6 : Eff 12887039838 s t4.1 := e5.app (h_run ..) (Nat.or_self _)
      clear_value t4
      exact Eff.ite (fun _ => e5.app (State.coreEnd_eff ..) (by decide)) (fun _ => e6.app (State.coreEnd_eff ..) (by decide))

theorem State.tensorCmd_eff (s : State) (k op : Nat) (up : Upsets) (err : StateErr) : Eff 12887039838 s (State.tensorCmd s k op up err) := by
  refine State.coreRun_eff s k up err _ (fun v j x c f => ?_)
  dsimp only
  split
  · exact (State.runPlan_eff ..).mono (by decide)
  · exact Eff.refl _ _

theorem State.meanEmpty_eff (s : State) (k : Nat) (x : Job) : Eff 94 s (State.meanEmpty s k x) := by
  unfold State.meanEmpty
  refine Eff.app ?_ (State.raise_eff ..) (by decide)
  refine Eff.app ?_ (State.bump_eff ..) (by decide)
  exact Eff.refl _ _

theorem State.reduceCmd_eff (s : State) (k : Nat) (up : Upsets) (err : StateErr) : Eff 12887039838 s (State.reduceCmd s k up err) := by
  refine State.coreRun_eff s k up err _ (fun v j x c f => ?_)
  dsimp only
  have e : Eff 12887039838 v (v.runPlan k x c.desc (reducePlan c.desc (partsOf x c)) f).1 := (State.runPlan_eff ..).mono (by decide)
  revert e
  generalize v.runPlan k x c.desc (reducePlan c.desc (partsOf x c)) f = r
  intro e
  split
  · dsimp only at e ⊢
    exact Eff.ite (fun _ => e.app (State.meanEmpty_eff ..) (by decide)) (fun _ => e)
  · exact e

theorem State.emitRun_eff (s : State) (k : Nat) (up : Upsets) (err : StateErr) : Eff 12887039838 s (State.emitRun s k up err) :=
  State.coreRun_eff s k up err _ (fun _ _ _ _ _ => (State.emitCmd_eff ..).mono (by decide))

theorem State.tableRun_eff (s : State) (k : Nat) (up : Upsets) (err : StateErr) : Eff 12887039838 s (State.tableRun s k up err) :=
  State.coreRun_eff s k up err _ (fun _ _ _ _ _ => (State.tableCmd_eff ..).mono (by decide))

theorem State.nearRun_eff (s : State) (k : Nat) (up : Upsets) (err : StateErr) (merge : Bool) : Eff 12887039838 s (State.nearRun s k up err merge) := by
  refine State.coreRun_eff s k up err _ (fun v j x c f => ?_)
  dsimp only
  split
  · exact (State.nearMerge_eff ..).mono (by decide)
  · exact (State.nearSearch_eff ..).mono (by decide)

theorem State.coreWatchdog_eff (s : State) (k : Nat) : Eff 4294969182 s (State.coreWatchdog s k) := by
  unfold State.coreWatchdog
  extract_lets -merge -underBinder t0
  try clear_value t0
  refine Eff.ite (fun _ => ?_) (fun _ => ?_)
  · refine Eff.app ?_ (State.fence_eff ..) (by decide)
    exact Eff.refl _ _
  · exact Eff.refl _ _

end Sys2Proof.Machine
end

