-- ==== Sys2Proof/Laws/EffPtp.lean ====
section
/-! SUPPORT. What each operation of Machine/Ptp.lean can touch, by unit of the state (see Laws/Effect.lean). -/

set_option linter.unusedVariables false
set_option linter.unusedTactic false
set_option linter.unreachableTactic false

namespace Sys2Proof.Machine

theorem State.holdover_eff (s : State) : Eff 4194398 s (State.holdover s) := by
  unfold State.holdover
  refine Eff.ite (fun _ => ?_) (fun _ => ?_)
  · extract_lets -merge -underBinder t0 t1
    try clear_value t0
    have e2 : Eff 4194398 s t1 := by
      refine Eff.app ?_ (Eff.set_ptp _ _) (by decide)
      exact Eff.refl _ _
    try clear_value t1
    refine Eff.app ?_ (State.raise_eff ..) (by decide)
    refine Eff.app ?_ (State.bump_eff ..) (by decide)
    refine Eff.app ?_ (State.setFld_eff ..) (by decide)
    exact e2
  · exact Eff.refl _ _

theorem State.ptpStep_eff (s : State) (v : Nat) : Eff 1048670 s (State.ptpStep s v) := by
  unfold State.ptpStep
  extract_lets -merge -underBinder t0 t1
  have e2 : Eff 1048670 s t0 := by
    refine Eff.app ?_ (State.setFld_eff ..) (by decide)
    refine Eff.app ?_ (State.setFld_eff ..) (by decide)
    exact Eff.refl _ _
  try clear_value t0
  have e3 : Eff 1048670 s t1 := by
    refine Eff.app ?_ (Eff.set_ptpHold _ _) (by decide)
    exact e2
  try clear_value t1
  refine Eff.app ?_ (State.raise_eff ..) (by decide)
  exact e3

theorem State.servoRate_eff (s : State) : Eff 8589934594 s (State.servoRate s) := by
  unfold State.servoRate
  split
  · rename_i q0
    refine Eff.app ?_ (State.setSFld_eff ..) (by decide)
    refine Eff.app ?_ (Eff.of_pair (State.drawFree_eff ..) q0) (by decide)
    exact Eff.refl _ _

theorem State.servo_eff (s : State) (off : Int) : Eff 8590983262 s (State.servo s off) := by
  unfold State.servo
  refine Eff.ite (fun _ => ?_) (fun _ => ?_)
  · refine Eff.app ?_ (State.ptpStep_eff ..) (by decide)
    exact Eff.refl _ _
  · refine Eff.app ?_ (State.servoRate_eff ..) (by decide)
    exact Eff.refl _ _

theorem State.countGood_eff (s : State) (off : Int) : Eff 4194398 s (State.countGood s off) := by
  unfold State.countGood
  extract_lets -merge -underBinder t0 t1
  try clear_value t0
  have e2 : Eff 4194398 s t1 := by
    refine Eff.app ?_ (Eff.set_ptp _ _) (by decide)
    exact Eff.refl _ _
  try clear_value t1
  refine Eff.ite (fun _ => ?_) (fun _ => ?_)
  · refine Eff.app ?_ (State.raise_eff ..) (by decide)
    refine Eff.app ?_ (State.setFld_eff ..) (by decide)
    exact e2
  · exact e2

theorem State.measure_eff (s : State) (t1 : Int) (rx : Nat) : Eff 8595177566 s (State.measure s t1 rx) := by
  unfold State.measure
  extract_lets -merge -underBinder t0 t1 t2 t3
  try clear_value t0
  try clear_value t1
  have e4 : Eff 8595177566 s t2 := by
    refine Eff.app ?_ (Eff.set_ptp _ _) (by decide)
    exact Eff.refl _ _
  try clear_value t2
  have e5 : Eff 8595177566 s t3 := by
    refine Eff.app ?_ (State.setSFld_eff ..) (by decide)
    exact e4
  try clear_value t3
  refine Eff.ite (fun _ => ?_) (fun _ => ?_)
  · refine Eff.app ?_ (State.countGood_eff ..) (by decide)
    refine Eff.app ?_ (State.servo_eff ..) (by decide)
    exact e5
  · exact e5

theorem State.acquire_eff (s : State) : Eff 2 s (State.acquire s) := by
  unfold State.acquire
  refine Eff.ite (fun _ => ?_) (fun _ => ?_)
  · refine Eff.app ?_ (State.setFld_eff ..) (by decide)
    exact Eff.refl _ _
  · exact Eff.refl _ _

theorem State.ptpSync_eff (s : State) (l : Nat) (dom : Nat) (src : Nat) (seq : Nat) (stamp : Nat) (udp : Bool) (twoStep : Bool) (t1 : Nat) (corr : Int) : Eff 8595177566 s (State.ptpSync s l dom src seq stamp udp twoStep t1 corr) := by
  unfold State.ptpSync
  refine Eff.ite (fun _ => ?_) (fun _ => ?_)
  · exact Eff.refl _ _
  · split
    · exact Eff.refl _ _
    · refine Eff.app ?_ (Eff.set_ptp _ _) (by decide)
      exact Eff.refl _ _
    · refine Eff.ite (fun _ => ?_) (fun _ => ?_)
      · exact Eff.refl _ _
      · extract_lets -merge -underBinder t0 t1 t2 t3 t4
        try clear_value t0
        try clear_value t3
        try clear_value t4
        have e5 : Eff 8595177566 s t1 := by
          refine Eff.app ?_ (Eff.set_ptp _ _) (by decide)
          exact Eff.refl _ _
        try clear_value t1
        have e6 : Eff 8595177566 s t2 := by
          refine Eff.app ?_ (State.acquire_eff ..) (by decide)
          exact e5
        try clear_value t2
        refine Eff.ite (fun _ => ?_) (fun _ => ?_)
        · refine Eff.app ?_ (Eff.set_ptp _ _) (by decide)
          exact e6
        · refine Eff.app ?_ (State.measure_eff ..) (by decide)
          refine Eff.app ?_ (Eff.set_ptp _ _) (by decide)
          exact e6

theorem State.ptpFollowUp_eff (s : State) (l : Nat) (dom : Nat) (src : Nat) (seq : Nat) (t1 : Nat) (udp : Bool) (corr : Int) : Eff 8595177566 s (State.ptpFollowUp s l dom src seq t1 udp corr) := by
  unfold State.ptpFollowUp
  refine Eff.ite (fun _ => ?_) (fun _ => ?_)
  · exact Eff.refl _ _
  · split
    · refine Eff.ite (fun _ => ?_) (fun _ => ?_)
      · refine Eff.app ?_ (State.measure_eff ..) (by decide)
        refine Eff.app ?_ (Eff.set_ptp _ _) (by decide)
        exact Eff.refl _ _
      · exact Eff.refl _ _
    · exact Eff.refl _ _

theorem State.follow_eff (s : State) (m : PtpMaster) : Eff 4194398 s (State.follow s m) := by
  unfold State.follow
  extract_lets -merge -underBinder t0 t1 t2 t3 t4 t5 t6
  try clear_value t0
  try clear_value t1
  try clear_value t2
  try clear_value t3
  try clear_value t5
  have e7 : Eff 4194398 s t4 := by
    refine Eff.app ?_ (Eff.set_ptp _ _) (by decide)
    exact Eff.refl _ _
  try clear_value t4
  have e8 : Eff 4194398 s t6 := by
    refine Eff.ite (fun _ => ?_) (fun _ => ?_)
    · refine Eff.app ?_ (Eff.set_ptp _ _) (by decide)
      exact e7
    · exact e7
  try clear_value t6
  split
  · refine Eff.ite (fun _ => ?_) (fun _ => ?_)
    · refine Eff.app ?_ (State.holdover_eff ..) (by decide)
      exact e8
    · exact e8
  · refine Eff.ite (fun _ => ?_) (fun _ => ?_)
    · refine Eff.app ?_ (State.acquire_eff ..) (by decide)
      exact e8
    · exact e8

theorem State.ptpAnnounce_eff (s : State) (l : Nat) (dom : Nat) (udp : Bool) (m : PtpMaster) : Eff 4194398 s (State.ptpAnnounce s l dom udp m) := by
  unfold State.ptpAnnounce
  refine Eff.ite (fun _ => ?_) (fun _ => ?_)
  · exact Eff.refl _ _
  · split
    · refine Eff.app ?_ (State.follow_eff ..) (by decide)
      exact Eff.refl _ _
    · refine Eff.ite (fun _ => ?_) (fun _ => ?_)
      · refine Eff.app ?_ (State.follow_eff ..) (by decide)
        exact Eff.refl _ _
      · exact Eff.refl _ _

theorem State.ptpTimeout_eff (s : State) : Eff 4194430 s (State.ptpTimeout s) := by
  unfold State.ptpTimeout
  refine Eff.ite (fun _ => ?_) (fun _ => ?_)
  · exact Eff.refl _ _
  · refine Eff.app ?_ (State.holdover_eff ..) (by decide)
    refine Eff.app ?_ (State.advanceDev_eff ..) (by decide)
    exact Eff.refl _ _

theorem State.ptpDelayReqSend_eff (s : State) : Eff 4259840 s (State.ptpDelayReqSend s) := by
  unfold State.ptpDelayReqSend
  refine Eff.ite (fun _ => ?_) (fun _ => ?_)
  · exact Eff.refl _ _
  · extract_lets -merge -underBinder t0 t1 t2
    try clear_value t0
    try clear_value t1
    have e3 : Eff 4259840 s t2 := by
      refine Eff.app ?_ (Eff.set_ptp _ _) (by decide)
      exact Eff.refl _ _
    try clear_value t2
    refine Eff.app ?_ (State.queueTx_eff ..) (by decide)
    exact e3

theorem State.ptpDelayResp_eff (s : State) (l : Nat) (dom : Nat) (src : Nat) (seq : Nat) (t4 : Nat) (udp : Bool) (corr : Int) : Eff 4194304 s (State.ptpDelayResp s l dom src seq t4 udp corr) := by
  unfold State.ptpDelayResp
  refine Eff.ite (fun _ => ?_) (fun _ => ?_)
  · exact Eff.refl _ _
  · split
    · refine Eff.ite (fun _ => ?_) (fun _ => ?_)
      · extract_lets -merge -underBinder t0 t1 t2 t3
        try clear_value t0
        try clear_value t1
        try clear_value t2
        try clear_value t3
        refine Eff.app ?_ (Eff.set_ptp _ _) (by decide)
        exact Eff.refl _ _
      · exact Eff.refl _ _
    · exact Eff.refl _ _

theorem State.ptpDelayReq_eff (s : State) (l : Nat) (dom : Nat) (src : Nat) (seq : Nat) (stamp : Nat) (udp : Bool) : Eff 65536 s (State.ptpDelayReq s l dom src seq stamp udp) := by
  unfold State.ptpDelayReq
  refine Eff.ite (fun _ => ?_) (fun _ => ?_)
  · exact Eff.refl _ _
  · split
    · refine Eff.app ?_ (State.queueTx_eff ..) (by decide)
      exact Eff.refl _ _
    · exact Eff.refl _ _

theorem State.ptpSyncSend_eff (s : State) : Eff 4259872 s (State.ptpSyncSend s) := by
  unfold State.ptpSyncSend
  refine Eff.ite (fun _ => ?_) (fun _ => ?_)
  · exact Eff.refl _ _
  · extract_lets -merge -underBinder t0 t1 t2 t3
    try clear_value t1
    try clear_value t2
    have e4 : Eff 4259872 s t0 := by
      refine Eff.app ?_ (State.advanceDev_eff ..) (by decide)
      exact Eff.refl _ _
    try clear_value t0
    have e5 : Eff 4259872 s t3 := by
      refine Eff.app ?_ (Eff.set_ptp _ _) (by decide)
      exact e4
    try clear_value t3
    refine Eff.app ?_ (Eff.foldl (m := 4259872) ?_ _ _) (Nat.or_self _)
    · exact e5
    · intro y6 y7
      refine Eff.app ?_ (State.queueTx_eff ..) (by decide)
      exact Eff.refl _ _

theorem State.ptpAnnounceSend_eff (s : State) : Eff 4259872 s (State.ptpAnnounceSend s) := by
  unfold State.ptpAnnounceSend
  refine Eff.ite (fun _ => ?_) (fun _ => ?_)
  · exact Eff.refl _ _
  · extract_lets -merge -underBinder t0 t1 t2 t3
    try clear_value t1
    try clear_value t2
    have e4 : Eff 4259872 s t0 := by
      refine Eff.app ?_ (State.advanceDev_eff ..) (by decide)
      exact Eff.refl _ _
    try clear_value t0
    have e5 : Eff 4259872 s t3 := by
      refine Eff.app ?_ (Eff.set_ptp _ _) (by decide)
      exact e4
    try clear_value t3
    refine Eff.app ?_ (Eff.foldl (m := 4259872) ?_ _ _) (Nat.or_self _)
    · exact e5
    · intro y6 y7
      refine Eff.app ?_ (State.queueTx_eff ..) (by decide)
      exact Eff.refl _ _

theorem State.ptpOfsWrite_eff (s : State) (v : Nat) : Eff 1048670 s (State.ptpOfsWrite s v) := by
  unfold State.ptpOfsWrite
  refine Eff.ite (fun _ => ?_) (fun _ => ?_)
  · exact Eff.refl _ _
  · refine Eff.app ?_ (State.ptpStep_eff ..) (by decide)
    exact Eff.refl _ _

theorem State.ptpRole_eff (s : State) : Eff 4194306 s (State.ptpRole s) := by
  unfold State.ptpRole
  extract_lets -merge -underBinder t0 t1
  have e2 : Eff 4194306 s t0 := by
    refine Eff.app ?_ (Eff.set_ptp _ _) (by decide)
    exact Eff.refl _ _
  try clear_value t0
  have e3 : Eff 4194306 s t1 := by
    refine Eff.app ?_ (State.setFld_eff ..) (by decide)
    exact e2
  try clear_value t1
  refine Eff.ite (fun _ => ?_) (fun _ => ?_)
  · refine Eff.app ?_ (State.setFld_eff ..) (by decide)
    exact e3
  · exact e3

end Sys2Proof.Machine
end

