-- ==== Sys2Proof/Laws/EffReplay.lean ====
section
/-! SUPPORT. What each operation of Machine/Replay.lean can touch, by unit of the state (see Laws/Effect.lean). -/

set_option linter.unusedVariables false
set_option linter.unusedTactic false
set_option linter.unreachableTactic false

namespace Sys2Proof.Machine

theorem State.readDdr_eff (s : State) (a : Nat) (n : Nat) : Eff 94 s (State.readDdr s a n).1 := by
  unfold State.readDdr
  refine Eff.ite1 (fun _ => ?_) (fun _ => ?_)
  · refine Eff.app ?_ (State.read_eff ..) (by decide)
    exact Eff.refl _ _
  · refine Eff.fst ?_
    exact Eff.refl _ _

theorem State.setReplayLane_eff (s : State) (n : Nat) (x : Option DecodeLane) : Eff 524288 s (State.setReplayLane s n x) := by
  unfold State.setReplayLane
  refine Eff.app ?_ (Eff.set_replay _ _) (by decide)
  exact Eff.refl _ _

theorem State.notDecoded_eff (s : State) (e : ReplayEnt) (ep : Option Nat) (sub : Nat) : Eff 8589934942 s (State.notDecoded s e ep sub) := by
  unfold State.notDecoded
  extract_lets -merge -underBinder t0
  have e1 : Eff 8589934942 s t0 := by
    refine Eff.app ?_ (State.bump_eff ..) (by decide)
    exact Eff.refl _ _
  try clear_value t0
  refine Eff.ite (fun _ => ?_) (fun _ => ?_)
  · exact e1
  · split
    · rename_i q2
      extract_lets -merge -underBinder t3
      try clear_value t3
      refine Eff.app ?_ (State.replayRecord_eff ..) (by decide)
      refine Eff.of_pair ?_ q2
      split
      · refine Eff.fst ?_
        exact e1
      · refine Eff.app ?_ (State.drawFree_eff ..) (by decide)
        exact e1

theorem State.sampleError_eff (s : State) (e : ReplayEnt) : Eff 8589934942 s (State.sampleError s e) := by
  unfold State.sampleError
  extract_lets -merge -underBinder t0
  have e1 : Eff 8589934942 s t0 := by
    refine Eff.app ?_ (State.bump_eff ..) (by decide)
    exact Eff.refl _ _
  try clear_value t0
  split
  · rename_i q2
    extract_lets -merge -underBinder t3
    try clear_value t3
    refine Eff.app ?_ (State.replayRecord_eff ..) (by decide)
    refine Eff.app ?_ (Eff.of_pair (State.drawFree_eff ..) q2) (by decide)
    exact e1

theorem State.startLane_eff (s : State) (n : Nat) (e : ReplayEnt) (load : Bool) : Eff 524288 s (State.startLane s n e load) := by
  unfold State.startLane
  extract_lets -merge -underBinder t0 t1
  try clear_value t1
  have e2 : Eff 524288 s t0 := by
    refine Eff.app ?_ (State.setReplayLane_eff ..) (by decide)
    exact Eff.refl _ _
  try clear_value t0
  refine Eff.app ?_ (Eff.set_replay _ _) (by decide)
  exact e2

theorem State.decodeChecks_eff (s : State) (n : Nat) (e : ReplayEnt) : Eff 8590459230 s (State.decodeChecks s n e) := by
  unfold State.decodeChecks
  refine Eff.ite (fun _ => ?_) (fun _ => ?_)
  · refine Eff.app ?_ (State.notDecoded_eff ..) (by decide)
    exact Eff.refl _ _
  · split
    · refine Eff.app ?_ (State.sampleError_eff ..) (by decide)
      refine Eff.app ?_ (Eff.of_pair (State.readDdr_eff ..) (by assumption)) (by decide)
      exact Eff.refl _ _
    · split
      · refine Eff.app ?_ (State.notDecoded_eff ..) (by decide)
        refine Eff.app ?_ (Eff.of_pair (State.readDdr_eff ..) (by assumption)) (by decide)
        exact Eff.refl _ _
      · refine Eff.ite (fun _ => ?_) (fun _ => ?_)
        · refine Eff.app ?_ (State.notDecoded_eff ..) (by decide)
          refine Eff.app ?_ (Eff.of_pair (State.readDdr_eff ..) (by assumption)) (by decide)
          exact Eff.refl _ _
        · split
          · refine Eff.app ?_ (State.sampleError_eff ..) (by decide)
            refine Eff.app ?_ (Eff.of_pair (State.readDdr_eff ..) (by assumption)) (by decide)
            refine Eff.app ?_ (Eff.of_pair (State.readDdr_eff ..) (by assumption)) (by decide)
            exact Eff.refl _ _
          · refine Eff.ite (fun _ => ?_) (fun _ => ?_)
            · refine Eff.app ?_ (State.notDecoded_eff ..) (by decide)
              refine Eff.app ?_ (Eff.of_pair (State.readDdr_eff ..) (by assumption)) (by decide)
              refine Eff.app ?_ (Eff.of_pair (State.readDdr_eff ..) (by assumption)) (by decide)
              exact Eff.refl _ _
            · refine Eff.ite (fun _ => ?_) (fun _ => ?_)
              · refine Eff.app ?_ (State.notDecoded_eff ..) (by decide)
                refine Eff.app ?_ (Eff.of_pair (State.readDdr_eff ..) (by assumption)) (by decide)
                refine Eff.app ?_ (Eff.of_pair (State.readDdr_eff ..) (by assumption)) (by decide)
                exact Eff.refl _ _
              · refine Eff.ite (fun _ => ?_) (fun _ => ?_)
                · refine Eff.app ?_ (State.notDecoded_eff ..) (by decide)
                  refine Eff.app ?_ (Eff.of_pair (State.readDdr_eff ..) (by assumption)) (by decide)
                  refine Eff.app ?_ (Eff.of_pair (State.readDdr_eff ..) (by assumption)) (by decide)
                  exact Eff.refl _ _
                · refine Eff.app ?_ (State.startLane_eff ..) (by decide)
                  refine Eff.app ?_ (Eff.of_pair (State.readDdr_eff ..) (by assumption)) (by decide)
                  refine Eff.app ?_ (Eff.of_pair (State.readDdr_eff ..) (by assumption)) (by decide)
                  exact Eff.refl _ _

theorem State.replayTake_eff (s : State) (up : Upsets) : Eff 8590459230 s (State.replayTake s up) := by
  unfold State.replayTake
  refine Eff.ite (fun _ => ?_) (fun _ => ?_)
  · exact Eff.refl _ _
  · split
    · exact Eff.refl _ _
    · split
      · refine Eff.app ?_ (Eff.of_pair (State.takeEntry_eff ..) (by assumption)) (by decide)
        refine Eff.app ?_ (State.upset_eff ..) (by decide)
        exact Eff.refl _ _
      · extract_lets -merge -underBinder t0
        try clear_value t0
        refine Eff.ite (fun _ => ?_) (fun _ => ?_)
        · refine Eff.app ?_ (State.notDecoded_eff ..) (by decide)
          refine Eff.app ?_ (Eff.of_pair (State.takeEntry_eff ..) (by assumption)) (by decide)
          refine Eff.app ?_ (State.upset_eff ..) (by decide)
          exact Eff.refl _ _
        · refine Eff.ite (fun _ => ?_) (fun _ => ?_)
          · exact Eff.refl _ _
          · refine Eff.ite (fun _ => ?_) (fun _ => ?_)
            · split
              · refine Eff.app ?_ (State.sampleError_eff ..) (by decide)
                refine Eff.app ?_ (Eff.of_pair (State.readDdr_eff ..) (by assumption)) (by decide)
                refine Eff.app ?_ (Eff.of_pair (State.takeEntry_eff ..) (by assumption)) (by decide)
                refine Eff.app ?_ (State.upset_eff ..) (by decide)
                exact Eff.refl _ _
              · refine Eff.ite (fun _ => ?_) (fun _ => ?_)
                · refine Eff.ite (fun _ => ?_) (fun _ => ?_)
                  · refine Eff.app ?_ (State.startLane_eff ..) (by decide)
                    refine Eff.app ?_ (Eff.of_pair (State.readDdr_eff ..) (by assumption)) (by decide)
                    refine Eff.app ?_ (Eff.of_pair (State.takeEntry_eff ..) (by assumption)) (by decide)
                    refine Eff.app ?_ (State.upset_eff ..) (by decide)
                    exact Eff.refl _ _
                  · refine Eff.app ?_ (State.notDecoded_eff ..) (by decide)
                    refine Eff.app ?_ (Eff.of_pair (State.readDdr_eff ..) (by assumption)) (by decide)
                    refine Eff.app ?_ (Eff.of_pair (State.takeEntry_eff ..) (by assumption)) (by decide)
                    refine Eff.app ?_ (State.upset_eff ..) (by decide)
                    exact Eff.refl _ _
                · refine Eff.ite (fun _ => ?_) (fun _ => ?_)
                  · refine Eff.app ?_ (State.notDecoded_eff ..) (by decide)
                    refine Eff.app ?_ (Eff.of_pair (State.readDdr_eff ..) (by assumption)) (by decide)
                    refine Eff.app ?_ (Eff.of_pair (State.takeEntry_eff ..) (by assumption)) (by decide)
                    refine Eff.app ?_ (State.upset_eff ..) (by decide)
                    exact Eff.refl _ _
                  · refine Eff.app ?_ (State.decodeChecks_eff ..) (by decide)
                    refine Eff.app ?_ (Eff.of_pair (State.readDdr_eff ..) (by assumption)) (by decide)
                    refine Eff.app ?_ (Eff.of_pair (State.takeEntry_eff ..) (by assumption)) (by decide)
                    refine Eff.app ?_ (State.upset_eff ..) (by decide)
                    exact Eff.refl _ _
            · refine Eff.app ?_ (State.decodeChecks_eff ..) (by decide)
              refine Eff.app ?_ (Eff.of_pair (State.takeEntry_eff ..) (by assumption)) (by decide)
              refine Eff.app ?_ (State.upset_eff ..) (by decide)
              exact Eff.refl _ _

theorem State.cacheStore_eff (s : State) (e : ReplayEnt) (f : Fleece) (rows : List (List Nat)) : Eff 94 s (State.cacheStore s e f rows) := by
  unfold State.cacheStore
  extract_lets -merge -underBinder t0
  try clear_value t0
  refine Eff.ite (fun _ => ?_) (fun _ => ?_)
  · refine Eff.app ?_ (State.bump_eff ..) (by decide)
    exact Eff.refl _ _
  · split
    · rename_i q1
      refine Eff.app ?_ (State.write_eff ..) (by decide)
      refine Eff.app ?_ (Eff.of_pair (State.write_eff ..) q1) (by decide)
      exact Eff.refl _ _

theorem State.emitSample_eff (s : State) (e : ReplayEnt) (f : Fleece) (rows : List (List Nat)) (ts : Nat) : Eff 33630 s (State.emitSample s e f rows ts) := by
  unfold State.emitSample
  extract_lets -merge -underBinder t0 t1 t2 t3 t4 t5 t6 t7
  try clear_value t0
  try clear_value t1
  try clear_value t2
  try clear_value t3
  try clear_value t4
  have e8 : Eff 33630 s t5 := by
    refine Eff.app ?_ (State.write_eff ..) (by decide)
    exact Eff.refl _ _
  try clear_value t5
  have e9 : Eff 33630 s t6 := by
    refine Eff.app ?_ (State.write_eff ..) (by decide)
    exact e8
  try clear_value t6
  have e10 : Eff 33630 s t7 := by
    refine Eff.app ?_ (State.bump_eff ..) (by decide)
    exact e9
  try clear_value t7
  split
  · refine Eff.ite (fun _ => ?_) (fun _ => ?_)
    · refine Eff.app ?_ (State.replayRecord_eff ..) (by decide)
      exact e10
    · refine Eff.app ?_ (State.submit_eff ..) (by decide)
      refine Eff.app ?_ (State.holdTile_eff ..) (by decide)
      exact e10
  · refine Eff.app ?_ (State.replayRecord_eff ..) (by decide)
    exact e10

theorem State.laneDecode_eff (s : State) (x : DecodeLane) : Eff 94 s (State.laneDecode s x).1 := by
  unfold State.laneDecode
  extract_lets -merge -underBinder t0
  try clear_value t0
  refine Eff.ite1 (fun _ => ?_) (fun _ => ?_)
  · split
    · refine Eff.fst ?_
      refine Eff.app ?_ (Eff.of_pair (State.readDdr_eff ..) (by assumption)) (by decide)
      exact Eff.refl _ _
    · extract_lets -merge -underBinder t1
      try clear_value t1
      split
      · refine Eff.fst ?_
        refine Eff.app ?_ (Eff.of_pair (State.readDdr_eff ..) (by assumption)) (by decide)
        refine Eff.app ?_ (Eff.of_pair (State.readDdr_eff ..) (by assumption)) (by decide)
        exact Eff.refl _ _
      · refine Eff.fst ?_
        refine Eff.app ?_ (Eff.of_pair (State.readDdr_eff ..) (by assumption)) (by decide)
        refine Eff.app ?_ (Eff.of_pair (State.readDdr_eff ..) (by assumption)) (by decide)
        exact Eff.refl _ _
  · split
    · refine Eff.fst ?_
      refine Eff.app ?_ (Eff.of_pair (State.readDdr_eff ..) (by assumption)) (by decide)
      exact Eff.refl _ _
    · split
      · refine Eff.fst ?_
        refine Eff.app ?_ (Eff.of_pair (State.readDdr_eff ..) (by assumption)) (by decide)
        exact Eff.refl _ _
      · split
        · refine Eff.fst ?_
          refine Eff.app ?_ (Eff.of_pair (State.readDdr_eff ..) (by assumption)) (by decide)
          exact Eff.refl _ _
        · refine Eff.fst ?_
          refine Eff.app ?_ (Eff.of_pair (State.readDdr_eff ..) (by assumption)) (by decide)
          exact Eff.refl _ _

theorem State.replayExpire_eff (s : State) (n : Nat) : Eff 8590459262 s (State.replayExpire s n) := by
  unfold State.replayExpire
  split
  · exact Eff.refl _ _
  · refine Eff.ite (fun _ => ?_) (fun _ => ?_)
    · exact Eff.refl _ _
    · extract_lets -merge -underBinder t0 t1
      try clear_value t1
      have e2 : Eff 8590459262 s t0 := by
        refine Eff.app ?_ (State.advanceTo_eff ..) (by decide)
        exact Eff.refl _ _
      try clear_value t0
      refine Eff.app ?_ (State.notDecoded_eff ..) (by decide)
      refine Eff.app ?_ (State.setReplayLane_eff ..) (by decide)
      exact e2

theorem State.replayDone_eff (s : State) (n : Nat) (up : Upsets) : Eff 8590492542 s (State.replayDone s n up) := by
  unfold State.replayDone
  split
  · exact Eff.refl _ _
  · refine Eff.ite (fun _ => ?_) (fun _ => ?_)
    · refine Eff.app ?_ (State.replayExpire_eff ..) (by decide)
      exact Eff.refl _ _
    · extract_lets -merge -underBinder t0
      try clear_value t0
      split
      · refine Eff.app ?_ (State.sampleError_eff ..) (by decide)
        refine Eff.app ?_ (State.setReplayLane_eff ..) (by decide)
        refine Eff.app ?_ (Eff.of_pair (State.laneDecode_eff ..) (by assumption)) (by decide)
        refine Eff.app ?_ (State.upset_eff ..) (by decide)
        exact Eff.refl _ _
      · refine Eff.app ?_ (State.notDecoded_eff ..) (by decide)
        refine Eff.app ?_ (State.setReplayLane_eff ..) (by decide)
        refine Eff.app ?_ (Eff.of_pair (State.laneDecode_eff ..) (by assumption)) (by decide)
        refine Eff.app ?_ (State.upset_eff ..) (by decide)
        exact Eff.refl _ _
      · split
        · refine Eff.app ?_ (State.setReplayLane_eff ..) (by decide)
          exact Eff.refl _ _
        · extract_lets -merge -underBinder t1 t2
          have e3 : Eff 8590492542 s t1 := by
            refine Eff.app ?_ (State.setReplayLane_eff ..) (by decide)
            refine Eff.app ?_ (Eff.of_pair (State.laneDecode_eff ..) (by assumption)) (by decide)
            refine Eff.app ?_ (State.upset_eff ..) (by decide)
            exact Eff.refl _ _
          try clear_value t1
          have e4 : Eff 8590492542 s t2 := by
            refine Eff.ite (fun _ => ?_) (fun _ => ?_)
            · refine Eff.app ?_ (State.cacheStore_eff ..) (by decide)
              exact e3
            · exact e3
          try clear_value t2
          refine Eff.app ?_ (State.emitSample_eff ..) (by decide)
          exact e4

theorem State.replayEnable_eff (s : State) (v : Nat) : Eff 524290 s (State.replayEnable s v) := by
  unfold State.replayEnable
  extract_lets -merge -underBinder t0 t1 t2 t3 t4
  try clear_value t0
  try clear_value t1
  try clear_value t4
  have e5 : Eff 524290 s t2 := by
    refine Eff.ite (fun _ => ?_) (fun _ => ?_)
    · refine Eff.app ?_ (State.setFld_eff ..) (by decide)
      exact Eff.refl _ _
    · exact Eff.refl _ _
  try clear_value t2
  have e6 : Eff 524290 s t3 := by
    refine Eff.app ?_ (State.setFlag_eff ..) (by decide)
    exact e5
  try clear_value t3
  refine Eff.ite (fun _ => ?_) (fun _ => ?_)
  · refine Eff.app ?_ (Eff.set_replay _ _) (by decide)
    exact e6
  · exact e6

theorem State.replayClear_eff (s : State) (v : Nat) : Eff 2 s (State.replayClear s v) := by
  unfold State.replayClear
  refine Eff.ite (fun _ => ?_) (fun _ => ?_)
  · refine Eff.app ?_ (State.setFld_eff ..) (by decide)
    refine Eff.app ?_ (State.setFld_eff ..) (by decide)
    refine Eff.app ?_ (State.setFld_eff ..) (by decide)
    exact Eff.refl _ _
  · exact Eff.refl _ _

theorem State.auditPrune_eff (s : State) : Eff 32768 s (State.auditPrune s) := by
  unfold State.auditPrune
  extract_lets -merge -underBinder t0 t1
  try clear_value t0
  try clear_value t1
  refine Eff.app ?_ (Eff.set_audit _ _) (by decide)
  exact Eff.refl _ _

theorem State.auditPost_eff (s : State) (q : AuditReq) (img : List Byte) : Eff 32862 s (State.auditPost s q img) := by
  unfold State.auditPost
  extract_lets -merge -underBinder t0 t1 t2 t3 t4 t5 t6 t7 t8 t9
  try clear_value t0
  try clear_value t1
  try clear_value t2
  try clear_value t3
  try clear_value t4
  try clear_value t5
  try clear_value t6
  try clear_value t9
  have e10 : Eff 32862 s t7 := by
    refine Eff.app ?_ (State.write_eff ..) (by decide)
    exact Eff.refl _ _
  try clear_value t7
  have e11 : Eff 32862 s t8 := by
    unfold t8
    split
    · refine Eff.app ?_ (State.reportRefused_eff ..) (by decide)
      refine Eff.app ?_ (Eff.of_pair (State.ringPost_eff ..) (by assumption)) (by decide)
      exact e10
    · refine Eff.app ?_ (Eff.of_pair (State.ringPost_eff ..) (by assumption)) (by decide)
      exact e10
  try clear_value t8
  refine Eff.ite (fun _ => ?_) (fun _ => ?_)
  · refine Eff.app ?_ (State.bump_eff ..) (by decide)
    exact Eff.refl _ _
  · refine Eff.app ?_ (Eff.set_audit _ _) (by decide)
    exact e11

theorem State.fleeceDone_eff (s : State) (up : Upsets) : Eff 32862 s (State.fleeceDone s up) := by
  unfold State.fleeceDone
  split
  · exact Eff.refl _ _
  · refine Eff.ite (fun _ => ?_) (fun _ => ?_)
    · exact Eff.refl _ _
    · extract_lets -merge -underBinder t0 t1 t2 t3
      try clear_value t0
      try clear_value t2
      have e4 : Eff 32862 s t1 := by
        refine Eff.app ?_ (State.upset_eff ..) (by decide)
        refine Eff.app ?_ (State.auditPrune_eff ..) (by decide)
        refine Eff.app ?_ (Eff.set_audit _ _) (by decide)
        exact Eff.refl _ _
      try clear_value t1
      have e5 : Eff 32862 s t3 := by
        unfold t3
        split
        · refine Eff.app ?_ (State.bump_eff ..) (by decide)
          refine Eff.app ?_ (Eff.of_pair (State.read_eff ..) (by assumption)) (by decide)
          exact e4
        · extract_lets -merge -underBinder t6 t7 t8 t9 t10
          try clear_value t6
          try clear_value t7
          try clear_value t8
          try clear_value t9
          try clear_value t10
          split
          · refine Eff.app ?_ (State.bump_eff ..) (by decide)
            refine Eff.app ?_ (Eff.of_pair (State.read_eff ..) (by assumption)) (by decide)
            refine Eff.app ?_ (Eff.of_pair (State.read_eff ..) (by assumption)) (by decide)
            exact e4
          · extract_lets -merge -underBinder t11
            try clear_value t11
            refine Eff.app ?_ (State.auditPost_eff ..) (by decide)
            refine Eff.app ?_ (Eff.of_pair (State.read_eff ..) (by assumption)) (by decide)
            refine Eff.app ?_ (Eff.of_pair (State.read_eff ..) (by assumption)) (by decide)
            exact e4
      try clear_value t3
      refine Eff.app ?_ (State.dropTile_eff ..) (by decide)
      exact e5

end Sys2Proof.Machine
end

