-- ==== Sys2Proof/Laws/EffMemDma.lean ====
section
/-! SUPPORT. What each operation of Machine/MemDma.lean can touch, by unit of the state (see Laws/Effect.lean). -/

set_option linter.unusedVariables false
set_option linter.unusedTactic false
set_option linter.unreachableTactic false

namespace Sys2Proof.Machine

theorem State.scrubRead_eff (s : State) (up : Upsets) : Eff 94 s (State.scrubRead s up) := by
  unfold State.scrubRead
  refine Eff.ite (fun _ => ?_) (fun _ => ?_)
  · exact Eff.refl _ _
  · extract_lets -merge -underBinder t0 t1 t2
    try clear_value t1
    have e3 : Eff 94 s t0 := by
      refine Eff.app ?_ (State.upset_eff ..) (by decide)
      exact Eff.refl _ _
    try clear_value t0
    have e4 : Eff 94 s t2 := by
      unfold t2
      split
      · exact e3
      · refine Eff.app ?_ (State.setMark_eff ..) (by decide)
        refine Eff.app ?_ (State.noteCorrected_eff ..) (by decide)
        exact e3
      · refine Eff.app ?_ (State.noteUncorrectable_eff ..) (by decide)
        exact e3
    try clear_value t2
    refine Eff.ite (fun _ => ?_) (fun _ => ?_)
    · refine Eff.app ?_ (State.bump_eff ..) (by decide)
      refine Eff.app ?_ (State.setFld_eff ..) (by decide)
      exact e4
    · refine Eff.app ?_ (State.setFld_eff ..) (by decide)
      exact e4

theorem State.mmCe_eff (s : State) : Eff 126 s (State.mmCe s) := by
  unfold State.mmCe
  extract_lets -merge -underBinder t0 t1 t2 t3 t4
  try clear_value t1
  try clear_value t2
  try clear_value t3
  have e5 : Eff 126 s t0 := by
    unfold t0
    split
    · refine Eff.app ?_ (State.advanceDev_eff ..) (by decide)
      exact Eff.refl _ _
    · exact Eff.refl _ _
  try clear_value t0
  have e6 : Eff 126 s t4 := by
    refine Eff.app ?_ (Eff.set_ev _ _) (by decide)
    exact e5
  try clear_value t4
  refine Eff.ite (fun _ => ?_) (fun _ => ?_)
  · exact e5
  · refine Eff.app ?_ (State.raise_eff ..) (by decide)
    exact e6

theorem State.sramCe_eff (s : State) (code : Nat) : Eff 126 s (State.sramCe s code) := by
  unfold State.sramCe
  extract_lets -merge -underBinder t0 t1 t2 t3 t4
  try clear_value t0
  try clear_value t2
  try clear_value t3
  have e5 : Eff 126 s t1 := by
    unfold t1
    split
    · refine Eff.app ?_ (State.advanceDev_eff ..) (by decide)
      exact Eff.refl _ _
    · exact Eff.refl _ _
  try clear_value t1
  have e6 : Eff 126 s t4 := by
    refine Eff.app ?_ (Eff.set_ev _ _) (by decide)
    exact e5
  try clear_value t4
  refine Eff.ite (fun _ => ?_) (fun _ => ?_)
  · exact e5
  · refine Eff.app ?_ (State.raise_eff ..) (by decide)
    exact e6

theorem State.holdCpCold_eff (s : State) : Eff 6442451038 s (State.holdCpCold s) := by
  unfold State.holdCpCold
  refine Eff.app ?_ (State.hold_eff ..) (by decide)
  refine Eff.app ?_ (Eff.set_health _ _) (by decide)
  exact Eff.refl _ _

theorem State.withdrawSlot_eff (s : State) (i : Nat) : Eff 8590233350 s (State.withdrawSlot s i) := by
  unfold State.withdrawSlot
  extract_lets -merge -underBinder t0 t1 t2 t3 t4 t5 t6 t7 t8 t9 t10 t11 t12
  try clear_value t0
  try clear_value t2
  try clear_value t3
  try clear_value t8
  try clear_value t9
  try clear_value t11
  have e13 : Eff 8590233350 s t1 := by
    refine Eff.app ?_ (Eff.set_fold _ _) (by decide)
    exact Eff.refl _ _
  try clear_value t1
  have e14 : Eff 8590233350 s t4 := by
    refine Eff.app ?_ (Eff.set_shep _ _) (by decide)
    exact e13
  try clear_value t4
  have e15 : Eff 8590233350 s t5 := by
    refine Eff.app ?_ (Eff.foldl (m := 8590233350) ?_ _ _) (Nat.or_self _)
    · exact e14
    · intro y16 y17
      split
      · refine Eff.ite (fun _ => ?_) (fun _ => ?_)
        · refine Eff.app ?_ (State.setJob_eff ..) (by decide)
          refine Eff.app ?_ (State.withdrawJob_eff ..) (by decide)
          exact Eff.refl _ _
        · exact Eff.refl _ _
      · exact Eff.refl _ _
  try clear_value t5
  have e18 : Eff 8590233350 s t6 := by
    refine Eff.app ?_ (State.abandonStream_eff ..) (by decide)
    exact e15
  try clear_value t6
  have e19 : Eff 8590233350 s t7 := by
    unfold t7
    split
    · refine Eff.app ?_ (State.dropTile_eff ..) (by decide)
      exact e18
    · exact e18
  try clear_value t7
  have e20 : Eff 8590233350 s t10 := by
    refine Eff.ite (fun _ => ?_) (fun _ => ?_)
    · refine Eff.app ?_ (Eff.set_px _ _) (by decide)
      exact e19
    · exact e19
  try clear_value t10
  have e21 : Eff 8590233350 s t12 := by
    refine Eff.app ?_ (Eff.set_px _ _) (by decide)
    exact e20
  try clear_value t12
  refine Eff.ite (fun _ => ?_) (fun _ => ?_)
  · exact e13
  · refine Eff.app ?_ (State.noteUsed_eff ..) (by decide)
    refine Eff.app ?_ (State.setSlot_eff ..) (by decide)
    exact e21

theorem State.tallyError_eff (s : State) (i : Nat) (hard : Bool) : Eff 15032684382 s (State.tallyError s i hard) := by
  unfold State.tallyError
  refine Eff.ite (fun _ => ?_) (fun _ => ?_)
  · exact Eff.refl _ _
  · refine Eff.ite (fun _ => ?_) (fun _ => ?_)
    · refine Eff.app ?_ (State.bumpSat_eff ..) (by decide)
      exact Eff.refl _ _
    · extract_lets -merge -underBinder t0
      have e1 : Eff 15032684382 s t0 := by
        refine Eff.app ?_ (State.holdCpCold_eff ..) (by decide)
        refine Eff.app ?_ (State.raise_eff ..) (by decide)
        refine Eff.app ?_ (State.bumpSat_eff ..) (by decide)
        exact Eff.refl _ _
      try clear_value t0
      refine Eff.ite (fun _ => ?_) (fun _ => ?_)
      · exact e1
      · refine Eff.app ?_ (State.withdrawSlot_eff ..) (by decide)
        exact e1

theorem State.ringError_eff (s : State) (r : Nat) (hard : Bool) : Eff 94 s (State.ringError s r hard) := by
  unfold State.ringError
  refine Eff.ite (fun _ => ?_) (fun _ => ?_)
  · exact Eff.refl _ _
  · refine Eff.ite (fun _ => ?_) (fun _ => ?_)
    · refine Eff.app ?_ (State.bumpSat_eff ..) (by decide)
      exact Eff.refl _ _
    · extract_lets -merge -underBinder t0 t1
      try clear_value t0
      have e2 : Eff 94 s t1 := by
        refine Eff.app ?_ (State.setRing_eff ..) (by decide)
        refine Eff.app ?_ (State.bumpSat_eff ..) (by decide)
        exact Eff.refl _ _
      try clear_value t1
      refine Eff.app ?_ (State.raise_eff ..) (by decide)
      refine Eff.app ?_ (State.raise_eff ..) (by decide)
      exact e2

theorem State.dmaLines_eff (s : State) (lo : Nat) (a : Nat) : Eff 94 s (State.dmaLines s lo a).1 := by
  unfold State.dmaLines
  refine Eff.app ?_ (Eff.foldlp (m := 94) ?_ _ _) (Nat.or_self _)
  · refine Eff.fst ?_
    exact Eff.refl _ _
  · intro y0 y1
    refine Eff.ite1 (fun _ => ?_) (fun _ => ?_)
    · split
      · rename_i q2
        refine Eff.fst ?_
        refine Eff.app ?_ (Eff.of_pair (State.read_eff ..) q2) (by decide)
        exact Eff.refl _ _
    · exact Eff.refl _ _

theorem State.dmaWrite_eff (s : State) (a : Nat) (bs : List Byte) : Eff 94 s (State.dmaWrite s a bs).1 := by
  unfold State.dmaWrite
  refine Eff.ite1 (fun _ => ?_) (fun _ => ?_)
  · refine Eff.fst ?_
    refine Eff.app ?_ (Eff.foldl (m := 94) ?_ _ _) (Nat.or_self _)
    · exact Eff.refl _ _
    · intro y0 y1
      refine Eff.app ?_ (State.write_eff ..) (by decide)
      exact Eff.refl _ _
  · refine Eff.app ?_ (State.write_eff ..) (by decide)
    exact Eff.refl _ _

theorem dmaCopy_eff (a0 : Nat) (a1 : State) (a2 : Nat) (a3 : Nat) (a4 : Nat) (a5 : Nat) (a6 : Nat) : Eff 94 a1 (dmaCopy a0 a1 a2 a3 a4 a5 a6).1 := by
  induction a0 generalizing a1 a2 a3 a4 a5 a6 with
  | zero =>
    rw [dmaCopy]
    refine Eff.fst ?_
    exact Eff.refl _ _
  | succ fuel ih =>
    rw [dmaCopy]
    refine Eff.ite1 (fun _ => ?_) (fun _ => ?_)
    · refine Eff.fst ?_
      exact Eff.refl _ _
    · extract_lets -merge -underBinder t0
      try clear_value t0
      split
      · refine Eff.fst ?_
        refine Eff.app ?_ (Eff.of_pair (State.dmaLines_eff ..) (by assumption)) (by decide)
        exact Eff.refl _ _
      · split
        · refine Eff.fst ?_
          refine Eff.app ?_ (Eff.of_pair (State.dmaWrite_eff ..) (by assumption)) (by decide)
          refine Eff.app ?_ (Eff.of_pair (State.dmaLines_eff ..) (by assumption)) (by decide)
          exact Eff.refl _ _
        · refine Eff.app ?_ (ih ..) (Nat.or_self _)
          refine Eff.app ?_ (Eff.of_pair (State.dmaWrite_eff ..) (by assumption)) (by decide)
          refine Eff.app ?_ (Eff.of_pair (State.dmaLines_eff ..) (by assumption)) (by decide)
          exact Eff.refl _ _

theorem dmaFill_eff (a0 : Nat) (a1 : State) (a2 : Nat) (a3 : Nat) (a4 : Nat) (a5 : Nat) : Eff 94 a1 (dmaFill a0 a1 a2 a3 a4 a5).1 := by
  induction a0 generalizing a1 a2 a3 a4 a5 with
  | zero =>
    rw [dmaFill]
    refine Eff.fst ?_
    exact Eff.refl _ _
  | succ fuel ih =>
    rw [dmaFill]
    refine Eff.ite1 (fun _ => ?_) (fun _ => ?_)
    · refine Eff.fst ?_
      exact Eff.refl _ _
    · extract_lets -merge -underBinder t0
      try clear_value t0
      split
      · refine Eff.fst ?_
        refine Eff.app ?_ (Eff.of_pair (State.dmaWrite_eff ..) (by assumption)) (by decide)
        exact Eff.refl _ _
      · refine Eff.app ?_ (ih ..) (Nat.or_self _)
        refine Eff.app ?_ (Eff.of_pair (State.dmaWrite_eff ..) (by assumption)) (by decide)
        exact Eff.refl _ _

theorem dmaCompare_eff (a0 : Nat) (a1 : State) (a2 : Nat) (a3 : Nat) (a4 : Nat) (a5 : Nat) (a6 : Nat) (a7 : Nat) (a8 : Option Nat) : Eff 94 a1 (dmaCompare a0 a1 a2 a3 a4 a5 a6 a7 a8).1 := by
  induction a0 generalizing a1 a2 a3 a4 a5 a6 a7 a8 with
  | zero =>
    rw [dmaCompare]
    refine Eff.fst ?_
    exact Eff.refl _ _
  | succ fuel ih =>
    rw [dmaCompare]
    refine Eff.ite1 (fun _ => ?_) (fun _ => ?_)
    · refine Eff.fst ?_
      exact Eff.refl _ _
    · extract_lets -merge -underBinder t0
      try clear_value t0
      split
      · refine Eff.fst ?_
        refine Eff.app ?_ (Eff.of_pair (State.dmaLines_eff ..) (by assumption)) (by decide)
        exact Eff.refl _ _
      · split
        · refine Eff.fst ?_
          refine Eff.app ?_ (Eff.of_pair (State.dmaLines_eff ..) (by assumption)) (by decide)
          refine Eff.app ?_ (Eff.of_pair (State.dmaLines_eff ..) (by assumption)) (by decide)
          exact Eff.refl _ _
        · extract_lets -merge -underBinder t1
          try clear_value t1
          refine Eff.app ?_ (ih ..) (Nat.or_self _)
          refine Eff.app ?_ (Eff.of_pair (State.dmaLines_eff ..) (by assumption)) (by decide)
          refine Eff.app ?_ (Eff.of_pair (State.dmaLines_eff ..) (by assumption)) (by decide)
          exact Eff.refl _ _

theorem State.dmaRun_eff (s : State) (d : DmaDesc) : Eff 94 s (State.dmaRun s d).1 := by
  unfold State.dmaRun
  extract_lets -merge -underBinder t0
  try clear_value t0
  split
  · split
    · rename_i q1
      refine Eff.fst ?_
      refine Eff.app ?_ (Eff.of_pair (dmaCopy_eff ..) q1) (by decide)
      exact Eff.refl _ _
  · split
    · rename_i q2
      refine Eff.fst ?_
      refine Eff.app ?_ (Eff.of_pair (dmaFill_eff ..) q2) (by decide)
      exact Eff.refl _ _
  · split
    · rename_i q3
      split
      · refine Eff.fst ?_
        refine Eff.app ?_ (Eff.of_pair (dmaCompare_eff ..) q3) (by decide)
        exact Eff.refl _ _
      · refine Eff.fst ?_
        refine Eff.app ?_ (Eff.of_pair (dmaCompare_eff ..) q3) (by decide)
        exact Eff.refl _ _
      · refine Eff.fst ?_
        refine Eff.app ?_ (Eff.of_pair (dmaCompare_eff ..) q3) (by decide)
        exact Eff.refl _ _

theorem State.dmaPost_eff (s : State) (c : Nat) (e : List Byte) : Eff 16777310 s (State.dmaPost s c e) := by
  unfold State.dmaPost
  refine Eff.ite (fun _ => ?_) (fun _ => ?_)
  · refine Eff.app ?_ (Eff.set_dma _ _) (by decide)
    exact Eff.refl _ _
  · split
    · refine Eff.app ?_ (Eff.of_pair (State.ringPost_eff ..) (by assumption)) (by decide)
      exact Eff.refl _ _
    · refine Eff.app ?_ (State.reportRefused_eff ..) (by decide)
      refine Eff.app ?_ (Eff.of_pair (State.ringPost_eff ..) (by assumption)) (by decide)
      exact Eff.refl _ _
    · refine Eff.app ?_ (Eff.set_dma _ _) (by decide)
      refine Eff.app ?_ (Eff.of_pair (State.ringPost_eff ..) (by assumption)) (by decide)
      exact Eff.refl _ _

theorem State.dmaPostWaiting_eff (s : State) : Eff 16777310 s (State.dmaPostWaiting s) := by
  unfold State.dmaPostWaiting
  refine Eff.app ?_ (Eff.foldl (m := 16777310) ?_ _ _) (Nat.or_self _)
  · exact Eff.refl _ _
  · intro y0 y1
    refine Eff.app ?_ (State.dmaPost_eff ..) (by decide)
    refine Eff.app ?_ (Eff.set_dma _ _) (by decide)
    exact Eff.refl _ _

theorem State.dmaHalt_eff (s : State) (c : Nat) (status : Nat) : Eff 94 s (State.dmaHalt s c status) := by
  unfold State.dmaHalt
  refine Eff.app ?_ (State.raise_eff ..) (by decide)
  refine Eff.app ?_ (State.setFld_eff ..) (by decide)
  refine Eff.app ?_ (State.setFld_eff ..) (by decide)
  exact Eff.refl _ _

theorem State.dmaTake_eff (s : State) (c : Nat) (op : Nat) (up : Upsets) : Eff 16777310 s (State.dmaTake s c op up) := by
  unfold State.dmaTake
  refine Eff.ite (fun _ => ?_) (fun _ => ?_)
  · exact Eff.refl _ _
  · extract_lets -merge -underBinder t0 t1 t2 t3 t4
    try clear_value t0
    try clear_value t1
    try clear_value t2
    try clear_value t3
    have e5 : Eff 16777310 s t4 := by
      refine Eff.app ?_ (State.upset_eff ..) (by decide)
      exact Eff.refl _ _
    try clear_value t4
    refine Eff.ite (fun _ => ?_) (fun _ => ?_)
    · exact Eff.refl _ _
    · split
      · refine Eff.app ?_ (State.raise_eff ..) (by decide)
        refine Eff.app ?_ (State.consume_eff ..) (by decide)
        refine Eff.app ?_ (Eff.of_pair (State.read_eff ..) (by assumption)) (by decide)
        exact e5
      · extract_lets -merge -underBinder t6
        try clear_value t6
        split
        · rename_i q7
          extract_lets -merge -underBinder t8 t9
          have e10 : Eff 16777310 s t8 := by
            refine Eff.ite (fun _ => ?_) (fun _ => ?_)
            · refine Eff.app ?_ (State.bump_eff ..) (by decide)
              refine Eff.app ?_ (State.consume_eff ..) (by decide)
              refine Eff.of_pair ?_ q7
              refine Eff.ite1 (fun _ => ?_) (fun _ => ?_)
              · refine Eff.fst ?_
                refine Eff.app ?_ (Eff.of_pair (State.read_eff ..) (by assumption)) (by decide)
                exact e5
              · refine Eff.ite1 (fun _ => ?_) (fun _ => ?_)
                · refine Eff.fst ?_
                  refine Eff.app ?_ (Eff.of_pair (State.read_eff ..) (by assumption)) (by decide)
                  exact e5
                · refine Eff.app ?_ (State.dmaRun_eff ..) (by decide)
                  refine Eff.app ?_ (Eff.of_pair (State.read_eff ..) (by assumption)) (by decide)
                  exact e5
            · refine Eff.of_pair ?_ q7
              refine Eff.ite1 (fun _ => ?_) (fun _ => ?_)
              · refine Eff.fst ?_
                refine Eff.app ?_ (Eff.of_pair (State.read_eff ..) (by assumption)) (by decide)
                exact e5
              · refine Eff.ite1 (fun _ => ?_) (fun _ => ?_)
                · refine Eff.fst ?_
                  refine Eff.app ?_ (Eff.of_pair (State.read_eff ..) (by assumption)) (by decide)
                  exact e5
                · refine Eff.app ?_ (State.dmaRun_eff ..) (by decide)
                  refine Eff.app ?_ (Eff.of_pair (State.read_eff ..) (by assumption)) (by decide)
                  exact e5
          try clear_value t8
          have e13 : Eff 16777310 s t9 := by
            refine Eff.ite (fun _ => ?_) (fun _ => ?_)
            · refine Eff.app ?_ (State.dmaPost_eff ..) (by decide)
              exact e10
            · exact e10
          try clear_value t9
          refine Eff.ite (fun _ => ?_) (fun _ => ?_)
          · exact e13
          · refine Eff.app ?_ (State.dmaHalt_eff ..) (by decide)
            exact e13

theorem State.dmaResume_eff (s : State) (c : Nat) : Eff 22 s (State.dmaResume s c) := by
  unfold State.dmaResume
  refine Eff.ite (fun _ => ?_) (fun _ => ?_)
  · exact Eff.refl _ _
  · extract_lets -merge -underBinder t0 t1
    try clear_value t0
    have e2 : Eff 22 s t1 := by
      refine Eff.ite (fun _ => ?_) (fun _ => ?_)
      · exact Eff.refl _ _
      · refine Eff.app ?_ (State.consume_eff ..) (by decide)
        exact Eff.refl _ _
    try clear_value t1
    refine Eff.app ?_ (State.setFld_eff ..) (by decide)
    exact e2

theorem State.dmaAbort_eff (s : State) (c : Nat) : Eff 22 s (State.dmaAbort s c) := by
  unfold State.dmaAbort
  refine Eff.ite (fun _ => ?_) (fun _ => ?_)
  · exact Eff.refl _ _
  · extract_lets -merge -underBinder t0 t1 t2
    try clear_value t0
    try clear_value t1
    have e3 : Eff 22 s t2 := by
      refine Eff.ite (fun _ => ?_) (fun _ => ?_)
      · exact Eff.refl _ _
      · refine Eff.app ?_ (State.putRing_eff ..) (by decide)
        exact Eff.refl _ _
    try clear_value t2
    refine Eff.app ?_ (State.setFld_eff ..) (by decide)
    exact e3

theorem State.hostIndex_eff (s : State) (r : Nat) (v : Nat) : Eff 94 s (State.hostIndex s r v) := by
  unfold State.hostIndex
  extract_lets -merge -underBinder t0 t1 t2
  try clear_value t0
  try clear_value t1
  try clear_value t2
  refine Eff.ite (fun _ => ?_) (fun _ => ?_)
  · refine Eff.ite (fun _ => ?_) (fun _ => ?_)
    · exact Eff.refl _ _
    · refine Eff.app ?_ (State.putRing_eff ..) (by decide)
      exact Eff.refl _ _
  · refine Eff.ite (fun _ => ?_) (fun _ => ?_)
    · exact Eff.refl _ _
    · refine Eff.app ?_ (State.raise_eff ..) (by decide)
      refine Eff.app ?_ (State.setRing_eff ..) (by decide)
      exact Eff.refl _ _

theorem State.sampleRing_eff (s : State) (r : Nat) : Eff 94 s (State.sampleRing s r) := by
  unfold State.sampleRing
  extract_lets -merge -underBinder t0
  try clear_value t0
  refine Eff.ite (fun _ => ?_) (fun _ => ?_)
  · exact Eff.refl _ _
  · split
    · refine Eff.app ?_ (State.hostIndex_eff ..) (by decide)
      refine Eff.app ?_ (Eff.of_pair (State.read_eff ..) (by assumption)) (by decide)
      exact Eff.refl _ _
    · refine Eff.app ?_ (Eff.of_pair (State.read_eff ..) (by assumption)) (by decide)
      exact Eff.refl _ _

theorem State.ringIndexSample_eff (s : State) (descs : Upsets) (up : Upsets) : Eff 16810590 s (State.ringIndexSample s descs up) := by
  unfold State.ringIndexSample
  refine Eff.ite (fun _ => ?_) (fun _ => ?_)
  · exact Eff.refl _ _
  · extract_lets -merge -underBinder t0 t1
    have e2 : Eff 16810590 s t0 := by
      refine Eff.app ?_ (Eff.foldl (m := 16810590) ?_ _ _) (Nat.or_self _)
      · refine Eff.app ?_ (State.upset_eff ..) (by decide)
        exact Eff.refl _ _
      · intro y3 y4
        refine Eff.app ?_ (State.ringError_eff ..) (by decide)
        exact Eff.refl _ _
    try clear_value t0
    have e5 : Eff 16810590 s t1 := by
      refine Eff.app ?_ (Eff.foldl (m := 16810590) ?_ _ _) (Nat.or_self _)
      · exact e2
      · intro y6 y7
        refine Eff.app ?_ (State.sampleRing_eff ..) (by decide)
        exact Eff.refl _ _
    try clear_value t1
    refine Eff.app ?_ (State.auditPrune_eff ..) (by decide)
    refine Eff.app ?_ (State.dmaPostWaiting_eff ..) (by decide)
    refine Eff.app ?_ (State.postWaiting_eff ..) (by decide)
    exact e5

end Sys2Proof.Machine
end

