-- ==== Sys2Proof/Laws/EffLambOps.lean ====
section
/-! SUPPORT. What each operation of Machine/LambOps.lean can touch, by unit of the state (see Laws/Effect.lean). -/

set_option linter.unusedVariables false
set_option linter.unusedTactic false
set_option linter.unreachableTactic false

namespace Sys2Proof.Machine

theorem State.lbConvRun_eff (s : State) (x : Job) (c : Cmd) : Eff 94 s (State.lbConvRun s x c).1 := by
  unfold State.lbConvRun
  extract_lets -merge -underBinder t0 t1
  try clear_value t0
  try clear_value t1
  split
  · refine Eff.fst ?_
    exact Eff.refl _ _
  · split
    · extract_lets -merge -underBinder t3 t4 t5 t6 t7 t8 t9
      try clear_value t3
      try clear_value t4
      try clear_value t5
      try clear_value t6
      try clear_value t7
      try clear_value t8
      try clear_value t9
      split
      · refine Eff.fst ?_
        refine Eff.app ?_ (Eff.of_pair (State.readUnits_eff ..) (by assumption)) (by decide)
        exact Eff.refl _ _
      · extract_lets -merge -underBinder t10 t11
        try clear_value t10
        try clear_value t11
        split
        · refine Eff.fst ?_
          refine Eff.app ?_ (Eff.of_pair (State.lbWrite_eff ..) (by assumption)) (by decide)
          refine Eff.app ?_ (Eff.of_pair (State.readUnits_eff ..) (by assumption)) (by decide)
          exact Eff.refl _ _
        · extract_lets -merge -underBinder t12
          try clear_value t12
          refine Eff.fst ?_
          refine Eff.app ?_ (Eff.of_pair (State.lbWrite_eff ..) (by assumption)) (by decide)
          refine Eff.app ?_ (Eff.of_pair (State.readUnits_eff ..) (by assumption)) (by decide)
          exact Eff.refl _ _

theorem State.lbSortRun_eff (s : State) (x : Job) (c : Cmd) : Eff 94 s (State.lbSortRun s x c).1 := by
  unfold State.lbSortRun
  extract_lets -merge -underBinder t0
  try clear_value t0
  split
  · refine Eff.fst ?_
    exact Eff.refl _ _
  · extract_lets -merge -underBinder t1
    try clear_value t1
    split
    · refine Eff.fst ?_
      refine Eff.app ?_ (Eff.of_pair (State.read_eff ..) (by assumption)) (by decide)
      exact Eff.refl _ _
    · split
      · refine Eff.fst ?_
        refine Eff.app ?_ (Eff.of_pair (State.write_eff ..) (by assumption)) (by decide)
        refine Eff.app ?_ (Eff.of_pair (State.read_eff ..) (by assumption)) (by decide)
        exact Eff.refl _ _
      · refine Eff.fst ?_
        refine Eff.app ?_ (Eff.of_pair (State.write_eff ..) (by assumption)) (by decide)
        refine Eff.app ?_ (Eff.of_pair (State.read_eff ..) (by assumption)) (by decide)
        exact Eff.refl _ _

theorem State.takeUnit_eff (s : State) (u : Nat) (w : LambWork) : Eff 2048 s (State.takeUnit s u w) := by
  unfold State.takeUnit
  refine Eff.app ?_ (Eff.set_lamb _ _) (by decide)
  exact Eff.refl _ _

theorem State.lambRun_eff {M : Nat} (s : State) (op : Nat) (up : Upsets) (run : State → Job → Cmd → State × Ran × Option Result) (h_run : ∀ v0 v1 v2, Eff M v0 (run v0 v1 v2).1) : Eff (12887039838 ||| M) s (State.lambRun s op up run) := by
  unfold State.lambRun
  refine Eff.ite (fun _ => ?_) (fun _ => ?_)
  · exact Eff.refl _ _
  · split
    · extract_lets -merge -underBinder t0 t1 t2 t3 t4
      try clear_value t0
      try clear_value t2
      have e5 : Eff (12887039838 ||| M) s t1 := by
        refine Eff.app ?_ (State.upset_eff ..) (mask_or (by decide))
        exact Eff.refl _ _
      try clear_value t1
      have e6 : Eff (12887039838 ||| M) s t3 := by
        refine Eff.app ?_ (Eff.set_lamb _ _) (mask_or (by decide))
        exact e5
      try clear_value t3
      have e7 : Eff (12887039838 ||| M) s t4 := by
        refine Eff.app ?_ (State.takeUnit_eff ..) (mask_or (by decide))
        exact e6
      try clear_value t4
      refine Eff.ite (fun _ => ?_) (fun _ => ?_)
      · exact Eff.refl _ _
      · refine Eff.ite (fun _ => ?_) (fun _ => ?_)
        · refine Eff.app ?_ (State.jobFault_eff ..) (mask_or (by decide))
          exact e6
        · split
          · refine Eff.app ?_ (State.jobFault_eff ..) (mask_or (by decide))
            refine Eff.app ?_ (Eff.of_pair (h_run ..) (by assumption)) mask_own
            exact e7
          · refine Eff.app ?_ (State.dataErrorJob_eff ..) (mask_or (by decide))
            refine Eff.app ?_ (Eff.of_pair (h_run ..) (by assumption)) mask_own
            exact e7
          · extract_lets -merge -underBinder t8 t9
            try clear_value t9
            have e10 : Eff (12887039838 ||| M) s t8 := by
              refine Eff.app ?_ (State.markJob_eff ..) (mask_or (by decide))
              refine Eff.app ?_ (State.setCmd_eff ..) (mask_or (by decide))
              refine Eff.app ?_ (Eff.of_pair (h_run ..) (by assumption)) mask_own
              exact e7
            try clear_value t8
            refine Eff.app ?_ (Eff.set_lamb _ _) (mask_or (by decide))
            exact e10
    · exact Eff.refl _ _

theorem State.streamStart_eff (s : State) : Eff 12887301982 s (State.streamStart s) := by
  unfold State.streamStart
  split
  · extract_lets -merge -underBinder t0 t1 t2 t3
    try clear_value t0
    have e4 : Eff 12887301982 s t1 := by
      refine Eff.app ?_ (Eff.set_lamb _ _) (by decide)
      exact Eff.refl _ _
    try clear_value t1
    have e5 : Eff 12887301982 s t2 := by
      refine Eff.app ?_ (State.bump_eff ..) (by decide)
      refine Eff.app ?_ (State.takeUnit_eff ..) (by decide)
      exact e4
    try clear_value t2
    have e6 : Eff 12887301982 s t3 := by
      refine Eff.app ?_ (State.setRun_eff ..) (by decide)
      exact e5
    try clear_value t3
    split
    · refine Eff.ite (fun _ => ?_) (fun _ => ?_)
      · refine Eff.app ?_ (State.freeAll_eff ..) (by decide)
        refine Eff.app ?_ (State.streamRun_eff ..) (by decide)
        exact e6
      · refine Eff.app ?_ (State.streamError_eff ..) (by decide)
        exact e6
  · exact Eff.refl _ _

theorem State.streamGone_eff (s : State) (i : Nat) (empty : Bool) : Eff 2560 s (State.streamGone s i empty) := by
  unfold State.streamGone
  extract_lets -merge -underBinder t0 t1 t2
  try clear_value t1
  have e3 : Eff 2560 s t0 := by
    refine Eff.app ?_ (State.dropStream_eff ..) (by decide)
    exact Eff.refl _ _
  try clear_value t0
  have e4 : Eff 2560 s t2 := by
    refine Eff.app ?_ (Eff.set_lamb _ _) (by decide)
    exact e3
  try clear_value t2
  refine Eff.app ?_ (Eff.foldl (m := 2560) ?_ _ _) (Nat.or_self _)
  · exact e4
  · intro y5 y6
    split
    · refine Eff.ite (fun _ => ?_) (fun _ => ?_)
      · refine Eff.app ?_ (State.markJob_eff ..) (by decide)
        exact Eff.refl _ _
      · exact Eff.refl _ _
    · exact Eff.refl _ _

theorem State.streamPlanes_eff (s : State) (i : Nat) (h : Nat) (g : LbConv) (x : StreamRun) : Eff 94 s (State.streamPlanes s i h g x).1 := by
  unfold State.streamPlanes
  split
  · refine Eff.fst ?_
    exact Eff.refl _ _
  · extract_lets -merge -underBinder t0 t1
    try clear_value t0
    try clear_value t1
    refine Eff.app ?_ (Eff.foldlp (m := 94) ?_ _ _) (Nat.or_self _)
    · refine Eff.fst ?_
      exact Eff.refl _ _
    · intro y2 y3
      refine Eff.ite1 (fun _ => ?_) (fun _ => ?_)
      · refine Eff.app ?_ (State.lbPlane_eff ..) (by decide)
        exact Eff.refl _ _
      · exact Eff.refl _ _

theorem State.streamFinish_eff (s : State) (i : Nat) (h : Nat) : Eff 12887302014 s (State.streamFinish s i h) := by
  unfold State.streamFinish
  split
  · extract_lets -merge -underBinder t1 t2
    try clear_value t1
    have e3 : Eff 12887302014 s t2 := by
      refine Eff.app ?_ (State.streamRun_eff ..) (by decide)
      exact Eff.refl _ _
    try clear_value t2
    split
    · exact e3
    · split
      · refine Eff.app ?_ (State.streamError_eff ..) (by decide)
        refine Eff.app ?_ (Eff.of_pair (State.streamPlanes_eff ..) (by assumption)) (by decide)
        exact e3
      · refine Eff.app ?_ (State.freeAll_eff ..) (by decide)
        refine Eff.app ?_ (State.streamGone_eff ..) (by decide)
        refine Eff.app ?_ (State.advanceTo_eff ..) (by decide)
        refine Eff.app ?_ (Eff.of_pair (State.streamPlanes_eff ..) (by assumption)) (by decide)
        exact e3

theorem State.streamEnd_eff (s : State) (u : Nat) (up : Upsets) : Eff 12887302014 s (State.streamEnd s u up) := by
  unfold State.streamEnd
  split
  · split
    · exact Eff.refl _ _
    · extract_lets -merge -underBinder t0
      have e1 : Eff 12887302014 s t0 := by
        refine Eff.app ?_ (State.upset_eff ..) (by decide)
        exact Eff.refl _ _
      try clear_value t0
      split
      · refine Eff.ite (fun _ => ?_) (fun _ => ?_)
        · refine Eff.app ?_ (State.streamError_eff ..) (by decide)
          exact e1
        · split
          · refine Eff.app ?_ (State.streamError_eff ..) (by decide)
            refine Eff.app ?_ (Eff.of_pair (State.readUnits_eff ..) (by assumption)) (by decide)
            exact e1
          · refine Eff.app ?_ (State.streamFinish_eff ..) (by decide)
            refine Eff.app ?_ (Eff.of_pair (State.readUnits_eff ..) (by assumption)) (by decide)
            exact e1
  · exact Eff.refl _ _

end Sys2Proof.Machine
end

