-- ==== Sys2Proof/Laws/EffImage.lean ====
section
/-! SUPPORT. What each operation of Machine/Image.lean can touch, by unit of the state (see Laws/Effect.lean). -/

set_option linter.unusedVariables false
set_option linter.unusedTactic false
set_option linter.unreachableTactic false

namespace Sys2Proof.Machine

theorem State.setFlash_eff (s : State) (a : Nat) (l : List Byte) : Eff 268435456 s (State.setFlash s a l) := by
  unfold State.setFlash
  refine Eff.app ?_ (Eff.set_image _ _ rfl) (by decide)
  exact Eff.refl _ _

/-- What `putBytes` leaves at an address. -/
theorem get_putBytes (d : Byte) (l : List Byte) : ∀ (t : Tab Byte) (a x : Nat),
    Tab.get d (putBytes d t a l) x = if a ≤ x ∧ x < a + l.length then l[x - a]?.getD d else Tab.get d t x := by
  induction l with
  | nil => intro t a x; rw [putBytes, if_neg (by simp only [List.length_nil]; omega)]
  | cons b l ih =>
    intro t a x
    rw [putBytes, ih]
    simp only [List.length_cons]
    rcases Nat.lt_trichotomy x a with h | h | h
    · rw [if_neg (by omega), if_neg (by omega), Tab.get_set_other _ _ _ _ _ (by omega)]
    · subst h
      rw [if_neg (by omega), if_pos (by omega), Tab.get_set_self]
      simp
    · by_cases h2 : x < a + 1 + l.length
      · rw [if_pos (by omega), if_pos (by omega)]
        obtain ⟨k, rfl⟩ : ∃ k, x = a + 1 + k := ⟨x - (a + 1), by omega⟩
        rw [show a + 1 + k - (a + 1) = k by omega, show a + 1 + k - a = k + 1 by omega, List.getElem?_cons_succ]
      · rw [if_neg (by omega), if_neg (by omega), Tab.get_set_other _ _ _ _ _ (by omega)]

/-- A burn only sets bits (R541). -/
theorem State.burn_grows (s : State) (a : Nat) (l : List Byte) : OtpGrows s (s.burn a l) := by
  intro x i h
  show (Tab.get 0 (putBytes 0 s.image.otp a _) x).getLsbD i = true
  rw [get_putBytes]
  split
  · rename_i hx
    rw [List.length_map, List.length_zip, State.otpN, List.length_map, List.length_range, Nat.min_self] at hx
    obtain ⟨k, rfl⟩ : ∃ k, x = a + k := ⟨x - a, by omega⟩
    have hk : k < l.length := by omega
    simp only [State.otpN]
    simp [hk]
    exact Or.inr h
  · exact h

theorem State.burn_eff (s : State) (a : Nat) (l : List Byte) : Eff 268435456 s (s.burn a l) := Eff.set_image_grows s _ (s.burn_grows a l)

theorem State.burnGen_eff (s : State) (base : Nat) (stride : Nat) (content : List Byte) (reads : Bool) : Eff 268435456 s (State.burnGen s base stride content reads).1 := by
  unfold State.burnGen
  split
  · refine Eff.fst ?_
    exact Eff.refl _ _
  · refine Eff.fst ?_
    refine Eff.app ?_ (State.burn_eff ..) (by decide)
    exact Eff.refl _ _

theorem State.burnRevoke_eff (s : State) (m : Nat) : Eff 268435456 s (State.burnRevoke s m) := by
  unfold State.burnRevoke
  refine Eff.app ?_ (State.burn_eff ..) (by decide)
  exact Eff.refl _ _

theorem State.loadLife_eff (s : State) : Eff 2 s (State.loadLife s) := by
  unfold State.loadLife
  extract_lets -merge -underBinder t0 t1 t2
  try clear_value t0
  try clear_value t1
  try clear_value t2
  refine Eff.app ?_ (State.setFld_eff ..) (by decide)
  refine Eff.app ?_ (State.setFld_eff ..) (by decide)
  refine Eff.app ?_ (State.setFld_eff ..) (by decide)
  refine Eff.app ?_ (State.setFlag_eff ..) (by decide)
  refine Eff.app ?_ (State.setFld_eff ..) (by decide)
  refine Eff.app ?_ (State.setFld_eff ..) (by decide)
  exact Eff.refl _ _

theorem State.imageBurns_eff (s : State) (fw : List Byte) (cust : List Byte) (reads : Bool) : Eff 268435456 s (State.imageBurns s fw cust reads).1 := by
  unfold State.imageBurns
  extract_lets -merge -underBinder t0 t1 t2
  try clear_value t0
  try clear_value t1
  have e3 : Eff 268435456 s t2 := by
    refine Eff.ite (fun _ => ?_) (fun _ => ?_)
    · refine Eff.app ?_ (State.burnRevoke_eff ..) (by decide)
      exact Eff.refl _ _
    · exact Eff.refl _ _
  try clear_value t2
  refine Eff.ite1 (fun _ => ?_) (fun _ => ?_)
  · refine Eff.fst ?_
    exact e3
  · refine Eff.ite1 (fun _ => ?_) (fun _ => ?_)
    · split
      · refine Eff.app ?_ (State.burnGen_eff ..) (by decide)
        refine Eff.app ?_ (Eff.of_pair (State.burnGen_eff ..) (by assumption)) (by decide)
        exact e3
      · refine Eff.app ?_ (State.burnGen_eff ..) (by decide)
        exact e3
    · refine Eff.ite1 (fun _ => ?_) (fun _ => ?_)
      · refine Eff.app ?_ (State.burnGen_eff ..) (by decide)
        exact e3
      · refine Eff.fst ?_
        exact e3

end Sys2Proof.Machine
end

