-- ==== Sys2Proof/Laws/EffPackage.lean ====
section
/-! SUPPORT. What each operation of Machine/Package.lean can touch, by unit of the state (see Laws/Effect.lean). -/

set_option linter.unusedVariables false
set_option linter.unusedTactic false
set_option linter.unreachableTactic false

namespace Sys2Proof.Machine

theorem State.place_eff (s : State) (a : Nat) (l : List Byte) : Eff 12 s (State.place s a l) := by
  unfold State.place
  extract_lets -merge -underBinder t0
  have e1 : Eff 12 s t0 := by
    refine Eff.app ?_ (State.pokeL_eff ..) (by decide)
    exact Eff.refl _ _
  try clear_value t0
  refine Eff.app ?_ (Eff.foldl (m := 12) ?_ _ _) (Nat.or_self _)
  · exact e1
  · intro y2 y3
    refine Eff.app ?_ (State.setMark_eff ..) (by decide)
    exact Eff.refl _ _

theorem State.placeResident_eff (s : State) (ofs : Nat) (l : List Byte) : Eff 12 s (State.placeResident s ofs l) := by
  unfold State.placeResident
  refine Eff.app ?_ (Eff.foldl (m := 12) ?_ _ _) (Nat.or_self _)
  · exact Eff.refl _ _
  · intro y0 y1
    refine Eff.app ?_ (State.place_eff ..) (by decide)
    exact Eff.refl _ _

theorem State.placePack_eff (s : State) (p : Pack) (b : List Byte) (c : List Byte) (t : Site) (banks : Bool) : Eff 12 s (State.placePack s p b c t banks) := by
  unfold State.placePack
  refine Eff.app ?_ (Eff.foldl (m := 12) ?_ _ _) (Nat.or_self _)
  · exact Eff.refl _ _
  · intro y0 y1
    extract_lets -merge -underBinder t2
    try clear_value t2
    split
    · refine Eff.app ?_ (State.place_eff ..) (by decide)
      exact Eff.refl _ _
    · refine Eff.app ?_ (State.placeResident_eff ..) (by decide)
      exact Eff.refl _ _
    · refine Eff.ite (fun _ => ?_) (fun _ => ?_)
      · refine Eff.app ?_ (State.place_eff ..) (by decide)
        exact Eff.refl _ _
      · exact Eff.refl _ _
    · refine Eff.app ?_ (State.place_eff ..) (by decide)
      exact Eff.refl _ _

theorem State.installClient_eff (s : State) (cl : Nat) (p : Pack) (b : List Byte) (t : Site) : Eff 268435970 s (State.installClient s cl p b t) := by
  unfold State.installClient
  extract_lets -merge -underBinder t0 t1 t2 t3 t4 t5 t6
  try clear_value t0
  try clear_value t1
  try clear_value t5
  have e7 : Eff 268435970 s t2 := by
    refine Eff.app ?_ (State.setFld_eff ..) (by decide)
    exact Eff.refl _ _
  try clear_value t2
  have e8 : Eff 268435970 s t3 := by
    refine Eff.app ?_ (Eff.foldl (m := 268435970) ?_ _ _) (Nat.or_self _)
    · exact e7
    · intro y9 y10
      refine Eff.app ?_ (State.setFld_eff ..) (by decide)
      exact Eff.refl _ _
  try clear_value t3
  have e11 : Eff 268435970 s t4 := by
    refine Eff.app ?_ (State.setFld_eff ..) (by decide)
    exact e8
  try clear_value t4
  refine Eff.app ?_ (Eff.set_shep_image _ _ _ rfl) (by decide)
  exact e11

theorem State.clearClient_eff (s : State) (cl : Nat) : Eff 268435458 s (State.clearClient s cl) := by
  unfold State.clearClient
  extract_lets -merge -underBinder t0 t1
  have e2 : Eff 268435458 s t0 := by
    refine Eff.app ?_ (State.setFld_eff ..) (by decide)
    exact Eff.refl _ _
  try clear_value t0
  refine Eff.app ?_ (Eff.set_image _ _ rfl) (by decide)
  exact e2

theorem State.writeStem_eff (s : State) (r : Nat) (d : List Byte) : Eff 2 s (State.writeStem s r d) := by
  unfold State.writeStem
  refine Eff.app ?_ (Eff.foldl (m := 2) ?_ _ _) (Nat.or_self _)
  · exact Eff.refl _ _
  · intro y0 y1
    refine Eff.app ?_ (State.setFld_eff ..) (by decide)
    exact Eff.refl _ _

end Sys2Proof.Machine
end

