-- ==== Sys2Proof/Laws/EffRecords.lean ====
section
/-! SUPPORT. What each operation of Machine/Records.lean can touch, by unit of the state (see Laws/Effect.lean). -/

set_option linter.unusedVariables false
set_option linter.unusedTactic false
set_option linter.unreachableTactic false

namespace Sys2Proof.Machine

theorem State.setWord_eff (s : State) (a : Nat) (v : Nat) (off : Nat) : Eff 2 s (State.setWord s a v off) := by
  unfold State.setWord
  refine Eff.app ?_ (Eff.foldl (m := 2) ?_ _ _) (Nat.or_self _)
  · exact Eff.refl _ _
  · intro y0 y1
    refine Eff.app ?_ (State.setFld_eff ..) (by decide)
    exact Eff.refl _ _

end Sys2Proof.Machine
end

