-- ==== Sys2Proof/Laws/EffStart.lean ====
section
/-! SUPPORT. What each operation of Machine/Start.lean can touch, by unit of the state (see Laws/Effect.lean). -/

set_option linter.unusedVariables false
set_option linter.unusedTactic false
set_option linter.unreachableTactic false

namespace Sys2Proof.Machine

theorem State.loadStraps_eff (s : State) : Eff 2 s (State.loadStraps s) := by
  unfold State.loadStraps
  extract_lets -merge -underBinder t0
  try clear_value t0
  refine Eff.app ?_ (State.setFld_eff ..) (by decide)
  refine Eff.app ?_ (State.setFld_eff ..) (by decide)
  refine Eff.app ?_ (State.setFld_eff ..) (by decide)
  refine Eff.app ?_ (State.setFld_eff ..) (by decide)
  exact Eff.refl _ _

theorem State.resetHolds_eff (s : State) : Eff 2 s (State.resetHolds s) := by
  unfold State.resetHolds
  split
  · refine Eff.app ?_ (State.setFld_eff ..) (by decide)
    refine Eff.app ?_ (State.setFld_eff ..) (by decide)
    exact Eff.refl _ _
  · exact Eff.refl _ _

theorem State.bare_eff (s : State) : Eff 8589934591 s s.bare := by
  refine ⟨rfl, rfl, ?_, fun _ _ h => h, ?_, ?_, ?_, ?_, ?_, ?_, ?_, ?_, ?_, ?_, ?_, ?_, ?_, ?_, ?_, ?_, ?_, ?_, ?_, ?_, ?_, ?_, ?_, ?_, ?_, ?_, ?_,
    ?_, ?_, ?_, ?_, ?_, ?_, fun _ => rfl⟩
  · simp only [State.wf, Bool.and_eq_true, State.bare]
    rintro ⟨⟨-, h⟩, -⟩
    refine ⟨⟨⟨by decide, by decide⟩, ?_⟩, by decide⟩
    exact Tab.risesFrom_filter _ _ _ h
  all_goals exact fun h => absurd h (by decide)

theorem State.coldBegin_eff (s : State) (cause : Nat) : Eff 8589934591 s (State.coldBegin s cause) := by
  unfold State.coldBegin
  extract_lets -merge -underBinder t0 t1
  have e2 : Eff 8589934591 s t0 := by
    refine Eff.app ?_ (State.bare_eff ..) (by decide)
    exact Eff.refl _ _
  try clear_value t0
  have e3 : Eff 8589934591 s t1 := by
    refine Eff.app ?_ (Eff.set_phase _ _) (by decide)
    exact e2
  try clear_value t1
  refine Eff.app ?_ (State.resetHolds_eff ..) (by decide)
  refine Eff.app ?_ (State.loadStraps_eff ..) (by decide)
  refine Eff.app ?_ (State.setFld_eff ..) (by decide)
  refine Eff.app ?_ (State.setFld_eff ..) (by decide)
  exact e3

theorem State.powerOff_eff (s : State) : Eff 8589934591 s s.powerOff := by
  refine (State.bare_eff s).app (m := 8589934591) ?_ (by decide)
  refine ⟨rfl, rfl, ?_, fun _ _ h => h, ?_, ?_, ?_, ?_, ?_, ?_, ?_, ?_, ?_, ?_, ?_, ?_, ?_, ?_, ?_, ?_, ?_, ?_, ?_, ?_, ?_, ?_, ?_, ?_, ?_, ?_, ?_,
    ?_, ?_, ?_, ?_, ?_, ?_, fun _ => rfl⟩
  · intro _
    show (Memory.wf [] && Tab.wf Mark.clean [] && regsWf [] && Tab.wf ({} : Ring) []) = true
    decide
  all_goals exact fun h => absurd h (by decide)

theorem State.powerOn_eff (s : State) (strap : Nat) : Eff 8589934591 s (State.powerOn s strap) := by
  unfold State.powerOn
  refine Eff.ite (fun _ => ?_) (fun _ => ?_)
  · exact Eff.refl _ _
  · extract_lets -merge -underBinder t0 t1
    try clear_value t1
    have e2 : Eff 8589934591 s t0 := by
      refine Eff.app ?_ (State.powerOff_eff ..) (by decide)
      exact Eff.refl _ _
    try clear_value t0
    refine Eff.app ?_ (State.coldBegin_eff ..) (by decide)
    refine Eff.app ?_ (Eff.set_start _ _) (by decide)
    exact e2

theorem State.resetN_eff (s : State) (ns : Nat) : Eff 8589934591 s (State.resetN s ns) := by
  unfold State.resetN
  refine Eff.ite (fun _ => ?_) (fun _ => ?_)
  · exact Eff.refl _ _
  · refine Eff.app ?_ (State.coldBegin_eff ..) (by decide)
    exact Eff.refl _ _

theorem State.brownout_eff (s : State) : Eff 8589934591 s (State.brownout s) := by
  unfold State.brownout
  refine Eff.ite (fun _ => ?_) (fun _ => ?_)
  · exact Eff.refl _ _
  · refine Eff.app ?_ (State.coldBegin_eff ..) (by decide)
    exact Eff.refl _ _

theorem State.thermalTrip_eff (s : State) : Eff 8589934591 s (State.thermalTrip s) := by
  unfold State.thermalTrip
  refine Eff.ite (fun _ => ?_) (fun _ => ?_)
  · exact Eff.refl _ _
  · extract_lets -merge -underBinder t0 t1
    try clear_value t1
    have e2 : Eff 8589934591 s t0 := by
      refine Eff.app ?_ (State.bare_eff ..) (by decide)
      exact Eff.refl _ _
    try clear_value t0
    refine Eff.app ?_ (Eff.set_health _ _) (by decide)
    exact e2

theorem State.thermalRelease_eff (s : State) : Eff 8589934591 s (State.thermalRelease s) := by
  unfold State.thermalRelease
  refine Eff.ite (fun _ => ?_) (fun _ => ?_)
  · refine Eff.app ?_ (State.coldBegin_eff ..) (by decide)
    exact Eff.refl _ _
  · exact Eff.refl _ _

theorem State.unitFails_eff (s : State) (u : Nat) : Eff 94 s (State.unitFails s u) := by
  unfold State.unitFails
  extract_lets -merge -underBinder t0
  try clear_value t0
  refine Eff.app ?_ (State.raise_eff ..) (by decide)
  refine Eff.app ?_ (State.setFld_eff ..) (by decide)
  exact Eff.refl _ _

theorem State.lambTest_eff (s : State) (mask : Nat) : Eff 94 s (State.lambTest s mask) := by
  unfold State.lambTest
  extract_lets -merge -underBinder t0
  have e1 : Eff 94 s t0 := by
    refine Eff.app ?_ (State.setFld_eff ..) (by decide)
    refine Eff.app ?_ (State.setFld_eff ..) (by decide)
    exact Eff.refl _ _
  try clear_value t0
  refine Eff.app ?_ (State.setFld_eff ..) (by decide)
  refine Eff.app ?_ (Eff.foldl (m := 94) ?_ _ _) (Nat.or_self _)
  · exact e1
  · intro y2 y3
    refine Eff.app ?_ (State.unitFails_eff ..) (by decide)
    exact Eff.refl _ _

theorem State.enterPaddock_eff (s : State) (mask : Nat) : Eff 95 s (State.enterPaddock s mask) := by
  unfold State.enterPaddock
  extract_lets -merge -underBinder t0
  have e1 : Eff 95 s t0 :=
    ((Eff.set_phase s .paddock).mono (M := 95) (by decide)).app (Eff.set_rings _ [] (fun _ => by decide)) (by decide)
  clear_value t0
  refine Eff.app ?_ (State.lambTest_eff ..) (by decide)
  refine Eff.app e1 (Eff.foldl (m := 95) ?_ _ _) (Nat.or_self _)
  intro _ _
  exact (State.setFld_eff ..).mono (by decide)

theorem State.startFail_eff (s : State) (kind : Nat) (step : Nat) (count : Nat) : Eff 94 s (State.startFail s kind step count) := by
  unfold State.startFail
  refine Eff.app ?_ (State.raise_eff ..) (by decide)
  refine Eff.app ?_ (State.setFld_eff ..) (by decide)
  exact Eff.refl _ _

theorem State.coldFail_eff (s : State) (step : Nat) (mask : Nat) : Eff 8589934591 s (State.coldFail s step mask) := by
  unfold State.coldFail
  extract_lets -merge -underBinder t0 t1
  try clear_value t0
  have e2 : Eff 8589934591 s t1 := by
    refine Eff.app ?_ (State.startFail_eff ..) (by decide)
    refine Eff.app ?_ (State.setFld_eff ..) (by decide)
    exact Eff.refl _ _
  try clear_value t1
  refine Eff.ite (fun _ => ?_) (fun _ => ?_)
  · refine Eff.app ?_ (State.coldBegin_eff ..) (by decide)
    exact e2
  · refine Eff.app ?_ (State.enterPaddock_eff ..) (by decide)
    exact e2

theorem State.coldReject_eff (s : State) (step : Nat) (mask : Nat) : Eff 95 s (State.coldReject s step mask) := by
  unfold State.coldReject
  extract_lets -merge -underBinder t0
  try clear_value t0
  refine Eff.app ?_ (State.enterPaddock_eff ..) (by decide)
  refine Eff.app ?_ (State.startFail_eff ..) (by decide)
  refine Eff.app ?_ (State.setFld_eff ..) (by decide)
  exact Eff.refl _ _

theorem State.coldTimeout_eff (s : State) (mask : Nat) : Eff 8589934591 s (State.coldTimeout s mask) := by
  unfold State.coldTimeout
  split
  · refine Eff.app ?_ (State.coldFail_eff ..) (by decide)
    refine Eff.app ?_ (State.advanceTo_eff ..) (by decide)
    exact Eff.refl _ _
  · exact Eff.refl _ _

theorem State.coldFailClear_eff (s : State) : Eff 34 s (State.coldFailClear s) := by
  unfold State.coldFailClear
  split
  · refine Eff.app ?_ (State.setFld_eff ..) (by decide)
    refine Eff.app ?_ (State.advanceDev_eff ..) (by decide)
    exact Eff.refl _ _
  · refine Eff.app ?_ (State.setFld_eff ..) (by decide)
    refine Eff.app ?_ (State.advanceDev_eff ..) (by decide)
    exact Eff.refl _ _
  · exact Eff.refl _ _

theorem State.closeAtWarm_eff (s : State) (i : Nat) : Eff 12887301982 s (State.closeAtWarm s i) := by
  unfold State.closeAtWarm
  extract_lets -merge -underBinder t0 t1 t2 t3 t4
  try clear_value t0
  try clear_value t1
  try clear_value t2
  have e5 : Eff 12887301982 s t3 := by
    refine Eff.app ?_ (State.spoil_eff ..) (by decide)
    exact Eff.refl _ _
  try clear_value t3
  have e6 : Eff 12887301982 s t4 := by
    refine Eff.ite (fun _ => ?_) (fun _ => ?_)
    · split
      · extract_lets -merge -underBinder t7 t8
        try clear_value t7
        have e9 : Eff 12887301982 s t8 := by
          refine Eff.app ?_ (State.setSlot_eff ..) (by decide)
          exact e5
        try clear_value t8
        split
        · refine Eff.app ?_ (State.setTile_eff ..) (by decide)
          exact e9
        · exact e9
      · exact e5
    · exact e5
  try clear_value t4
  refine Eff.ite (fun _ => ?_) (fun _ => ?_)
  · exact Eff.refl _ _
  · refine Eff.app ?_ (State.closePart_eff ..) (by decide)
    exact e6

theorem State.cancelAtWarm_eff (s : State) (j : Nat) : Eff 4297105246 s (State.cancelAtWarm s j) := by
  unfold State.cancelAtWarm
  split
  · exact Eff.refl _ _
  · split
    · exact Eff.refl _ _
    · extract_lets -merge -underBinder t0
      have e1 : Eff 4297105246 s t0 := by
        unfold t0
        split
        · refine Eff.app ?_ (State.dropTile_eff ..) (by decide)
          exact Eff.refl _ _
        · exact Eff.refl _ _
      try clear_value t0
      refine Eff.app ?_ (State.endJob_eff ..) (by decide)
      refine Eff.app ?_ (State.setJob_eff ..) (by decide)
      exact e1
    · refine Eff.app ?_ (State.endJob_eff ..) (by decide)
      exact Eff.refl _ _

theorem State.dropAtWarm_eff (s : State) (q : JobReq) : Eff 35678 s (State.dropAtWarm s q) := by
  unfold State.dropAtWarm
  split
  · exact Eff.refl _ _
  · refine Eff.app ?_ (State.dropWaiting_eff ..) (by decide)
    exact Eff.refl _ _
  · extract_lets -merge -underBinder t0
    have e1 : Eff 35678 s t0 := by
      refine Eff.app ?_ (State.dropWaiting_eff ..) (by decide)
      exact Eff.refl _ _
    try clear_value t0
    split
    · refine Eff.app ?_ (State.dropTile_eff ..) (by decide)
      exact e1
    · exact e1
  · extract_lets -merge -underBinder t2
    have e3 : Eff 35678 s t2 := by
      refine Eff.app ?_ (State.dropWaiting_eff ..) (by decide)
      exact Eff.refl _ _
    try clear_value t2
    split
    · refine Eff.app ?_ (Eff.of_pair (State.postCompletion_eff ..) (by assumption)) (by decide)
      exact e3
    · split
      · refine Eff.app ?_ (State.setJob_eff ..) (by decide)
        refine Eff.app ?_ (Eff.of_pair (State.postCompletion_eff ..) (by assumption)) (by decide)
        exact e3
      · refine Eff.app ?_ (Eff.of_pair (State.postCompletion_eff ..) (by assumption)) (by decide)
        exact e3

theorem State.quiesce_eff (s : State) : Eff 13961699166 s (State.quiesce s) := by
  unfold State.quiesce
  extract_lets -merge -underBinder t0 t1 t2 t3 t4 t5 t6 t7 t8 t9
  try clear_value t0
  try clear_value t2
  try clear_value t7
  have e10 : Eff 13961699166 s t1 := by
    refine Eff.app ?_ (Eff.set_start _ _) (by decide)
    exact Eff.refl _ _
  try clear_value t1
  have e11 : Eff 13961699166 s t3 := by
    refine Eff.app ?_ (Eff.foldl (m := 13961699166) ?_ _ _) (Nat.or_self _)
    · exact e10
    · intro y12 y13
      refine Eff.app ?_ (State.closeAtWarm_eff ..) (by decide)
      exact Eff.refl _ _
  try clear_value t3
  have e14 : Eff 13961699166 s t4 := by
    refine Eff.app ?_ (Eff.foldl (m := 13961699166) ?_ _ _) (Nat.or_self _)
    · exact e11
    · intro y15 y16
      refine Eff.app ?_ (State.setRace_eff ..) (by decide)
      exact Eff.refl _ _
  try clear_value t4
  have e17 : Eff 13961699166 s t5 := by
    refine Eff.app ?_ (Eff.foldl (m := 13961699166) ?_ _ _) (Nat.or_self _)
    · exact e14
    · intro y18 y19
      refine Eff.app ?_ (State.cancelAtWarm_eff ..) (by decide)
      exact Eff.refl _ _
  try clear_value t5
  have e20 : Eff 13961699166 s t6 := by
    refine Eff.app ?_ (Eff.foldl (m := 13961699166) ?_ _ _) (Nat.or_self _)
    · exact e17
    · intro y21 y22
      refine Eff.app ?_ (State.dropAtWarm_eff ..) (by decide)
      exact Eff.refl _ _
  try clear_value t6
  have e23 : Eff 13961699166 s t8 := by
    refine Eff.app ?_ (State.setFlag_eff ..) (by decide)
    refine Eff.app ?_ (Eff.set_replay _ _) (by decide)
    exact e20
  try clear_value t8
  have e24 : Eff 13961699166 s t9 := by
    refine Eff.app ?_ (Eff.foldl (m := 13961699166) ?_ _ _) (Nat.or_self _)
    · exact e23
    · intro y25 y26
      refine Eff.app ?_ (State.setView_eff ..) (by decide)
      exact Eff.refl _ _
  try clear_value t9
  refine Eff.app ?_ (Eff.foldl (m := 13961699166) ?_ _ _) (Nat.or_self _)
  · exact e24
  · intro y27 y28
    refine Eff.app ?_ (State.setStream_eff ..) (by decide)
    exact Eff.refl _ _

theorem State.enterWarm_eff (s : State) : Eff 1073741825 s (State.enterWarm s) := by
  unfold State.enterWarm
  refine Eff.app ?_ (Eff.set_phase_start _ _ _) (by decide)
  exact Eff.refl _ _

theorem State.ignoreStart_eff (s : State) : Eff 2 s (State.ignoreStart s) := by
  unfold State.ignoreStart
  refine Eff.app ?_ (State.bump_eff ..) (by decide)
  exact Eff.refl _ _

theorem State.warmBegin_eff (s : State) (cause : Nat) : Eff 13961699167 s (State.warmBegin s cause) := by
  unfold State.warmBegin
  split
  · refine Eff.app ?_ (State.setFld_eff ..) (by decide)
    refine Eff.app ?_ (State.setFld_eff ..) (by decide)
    refine Eff.app ?_ (State.enterWarm_eff ..) (by decide)
    refine Eff.app ?_ (State.quiesce_eff ..) (by decide)
    exact Eff.refl _ _
  · refine Eff.app ?_ (State.ignoreStart_eff ..) (by decide)
    exact Eff.refl _ _
  · refine Eff.app ?_ (State.ignoreStart_eff ..) (by decide)
    exact Eff.refl _ _
  · exact Eff.refl _ _

theorem State.loseAtDrain_eff (s : State) (i : Nat) : Eff 12887039838 s (State.loseAtDrain s i) := by
  unfold State.loseAtDrain
  refine Eff.ite (fun _ => ?_) (fun _ => ?_)
  · refine Eff.app ?_ (State.reasonAndCancel_eff ..) (by decide)
    exact Eff.refl _ _
  · exact Eff.refl _ _

theorem State.enterStep_eff (s : State) (p : Phase) : Eff 1073741825 s (State.enterStep s p) := by
  unfold State.enterStep
  refine Eff.app ?_ (Eff.set_phase_start _ _ _) (by decide)
  exact Eff.refl _ _

theorem State.clearFields_eff (s : State) : Eff 2 s (State.clearFields s) := by
  unfold State.clearFields
  refine Eff.app ?_ (Eff.foldl (m := 2) ?_ _ _) (Nat.or_self _)
  · exact Eff.refl _ _
  · intro y0 y1
    refine Eff.app ?_ (State.setFld_eff ..) (by decide)
    exact Eff.refl _ _

theorem State.dropPromotion_eff (s : State) : Eff 939524098 s (State.dropPromotion s) := by
  unfold State.dropPromotion
  extract_lets -merge -underBinder t0 t1 t2 t3 t4 t5
  try clear_value t0
  try clear_value t1
  try clear_value t3
  try clear_value t5
  have e6 : Eff 939524098 s t2 := by
    refine Eff.app ?_ (State.setFld_eff ..) (by decide)
    exact Eff.refl _ _
  try clear_value t2
  refine Eff.app ?_ (Eff.set_pkg_image_ident _ _ _ _ rfl) (by decide)
  exact e6

theorem State.drainJobs_eff (s : State) : Eff 12887039870 s (State.drainJobs s) := by
  unfold State.drainJobs
  extract_lets -merge -underBinder t0 t1 t2 t3
  try clear_value t0
  have e4 : Eff 12887039870 s t1 := by
    refine Eff.ite (fun _ => ?_) (fun _ => ?_)
    · refine Eff.app ?_ (State.advanceTo_eff ..) (by decide)
      exact Eff.refl _ _
    · exact Eff.refl _ _
  try clear_value t1
  have e5 : Eff 12887039870 s t2 := by
    refine Eff.app ?_ (Eff.foldl (m := 12887039870) ?_ _ _) (Nat.or_self _)
    · exact e4
    · intro y6 y7
      refine Eff.app ?_ (State.loseAtDrain_eff ..) (by decide)
      exact Eff.refl _ _
  try clear_value t2
  have e8 : Eff 12887039870 s t3 := by
    refine Eff.app ?_ (Eff.foldl (m := 12887039870) ?_ _ _) (Nat.or_self _)
    · exact e5
    · intro y9 y10
      split
      · refine Eff.ite (fun _ => ?_) (fun _ => ?_)
        · refine Eff.app ?_ (State.endJob_eff ..) (by decide)
          exact Eff.refl _ _
        · exact Eff.refl _ _
      · exact Eff.refl _ _
  try clear_value t3
  refine Eff.app ?_ (Eff.foldl (m := 12887039870) ?_ _ _) (Nat.or_self _)
  · exact e8
  · intro y11 y12
    refine Eff.app ?_ (State.abandonStream_eff ..) (by decide)
    exact Eff.refl _ _

theorem State.drainClear_eff (s : State) : Eff 262272 s (State.drainClear s) := by
  unfold State.drainClear
  extract_lets -merge -underBinder t0 t1 t2
  try clear_value t1
  try clear_value t2
  have e3 : Eff 262272 s t0 := by
    refine Eff.app ?_ (Eff.foldl (m := 262272) ?_ _ _) (Nat.or_self _)
    · exact Eff.refl _ _
    · intro y4 y5
      refine Eff.app ?_ (State.setView_eff ..) (by decide)
      exact Eff.refl _ _
  try clear_value t0
  refine Eff.app ?_ (Eff.set_pos_px _ _ _) (by decide)
  exact e3

theorem State.drainEnd_eff (s : State) : Eff 14900633599 s (State.drainEnd s) := by
  unfold State.drainEnd
  refine Eff.ite (fun _ => ?_) (fun _ => ?_)
  · exact Eff.refl _ _
  · refine Eff.app ?_ (State.enterStep_eff ..) (by decide)
    refine Eff.app ?_ (State.dropSetups_eff ..) (by decide)
    refine Eff.app ?_ (State.dropPromotion_eff ..) (by decide)
    refine Eff.app ?_ (State.clearFields_eff ..) (by decide)
    refine Eff.app ?_ (State.drainClear_eff ..) (by decide)
    refine Eff.app ?_ (State.drainJobs_eff ..) (by decide)
    exact Eff.refl _ _

theorem State.warmFail_eff (s : State) : Eff 17179869183 s (State.warmFail s) := by
  unfold State.warmFail
  split
  · extract_lets -merge -underBinder t0 t1 t2 t3 t4
    try clear_value t0
    try clear_value t4
    have e5 : Eff 17179869183 s t1 := by
      refine Eff.app ?_ (State.startFail_eff ..) (by decide)
      exact Eff.refl _ _
    try clear_value t1
    have e6 : Eff 17179869183 s t2 := by
      refine Eff.ite (fun _ => ?_) (fun _ => ?_)
      · refine Eff.app ?_ (State.drainEnd_eff ..) (by decide)
        exact e5
      · refine Eff.app ?_ (State.clearFields_eff ..) (by decide)
        exact e5
    try clear_value t2
    have e7 : Eff 17179869183 s t3 := by
      refine Eff.app ?_ (State.setFld_eff ..) (by decide)
      exact e6
    try clear_value t3
    refine Eff.ite (fun _ => ?_) (fun _ => ?_)
    · refine Eff.app ?_ (State.coldBegin_eff ..) (by decide)
      refine Eff.app ?_ (State.setFld_eff ..) (by decide)
      exact e5
    · refine Eff.app ?_ (Eff.set_phase_start _ _ _) (by decide)
      exact e7
  · exact Eff.refl _ _

theorem State.warmTimeout_eff (s : State) : Eff 17179869183 s (State.warmTimeout s) := by
  unfold State.warmTimeout
  split
  · refine Eff.app ?_ (State.warmFail_eff ..) (by decide)
    refine Eff.app ?_ (State.advanceTo_eff ..) (by decide)
    exact Eff.refl _ _
  · exact Eff.refl _ _

theorem State.cpFault_eff (s : State) (mask : Nat) : Eff 17179869183 s (State.cpFault s mask) := by
  unfold State.cpFault
  split
  · refine Eff.app ?_ (State.warmBegin_eff ..) (by decide)
    exact Eff.refl _ _
  · refine Eff.app ?_ (State.warmFail_eff ..) (by decide)
    exact Eff.refl _ _
  · refine Eff.app ?_ (State.coldFail_eff ..) (by decide)
    exact Eff.refl _ _
  · exact Eff.refl _ _

theorem State.hostCold_eff (s : State) : Eff 8589934591 s (State.hostCold s) := by
  unfold State.hostCold
  split
  · exact Eff.refl _ _
  · exact Eff.refl _ _
  · refine Eff.app ?_ (State.coldBegin_eff ..) (by decide)
    exact Eff.refl _ _

theorem State.hostWarm_eff (s : State) : Eff 13961699167 s (State.hostWarm s) := by
  unfold State.hostWarm
  refine Eff.app ?_ (State.warmBegin_eff ..) (by decide)
  exact Eff.refl _ _

theorem State.resetCtlWrite_eff (s : State) (v : Nat) : Eff 17179869183 s (State.resetCtlWrite s v) := by
  unfold State.resetCtlWrite
  refine Eff.ite (fun _ => ?_) (fun _ => ?_)
  · exact Eff.refl _ _
  · refine Eff.ite (fun _ => ?_) (fun _ => ?_)
    · refine Eff.app ?_ (State.hostCold_eff ..) (by decide)
      exact Eff.refl _ _
    · refine Eff.ite (fun _ => ?_) (fun _ => ?_)
      · refine Eff.app ?_ (State.hostWarm_eff ..) (by decide)
        exact Eff.refl _ _
      · exact Eff.refl _ _

theorem State.profileWrite_eff (s : State) (v : Nat) : Eff 2 s (State.profileWrite s v) := by
  unfold State.profileWrite
  extract_lets -merge -underBinder t0 t1 t2 t3
  try clear_value t0
  try clear_value t1
  try clear_value t2
  have e4 : Eff 2 s t3 := by
    refine Eff.app ?_ (State.setFld_eff ..) (by decide)
    refine Eff.app ?_ (State.setFld_eff ..) (by decide)
    exact Eff.refl _ _
  try clear_value t3
  refine Eff.ite (fun _ => ?_) (fun _ => ?_)
  · exact Eff.refl _ _
  · refine Eff.app ?_ (State.setFld_eff ..) (by decide)
    exact e4

end Sys2Proof.Machine
end

