-- ==== Sys2Proof/Laws/EffRegisters.lean ====
section
/-! SUPPORT. What each operation of Machine/Registers.lean can touch, by unit of the state (see Laws/Effect.lean). -/

set_option linter.unusedVariables false
set_option linter.unusedTactic false
set_option linter.unreachableTactic false

namespace Sys2Proof.Machine

theorem State.reg64LowRead_eff (s : State) (agent : Nat) (a : Nat) : Eff 67108864 s (State.reg64LowRead s agent a).1 := by
  unfold State.reg64LowRead
  split
  · extract_lets -merge -underBinder t0 t1
    try clear_value t0
    try clear_value t1
    refine Eff.ite1 (fun _ => ?_) (fun _ => ?_)
    · refine Eff.fst ?_
      refine Eff.app ?_ (Eff.set_halves _ _) (by decide)
      exact Eff.refl _ _
    · refine Eff.fst ?_
      exact Eff.refl _ _
  · refine Eff.fst ?_
    exact Eff.refl _ _

theorem State.read32_eff (s : State) (agent : Nat) (a : Nat) : Eff 67108864 s (State.read32 s agent a).1 := by
  unfold State.read32
  split
  · refine Eff.fst ?_
    exact Eff.refl _ _
  · split
    · refine Eff.app ?_ (State.reg64LowRead_eff ..) (by decide)
      exact Eff.refl _ _
    · split
      · split
        · refine Eff.fst ?_
          refine Eff.app ?_ (Eff.set_halves _ _) (by decide)
          exact Eff.refl _ _
        · refine Eff.fst ?_
          exact Eff.refl _ _
      · refine Eff.fst ?_
        exact Eff.refl _ _

theorem State.read64_eff (s : State) (agent : Nat) (a : Nat) : Eff 67108864 s (State.read64 s agent a).1 := by
  unfold State.read64
  split
  · rename_i q0
    split
    · rename_i q1
      refine Eff.fst ?_
      refine Eff.app ?_ (Eff.of_pair (State.read32_eff ..) q1) (by decide)
      refine Eff.app ?_ (Eff.of_pair (State.read32_eff ..) q0) (by decide)
      exact Eff.refl _ _

theorem writeField_eff (a : Nat) (v : Nat) (lock : Nat) (s : State) (f : FDesc) : Eff 2 s (writeField a v lock s f) := by
  unfold writeField
  extract_lets -merge -underBinder t0
  try clear_value t0
  refine Eff.ite (fun _ => ?_) (fun _ => ?_)
  · exact Eff.refl _ _
  · split
    · extract_lets -merge -underBinder t1
      try clear_value t1
      refine Eff.ite (fun _ => ?_) (fun _ => ?_)
      · refine Eff.app ?_ (State.setFld_eff ..) (by decide)
        exact Eff.refl _ _
      · exact Eff.refl _ _
    · refine Eff.ite (fun _ => ?_) (fun _ => ?_)
      · refine Eff.app ?_ (State.setFld_eff ..) (by decide)
        exact Eff.refl _ _
      · exact Eff.refl _ _
    · exact Eff.refl _ _

theorem State.plainWrite_eff (s : State) (d : RegDesc) (a : Nat) (v : Nat) (lock : Nat) : Eff 2 s (State.plainWrite s d a v lock) := by
  unfold State.plainWrite
  refine Eff.app ?_ (Eff.foldl (m := 2) ?_ _ _) (Nat.or_self _)
  · exact Eff.refl _ _
  · intro y0 y1
    refine Eff.app ?_ (writeField_eff ..) (by decide)
    exact Eff.refl _ _

theorem State.ocfgWrite_eff (s : State) (o : Nat) (v : Nat) : Eff 2 s (State.ocfgWrite s o v) := by
  unfold State.ocfgWrite
  extract_lets -merge -underBinder t0 t1
  try clear_value t0
  try clear_value t1
  refine Eff.ite (fun _ => ?_) (fun _ => ?_)
  · exact Eff.refl _ _
  · split
    · refine Eff.app ?_ (State.plainWrite_eff ..) (by decide)
      exact Eff.refl _ _
    · exact Eff.refl _ _

theorem State.rcfgFoWrite_eff (s : State) (d : RegDesc) (a : Nat) (v : Nat) (lock : Nat) : Eff 4294967390 s (State.rcfgFoWrite s d a v lock) := by
  unfold State.rcfgFoWrite
  extract_lets -merge -underBinder t0 t1 t2 t3
  try clear_value t0
  try clear_value t1
  try clear_value t2
  try clear_value t3
  refine Eff.ite (fun _ => ?_) (fun _ => ?_)
  · exact Eff.refl _ _
  · refine Eff.app ?_ (State.encHold_eff ..) (by decide)
    refine Eff.app ?_ (State.plainWrite_eff ..) (by decide)
    exact Eff.refl _ _

theorem State.idxChkWrite_eff (s : State) (d : RegDesc) (a : Nat) (v : Nat) : Eff 130 s (State.idxChkWrite s d a v) := by
  unfold State.idxChkWrite
  extract_lets -merge -underBinder t0 t1 t2 t3 t4
  try clear_value t0
  try clear_value t1
  try clear_value t4
  have e5 : Eff 130 s t2 := by
    refine Eff.app ?_ (State.plainWrite_eff ..) (by decide)
    exact Eff.refl _ _
  try clear_value t2
  have e6 : Eff 130 s t3 := by
    refine Eff.ite (fun _ => ?_) (fun _ => ?_)
    · refine Eff.app ?_ (State.setFld_eff ..) (by decide)
      exact e5
    · exact e5
  try clear_value t3
  refine Eff.ite (fun _ => ?_) (fun _ => ?_)
  · refine Eff.app ?_ (State.setEnc_eff ..) (by decide)
    exact e6
  · exact e6

theorem State.strCfgWrite_eff (s : State) (d : RegDesc) (a : Nat) (v : Nat) (lock : Nat) : Eff 13961174878 s (State.strCfgWrite s d a v lock) := by
  unfold State.strCfgWrite
  extract_lets -merge -underBinder t0
  try clear_value t0
  refine Eff.ite (fun _ => ?_) (fun _ => ?_)
  · exact Eff.refl _ _
  · refine Eff.app ?_ (State.streamEn_eff ..) (by decide)
    refine Eff.app ?_ (State.plainWrite_eff ..) (by decide)
    exact Eff.refl _ _

theorem State.ccfgWrite_eff (s : State) (d : RegDesc) (a : Nat) (v : Nat) (lock : Nat) : Eff 2 s (State.ccfgWrite s d a v lock) := by
  unfold State.ccfgWrite
  extract_lets -merge -underBinder t0 t1 t2
  try clear_value t0
  try clear_value t1
  have e3 : Eff 2 s t2 := by
    refine Eff.app ?_ (State.plainWrite_eff ..) (by decide)
    exact Eff.refl _ _
  try clear_value t2
  refine Eff.ite (fun _ => ?_) (fun _ => ?_)
  · refine Eff.app ?_ (State.setFld_eff ..) (by decide)
    exact e3
  · exact e3

theorem State.requestWrite_eff {M : Nat} (s : State) (d : RegDesc) (a : Nat) (v : Nat) (seq : Fld) (submit : State → State) (h_submit : ∀ v0, Eff M v0 (submit v0)) : Eff (2 ||| M) s (State.requestWrite s d a v seq submit) := by
  unfold State.requestWrite
  extract_lets -merge -underBinder t0 t1
  try clear_value t0
  have e2 : Eff (2 ||| M) s t1 := by
    refine Eff.app ?_ (State.plainWrite_eff ..) (mask_or (by decide))
    exact Eff.refl _ _
  try clear_value t1
  refine Eff.ite (fun _ => ?_) (fun _ => ?_)
  · exact e2
  · refine Eff.app ?_ (h_submit ..) mask_own
    exact e2

theorem State.queuePkg_eff (s : State) : Eff 134217728 s (State.queuePkg s) := by
  unfold State.queuePkg
  refine Eff.app ?_ (Eff.set_pkg _ _) (by decide)
  exact Eff.refl _ _

theorem State.queueId_eff (s : State) : Eff 536870912 s (State.queueId s) := by
  unfold State.queueId
  refine Eff.app ?_ (Eff.set_ident _ _) (by decide)
  exact Eff.refl _ _

theorem State.queuePad_eff (s : State) : Eff 268435456 s (State.queuePad s) := by
  unfold State.queuePad
  refine Eff.app ?_ (Eff.set_image _ _ rfl) (by decide)
  exact Eff.refl _ _

theorem State.hpStatClear_eff (s : State) (v : Nat) : Eff 33554434 s (State.hpStatClear s v) := by
  unfold State.hpStatClear
  refine Eff.ite (fun _ => ?_) (fun _ => ?_)
  · extract_lets -merge -underBinder t0 t1
    try clear_value t1
    have e2 : Eff 33554434 s t0 := by
      refine Eff.app ?_ (State.setFld_eff ..) (by decide)
      exact Eff.refl _ _
    try clear_value t0
    refine Eff.app ?_ (Eff.set_host _ _) (by decide)
    exact e2
  · exact Eff.refl _ _

theorem State.semWrite_eff (s : State) (i : Nat) (v : Nat) : Eff 2 s (State.semWrite s i v) := by
  unfold State.semWrite
  refine Eff.app ?_ (State.setFld_eff ..) (by decide)
  exact Eff.refl _ _

theorem State.regWrite_eff (s : State) (agent : Nat) (d : RegDesc) (a : Nat) (v : Nat) : Eff 17179869183 s (State.regWrite s agent d a v) := by
  unfold State.regWrite
  extract_lets -merge -underBinder t0 t1 t2 t3 t4 t5 t6 t7
  try clear_value t0
  try clear_value t1
  try clear_value t2
  try clear_value t5
  have e8 : Eff 17179869183 s t3 := by
    refine Eff.ite (fun _ => ?_) (fun _ => ?_)
    · refine Eff.app ?_ (State.clrFail_eff ..) (by decide)
      exact Eff.refl _ _
    · exact Eff.refl _ _
  try clear_value t3
  have e9 : Eff 17179869183 s t4 := by
    refine Eff.app ?_ (State.plainWrite_eff ..) (by decide)
    exact Eff.refl _ _
  try clear_value t4
  have e10 : Eff 17179869183 s t6 := by
    refine Eff.app ?_ (State.plainWrite_eff ..) (by decide)
    exact Eff.refl _ _
  try clear_value t6
  have e11 : Eff 17179869183 s t7 := by
    refine Eff.ite (fun _ => ?_) (fun _ => ?_)
    · refine Eff.app ?_ (State.dmaAbort_eff ..) (by decide)
      exact Eff.refl _ _
    · exact Eff.refl _ _
  try clear_value t7
  refine Eff.ite (fun _ => ?_) (fun _ => ?_)
  · refine Eff.app ?_ (State.encCfgWrite_eff ..) (by decide)
    exact Eff.refl _ _
  · refine Eff.ite (fun _ => ?_) (fun _ => ?_)
    · refine Eff.app ?_ (State.idxChkWrite_eff ..) (by decide)
      exact Eff.refl _ _
    · refine Eff.ite (fun _ => ?_) (fun _ => ?_)
      · refine Eff.ite (fun _ => ?_) (fun _ => ?_)
        · refine Eff.app ?_ (State.clrDrift_eff ..) (by decide)
          exact e8
        · exact e8
      · refine Eff.ite (fun _ => ?_) (fun _ => ?_)
        · refine Eff.app ?_ (State.trgCfgWrite_eff ..) (by decide)
          exact Eff.refl _ _
        · refine Eff.ite (fun _ => ?_) (fun _ => ?_)
          · refine Eff.app ?_ (State.trgDivWrite_eff ..) (by decide)
            exact Eff.refl _ _
          · refine Eff.ite (fun _ => ?_) (fun _ => ?_)
            · refine Eff.app ?_ (State.trgStatClear_eff ..) (by decide)
              exact Eff.refl _ _
            · refine Eff.ite (fun _ => ?_) (fun _ => ?_)
              · refine Eff.app ?_ (State.laneCfgWrite_eff ..) (by decide)
                exact Eff.refl _ _
              · refine Eff.ite (fun _ => ?_) (fun _ => ?_)
                · refine Eff.app ?_ (State.drvCfgWrite_eff ..) (by decide)
                  exact Eff.refl _ _
                · refine Eff.ite (fun _ => ?_) (fun _ => ?_)
                  · refine Eff.app ?_ (State.strCfgWrite_eff ..) (by decide)
                    exact Eff.refl _ _
                  · refine Eff.ite (fun _ => ?_) (fun _ => ?_)
                    · refine Eff.app ?_ (State.plainWrite_eff ..) (by decide)
                      exact Eff.refl _ _
                    · refine Eff.ite (fun _ => ?_) (fun _ => ?_)
                      · refine Eff.app ?_ (State.strctlSetup_eff ..) (by decide)
                        exact Eff.refl _ _
                      · refine Eff.ite (fun _ => ?_) (fun _ => ?_)
                        · refine Eff.app ?_ (State.viewEn_eff ..) (by decide)
                          refine Eff.app ?_ (State.plainWrite_eff ..) (by decide)
                          exact Eff.refl _ _
                        · refine Eff.ite (fun _ => ?_) (fun _ => ?_)
                          · refine Eff.app ?_ (State.replayEnable_eff ..) (by decide)
                            exact Eff.refl _ _
                          · refine Eff.ite (fun _ => ?_) (fun _ => ?_)
                            · refine Eff.app ?_ (State.replayClear_eff ..) (by decide)
                              exact Eff.refl _ _
                            · refine Eff.ite (fun _ => ?_) (fun _ => ?_)
                              · refine Eff.ite (fun _ => ?_) (fun _ => ?_)
                                · refine Eff.app ?_ (State.approve_eff ..) (by decide)
                                  exact Eff.refl _ _
                                · refine Eff.ite (fun _ => ?_) (fun _ => ?_)
                                  · refine Eff.app ?_ (State.discard_eff ..) (by decide)
                                    exact Eff.refl _ _
                                  · exact Eff.refl _ _
                              · refine Eff.ite (fun _ => ?_) (fun _ => ?_)
                                · refine Eff.app ?_ (State.grazeIdle_eff ..) (by decide)
                                  refine Eff.app ?_ (State.plainWrite_eff ..) (by decide)
                                  exact Eff.refl _ _
                                · refine Eff.ite (fun _ => ?_) (fun _ => ?_)
                                  · refine Eff.ite (fun _ => ?_) (fun _ => ?_)
                                    · exact e9
                                    · refine Eff.app ?_ (State.raceEnable_eff ..) (by decide)
                                      exact e9
                                  · refine Eff.ite (fun _ => ?_) (fun _ => ?_)
                                    · refine Eff.app ?_ (State.coresHold_eff ..) (by decide)
                                      refine Eff.app ?_ (State.plainWrite_eff ..) (by decide)
                                      exact Eff.refl _ _
                                    · refine Eff.ite (fun _ => ?_) (fun _ => ?_)
                                      · refine Eff.app ?_ (State.ccfgWrite_eff ..) (by decide)
                                        exact Eff.refl _ _
                                      · refine Eff.ite (fun _ => ?_) (fun _ => ?_)
                                        · refine Eff.ite (fun _ => ?_) (fun _ => ?_)
                                          · refine Eff.app ?_ (State.readmit_eff ..) (by decide)
                                            exact Eff.refl _ _
                                          · exact Eff.refl _ _
                                        · refine Eff.ite (fun _ => ?_) (fun _ => ?_)
                                          · refine Eff.app ?_ (State.semWrite_eff ..) (by decide)
                                            exact Eff.refl _ _
                                          · refine Eff.ite (fun _ => ?_) (fun _ => ?_)
                                            · refine Eff.app ?_ (State.rcfgFoWrite_eff ..) (by decide)
                                              exact Eff.refl _ _
                                            · refine Eff.ite (fun _ => ?_) (fun _ => ?_)
                                              · refine Eff.app ?_ (State.ocfgWrite_eff ..) (by decide)
                                                exact Eff.refl _ _
                                              · refine Eff.ite (fun _ => ?_) (fun _ => ?_)
                                                · refine Eff.ite (fun _ => ?_) (fun _ => ?_)
                                                  · exact e10
                                                  · refine Eff.app ?_ (State.ptpRole_eff ..) (by decide)
                                                    exact e10
                                                · refine Eff.ite (fun _ => ?_) (fun _ => ?_)
                                                  · refine Eff.app ?_ (State.ptpOfsWrite_eff ..) (by decide)
                                                    exact Eff.refl _ _
                                                  · refine Eff.ite (fun _ => ?_) (fun _ => ?_)
                                                    · refine Eff.app ?_ (State.launchArm_eff ..) (by decide)
                                                      exact Eff.refl _ _
                                                    · refine Eff.ite (fun _ => ?_) (fun _ => ?_)
                                                      · refine Eff.ite (fun _ => ?_) (fun _ => ?_)
                                                        · refine Eff.app ?_ (State.dmaResume_eff ..) (by decide)
                                                          exact e11
                                                        · exact e11
                                                      · refine Eff.ite (fun _ => ?_) (fun _ => ?_)
                                                        · refine Eff.app ?_ (State.hpStatClear_eff ..) (by decide)
                                                          exact Eff.refl _ _
                                                        · refine Eff.ite (fun _ => ?_) (fun _ => ?_)
                                                          · refine Eff.app ?_ (State.outCfgWrite_eff ..) (by decide)
                                                            exact Eff.refl _ _
                                                          · refine Eff.ite (fun _ => ?_) (fun _ => ?_)
                                                            · refine Eff.app ?_ (State.requestWrite_eff (M := 17179869183) (h_submit := ?_) ..) (by decide)
                                                              · exact Eff.refl _ _
                                                              · intro y12
                                                                refine Eff.app ?_ (State.queuePkg_eff ..) (by decide)
                                                                exact Eff.refl _ _
                                                            · refine Eff.ite (fun _ => ?_) (fun _ => ?_)
                                                              · refine Eff.app ?_ (State.requestWrite_eff (M := 17179869183) (h_submit := ?_) ..) (by decide)
                                                                · exact Eff.refl _ _
                                                                · intro y13
                                                                  refine Eff.app ?_ (State.queueId_eff ..) (by decide)
                                                                  exact Eff.refl _ _
                                                              · refine Eff.ite (fun _ => ?_) (fun _ => ?_)
                                                                · refine Eff.app ?_ (State.requestWrite_eff (M := 17179869183) (h_submit := ?_) ..) (by decide)
                                                                  · exact Eff.refl _ _
                                                                  · intro y14
                                                                    refine Eff.app ?_ (State.queuePad_eff ..) (by decide)
                                                                    exact Eff.refl _ _
                                                                · refine Eff.ite (fun _ => ?_) (fun _ => ?_)
                                                                  · refine Eff.app ?_ (State.profileWrite_eff ..) (by decide)
                                                                    exact Eff.refl _ _
                                                                  · refine Eff.ite (fun _ => ?_) (fun _ => ?_)
                                                                    · refine Eff.app ?_ (State.resetCtlWrite_eff ..) (by decide)
                                                                      exact Eff.refl _ _
                                                                    · refine Eff.app ?_ (State.plainWrite_eff ..) (by decide)
                                                                      exact Eff.refl _ _

theorem State.reg64LowWrite_eff (s : State) (agent : Nat) (a : Nat) (v : Nat) : Eff 67108864 s (State.reg64LowWrite s agent a v) := by
  unfold State.reg64LowWrite
  split
  · refine Eff.ite (fun _ => ?_) (fun _ => ?_)
    · refine Eff.app ?_ (Eff.set_halves _ _) (by decide)
      exact Eff.refl _ _
    · exact Eff.refl _ _
  · exact Eff.refl _ _

theorem State.reg64HighWrite_eff (s : State) (agent : Nat) (a : Nat) (v : Nat) : Eff 17179869183 s (State.reg64HighWrite s agent a v) := by
  unfold State.reg64HighWrite
  split
  · extract_lets -merge -underBinder t0 t1 t2 t3
    try clear_value t0
    try clear_value t1
    try clear_value t2
    have e4 : Eff 17179869183 s t3 := by
      refine Eff.app ?_ (Eff.set_halves _ _) (by decide)
      exact Eff.refl _ _
    try clear_value t3
    refine Eff.app ?_ (State.regWrite_eff ..) (by decide)
    exact e4
  · exact Eff.refl _ _

theorem State.write32_eff (s : State) (agent : Nat) (a : Nat) (v : Nat) : Eff 17179869183 s (State.write32 s agent a v) := by
  unfold State.write32
  split
  · refine Eff.ite (fun _ => ?_) (fun _ => ?_)
    · refine Eff.app ?_ (State.reg64LowWrite_eff ..) (by decide)
      exact Eff.refl _ _
    · refine Eff.app ?_ (State.regWrite_eff ..) (by decide)
      exact Eff.refl _ _
  · refine Eff.app ?_ (State.reg64HighWrite_eff ..) (by decide)
    exact Eff.refl _ _

theorem State.write64_eff (s : State) (agent : Nat) (a : Nat) (v : Nat) : Eff 17179869183 s (State.write64 s agent a v) := by
  unfold State.write64
  split
  · refine Eff.ite (fun _ => ?_) (fun _ => ?_)
    · extract_lets -merge -underBinder t0 t1
      try clear_value t0
      have e2 : Eff 17179869183 s t1 := by
        refine Eff.app ?_ (Eff.set_halves _ _) (by decide)
        exact Eff.refl _ _
      try clear_value t1
      refine Eff.app ?_ (State.regWrite_eff ..) (by decide)
      exact e2
    · refine Eff.app ?_ (State.write32_eff ..) (by decide)
      refine Eff.app ?_ (State.write32_eff ..) (by decide)
      exact Eff.refl _ _
  · refine Eff.app ?_ (State.write32_eff ..) (by decide)
    refine Eff.app ?_ (State.write32_eff ..) (by decide)
    exact Eff.refl _ _

theorem State.registerWrite_eff (s : State) (agent : Nat) (a : Nat) (v : Nat) : Eff 17179869183 s (State.registerWrite s agent a v) := by
  unfold State.registerWrite
  refine Eff.ite (fun _ => ?_) (fun _ => ?_)
  · refine Eff.app ?_ (State.write32_eff ..) (by decide)
    exact Eff.refl _ _
  · exact Eff.refl _ _

theorem State.agentRead_eff (s : State) (agent : Nat) (a : Nat) : Eff 67108864 s (State.agentRead s agent a) := by
  unfold State.agentRead
  split
  · rename_i q0
    refine Eff.app ?_ (Eff.set_halves _ _) (by decide)
    refine Eff.app ?_ (Eff.of_pair (State.reg64LowRead_eff ..) q0) (by decide)
    exact Eff.refl _ _

theorem State.portalRespond_eff (s : State) (q : PortalReq) (status : Nat) (data : Nat) : Eff 94 s (State.portalRespond s q status data) := by
  unfold State.portalRespond
  refine Eff.app ?_ (State.write_eff ..) (by decide)
  exact Eff.refl _ _

theorem State.portalRun_eff {M : Nat} (s : State) (op : Nat) (act : State → PortalReq → State × Nat) (h_act : ∀ v0 v1, Eff M v0 (act v0 v1).1) : Eff (33554558 ||| M) s (State.portalRun s op act) := by
  unfold State.portalRun
  split
  · exact Eff.refl _ _
  · refine Eff.ite (fun _ => ?_) (fun _ => ?_)
    · exact Eff.refl _ _
    · extract_lets -merge -underBinder t0 t1
      try clear_value t0
      have e2 : Eff (33554558 ||| M) s t1 := by
        refine Eff.app ?_ (Eff.set_host _ _) (mask_or (by decide))
        exact Eff.refl _ _
      try clear_value t1
      split
      · split
        · rename_i q3
          refine Eff.app ?_ (State.portalRespond_eff ..) (mask_or (by decide))
          refine Eff.app ?_ (Eff.of_pair (h_act ..) q3) mask_own
          exact e2
      · refine Eff.app ?_ (State.portalRespond_eff ..) (mask_or (by decide))
        refine Eff.app ?_ (State.advance_eff ..) (mask_or (by decide))
        exact e2
      · refine Eff.app ?_ (State.portalRespond_eff ..) (mask_or (by decide))
        exact e2

theorem State.portalRead32_eff (s : State) : Eff 100663422 s (State.portalRead32 s) := by
  unfold State.portalRead32
  refine Eff.app ?_ (State.portalRun_eff (M := 100663422) (h_act := ?_) ..) (by decide)
  · exact Eff.refl _ _
  · intro y0 y1
    refine Eff.app ?_ (State.read32_eff ..) (by decide)
    exact Eff.refl _ _

theorem State.portalWrite32_eff (s : State) : Eff 17179869183 s (State.portalWrite32 s) := by
  unfold State.portalWrite32
  refine Eff.app ?_ (State.portalRun_eff (M := 17179869183) (h_act := ?_) ..) (by decide)
  · exact Eff.refl _ _
  · intro y0 y1
    refine Eff.fst ?_
    refine Eff.app ?_ (State.write32_eff ..) (by decide)
    exact Eff.refl _ _

theorem State.portalRead64_eff (s : State) : Eff 100663422 s (State.portalRead64 s) := by
  unfold State.portalRead64
  refine Eff.app ?_ (State.portalRun_eff (M := 100663422) (h_act := ?_) ..) (by decide)
  · exact Eff.refl _ _
  · intro y0 y1
    refine Eff.app ?_ (State.read64_eff ..) (by decide)
    exact Eff.refl _ _

theorem State.portalWrite64_eff (s : State) : Eff 17179869183 s (State.portalWrite64 s) := by
  unfold State.portalWrite64
  refine Eff.app ?_ (State.portalRun_eff (M := 17179869183) (h_act := ?_) ..) (by decide)
  · exact Eff.refl _ _
  · intro y0 y1
    refine Eff.fst ?_
    refine Eff.app ?_ (State.write64_eff ..) (by decide)
    exact Eff.refl _ _

end Sys2Proof.Machine
end

