-- ==== Sys2Proof/Laws/EffLoad.lean ====
section
/-! SUPPORT. What each operation of Machine/Load.lean can touch, by unit of the state (see Laws/Effect.lean). -/

set_option linter.unusedVariables false
set_option linter.unusedTactic false
set_option linter.unreachableTactic false

namespace Sys2Proof.Machine

theorem State.cfgFail_eff (s : State) (b : Bad) : Eff 2 s (State.cfgFail s b) := by
  unfold State.cfgFail
  refine Eff.app ?_ (State.setFld_eff ..) (by decide)
  refine Eff.app ?_ (State.setFld_eff ..) (by decide)
  refine Eff.app ?_ (State.setFld_eff ..) (by decide)
  refine Eff.app ?_ (State.setFld_eff ..) (by decide)
  refine Eff.app ?_ (State.setFld_eff ..) (by decide)
  refine Eff.app ?_ (State.setFld_eff ..) (by decide)
  exact Eff.refl _ _

theorem State.fillCopy_eff (s : State) (fw : List Byte) (sec : List Byte) : Eff 12 s (State.fillCopy s fw sec) := by
  unfold State.fillCopy
  refine Eff.app ?_ (State.place_eff ..) (by decide)
  refine Eff.app ?_ (State.place_eff ..) (by decide)
  exact Eff.refl _ _

theorem State.writePage_eff (s : State) : Eff 94 s (State.writePage s) := by
  unfold State.writePage
  extract_lets -merge -underBinder t0 t1
  try clear_value t0
  try clear_value t1
  refine Eff.app ?_ (State.write_eff ..) (by decide)
  refine Eff.app ?_ (State.write_eff ..) (by decide)
  refine Eff.app ?_ (State.write_eff ..) (by decide)
  exact Eff.refl _ _

theorem State.acceptImage_eff (s : State) (h : ImgHdr) (copy : Nat) (fw : List Byte) (sec : List Byte) (source : Nat) : Eff 268435550 s (State.acceptImage s h copy fw sec source) := by
  unfold State.acceptImage
  extract_lets -merge -underBinder t0 t1 t2
  have e3 : Eff 268435550 s t0 := by
    refine Eff.app ?_ (State.setFld_eff ..) (by decide)
    refine Eff.app ?_ (State.setFld_eff ..) (by decide)
    refine Eff.app ?_ (State.cfgFail_eff ..) (by decide)
    exact Eff.refl _ _
  try clear_value t0
  have e4 : Eff 268435550 s t1 := by
    refine Eff.app ?_ (State.setFld_eff ..) (by decide)
    refine Eff.app ?_ (State.setFld_eff ..) (by decide)
    refine Eff.app ?_ (State.setFld_eff ..) (by decide)
    exact e3
  try clear_value t1
  refine Eff.app ?_ (State.writePage_eff ..) (by decide)
  refine Eff.app ?_ (Eff.set_image _ _ rfl) (by decide)
  exact e4

theorem State.configRead_eff (s : State) (reads : Bool) : Eff 268435550 s (State.configRead s reads).1 := by
  unfold State.configRead
  refine Eff.ite1 (fun _ => ?_) (fun _ => ?_)
  · refine Eff.fst ?_
    refine Eff.app ?_ (State.cfgFail_eff ..) (by decide)
    exact Eff.refl _ _
  · split
    · refine Eff.fst ?_
      refine Eff.app ?_ (State.cfgFail_eff ..) (by decide)
      exact Eff.refl _ _
    · split
      · extract_lets -merge -underBinder t1
        have e2 : Eff 268435550 s t1 := by
          refine Eff.app ?_ (State.fillCopy_eff ..) (by decide)
          exact Eff.refl _ _
        try clear_value t1
        split
        · refine Eff.fst ?_
          refine Eff.app ?_ (State.cfgFail_eff ..) (by decide)
          exact e2
        · split
          · refine Eff.fst ?_
            refine Eff.app ?_ (State.cfgFail_eff ..) (by decide)
            refine Eff.app ?_ (State.loadLife_eff ..) (by decide)
            refine Eff.app ?_ (Eff.of_pair (State.imageBurns_eff ..) (by assumption)) (by decide)
            exact e2
          · refine Eff.fst ?_
            refine Eff.app ?_ (State.acceptImage_eff ..) (by decide)
            refine Eff.app ?_ (State.loadLife_eff ..) (by decide)
            refine Eff.app ?_ (Eff.of_pair (State.imageBurns_eff ..) (by assumption)) (by decide)
            exact e2

theorem State.laneMac_eff (s : State) (l : Nat) : Eff 2 s (State.laneMac s l) := by
  unfold State.laneMac
  refine Eff.ite (fun _ => ?_) (fun _ => ?_)
  · refine Eff.app ?_ (State.setFld_eff ..) (by decide)
    exact Eff.refl _ _
  · exact Eff.refl _ _

theorem State.loadCamera_eff (s : State) (n : Nat) (b : List Byte) : Eff 65536 s (State.loadCamera s n b) := by
  unfold State.loadCamera
  extract_lets -merge -underBinder t0 t1
  try clear_value t0
  try clear_value t1
  refine Eff.app ?_ (State.setLane_eff ..) (by decide)
  exact Eff.refl _ _

theorem State.loadCorrect_eff (s : State) (bank : Nat) (v : Nat) (b : List Byte) : Eff 262144 s (State.loadCorrect s bank v b) := by
  unfold State.loadCorrect
  extract_lets -merge -underBinder t0 t1 t2 t3 t4 t5
  try clear_value t0
  try clear_value t1
  try clear_value t2
  try clear_value t3
  try clear_value t4
  have e6 : Eff 262144 s t5 := by
    refine Eff.app ?_ (Eff.set_px _ _) (by decide)
    exact Eff.refl _ _
  try clear_value t5
  refine Eff.app ?_ (Eff.foldl (m := 262144) ?_ _ _) (Nat.or_self _)
  · exact e6
  · intro y7 y8
    extract_lets -merge -underBinder t9 t10
    try clear_value t9
    try clear_value t10
    refine Eff.app ?_ (Eff.set_px _ _) (by decide)
    exact Eff.refl _ _

theorem State.loadSemas_eff (s : State) (b : List Byte) : Eff 514 s (State.loadSemas s b) := by
  unfold State.loadSemas
  extract_lets -merge -underBinder t0 t1 t2
  try clear_value t0
  try clear_value t1
  have e3 : Eff 514 s t2 := by
    refine Eff.app ?_ (Eff.set_shep _ _) (by decide)
    exact Eff.refl _ _
  try clear_value t2
  refine Eff.app ?_ (Eff.foldl (m := 514) ?_ _ _) (Nat.or_self _)
  · exact e3
  · intro y4 y5
    refine Eff.app ?_ (State.setFld_eff ..) (by decide)
    exact Eff.refl _ _

theorem State.loadExtra_eff (s : State) (r : Rec) (bank : Nat) : Eff 332310 s (State.loadExtra s r bank) := by
  unfold State.loadExtra
  split
  · refine Eff.app ?_ (State.loadSemas_eff ..) (by decide)
    exact Eff.refl _ _
  · refine Eff.app ?_ (Eff.foldl (m := 332310) ?_ _ _) (Nat.or_self _)
    · exact Eff.refl _ _
    · intro y0 y1
      refine Eff.app ?_ (State.putRing_eff ..) (by decide)
      exact Eff.refl _ _
  · refine Eff.app ?_ (Eff.set_drove _ _) (by decide)
    exact Eff.refl _ _
  · refine Eff.app ?_ (State.loadCamera_eff ..) (by decide)
    exact Eff.refl _ _
  · refine Eff.app ?_ (State.loadCorrect_eff ..) (by decide)
    exact Eff.refl _ _
  · exact Eff.refl _ _

theorem State.loadWords_eff (s : State) (r : Rec) : Eff 2 s (State.loadWords s r) := by
  unfold State.loadWords
  refine Eff.app ?_ (Eff.foldl (m := 2) ?_ _ _) (Nat.or_self _)
  · exact Eff.refl _ _
  · intro y0 y1
    refine Eff.app ?_ (State.setWord_eff ..) (by decide)
    exact Eff.refl _ _

theorem State.enableRecord_eff (s : State) (r : Rec) : Eff 17179869183 s (State.enableRecord s r) := by
  unfold State.enableRecord
  refine Eff.app ?_ (Eff.foldl (m := 17179869183) ?_ _ _) (Nat.or_self _)
  · exact Eff.refl _ _
  · intro y0 y1
    refine Eff.ite (fun _ => ?_) (fun _ => ?_)
    · split
      · refine Eff.app ?_ (State.regWrite_eff ..) (by decide)
        exact Eff.refl _ _
      · exact Eff.refl _ _
    · exact Eff.refl _ _

theorem State.loadQuotas_eff (s : State) (l : List Rec) : Eff 256 s (State.loadQuotas s l) := by
  unfold State.loadQuotas
  refine Eff.app ?_ (Eff.set_fold _ _) (by decide)
  exact Eff.refl _ _

theorem State.noteRecs_eff (s : State) (l : List Rec) : Eff 268435456 s (State.noteRecs s l) := by
  unfold State.noteRecs
  refine Eff.app ?_ (Eff.set_image _ _ rfl) (by decide)
  exact Eff.refl _ _

theorem State.loadPack_eff (s : State) (r : Rec) (b : List Byte) (banks : Bool) : Eff 268435982 s (State.loadPack s r b banks) := by
  unfold State.loadPack
  extract_lets -merge -underBinder t0 t1 t2 t3 t4
  try clear_value t0
  try clear_value t1
  try clear_value t2
  have e5 : Eff 268435982 s t3 := by
    refine Eff.app ?_ (State.placePack_eff ..) (by decide)
    exact Eff.refl _ _
  try clear_value t3
  have e6 : Eff 268435982 s t4 := by
    refine Eff.app ?_ (State.installClient_eff ..) (by decide)
    exact e5
  try clear_value t4
  refine Eff.ite (fun _ => ?_) (fun _ => ?_)
  · refine Eff.app ?_ (State.writeStem_eff ..) (by decide)
    exact e6
  · exact e6

theorem State.applyFences_eff (s : State) : Eff 4294967390 s (State.applyFences s) := by
  unfold State.applyFences
  extract_lets -merge -underBinder t0
  try clear_value t0
  refine Eff.app ?_ (State.coresHold_eff ..) (by decide)
  refine Eff.app ?_ (Eff.foldl (m := 4294967390) ?_ _ _) (Nat.or_self _)
  · exact Eff.refl _ _
  · intro y1 y2
    refine Eff.ite (fun _ => ?_) (fun _ => ?_)
    · refine Eff.app ?_ (State.setFld_eff ..) (by decide)
      refine Eff.app ?_ (State.setFld_eff ..) (by decide)
      refine Eff.app ?_ (State.setFld_eff ..) (by decide)
      exact Eff.refl _ _
    · exact Eff.refl _ _

theorem State.coldLoad_eff (s : State) : Eff 17179869183 s (State.coldLoad s) := by
  unfold State.coldLoad
  extract_lets -merge -underBinder t0 t1 t2 t3 t4 t5 t6
  try clear_value t0
  try clear_value t1
  have e7 : Eff 17179869183 s t2 := by
    refine Eff.app ?_ (Eff.foldl (m := 17179869183) ?_ _ _) (Nat.or_self _)
    · exact Eff.refl _ _
    · intro y8 y9
      refine Eff.app ?_ (State.loadExtra_eff ..) (by decide)
      refine Eff.app ?_ (State.loadWords_eff ..) (by decide)
      exact Eff.refl _ _
  try clear_value t2
  have e10 : Eff 17179869183 s t3 := by
    refine Eff.app ?_ (Eff.foldl (m := 17179869183) ?_ _ _) (Nat.or_self _)
    · exact e7
    · intro y11 y12
      refine Eff.app ?_ (State.laneMac_eff ..) (by decide)
      exact Eff.refl _ _
  try clear_value t3
  have e13 : Eff 17179869183 s t4 := by
    refine Eff.app ?_ (State.noteRecs_eff ..) (by decide)
    refine Eff.app ?_ (State.loadQuotas_eff ..) (by decide)
    exact e10
  try clear_value t4
  have e14 : Eff 17179869183 s t5 := by
    refine Eff.app ?_ (Eff.foldl (m := 17179869183) ?_ _ _) (Nat.or_self _)
    · exact e13
    · intro y15 y16
      refine Eff.app ?_ (State.loadPack_eff ..) (by decide)
      exact Eff.refl _ _
  try clear_value t5
  have e17 : Eff 17179869183 s t6 := by
    refine Eff.app ?_ (Eff.foldl (m := 17179869183) ?_ _ _) (Nat.or_self _)
    · exact e14
    · intro y18 y19
      refine Eff.app ?_ (State.enableRecord_eff ..) (by decide)
      exact Eff.refl _ _
  try clear_value t6
  refine Eff.app ?_ (State.applyFences_eff ..) (by decide)
  refine Eff.app ?_ (State.grazeIdle_eff ..) (by decide)
  exact e17

theorem State.startLine_eff (s : State) : Eff 17179869183 s (State.startLine s) := by
  unfold State.startLine
  extract_lets -merge -underBinder t0
  try clear_value t0
  refine Eff.app ?_ (Eff.foldl (m := 17179869183) ?_ _ _) (Nat.or_self _)
  · exact Eff.refl _ _
  · intro y1 y2
    refine Eff.app ?_ (State.enableRecord_eff ..) (by decide)
    exact Eff.refl _ _

theorem State.identityStep_eff (s : State) : Eff 805306462 s (State.identityStep s) := by
  unfold State.identityStep
  extract_lets -merge -underBinder t0 t1 t2 t3
  try clear_value t0
  try clear_value t3
  have e4 : Eff 805306462 s t1 := by
    refine Eff.app ?_ (State.setFld_eff ..) (by decide)
    exact Eff.refl _ _
  try clear_value t1
  have e5 : Eff 805306462 s t2 := by
    refine Eff.app ?_ (State.setFld_eff ..) (by decide)
    exact e4
  try clear_value t2
  refine Eff.ite (fun _ => ?_) (fun _ => ?_)
  · refine Eff.app ?_ (State.setFld_eff ..) (by decide)
    exact e4
  · refine Eff.ite (fun _ => ?_) (fun _ => ?_)
    · refine Eff.app ?_ (State.setFld_eff ..) (by decide)
      exact e4
    · refine Eff.ite (fun _ => ?_) (fun _ => ?_)
      · refine Eff.app ?_ (Eff.set_ident _ _) (by decide)
        exact e5
      · split
        · refine Eff.app ?_ (State.raise_eff ..) (by decide)
          refine Eff.app ?_ (State.setFld_eff ..) (by decide)
          exact e4
        · extract_lets -merge -underBinder t6 t7 t8
          try clear_value t8
          have e9 : Eff 805306462 s t6 := by
            refine Eff.app ?_ (State.burn_eff ..) (by decide)
            exact e4
          try clear_value t6
          have e10 : Eff 805306462 s t7 := by
            refine Eff.app ?_ (State.setFld_eff ..) (by decide)
            refine Eff.app ?_ (State.setFld_eff ..) (by decide)
            refine Eff.app ?_ (State.setFld_eff ..) (by decide)
            exact e9
          try clear_value t7
          refine Eff.app ?_ (Eff.set_ident _ _) (by decide)
          exact e10

theorem State.warmWord_eff (s : State) (i : Nat) (r : Option Rec) (q : RecReg × Nat) : Eff 17179869183 s (State.warmWord s i r q).1 := by
  unfold State.warmWord
  extract_lets -merge -underBinder t0 t1
  try clear_value t0
  try clear_value t1
  split
  · extract_lets -merge -underBinder t2
    have e3 : Eff 17179869183 s t2 := by
      refine Eff.app ?_ (State.regWrite_eff ..) (by decide)
      exact Eff.refl _ _
    try clear_value t2
    refine Eff.fst ?_
    exact e3
  · refine Eff.fst ?_
    exact Eff.refl _ _

theorem State.warmLine_eff (s : State) (t : Nat) (i : Nat) (r : Option Rec) : Eff 17179869183 s (State.warmLine s t i r) := by
  unfold State.warmLine
  extract_lets -merge -underBinder t0 t1 t2 t3 t4
  try clear_value t2
  try clear_value t3
  try clear_value t4
  have e5 : Eff 17179869183 s t0.1 := by
    refine Eff.app ?_ (Eff.foldlp (m := 17179869183) ?_ _ _) (Nat.or_self _)
    · refine Eff.fst ?_
      exact Eff.refl _ _
    · intro y6 y7
      refine Eff.fst ?_
      refine Eff.app ?_ (State.warmWord_eff ..) (by decide)
      exact Eff.refl _ _
  try clear_value t0
  have e8 : Eff 17179869183 s t1 := by
    exact e5
  try clear_value t1
  refine Eff.ite (fun _ => ?_) (fun _ => ?_)
  · refine Eff.app ?_ (State.raise_eff ..) (by decide)
    refine Eff.app ?_ (State.setFld_eff ..) (by decide)
    exact e8
  · exact e8

theorem State.warmRings_eff (s : State) (old : List (Nat × Ring)) (new : List (Nat × Ring)) : Eff 20 s (State.warmRings s old new) := by
  unfold State.warmRings
  extract_lets -merge -underBinder t0
  try clear_value t0
  refine Eff.app ?_ (Eff.foldl (m := 20) ?_ _ _) (Nat.or_self _)
  · exact Eff.refl _ _
  · intro y1 y2
    extract_lets -merge -underBinder t3 t4
    try clear_value t3
    try clear_value t4
    refine Eff.ite (fun _ => ?_) (fun _ => ?_)
    · exact Eff.refl _ _
    · refine Eff.app ?_ (State.putRing_eff ..) (by decide)
      exact Eff.refl _ _

theorem State.warmPlain_eff (s : State) (t : Nat) (i : Nat) (r : Option Rec) : Eff 2 s (State.warmPlain s t i r) := by
  unfold State.warmPlain
  refine Eff.app ?_ (Eff.foldl (m := 2) ?_ _ _) (Nat.or_self _)
  · exact Eff.refl _ _
  · intro y0 y1
    refine Eff.app ?_ (State.setWord_eff ..) (by decide)
    exact Eff.refl _ _

theorem State.raceRest_eff (s : State) (r : Nat) : Eff 262144 s (State.raceRest s r) := by
  unfold State.raceRest
  refine Eff.ite (fun _ => ?_) (fun _ => ?_)
  · exact Eff.refl _ _
  · refine Eff.app ?_ (State.setRace_eff ..) (by decide)
    exact Eff.refl _ _

theorem State.warmRecords_eff (s : State) (l : List Rec) : Eff 17179869183 s (State.warmRecords s l) := by
  unfold State.warmRecords
  extract_lets -merge -underBinder t0 t1 t2 t3 t4 t5 t6 t7 t8 t9 t10 t11
  try clear_value t0
  try clear_value t1
  try clear_value t4
  try clear_value t5
  try clear_value t6
  try clear_value t7
  try clear_value t8
  try clear_value t10
  have e12 : Eff 17179869183 s t2 := by
    refine Eff.app ?_ (Eff.foldl (m := 17179869183) ?_ _ _) (Nat.or_self _)
    · exact Eff.refl _ _
    · intro y13 y14
      extract_lets -merge -underBinder t15
      try clear_value t15
      refine Eff.ite (fun _ => ?_) (fun _ => ?_)
      · refine Eff.app ?_ (State.warmLine_eff ..) (by decide)
        exact Eff.refl _ _
      · split
        · refine Eff.app ?_ (State.loadSemas_eff ..) (by decide)
          exact Eff.refl _ _
        · refine Eff.app ?_ (State.loadCamera_eff ..) (by decide)
          exact Eff.refl _ _
        · exact Eff.refl _ _
        · exact Eff.refl _ _
        · exact Eff.refl _ _
        · refine Eff.app ?_ (State.raceRest_eff ..) (by decide)
          refine Eff.app ?_ (State.warmPlain_eff ..) (by decide)
          exact Eff.refl _ _
        · refine Eff.app ?_ (State.warmPlain_eff ..) (by decide)
          exact Eff.refl _ _
  try clear_value t2
  have e16 : Eff 17179869183 s t3 := by
    refine Eff.app ?_ (State.warmRings_eff ..) (by decide)
    exact e12
  try clear_value t3
  have e17 : Eff 17179869183 s t9 := by
    refine Eff.ite (fun _ => ?_) (fun _ => ?_)
    · refine Eff.app ?_ (Eff.foldl (m := 17179869183) ?_ _ _) (Nat.or_self _)
      · exact e16
      · intro y18 y19
        refine Eff.app ?_ (State.loadCorrect_eff ..) (by decide)
        exact Eff.refl _ _
    · exact e16
  try clear_value t9
  have e20 : Eff 17179869183 s t11 := by
    refine Eff.app ?_ (Eff.set_start _ _) (by decide)
    exact e17
  try clear_value t11
  refine Eff.app ?_ (State.coresHold_eff ..) (by decide)
  refine Eff.app ?_ (State.encHold_eff ..) (by decide)
  refine Eff.app ?_ (State.noteRecs_eff ..) (by decide)
  refine Eff.app ?_ (State.loadQuotas_eff ..) (by decide)
  exact e20

theorem State.clearSws_eff (s : State) : Eff 12 s s.clearSws := by
  exact ((Eff.set_mem s _ (Tab.wf_filter _ _ _)).mono (M := 12) (by decide)).app (Eff.set_marks _ _ (Tab.wf_filter _ _ _)) (by decide)

theorem State.warmPacks_eff (s : State) (l : List Rec) (sec : List Byte) : Eff 268435982 s (State.warmPacks s l sec) := by
  unfold State.warmPacks
  extract_lets -merge -underBinder t0 t1 t2
  try clear_value t0
  have e3 : Eff 268435982 s t1 := by
    refine Eff.app ?_ (State.clearSws_eff ..) (by decide)
    exact Eff.refl _ _
  try clear_value t1
  have e4 : Eff 268435982 s t2 := by
    refine Eff.app ?_ (Eff.foldl (m := 268435982) ?_ _ _) (Nat.or_self _)
    · exact e3
    · intro y5 y6
      refine Eff.ite (fun _ => ?_) (fun _ => ?_)
      · exact Eff.refl _ _
      · refine Eff.app ?_ (State.clearClient_eff ..) (by decide)
        exact Eff.refl _ _
  try clear_value t2
  refine Eff.app ?_ (Eff.foldl (m := 268435982) ?_ _ _) (Nat.or_self _)
  · exact e4
  · intro y7 y8
    extract_lets -merge -underBinder t9 t10 t11 t12
    try clear_value t9
    try clear_value t10
    try clear_value t11
    have e13 : Eff 268435982 y7 t12 := by
      refine Eff.app ?_ (State.loadPack_eff ..) (by decide)
      exact Eff.refl _ _
    try clear_value t12
    refine Eff.ite (fun _ => ?_) (fun _ => ?_)
    · refine Eff.app ?_ (State.placePack_eff ..) (by decide)
      exact Eff.refl _ _
    · refine Eff.ite (fun _ => ?_) (fun _ => ?_)
      · exact e13
      · refine Eff.app ?_ (State.readmit_eff ..) (by decide)
        exact e13

theorem State.reread_eff (s : State) : Eff 268435470 s (State.reread s).1 := by
  unfold State.reread
  split
  · refine Eff.fst ?_
    refine Eff.app ?_ (State.cfgFail_eff ..) (by decide)
    exact Eff.refl _ _
  · split
    · extract_lets -merge -underBinder t1
      have e2 : Eff 268435470 s t1 := by
        refine Eff.app ?_ (State.fillCopy_eff ..) (by decide)
        exact Eff.refl _ _
      try clear_value t1
      split
      · refine Eff.fst ?_
        refine Eff.app ?_ (State.cfgFail_eff ..) (by decide)
        refine Eff.app ?_ (Eff.set_image _ _ rfl) (by decide)
        exact e2
      · refine Eff.fst ?_
        exact e2

theorem State.refreshCopy_eff (s : State) : Eff 268435470 s (State.refreshCopy s).1 := by
  unfold State.refreshCopy
  refine Eff.ite1 (fun _ => ?_) (fun _ => ?_)
  · refine Eff.fst ?_
    exact Eff.refl _ _
  · split
    · refine Eff.fst ?_
      refine Eff.app ?_ (Eff.of_pair (State.reread_eff ..) (by assumption)) (by decide)
      exact Eff.refl _ _
    · refine Eff.fst ?_
      refine Eff.app ?_ (Eff.of_pair (State.reread_eff ..) (by assumption)) (by decide)
      exact Eff.refl _ _

theorem State.warmHeaders_eff (s : State) : Eff 1073741824 s (State.warmHeaders s).1 := by
  unfold State.warmHeaders
  split
  · refine Eff.fst ?_
    exact Eff.refl _ _
  · extract_lets -merge -underBinder t0 t1
    try clear_value t0
    try clear_value t1
    refine Eff.fst ?_
    refine Eff.app ?_ (Eff.set_start _ _) (by decide)
    exact Eff.refl _ _

theorem State.warmChecks_eff (s : State) : Eff 268435550 s (State.warmChecks s).1 := by
  unfold State.warmChecks
  refine Eff.ite1 (fun _ => ?_) (fun _ => ?_)
  · split
    · refine Eff.fst ?_
      refine Eff.app ?_ (State.acceptImage_eff ..) (by decide)
      refine Eff.app ?_ (Eff.of_pair (State.reread_eff ..) (by assumption)) (by decide)
      exact Eff.refl _ _
    · refine Eff.fst ?_
      refine Eff.app ?_ (Eff.of_pair (State.reread_eff ..) (by assumption)) (by decide)
      exact Eff.refl _ _
  · split
    · refine Eff.fst ?_
      refine Eff.app ?_ (State.cfgFail_eff ..) (by decide)
      exact Eff.refl _ _
    · split
      · split
        · refine Eff.fst ?_
          refine Eff.app ?_ (State.cfgFail_eff ..) (by decide)
          exact Eff.refl _ _
        · refine Eff.fst ?_
          refine Eff.app ?_ (State.acceptImage_eff ..) (by decide)
          exact Eff.refl _ _

end Sys2Proof.Machine
end

