-- ==== Sys2Proof/Laws/EffSteps.lean ====
section
/-! SUPPORT. What each operation of Machine/Steps.lean can touch, by unit of the state (see Laws/Effect.lean). -/

set_option linter.unusedVariables false
set_option linter.unusedTactic false
set_option linter.unreachableTactic false

namespace Sys2Proof.Machine

theorem State.setupAll_eff (s : State) : Eff 196610 s (State.setupAll s) := by
  unfold State.setupAll
  refine Eff.app ?_ (Eff.foldl (m := 196610) ?_ _ _) (Nat.or_self _)
  · exact Eff.refl _ _
  · intro y0 y1
    refine Eff.app ?_ (State.setupStart_eff ..) (by decide)
    exact Eff.refl _ _

theorem State.restartCps_eff (s : State) : Eff 2147483648 s (State.restartCps s) := by
  unfold State.restartCps
  refine Eff.app ?_ (Eff.set_health _ _) (by decide)
  exact Eff.refl _ _

theorem State.bootEnds_eff (s : State) : Eff 33554526 s (State.bootEnds s) := by
  unfold State.bootEnds
  extract_lets -merge -underBinder t0 t1
  try clear_value t1
  have e2 : Eff 33554526 s t0 := by
    refine Eff.app ?_ (State.writePage_eff ..) (by decide)
    refine Eff.app ?_ (State.loadLife_eff ..) (by decide)
    exact Eff.refl _ _
  try clear_value t0
  refine Eff.app ?_ (Eff.set_host _ _) (by decide)
  exact e2

theorem State.coldEnds_eff (s : State) : Eff 17179869183 s (State.coldEnds s) := by
  unfold State.coldEnds
  extract_lets -merge -underBinder t0 t1 t2
  try clear_value t1
  have e3 : Eff 17179869183 s t0 := by
    refine Eff.app ?_ (State.startLine_eff ..) (by decide)
    exact Eff.refl _ _
  try clear_value t0
  have e4 : Eff 17179869183 s t2 := by
    refine Eff.app ?_ (Eff.set_phase_start _ _ _) (by decide)
    exact e3
  try clear_value t2
  refine Eff.app ?_ (State.hold_eff ..) (by decide)
  refine Eff.app ?_ (State.setFld_eff ..) (by decide)
  refine Eff.app ?_ (State.setFld_eff ..) (by decide)
  exact e4

theorem State.coldStepDone_eff (s : State) (dt : Nat) (fail : Bool) (mask : Nat) (reads : Bool) : Eff 17179869183 s (State.coldStepDone s dt fail mask reads) := by
  unfold State.coldStepDone
  split
  · extract_lets -merge -underBinder t0 t1
    have e2 : Eff 17179869183 s t0 := by
      refine Eff.ite (fun _ => ?_) (fun _ => ?_)
      · refine Eff.app ?_ (Eff.foldl (m := 17179869183) ?_ _ _) (Nat.or_self _)
        · exact Eff.refl _ _
        · intro y3 y4
          refine Eff.app ?_ (State.setupGiveUp_eff ..) (by decide)
          exact Eff.refl _ _
      · exact Eff.refl _ _
    try clear_value t0
    have e5 : Eff 17179869183 s t1 := by
      refine Eff.app ?_ (State.advanceTo_eff ..) (by decide)
      exact e2
    try clear_value t1
    split
    · refine Eff.app ?_ (State.enterStep_eff ..) (by decide)
      exact e5
    · refine Eff.app ?_ (State.enterStep_eff ..) (by decide)
      refine Eff.app ?_ (State.bootEnds_eff ..) (by decide)
      exact e5
    · refine Eff.ite (fun _ => ?_) (fun _ => ?_)
      · refine Eff.app ?_ (State.coldFail_eff ..) (by decide)
        exact e5
      · refine Eff.app ?_ (State.enterStep_eff ..) (by decide)
        exact e5
    · refine Eff.ite (fun _ => ?_) (fun _ => ?_)
      · refine Eff.app ?_ (State.coldFail_eff ..) (by decide)
        exact e5
      · refine Eff.app ?_ (State.enterStep_eff ..) (by decide)
        refine Eff.app ?_ (Eff.set_image _ _ rfl) (by decide)
        exact e5
    · refine Eff.app ?_ (State.enterStep_eff ..) (by decide)
      refine Eff.app ?_ (State.identityStep_eff ..) (by decide)
      exact e5
    · split
      · refine Eff.app ?_ (State.enterStep_eff ..) (by decide)
        refine Eff.app ?_ (Eff.of_pair (State.configRead_eff ..) (by assumption)) (by decide)
        exact e5
      · refine Eff.ite (fun _ => ?_) (fun _ => ?_)
        · refine Eff.app ?_ (State.enterPaddock_eff ..) (by decide)
          refine Eff.app ?_ (Eff.of_pair (State.configRead_eff ..) (by assumption)) (by decide)
          exact e5
        · refine Eff.app ?_ (State.coldReject_eff ..) (by decide)
          refine Eff.app ?_ (Eff.of_pair (State.configRead_eff ..) (by assumption)) (by decide)
          exact e5
    · extract_lets -merge -underBinder t6
      have e7 : Eff 17179869183 s t6 := by
        refine Eff.app ?_ (State.lambTest_eff ..) (by decide)
        refine Eff.app ?_ (State.coldLoad_eff ..) (by decide)
        exact e5
      try clear_value t6
      refine Eff.ite (fun _ => ?_) (fun _ => ?_)
      · refine Eff.app ?_ (State.coldFail_eff ..) (by decide)
        exact e7
      · refine Eff.app ?_ (State.enterStep_eff ..) (by decide)
        exact e7
    · refine Eff.app ?_ (State.setupAll_eff ..) (by decide)
      refine Eff.app ?_ (State.enterStep_eff ..) (by decide)
      refine Eff.app ?_ (State.restartCps_eff ..) (by decide)
      exact e5
    · refine Eff.app ?_ (State.coldEnds_eff ..) (by decide)
      exact e5
    · exact e5
  · exact Eff.refl _ _

theorem State.dropHalves_eff (s : State) : Eff 67108864 s (State.dropHalves s) := by
  unfold State.dropHalves
  extract_lets -merge -underBinder t0
  try clear_value t0
  refine Eff.app ?_ (Eff.set_halves _ _) (by decide)
  exact Eff.refl _ _

theorem State.identityRestart_eff (s : State) (crcOk : Bool) : Eff 94 s (State.identityRestart s crcOk) := by
  unfold State.identityRestart
  refine Eff.ite (fun _ => ?_) (fun _ => ?_)
  · exact Eff.refl _ _
  · refine Eff.app ?_ (State.raise_eff ..) (by decide)
    refine Eff.app ?_ (State.setFld_eff ..) (by decide)
    exact Eff.refl _ _

theorem State.warmEnds_eff (s : State) : Eff 1095207775 s (State.warmEnds s) := by
  unfold State.warmEnds
  extract_lets -merge -underBinder t0 t1 t2 t3 t4 t5 t6 t7 t8
  try clear_value t0
  try clear_value t4
  try clear_value t8
  have e9 : Eff 1095207775 s t1 := by
    refine Eff.app ?_ (Eff.set_phase _ _) (by decide)
    exact Eff.refl _ _
  try clear_value t1
  have e10 : Eff 1095207775 s t2 := by
    refine Eff.app ?_ (State.setFld_eff ..) (by decide)
    refine Eff.app ?_ (State.setFld_eff ..) (by decide)
    refine Eff.app ?_ (State.bump_eff ..) (by decide)
    exact e9
  try clear_value t2
  have e11 : Eff 1095207775 s t3 := by
    refine Eff.app ?_ (State.dmaPostWaiting_eff ..) (by decide)
    refine Eff.app ?_ (State.postWaiting_eff ..) (by decide)
    refine Eff.app ?_ (State.retireAll_eff ..) (by decide)
    refine Eff.app ?_ (State.flushEvents_eff ..) (by decide)
    exact e10
  try clear_value t3
  have e12 : Eff 1095207775 s t5 := by
    refine Eff.app ?_ (Eff.set_ptp _ _) (by decide)
    exact e11
  try clear_value t5
  have e13 : Eff 1095207775 s t6 := by
    refine Eff.ite (fun _ => ?_) (fun _ => ?_)
    · refine Eff.app ?_ (State.setupAll_eff ..) (by decide)
      exact e12
    · refine Eff.app ?_ (State.probeCameras_eff ..) (by decide)
      exact e12
  try clear_value t6
  have e14 : Eff 1095207775 s t7 := by
    refine Eff.ite (fun _ => ?_) (fun _ => ?_)
    · refine Eff.app ?_ (State.publish_eff ..) (by decide)
      exact e13
    · refine Eff.ite (fun _ => ?_) (fun _ => ?_)
      · refine Eff.app ?_ (State.beginBuild_eff ..) (by decide)
        exact e13
      · refine Eff.app ?_ (State.grazeAdvance_eff ..) (by decide)
        refine Eff.app ?_ (State.setCycle_eff ..) (by decide)
        exact e13
  try clear_value t7
  refine Eff.app ?_ (Eff.set_start _ _) (by decide)
  exact e14

theorem State.warmStepDone_eff (s : State) (dt : Nat) (up : Upsets) (fwOk : Bool) (crcOk : Bool) : Eff 17179869183 s (State.warmStepDone s dt up fwOk crcOk) := by
  unfold State.warmStepDone
  split
  · refine Eff.ite (fun _ => ?_) (fun _ => ?_)
    · exact Eff.refl _ _
    · extract_lets -merge -underBinder t0
      have e1 : Eff 17179869183 s t0 := by
        refine Eff.app ?_ (State.upset_eff ..) (by decide)
        refine Eff.app ?_ (State.advanceTo_eff ..) (by decide)
        exact Eff.refl _ _
      try clear_value t0
      split
      · refine Eff.ite (fun _ => ?_) (fun _ => ?_)
        · refine Eff.app ?_ (State.enterStep_eff ..) (by decide)
          refine Eff.app ?_ (State.restartCps_eff ..) (by decide)
          refine Eff.app ?_ (State.identityRestart_eff ..) (by decide)
          refine Eff.app ?_ (State.dropHalves_eff ..) (by decide)
          exact e1
        · refine Eff.app ?_ (State.warmFail_eff ..) (by decide)
          exact e1
      · split
        · refine Eff.app ?_ (State.enterStep_eff ..) (by decide)
          refine Eff.app ?_ (Eff.of_pair (State.warmHeaders_eff ..) (by assumption)) (by decide)
          exact e1
        · refine Eff.app ?_ (State.warmFail_eff ..) (by decide)
          refine Eff.app ?_ (Eff.of_pair (State.warmHeaders_eff ..) (by assumption)) (by decide)
          exact e1
      · split
        · refine Eff.app ?_ (State.enterStep_eff ..) (by decide)
          refine Eff.app ?_ (Eff.of_pair (State.warmChecks_eff ..) (by assumption)) (by decide)
          exact e1
        · refine Eff.app ?_ (State.warmFail_eff ..) (by decide)
          refine Eff.app ?_ (Eff.of_pair (State.warmChecks_eff ..) (by assumption)) (by decide)
          exact e1
      · split
        · refine Eff.app ?_ (State.enterStep_eff ..) (by decide)
          refine Eff.app ?_ (State.warmRecords_eff ..) (by decide)
          refine Eff.app ?_ (Eff.of_pair (State.refreshCopy_eff ..) (by assumption)) (by decide)
          exact e1
        · refine Eff.app ?_ (State.warmFail_eff ..) (by decide)
          refine Eff.app ?_ (Eff.of_pair (State.refreshCopy_eff ..) (by assumption)) (by decide)
          exact e1
      · split
        · refine Eff.app ?_ (State.enterStep_eff ..) (by decide)
          refine Eff.app ?_ (State.warmPacks_eff ..) (by decide)
          refine Eff.app ?_ (Eff.of_pair (State.refreshCopy_eff ..) (by assumption)) (by decide)
          exact e1
        · refine Eff.app ?_ (State.warmFail_eff ..) (by decide)
          refine Eff.app ?_ (Eff.of_pair (State.refreshCopy_eff ..) (by assumption)) (by decide)
          exact e1
      · refine Eff.app ?_ (State.warmEnds_eff ..) (by decide)
        exact e1
  · exact Eff.refl _ _

end Sys2Proof.Machine
end

