-- ==== Sys2Proof/Laws/EffHealth.lean ====
section
/-! SUPPORT. What each operation of Machine/Health.lean can touch, by unit of the state (see Laws/Effect.lean). -/

set_option linter.unusedVariables false
set_option linter.unusedTactic false
set_option linter.unreachableTactic false

namespace Sys2Proof.Machine

theorem State.cpLost_eff (s : State) (mask : Nat) : Eff 17179869183 s (State.cpLost s mask) := by
  unfold State.cpLost
  extract_lets -merge -underBinder t0 t1
  try clear_value t0
  have e2 : Eff 17179869183 s t1 := by
    refine Eff.app ?_ (State.hold_eff ..) (by decide)
    refine Eff.app ?_ (Eff.set_health _ _) (by decide)
    exact Eff.refl _ _
  try clear_value t1
  refine Eff.ite (fun _ => ?_) (fun _ => ?_)
  · refine Eff.app ?_ (State.restartCps_eff ..) (by decide)
    exact e2
  · refine Eff.app ?_ (State.cpFault_eff ..) (by decide)
    exact e2

theorem State.watchdog_eff (s : State) (cpu : Nat) (sram : Bool) (ofs : Nat) (mask : Nat) : Eff 17179869183 s (State.watchdog s cpu sram ofs mask) := by
  unfold State.watchdog
  extract_lets -merge -underBinder t0
  have e1 : Eff 17179869183 s t0 := by
    refine Eff.ite (fun _ => ?_) (fun _ => ?_)
    · refine Eff.app ?_ (State.raise_eff ..) (by decide)
      refine Eff.app ?_ (State.bumpSat_eff ..) (by decide)
      exact Eff.refl _ _
    · exact Eff.refl _ _
  try clear_value t0
  refine Eff.app ?_ (State.cpLost_eff ..) (by decide)
  refine Eff.app ?_ (State.bump_eff ..) (by decide)
  refine Eff.app ?_ (State.raise_eff ..) (by decide)
  exact e1

theorem State.sequenceFail_eff (s : State) (mask : Nat) : Eff 17179869183 s (State.sequenceFail s mask) := by
  unfold State.sequenceFail
  refine Eff.app ?_ (State.cpLost_eff ..) (by decide)
  refine Eff.app ?_ (State.bump_eff ..) (by decide)
  refine Eff.app ?_ (State.raise_eff ..) (by decide)
  exact Eff.refl _ _

theorem State.sequenceWrite_eff (s : State) (cpu : Nat) (num : Nat) (mask : Nat) : Eff 17179869183 s (State.sequenceWrite s cpu num mask) := by
  unfold State.sequenceWrite
  refine Eff.ite (fun _ => ?_) (fun _ => ?_)
  · exact Eff.refl _ _
  · extract_lets -merge -underBinder t0 t1 t2
    try clear_value t0
    try clear_value t1
    have e3 : Eff 17179869183 s t2 := by
      refine Eff.app ?_ (Eff.set_health _ _) (by decide)
      exact Eff.refl _ _
    try clear_value t2
    refine Eff.ite (fun _ => ?_) (fun _ => ?_)
    · refine Eff.app ?_ (State.sequenceFail_eff ..) (by decide)
      exact Eff.refl _ _
    · refine Eff.ite (fun _ => ?_) (fun _ => ?_)
      · refine Eff.ite (fun _ => ?_) (fun _ => ?_)
        · refine Eff.app ?_ (State.hold_eff ..) (by decide)
          exact e3
        · exact e3
      · refine Eff.app ?_ (Eff.set_health _ _) (by decide)
        exact Eff.refl _ _

theorem State.sequenceLate_eff (s : State) (mask : Nat) : Eff 17179869183 s (State.sequenceLate s mask) := by
  unfold State.sequenceLate
  refine Eff.ite (fun _ => ?_) (fun _ => ?_)
  · exact Eff.refl _ _
  · refine Eff.app ?_ (State.sequenceFail_eff ..) (by decide)
    refine Eff.app ?_ (State.advanceTo_eff ..) (by decide)
    exact Eff.refl _ _

theorem State.healthyToggle_eff (s : State) : Eff 4294967328 s (State.healthyToggle s) := by
  unfold State.healthyToggle
  extract_lets -merge -underBinder t0 t1
  try clear_value t1
  have e2 : Eff 4294967328 s t0 := by
    refine Eff.app ?_ (State.advanceTo_eff ..) (by decide)
    exact Eff.refl _ _
  try clear_value t0
  refine Eff.app ?_ (Eff.set_pins _ _) (by decide)
  exact e2

theorem State.throttleEval_eff (s : State) (avg1 : Nat) (avg100 : Nat) (td : Int) (vin : Nat) : Eff 2147483774 s (State.throttleEval s avg1 avg100 td vin) := by
  unfold State.throttleEval
  extract_lets -merge -underBinder t0 t1 t2 t3 t4 t5 t6 t7
  try clear_value t3
  try clear_value t4
  try clear_value t5
  have e8 : Eff 2147483774 s t0 := by
    refine Eff.app ?_ (State.advanceTo_eff ..) (by decide)
    exact Eff.refl _ _
  try clear_value t0
  have e9 : Eff 2147483774 s t1 := by
    refine Eff.app ?_ (State.setFld_eff ..) (by decide)
    refine Eff.app ?_ (State.setFld_eff ..) (by decide)
    refine Eff.app ?_ (State.setFld_eff ..) (by decide)
    exact e8
  try clear_value t1
  have e10 : Eff 2147483774 s t2 := by
    refine Eff.app ?_ (State.setSFld_eff ..) (by decide)
    exact e9
  try clear_value t2
  have e11 : Eff 2147483774 s t6 := by
    refine Eff.app ?_ (Eff.set_health _ _) (by decide)
    exact e10
  try clear_value t6
  have e12 : Eff 2147483774 s t7 := by
    refine Eff.app ?_ (State.setFld_eff ..) (by decide)
    exact e11
  try clear_value t7
  split
  · exact e12
  · extract_lets -merge -underBinder t13 t14
    try clear_value t14
    have e15 : Eff 2147483774 s t13 := by
      refine Eff.app ?_ (State.setFld_eff ..) (by decide)
      refine Eff.app ?_ (State.setFld_eff ..) (by decide)
      refine Eff.app ?_ (State.setFld_eff ..) (by decide)
      exact e12
    try clear_value t13
    refine Eff.app ?_ (State.raise_eff ..) (by decide)
    refine Eff.app ?_ (Eff.set_health _ _) (by decide)
    exact e15

theorem State.sramReport_eff (s : State) (code : Nat) (cp : Nat) : Eff 126 s (State.sramReport s code cp) := by
  unfold State.sramReport
  refine Eff.app ?_ (State.sramCe_eff ..) (by decide)
  refine Eff.app ?_ (State.bumpSat_eff ..) (by decide)
  exact Eff.refl _ _

theorem State.lineError_eff (s : State) (v : Nat) (n : Int) (ofs : Nat) (hard : Bool) : Eff 12887301982 s (State.lineError s v n ofs hard) := by
  unfold State.lineError
  split
  · exact Eff.refl _ _
  · refine Eff.ite (fun _ => ?_) (fun _ => ?_)
    · refine Eff.app ?_ (State.bumpSat_eff ..) (by decide)
      exact Eff.refl _ _
    · extract_lets -merge -underBinder t0 t1 t2 t3
      try clear_value t1
      try clear_value t2
      have e4 : Eff 12887301982 s t0 := by
        refine Eff.app ?_ (State.raise_eff ..) (by decide)
        refine Eff.app ?_ (State.bumpSat_eff ..) (by decide)
        exact Eff.refl _ _
      try clear_value t0
      have e5 : Eff 12887301982 s t3 := by
        refine Eff.app ?_ (State.setView_eff ..) (by decide)
        exact e4
      try clear_value t3
      refine Eff.app ?_ (Eff.foldl (m := 12887301982) ?_ _ _) (Nat.or_self _)
      · exact e5
      · intro y6 y7
        refine Eff.ite (fun _ => ?_) (fun _ => ?_)
        · refine Eff.app ?_ (State.gapParts_eff ..) (by decide)
          exact Eff.refl _ _
        · exact Eff.refl _ _

theorem State.lineErrors_eff (s : State) (l : List (Nat × Int × Nat × Bool)) : Eff 12887301982 s (State.lineErrors s l) := by
  unfold State.lineErrors
  refine Eff.app ?_ (Eff.foldl (m := 12887301982) ?_ _ _) (Nat.or_self _)
  · exact Eff.refl _ _
  · intro y0 y1
    refine Eff.app ?_ (State.lineError_eff ..) (by decide)
    exact Eff.refl _ _

theorem State.tallyErrors_eff (s : State) (l : List (Nat × Bool)) : Eff 15032684382 s (State.tallyErrors s l) := by
  unfold State.tallyErrors
  refine Eff.app ?_ (Eff.foldl (m := 15032684382) ?_ _ _) (Nat.or_self _)
  · exact Eff.refl _ _
  · intro y0 y1
    refine Eff.app ?_ (State.tallyError_eff ..) (by decide)
    exact Eff.refl _ _

end Sys2Proof.Machine
end

