-- ==== Sys2Proof/Laws/EffHostPort.lean ====
section
/-! SUPPORT. What each operation of Machine/HostPort.lean can touch, by unit of the state (see Laws/Effect.lean). -/

set_option linter.unusedVariables false
set_option linter.unusedTactic false
set_option linter.unreachableTactic false

namespace Sys2Proof.Machine

theorem State.hostSeen_eff (s : State) : Eff 33554526 s (State.hostSeen s) := by
  unfold State.hostSeen
  extract_lets -merge -underBinder t0 t1 t2
  try clear_value t0
  try clear_value t1
  have e3 : Eff 33554526 s t2 := by
    refine Eff.app ?_ (Eff.set_host _ _) (by decide)
    exact Eff.refl _ _
  try clear_value t2
  refine Eff.ite (fun _ => ?_) (fun _ => ?_)
  · refine Eff.app ?_ (State.raise_eff ..) (by decide)
    exact e3
  · exact e3

theorem State.onPort_eff {M : Nat} (s : State) (f : State → State) (h_f : ∀ v0, Eff M v0 (f v0)) : Eff (33554526 ||| M) s (State.onPort s f) := by
  unfold State.onPort
  refine Eff.ite (fun _ => ?_) (fun _ => ?_)
  · refine Eff.app ?_ (h_f ..) mask_own
    refine Eff.app ?_ (State.hostSeen_eff ..) (mask_or (by decide))
    exact Eff.refl _ _
  · exact Eff.refl _ _

theorem State.hostLost_eff (s : State) : Eff 33554558 s (State.hostLost s) := by
  unfold State.hostLost
  extract_lets -merge -underBinder t0 t1 t2 t3
  try clear_value t0
  try clear_value t3
  have e4 : Eff 33554558 s t1 := by
    refine Eff.app ?_ (State.advanceTo_eff ..) (by decide)
    exact Eff.refl _ _
  try clear_value t1
  have e5 : Eff 33554558 s t2 := by
    refine Eff.app ?_ (State.setFld_eff ..) (by decide)
    refine Eff.app ?_ (State.bump_eff ..) (by decide)
    exact e4
  try clear_value t2
  refine Eff.ite (fun _ => ?_) (fun _ => ?_)
  · exact Eff.refl _ _
  · refine Eff.app ?_ (State.raise_eff ..) (by decide)
    refine Eff.app ?_ (Eff.set_host _ _) (by decide)
    exact e5

theorem State.hpReset_eff (s : State) (asserted : Bool) : Eff 33554432 s (State.hpReset s asserted) := by
  unfold State.hpReset
  refine Eff.ite (fun _ => ?_) (fun _ => ?_)
  · refine Eff.app ?_ (Eff.set_host _ _) (by decide)
    exact Eff.refl _ _
  · refine Eff.app ?_ (Eff.set_host _ _) (by decide)
    exact Eff.refl _ _

theorem State.hckWrite_eff (s : State) (hck : Nat) : Eff 2 s (State.hckWrite s hck) := by
  unfold State.hckWrite
  refine Eff.ite (fun _ => ?_) (fun _ => ?_)
  · refine Eff.app ?_ (State.setFld_eff ..) (by decide)
    exact Eff.refl _ _
  · exact Eff.refl _ _

theorem State.hostAct_eff (s : State) (bank : Nat) (row : Nat) : Eff 33554526 s (State.hostAct s bank row) := by
  unfold State.hostAct
  refine Eff.app ?_ (State.onPort_eff (M := 33554526) (h_f := ?_) ..) (by decide)
  · exact Eff.refl _ _
  · intro y0
    refine Eff.app ?_ (Eff.set_host _ _) (by decide)
    exact Eff.refl _ _

theorem State.drive_eff (s : State) (l : List Byte) : Eff 33554432 s (State.drive s l) := by
  unfold State.drive
  refine Eff.app ?_ (Eff.set_host _ _) (by decide)
  exact Eff.refl _ _

theorem State.driveFree_eff (s : State) (n : Nat) : Eff 8623489024 s (State.driveFree s n) := by
  unfold State.driveFree
  split
  · rename_i q0
    refine Eff.app ?_ (State.drive_eff ..) (by decide)
    refine Eff.app ?_ (Eff.of_pair (State.drawBlock_eff ..) q0) (by decide)
    exact Eff.refl _ _

theorem State.hostRd_eff (s : State) (bank : Nat) (col : Nat) (bl32 : Bool) (up : Upsets) : Eff 8623489118 s (State.hostRd s bank col bl32 up) := by
  unfold State.hostRd
  refine Eff.ite (fun _ => ?_) (fun _ => ?_)
  · refine Eff.app ?_ (State.driveFree_eff ..) (by decide)
    exact Eff.refl _ _
  · extract_lets -merge -underBinder t0
    have e1 : Eff 8623489118 s t0 := by
      refine Eff.app ?_ (State.upset_eff ..) (by decide)
      refine Eff.app ?_ (State.hostSeen_eff ..) (by decide)
      exact Eff.refl _ _
    try clear_value t0
    split
    · refine Eff.app ?_ (State.drive_eff ..) (by decide)
      refine Eff.app ?_ (State.bump_eff ..) (by decide)
      exact e1
    · split
      · rename_i q2
        refine Eff.app ?_ (State.drive_eff ..) (by decide)
        refine Eff.app ?_ (Eff.of_pair (State.read_eff ..) q2) (by decide)
        exact e1

theorem State.penWord_eff (s : State) (w : Nat) (l : List (Nat × Byte)) : Eff 94 s (State.penWord s w l) := by
  unfold State.penWord
  extract_lets -merge -underBinder t0
  try clear_value t0
  refine Eff.ite (fun _ => ?_) (fun _ => ?_)
  · refine Eff.app ?_ (State.write_eff ..) (by decide)
    exact Eff.refl _ _
  · refine Eff.app ?_ (Eff.foldl (m := 94) ?_ _ _) (Nat.or_self _)
    · exact Eff.refl _ _
    · intro y1 y2
      refine Eff.app ?_ (State.write_eff ..) (by decide)
      exact Eff.refl _ _

theorem State.portalSubmit_eff (s : State) (k : Nat) : Eff 33554434 s (State.portalSubmit s k) := by
  unfold State.portalSubmit
  refine Eff.ite (fun _ => ?_) (fun _ => ?_)
  · refine Eff.app ?_ (State.bump_eff ..) (by decide)
    exact Eff.refl _ _
  · refine Eff.app ?_ (Eff.set_host _ _) (by decide)
    exact Eff.refl _ _

theorem State.hostWr_eff (s : State) (bank : Nat) (col : Nat) (bl32 : Bool) (data : List Byte) (mask : Nat) : Eff 33554526 s (State.hostWr s bank col bl32 data mask) := by
  unfold State.hostWr
  refine Eff.app ?_ (State.onPort_eff (M := 33554526) (h_f := ?_) ..) (by decide)
  · exact Eff.refl _ _
  · intro y0
    split
    · refine Eff.app ?_ (State.bump_eff ..) (by decide)
      exact Eff.refl _ _
    · extract_lets -merge -underBinder t1 t2 t3 t4 t5 t6 t7
      try clear_value t1
      try clear_value t2
      try clear_value t4
      try clear_value t5
      try clear_value t6
      have e8 : Eff 33554526 y0 t3 := by
        refine Eff.ite (fun _ => ?_) (fun _ => ?_)
        · refine Eff.app ?_ (State.bump_eff ..) (by decide)
          exact Eff.refl _ _
        · exact Eff.refl _ _
      try clear_value t3
      have e9 : Eff 33554526 y0 t7 := by
        refine Eff.app ?_ (Eff.foldl (m := 33554526) ?_ _ _) (Nat.or_self _)
        · exact e8
        · intro y10 y11
          refine Eff.app ?_ (State.penWord_eff ..) (by decide)
          exact Eff.refl _ _
      try clear_value t7
      refine Eff.ite (fun _ => ?_) (fun _ => ?_)
      · refine Eff.app ?_ (State.portalSubmit_eff ..) (by decide)
        exact e9
      · exact e9

theorem State.hostMrw_eff (s : State) (reg : Nat) (op : Nat) : Eff 33554526 s (State.hostMrw s reg op) := by
  unfold State.hostMrw
  refine Eff.app ?_ (State.onPort_eff (M := 33554526) (h_f := ?_) ..) (by decide)
  · exact Eff.refl _ _
  · intro y0
    extract_lets -merge -underBinder t1 t2 t3
    try clear_value t1
    try clear_value t2
    try clear_value t3
    refine Eff.ite (fun _ => ?_) (fun _ => ?_)
    · exact Eff.refl _ _
    · refine Eff.ite (fun _ => ?_) (fun _ => ?_)
      · refine Eff.app ?_ (Eff.set_host _ _) (by decide)
        exact Eff.refl _ _
      · refine Eff.app ?_ (State.raise_eff ..) (by decide)
        refine Eff.app ?_ (State.bump_eff ..) (by decide)
        exact Eff.refl _ _

theorem State.hostMrr_eff (s : State) (reg : Nat) : Eff 8623489118 s (State.hostMrr s reg) := by
  unfold State.hostMrr
  refine Eff.ite (fun _ => ?_) (fun _ => ?_)
  · refine Eff.app ?_ (State.driveFree_eff ..) (by decide)
    exact Eff.refl _ _
  · refine Eff.app ?_ (State.drive_eff ..) (by decide)
    refine Eff.app ?_ (State.hostSeen_eff ..) (by decide)
    exact Eff.refl _ _

theorem State.selfRefresh_eff (s : State) (on : Bool) : Eff 33554526 s (State.selfRefresh s on) := by
  unfold State.selfRefresh
  refine Eff.app ?_ (State.onPort_eff (M := 33554526) (h_f := ?_) ..) (by decide)
  · exact Eff.refl _ _
  · intro y0
    refine Eff.app ?_ (Eff.set_host _ _) (by decide)
    exact Eff.refl _ _

theorem State.powerDown_eff (s : State) (on : Bool) : Eff 33554526 s (State.powerDown s on) := by
  unfold State.powerDown
  refine Eff.app ?_ (State.onPort_eff (M := 33554526) (h_f := ?_) ..) (by decide)
  · exact Eff.refl _ _
  · intro y0
    refine Eff.app ?_ (Eff.set_host _ _) (by decide)
    exact Eff.refl _ _

theorem State.trained_eff (s : State) (t : Training) (dq : List Byte) : Eff 33554526 s (State.trained s t dq) := by
  unfold State.trained
  refine Eff.app ?_ (State.onPort_eff (M := 33554526) (h_f := ?_) ..) (by decide)
  · exact Eff.refl _ _
  · intro y0
    refine Eff.app ?_ (State.drive_eff ..) (by decide)
    refine Eff.app ?_ (Eff.set_host _ _) (by decide)
    exact Eff.refl _ _

theorem State.wff_eff (s : State) (data : List Byte) : Eff 33554526 s (State.wff s data) := by
  unfold State.wff
  refine Eff.app ?_ (State.onPort_eff (M := 33554526) (h_f := ?_) ..) (by decide)
  · exact Eff.refl _ _
  · intro y0
    extract_lets -merge -underBinder t1 t2
    try clear_value t1
    try clear_value t2
    refine Eff.app ?_ (Eff.set_host _ _) (by decide)
    exact Eff.refl _ _

theorem State.rff_eff (s : State) : Eff 8623489118 s (State.rff s) := by
  unfold State.rff
  refine Eff.ite (fun _ => ?_) (fun _ => ?_)
  · refine Eff.app ?_ (State.driveFree_eff ..) (by decide)
    exact Eff.refl _ _
  · extract_lets -merge -underBinder t0
    have e1 : Eff 8623489118 s t0 := by
      refine Eff.app ?_ (State.hostSeen_eff ..) (by decide)
      exact Eff.refl _ _
    try clear_value t0
    split
    · refine Eff.app ?_ (State.driveFree_eff ..) (by decide)
      exact e1
    · refine Eff.app ?_ (State.drive_eff ..) (by decide)
      refine Eff.app ?_ (Eff.set_host _ _) (by decide)
      exact e1

theorem State.cmdReject_eff (s : State) : Eff 33554526 s (State.cmdReject s) := by
  unfold State.cmdReject
  refine Eff.app ?_ (State.onPort_eff (M := 33554526) (h_f := ?_) ..) (by decide)
  · exact Eff.refl _ _
  · intro y0
    refine Eff.app ?_ (State.bump_eff ..) (by decide)
    exact Eff.refl _ _

theorem State.heartbeat_eff (s : State) (hck : Nat) : Eff 33554558 s (State.heartbeat s hck) := by
  unfold State.heartbeat
  refine Eff.ite (fun _ => ?_) (fun _ => ?_)
  · exact Eff.refl _ _
  · extract_lets -merge -underBinder t0 t1 t2 t3 t4 t5
    try clear_value t0
    try clear_value t2
    try clear_value t5
    have e6 : Eff 33554558 s t1 := by
      refine Eff.app ?_ (State.advanceDev_eff ..) (by decide)
      exact Eff.refl _ _
    try clear_value t1
    have e7 : Eff 33554558 s t3 := by
      refine Eff.app ?_ (State.write_eff ..) (by decide)
      exact e6
    try clear_value t3
    have e8 : Eff 33554558 s t4 := by
      refine Eff.app ?_ (State.hckWrite_eff ..) (by decide)
      refine Eff.app ?_ (State.setFld_eff ..) (by decide)
      exact e7
    try clear_value t4
    refine Eff.app ?_ (Eff.set_host _ _) (by decide)
    exact e8

end Sys2Proof.Machine
end

