-- ==== Sys2Proof/Laws/EffRequests.lean ====
section
/-! SUPPORT. What each operation of Machine/Requests.lean can touch, by unit of the state (see Laws/Effect.lean). -/

set_option linter.unusedVariables false
set_option linter.unusedTactic false
set_option linter.unreachableTactic false

namespace Sys2Proof.Machine

theorem State.setSlotState_eff (s : State) (k : Nat) (v : Nat) : Eff 2 s (State.setSlotState s k v) := by
  unfold State.setSlotState
  refine Eff.app ?_ (State.setFld_eff ..) (by decide)
  exact Eff.refl _ _

theorem State.pkgDone_eff (s : State) (q : PkgReq) (result : Nat) : Eff 94 s (State.pkgDone s q result) := by
  unfold State.pkgDone
  refine Eff.app ?_ (State.raise_eff ..) (by decide)
  refine Eff.app ?_ (State.setFld_eff ..) (by decide)
  refine Eff.app ?_ (State.setFld_eff ..) (by decide)
  refine Eff.app ?_ (State.setFld_eff ..) (by decide)
  exact Eff.refl _ _

theorem State.emptySlot_eff (s : State) (k : Nat) : Eff 134217730 s (State.emptySlot s k) := by
  unfold State.emptySlot
  extract_lets -merge -underBinder t0 t1
  try clear_value t1
  have e2 : Eff 134217730 s t0 := by
    refine Eff.app ?_ (State.setSlotState_eff ..) (by decide)
    exact Eff.refl _ _
  try clear_value t0
  refine Eff.app ?_ (Eff.set_pkg _ _) (by decide)
  exact e2

theorem State.takePkg_eff (s : State) (op : Nat) : Eff 134217728 s (State.takePkg s op).1 := by
  unfold State.takePkg
  refine Eff.ite1 (fun _ => ?_) (fun _ => ?_)
  · refine Eff.fst ?_
    exact Eff.refl _ _
  · split
    · refine Eff.fst ?_
      exact Eff.refl _ _
    · refine Eff.ite1 (fun _ => ?_) (fun _ => ?_)
      · refine Eff.fst ?_
        refine Eff.app ?_ (Eff.set_pkg _ _) (by decide)
        exact Eff.refl _ _
      · refine Eff.fst ?_
        exact Eff.refl _ _

theorem State.runPkg_eff {M : Nat} (s : State) (op : Nat) (act : State → PkgReq → State) (h_act : ∀ v0 v1, Eff M v0 (act v0 v1)) : Eff (134217822 ||| M) s (State.runPkg s op act) := by
  unfold State.runPkg
  split
  · refine Eff.ite (fun _ => ?_) (fun _ => ?_)
    · refine Eff.app ?_ (h_act ..) mask_own
      refine Eff.app ?_ (Eff.of_pair (State.takePkg_eff ..) (by assumption)) (mask_or (by decide))
      exact Eff.refl _ _
    · refine Eff.app ?_ (State.pkgDone_eff ..) (mask_or (by decide))
      refine Eff.app ?_ (Eff.of_pair (State.takePkg_eff ..) (by assumption)) (mask_or (by decide))
      exact Eff.refl _ _
  · refine Eff.app ?_ (Eff.of_pair (State.takePkg_eff ..) (by assumption)) (mask_or (by decide))
    exact Eff.refl _ _

theorem State.pkgVerify_eff (s : State) : Eff 134217822 s (State.pkgVerify s) := by
  unfold State.pkgVerify
  refine Eff.app ?_ (State.runPkg_eff (M := 134217822) (h_act := ?_) ..) (by decide)
  · exact Eff.refl _ _
  · intro y0 y1
    refine Eff.ite (fun _ => ?_) (fun _ => ?_)
    · refine Eff.app ?_ (State.pkgDone_eff ..) (by decide)
      exact Eff.refl _ _
    · refine Eff.app ?_ (State.setFld_eff ..) (by decide)
      refine Eff.app ?_ (Eff.set_pkg _ _) (by decide)
      exact Eff.refl _ _

theorem State.pkgVerifyDone_eff (s : State) (up : Upsets) : Eff 134217822 s (State.pkgVerifyDone s up) := by
  unfold State.pkgVerifyDone
  refine Eff.ite (fun _ => ?_) (fun _ => ?_)
  · exact Eff.refl _ _
  · split
    · exact Eff.refl _ _
    · extract_lets -merge -underBinder t0 t1
      try clear_value t0
      have e2 : Eff 134217822 s t1 := by
        refine Eff.app ?_ (Eff.set_pkg _ _) (by decide)
        exact Eff.refl _ _
      try clear_value t1
      split
      · refine Eff.app ?_ (State.pkgDone_eff ..) (by decide)
        refine Eff.app ?_ (Eff.of_pair (State.read_eff ..) (by assumption)) (by decide)
        refine Eff.app ?_ (State.upset_eff ..) (by decide)
        exact e2
      · split
        · extract_lets -merge -underBinder t4 t5 t6
          try clear_value t5
          have e7 : Eff 134217822 s t4 := by
            refine Eff.app ?_ (State.setSlotState_eff ..) (by decide)
            refine Eff.app ?_ (Eff.of_pair (State.read_eff ..) (by assumption)) (by decide)
            refine Eff.app ?_ (State.upset_eff ..) (by decide)
            exact e2
          try clear_value t4
          have e8 : Eff 134217822 s t6 := by
            refine Eff.ite (fun _ => ?_) (fun _ => ?_)
            · refine Eff.app ?_ (Eff.set_pkg _ _) (by decide)
              exact e7
            · refine Eff.app ?_ (Eff.of_pair (State.read_eff ..) (by assumption)) (by decide)
              refine Eff.app ?_ (State.upset_eff ..) (by decide)
              exact e2
          try clear_value t6
          refine Eff.app ?_ (State.pkgDone_eff ..) (by decide)
          exact e8

theorem State.pkgAdmit_eff (s : State) : Eff 402653790 s (State.pkgAdmit s) := by
  unfold State.pkgAdmit
  refine Eff.app ?_ (State.runPkg_eff (M := 402653790) (h_act := ?_) ..) (by decide)
  · exact Eff.refl _ _
  · intro y0 y1
    split
    · extract_lets -merge -underBinder t2 t3 t4 t5
      try clear_value t2
      try clear_value t3
      try clear_value t4
      try clear_value t5
      split
      · refine Eff.app ?_ (State.pkgDone_eff ..) (by decide)
        exact Eff.refl _ _
      · extract_lets -merge -underBinder t6 t7 t8 t9
        try clear_value t8
        have e10 : Eff 402653790 y0 t6 := by
          refine Eff.app ?_ (State.installClient_eff ..) (by decide)
          refine Eff.app ?_ (State.place_eff ..) (by decide)
          exact Eff.refl _ _
        try clear_value t6
        have e11 : Eff 402653790 y0 t7 := by
          refine Eff.app ?_ (State.setSlotState_eff ..) (by decide)
          exact e10
        try clear_value t7
        have e12 : Eff 402653790 y0 t9 := by
          refine Eff.app ?_ (Eff.set_pkg _ _) (by decide)
          exact e11
        try clear_value t9
        refine Eff.app ?_ (State.pkgDone_eff ..) (by decide)
        exact e12
    · refine Eff.app ?_ (State.pkgDone_eff ..) (by decide)
      exact Eff.refl _ _

theorem State.pkgRelease_eff (s : State) : Eff 402653278 s (State.pkgRelease s) := by
  unfold State.pkgRelease
  refine Eff.app ?_ (State.runPkg_eff (M := 402653278) (h_act := ?_) ..) (by decide)
  · exact Eff.refl _ _
  · intro y0 y1
    extract_lets -merge -underBinder t2
    try clear_value t2
    refine Eff.ite (fun _ => ?_) (fun _ => ?_)
    · refine Eff.app ?_ (State.pkgDone_eff ..) (by decide)
      exact Eff.refl _ _
    · refine Eff.ite (fun _ => ?_) (fun _ => ?_)
      · refine Eff.app ?_ (State.pkgDone_eff ..) (by decide)
        exact Eff.refl _ _
      · refine Eff.app ?_ (State.pkgDone_eff ..) (by decide)
        refine Eff.app ?_ (State.emptySlot_eff ..) (by decide)
        refine Eff.app ?_ (State.clearClient_eff ..) (by decide)
        exact Eff.refl _ _

theorem State.eraseFlash_eff (s : State) (a : Nat) (n : Nat) : Eff 268435456 s (State.eraseFlash s a n) := by
  unfold State.eraseFlash
  refine Eff.app ?_ (Eff.set_image _ _ rfl) (by decide)
  exact Eff.refl _ _

theorem State.pkgPromote_eff (s : State) : Eff 402653278 s (State.pkgPromote s) := by
  unfold State.pkgPromote
  refine Eff.app ?_ (State.runPkg_eff (M := 402653278) (h_act := ?_) ..) (by decide)
  · exact Eff.refl _ _
  · intro y0 y1
    refine Eff.ite (fun _ => ?_) (fun _ => ?_)
    · refine Eff.app ?_ (State.pkgDone_eff ..) (by decide)
      exact Eff.refl _ _
    · split
      · extract_lets -merge -underBinder t2 t3 t4
        try clear_value t2
        try clear_value t4
        have e5 : Eff 402653278 y0 t3 := by
          refine Eff.app ?_ (State.setFld_eff ..) (by decide)
          refine Eff.app ?_ (State.eraseFlash_eff ..) (by decide)
          refine Eff.app ?_ (State.setSlotState_eff ..) (by decide)
          exact Eff.refl _ _
        try clear_value t3
        refine Eff.ite (fun _ => ?_) (fun _ => ?_)
        · refine Eff.app ?_ (State.pkgDone_eff ..) (by decide)
          exact Eff.refl _ _
        · refine Eff.app ?_ (State.setFld_eff ..) (by decide)
          refine Eff.app ?_ (Eff.set_pkg _ _) (by decide)
          exact e5
      · refine Eff.app ?_ (State.pkgDone_eff ..) (by decide)
        exact Eff.refl _ _

theorem State.writeHeader_eff (s : State) (h : ImgHdr) : Eff 268435456 s (State.writeHeader s h) := by
  unfold State.writeHeader
  split
  · extract_lets -merge -underBinder t1 t2
    have e3 : Eff 268435456 s t1 := by
      refine Eff.app ?_ (State.setFlash_eff ..) (by decide)
      refine Eff.app ?_ (State.eraseFlash_eff ..) (by decide)
      exact Eff.refl _ _
    try clear_value t1
    refine Eff.app ?_ (Eff.set_image _ _ rfl) (by decide)
    exact e3

theorem State.startPromoted_eff (s : State) : Eff 14095916895 s (State.startPromoted s) := by
  unfold State.startPromoted
  extract_lets -merge -underBinder t0
  have e1 : Eff 14095916895 s t0 := by
    unfold t0
    split
    · refine Eff.app ?_ (State.emptySlot_eff ..) (by decide)
      exact Eff.refl _ _
    · exact Eff.refl _ _
  try clear_value t0
  refine Eff.app ?_ (State.warmBegin_eff ..) (by decide)
  exact e1

theorem State.promoteDone_eff (s : State) (fate : Nat) (reads : Bool) : Eff 14364352351 s (State.promoteDone s fate reads) := by
  unfold State.promoteDone
  refine Eff.ite (fun _ => ?_) (fun _ => ?_)
  · exact Eff.refl _ _
  · split
    · exact Eff.refl _ _
    · extract_lets -merge -underBinder t0 t1 t2 t3 t4 t5 t6 t7
      try clear_value t0
      try clear_value t1
      try clear_value t7
      have e8 : Eff 14364352351 s t2 := by
        refine Eff.app ?_ (Eff.set_pkg _ _) (by decide)
        exact Eff.refl _ _
      try clear_value t2
      have e9 : Eff 14364352351 s t3 := by
        refine Eff.app ?_ (State.setFld_eff ..) (by decide)
        exact e8
      try clear_value t3
      have e10 : Eff 14364352351 s t4 := by
        refine Eff.app ?_ (State.setSlotState_eff ..) (by decide)
        exact e9
      try clear_value t4
      have e11 : Eff 14364352351 s t6 := by
        refine Eff.app ?_ (State.place_eff ..) (by decide)
        refine Eff.app ?_ (State.setFlash_eff ..) (by decide)
        exact e9
      try clear_value t6
      refine Eff.ite (fun _ => ?_) (fun _ => ?_)
      · refine Eff.app ?_ (State.pkgDone_eff ..) (by decide)
        refine Eff.app ?_ (State.setSlotState_eff ..) (by decide)
        exact e8
      · refine Eff.ite (fun _ => ?_) (fun _ => ?_)
        · refine Eff.app ?_ (State.pkgDone_eff ..) (by decide)
          refine Eff.app ?_ (Eff.set_image _ _ rfl) (by decide)
          exact e10
        · split
          · refine Eff.app ?_ (State.pkgDone_eff ..) (by decide)
            refine Eff.app ?_ (State.setSlotState_eff ..) (by decide)
            refine Eff.app ?_ (State.cfgFail_eff ..) (by decide)
            refine Eff.app ?_ (State.loadLife_eff ..) (by decide)
            refine Eff.app ?_ (Eff.of_pair (State.imageBurns_eff ..) (by assumption)) (by decide)
            exact e11
          · extract_lets -merge -underBinder t12 t13 t14 t15 t16
            try clear_value t13
            have e17 : Eff 14364352351 s t12 := by
              refine Eff.app ?_ (State.writeHeader_eff ..) (by decide)
              refine Eff.app ?_ (State.loadLife_eff ..) (by decide)
              refine Eff.app ?_ (Eff.of_pair (State.imageBurns_eff ..) (by assumption)) (by decide)
              exact e11
            try clear_value t12
            have e18 : Eff 14364352351 s t15 := by
              refine Eff.app ?_ (Eff.set_pkg_image _ _ _ rfl) (by decide)
              exact e17
            try clear_value t15
            have e19 : Eff 14364352351 s t16 := by
              refine Eff.app ?_ (State.pkgDone_eff ..) (by decide)
              exact e18
            try clear_value t16
            refine Eff.ite (fun _ => ?_) (fun _ => ?_)
            · refine Eff.app ?_ (State.startPromoted_eff ..) (by decide)
              exact e19
            · exact e19

theorem State.pkgStart_eff (s : State) : Eff 14095916895 s (State.pkgStart s) := by
  unfold State.pkgStart
  refine Eff.app ?_ (State.runPkg_eff (M := 14095916895) (h_act := ?_) ..) (by decide)
  · exact Eff.refl _ _
  · intro y0 y1
    refine Eff.ite (fun _ => ?_) (fun _ => ?_)
    · refine Eff.app ?_ (State.pkgDone_eff ..) (by decide)
      exact Eff.refl _ _
    · refine Eff.app ?_ (State.startPromoted_eff ..) (by decide)
      refine Eff.app ?_ (State.pkgDone_eff ..) (by decide)
      exact Eff.refl _ _

theorem State.padDone_eff (s : State) (q : PadReq) (result : Nat) (phase : Nat) : Eff 2 s (State.padDone s q result phase) := by
  unfold State.padDone
  refine Eff.app ?_ (State.setFld_eff ..) (by decide)
  refine Eff.app ?_ (State.setFld_eff ..) (by decide)
  refine Eff.app ?_ (State.setFld_eff ..) (by decide)
  exact Eff.refl _ _

theorem State.runPad_eff {M : Nat} (s : State) (op : Nat) (act : State → PadReq → State) (h_act : ∀ v0 v1, Eff M v0 (act v0 v1)) : Eff (268435458 ||| M) s (State.runPad s op act) := by
  unfold State.runPad
  refine Eff.ite (fun _ => ?_) (fun _ => ?_)
  · exact Eff.refl _ _
  · split
    · exact Eff.refl _ _
    · refine Eff.ite (fun _ => ?_) (fun _ => ?_)
      · exact Eff.refl _ _
      · extract_lets -merge -underBinder t0 t1
        have e2 : Eff (268435458 ||| M) s t1 := by
          refine Eff.app ?_ (Eff.set_image _ _ rfl) (mask_or (by decide))
          exact Eff.refl _ _
        try clear_value t1
        refine Eff.ite (fun _ => ?_) (fun _ => ?_)
        · refine Eff.app ?_ (State.padDone_eff ..) (mask_or (by decide))
          exact e2
        · refine Eff.ite (fun _ => ?_) (fun _ => ?_)
          · refine Eff.app ?_ (State.padDone_eff ..) (mask_or (by decide))
            exact e2
          · refine Eff.app ?_ (h_act ..) mask_own
            exact e2

theorem State.recoveryLoad_eff (s : State) : Eff 268435550 s (State.recoveryLoad s) := by
  unfold State.recoveryLoad
  refine Eff.app ?_ (State.runPad_eff (M := 268435550) (h_act := ?_) ..) (by decide)
  · exact Eff.refl _ _
  · intro y0 y1
    refine Eff.ite (fun _ => ?_) (fun _ => ?_)
    · refine Eff.app ?_ (State.padDone_eff ..) (by decide)
      exact Eff.refl _ _
    · extract_lets -merge -underBinder t2 t3
      have e4 : Eff 268435550 y0 t3 := by
        refine Eff.app ?_ (Eff.set_image _ _ rfl) (by decide)
        exact Eff.refl _ _
      try clear_value t3
      split
      · refine Eff.app ?_ (State.padDone_eff ..) (by decide)
        refine Eff.app ?_ (State.write_eff ..) (by decide)
        refine Eff.app ?_ (Eff.of_pair (State.read_eff ..) (by assumption)) (by decide)
        exact e4
      · refine Eff.app ?_ (State.padDone_eff ..) (by decide)
        refine Eff.app ?_ (Eff.of_pair (State.read_eff ..) (by assumption)) (by decide)
        exact e4

theorem State.recoveryCheck_eff (s : State) : Eff 268435458 s (State.recoveryCheck s) := by
  unfold State.recoveryCheck
  refine Eff.app ?_ (State.runPad_eff (M := 268435458) (h_act := ?_) ..) (by decide)
  · exact Eff.refl _ _
  · intro y0 y1
    refine Eff.ite (fun _ => ?_) (fun _ => ?_)
    · refine Eff.app ?_ (State.padDone_eff ..) (by decide)
      exact Eff.refl _ _
    · refine Eff.app ?_ (Eff.set_image _ _ rfl) (by decide)
      exact Eff.refl _ _

theorem State.recoveryCheckDone_eff (s : State) : Eff 268435458 s (State.recoveryCheckDone s) := by
  unfold State.recoveryCheckDone
  refine Eff.ite (fun _ => ?_) (fun _ => ?_)
  · exact Eff.refl _ _
  · split
    · exact Eff.refl _ _
    · extract_lets -merge -underBinder t0 t1
      have e2 : Eff 268435458 s t1 := by
        refine Eff.app ?_ (Eff.set_image _ _ rfl) (by decide)
        exact Eff.refl _ _
      try clear_value t1
      split
      · refine Eff.app ?_ (State.padDone_eff ..) (by decide)
        refine Eff.app ?_ (State.setFld_eff ..) (by decide)
        refine Eff.app ?_ (State.cfgFail_eff ..) (by decide)
        exact e2
      · split
        · refine Eff.app ?_ (State.padDone_eff ..) (by decide)
          refine Eff.app ?_ (State.setFld_eff ..) (by decide)
          refine Eff.app ?_ (State.cfgFail_eff ..) (by decide)
          exact e2
        · refine Eff.app ?_ (State.padDone_eff ..) (by decide)
          exact e2

theorem State.recoveryWrite_eff (s : State) : Eff 268435458 s (State.recoveryWrite s) := by
  unfold State.recoveryWrite
  refine Eff.app ?_ (State.runPad_eff (M := 268435458) (h_act := ?_) ..) (by decide)
  · exact Eff.refl _ _
  · intro y0 y1
    refine Eff.ite (fun _ => ?_) (fun _ => ?_)
    · refine Eff.app ?_ (State.padDone_eff ..) (by decide)
      exact Eff.refl _ _
    · extract_lets -merge -underBinder t2 t3
      have e4 : Eff 268435458 y0 t2 := by
        refine Eff.app ?_ (State.setFld_eff ..) (by decide)
        refine Eff.app ?_ (State.setFld_eff ..) (by decide)
        refine Eff.app ?_ (State.eraseFlash_eff ..) (by decide)
        refine Eff.app ?_ (State.eraseFlash_eff ..) (by decide)
        exact Eff.refl _ _
      try clear_value t2
      refine Eff.app ?_ (Eff.set_image _ _ rfl) (by decide)
      exact e4

theorem State.recoveryWriteDone_eff (s : State) (fate : Nat) (reads : Bool) : Eff 268435458 s (State.recoveryWriteDone s fate reads) := by
  unfold State.recoveryWriteDone
  refine Eff.ite (fun _ => ?_) (fun _ => ?_)
  · exact Eff.refl _ _
  · split
    · extract_lets -merge -underBinder t0 t1 t2 t3
      have e4 : Eff 268435458 s t1 := by
        refine Eff.app ?_ (Eff.set_image _ _ rfl) (by decide)
        exact Eff.refl _ _
      try clear_value t1
      have e5 : Eff 268435458 s t2 := by
        refine Eff.app ?_ (State.setFld_eff ..) (by decide)
        exact e4
      try clear_value t2
      have e6 : Eff 268435458 s t3 := by
        refine Eff.app ?_ (State.setFlash_eff ..) (by decide)
        refine Eff.app ?_ (State.setFlash_eff ..) (by decide)
        exact e5
      try clear_value t3
      refine Eff.ite (fun _ => ?_) (fun _ => ?_)
      · refine Eff.app ?_ (State.padDone_eff ..) (by decide)
        exact e4
      · refine Eff.ite (fun _ => ?_) (fun _ => ?_)
        · refine Eff.app ?_ (State.padDone_eff ..) (by decide)
          exact e5
        · split
          · refine Eff.app ?_ (State.padDone_eff ..) (by decide)
            refine Eff.app ?_ (State.cfgFail_eff ..) (by decide)
            refine Eff.app ?_ (State.loadLife_eff ..) (by decide)
            refine Eff.app ?_ (Eff.of_pair (State.imageBurns_eff ..) (by assumption)) (by decide)
            exact e6
          · refine Eff.app ?_ (State.padDone_eff ..) (by decide)
            refine Eff.app ?_ (State.writeHeader_eff ..) (by decide)
            refine Eff.app ?_ (State.loadLife_eff ..) (by decide)
            refine Eff.app ?_ (Eff.of_pair (State.imageBurns_eff ..) (by assumption)) (by decide)
            exact e6
    · exact Eff.refl _ _

theorem State.recoveryRestart_eff (s : State) : Eff 8589934591 s (State.recoveryRestart s) := by
  unfold State.recoveryRestart
  refine Eff.app ?_ (State.runPad_eff (M := 8589934591) (h_act := ?_) ..) (by decide)
  · exact Eff.refl _ _
  · intro y0 y1
    refine Eff.ite (fun _ => ?_) (fun _ => ?_)
    · refine Eff.app ?_ (State.padDone_eff ..) (by decide)
      exact Eff.refl _ _
    · refine Eff.app ?_ (State.coldBegin_eff ..) (by decide)
      refine Eff.app ?_ (State.setFld_eff ..) (by decide)
      refine Eff.app ?_ (State.setFld_eff ..) (by decide)
      exact Eff.refl _ _

theorem State.idDone_eff (s : State) (q : IdReq) (result : Nat) (len : Nat) : Eff 2 s (State.idDone s q result len) := by
  unfold State.idDone
  refine Eff.app ?_ (State.setFld_eff ..) (by decide)
  refine Eff.app ?_ (State.setFld_eff ..) (by decide)
  refine Eff.app ?_ (State.setFld_eff ..) (by decide)
  exact Eff.refl _ _

theorem State.runId_eff {M : Nat} (s : State) (op : Nat) (act : State → IdReq → State) (h_act : ∀ v0 v1, Eff M v0 (act v0 v1)) : Eff (536870914 ||| M) s (State.runId s op act) := by
  unfold State.runId
  refine Eff.ite (fun _ => ?_) (fun _ => ?_)
  · exact Eff.refl _ _
  · split
    · exact Eff.refl _ _
    · refine Eff.ite (fun _ => ?_) (fun _ => ?_)
      · exact Eff.refl _ _
      · extract_lets -merge -underBinder t0 t1
        try clear_value t0
        have e2 : Eff (536870914 ||| M) s t1 := by
          refine Eff.app ?_ (Eff.set_ident _ _) (mask_or (by decide))
          exact Eff.refl _ _
        try clear_value t1
        refine Eff.ite (fun _ => ?_) (fun _ => ?_)
        · refine Eff.app ?_ (State.idDone_eff ..) (mask_or (by decide))
          exact e2
        · refine Eff.app ?_ (h_act ..) mask_own
          exact e2

theorem State.signReport_eff (s : State) (q : IdReq) : Eff 9126805598 s (State.signReport s q) := by
  unfold State.signReport
  split
  · rename_i q0
    extract_lets -merge -underBinder t1 t2 t3 t4 t5 t6 t7 t8
    try clear_value t1
    try clear_value t2
    try clear_value t3
    try clear_value t6
    have e9 : Eff 9126805598 s t4 := by
      refine Eff.app ?_ (Eff.set_ident _ _) (by decide)
      refine Eff.of_pair ?_ q0
      split
      · refine Eff.fst ?_
        refine Eff.app ?_ (Eff.of_pair (State.read_eff ..) (by assumption)) (by decide)
        exact Eff.refl _ _
      · refine Eff.app ?_ (State.drawBlock_eff ..) (by decide)
        refine Eff.app ?_ (Eff.of_pair (State.read_eff ..) (by assumption)) (by decide)
        exact Eff.refl _ _
    try clear_value t4
    have e11 : Eff 9126805598 s t5 := by
      refine Eff.app ?_ (State.setFld_eff ..) (by decide)
      exact e9
    try clear_value t5
    have e12 : Eff 9126805598 s t7 := by
      refine Eff.app ?_ (State.write_eff ..) (by decide)
      exact e11
    try clear_value t7
    have e13 : Eff 9126805598 s t8 := by
      refine Eff.app ?_ (State.idDone_eff ..) (by decide)
      exact e12
    try clear_value t8
    refine Eff.ite (fun _ => ?_) (fun _ => ?_)
    · exact e13
    · refine Eff.app ?_ (State.raise_eff ..) (by decide)
      refine Eff.app ?_ (State.setFld_eff ..) (by decide)
      exact e13

theorem State.attest_eff (s : State) : Eff 9126805598 s (State.attest s) := by
  unfold State.attest
  refine Eff.app ?_ (State.runId_eff (M := 9126805598) (h_act := ?_) ..) (by decide)
  · exact Eff.refl _ _
  · intro y0 y1
    split
    · refine Eff.ite (fun _ => ?_) (fun _ => ?_)
      · refine Eff.app ?_ (State.idDone_eff ..) (by decide)
        exact Eff.refl _ _
      · refine Eff.ite (fun _ => ?_) (fun _ => ?_)
        · refine Eff.app ?_ (State.signReport_eff ..) (by decide)
          exact Eff.refl _ _
        · refine Eff.app ?_ (Eff.set_ident _ _) (by decide)
          exact Eff.refl _ _
    · refine Eff.app ?_ (State.idDone_eff ..) (by decide)
      exact Eff.refl _ _
    · refine Eff.app ?_ (State.idDone_eff ..) (by decide)
      exact Eff.refl _ _
    · refine Eff.app ?_ (State.idDone_eff ..) (by decide)
      exact Eff.refl _ _

theorem State.treeDone_eff (s : State) : Eff 9126805598 s (State.treeDone s) := by
  unfold State.treeDone
  split
  · exact Eff.refl _ _
  · refine Eff.ite (fun _ => ?_) (fun _ => ?_)
    · exact Eff.refl _ _
    · refine Eff.app ?_ (State.signReport_eff ..) (by decide)
      refine Eff.app ?_ (Eff.set_ident _ _) (by decide)
      exact Eff.refl _ _

theorem State.certRequest_eff (s : State) : Eff 536871006 s (State.certRequest s) := by
  unfold State.certRequest
  refine Eff.app ?_ (State.runId_eff (M := 536871006) (h_act := ?_) ..) (by decide)
  · exact Eff.refl _ _
  · intro y0 y1
    extract_lets -merge -underBinder t2
    try clear_value t2
    refine Eff.ite (fun _ => ?_) (fun _ => ?_)
    · refine Eff.app ?_ (State.idDone_eff ..) (by decide)
      exact Eff.refl _ _
    · refine Eff.ite (fun _ => ?_) (fun _ => ?_)
      · refine Eff.app ?_ (State.idDone_eff ..) (by decide)
        exact Eff.refl _ _
      · refine Eff.app ?_ (State.idDone_eff ..) (by decide)
        refine Eff.app ?_ (State.write_eff ..) (by decide)
        exact Eff.refl _ _

end Sys2Proof.Machine
end

