-- ==== Sys2Proof/Laws/EffStep.lean ====
section
/-! SUPPORT. What each operation of Machine/Step.lean can touch, by unit of the state (see Laws/Effect.lean). -/

set_option linter.unusedVariables false
set_option linter.unusedTactic false
set_option linter.unreachableTactic false

namespace Sys2Proof.Machine

theorem State.idle_eff (s : State) : Eff 32 s (State.idle s) := by
  unfold State.idle
  refine Eff.ite (fun _ => ?_) (fun _ => ?_)
  · exact Eff.refl _ _
  · refine Eff.app ?_ (State.advance_eff ..) (by decide)
    exact Eff.refl _ _

end Sys2Proof.Machine
end

