-- ==== Sys2Proof/Laws/Regs.lean ====
section
/-! SUPPORT. What reading and writing register fields, and raising events, leaves in the register file. -/

namespace Sys2Proof.Machine

/-! ## Fields -/

theorem State.fld_setFld_self (s : State) (f : Fld) (v : Nat) : (s.setFld f v).fld f = v % 2 ^ f.w := Tab.get_set_self ..

theorem State.fld_setFld_lt (s : State) (f : Fld) (v : Nat) (h : v < 2 ^ f.w) : (s.setFld f v).fld f = v := by
  rw [State.fld_setFld_self, Nat.mod_eq_of_lt h]

theorem State.fld_setFld_other (s : State) (f g : Fld) (v : Nat) (h : f.key ≠ g.key) : (s.setFld g v).fld f = s.fld f :=
  Tab.get_set_other' _ _ _ _ _ _ h

/-- Fields of different registers have different keys. -/
theorem Fld.key_ne {f g : Fld} (h : f.reg ≠ g.reg) (hf : f.lo < 64) (hg : g.lo < 64) : f.key ≠ g.key := by
  unfold Fld.key; omega

/-! ## Changes confined to a set of registers -/

/-- The register file changes only in the registers that `E` holds of. -/
def RegsBy (E : Nat → Prop) (s t : State) : Prop := ∀ k, ¬E (k / 64) → ∀ d, Tab.get d t.regs k = Tab.get d s.regs k

namespace RegsBy

variable {E : Nat → Prop} {s t u : State}

theorem refl (s : State) : RegsBy E s s := fun _ _ _ => rfl

theorem trans (h : RegsBy E s t) (h' : RegsBy E t u) : RegsBy E s u := fun k hk d => (h' k hk d).trans (h k hk d)

theorem of_eq (h : t.regs = s.regs) : RegsBy E s t := fun _ _ _ => by rw [h]

theorem mono {E' : Nat → Prop} (h : RegsBy E s t) (hE : ∀ a, E a → E' a) : RegsBy E' s t := fun k hk d => h k (fun x => hk (hE _ x)) d

/-- A field outside the set keeps its value. -/
theorem fld (h : RegsBy E s t) {f : Fld} (hf : ¬E f.reg) (hl : f.lo < 64) : t.fld f = s.fld f := by
  refine h f.key ?_ _
  rw [show f.key / 64 = f.reg by unfold Fld.key; omega]
  exact hf

theorem setFld (s : State) (f : Fld) (v : Nat) (hf : E f.reg) (hl : f.lo < 64) : RegsBy E s (s.setFld f v) := fun k hk d =>
  Tab.get_set_other' _ _ _ _ _ _ (fun e => hk (by rw [e, show f.key / 64 = f.reg by unfold Fld.key; omega]; exact hf))

theorem bump (s : State) (f : Fld) (hf : E f.reg) (hl : f.lo < 64) : RegsBy E s (s.bump f) := setFld _ _ _ hf hl

theorem bumpSat (s : State) (f : Fld) (n : Nat) (hf : E f.reg) (hl : f.lo < 64) : RegsBy E s (s.bumpSat f n) := setFld _ _ _ hf hl

theorem ite {p : Prop} [Decidable p] (h : p → RegsBy E s t) (h' : ¬p → RegsBy E s u) : RegsBy E s (if p then t else u) := by
  split
  · exact h ‹_›
  · exact h' ‹_›

theorem foldl {α : Type} {f : State → α → State} (h : ∀ s x, RegsBy E s (f s x)) (l : List α) (s : State) : RegsBy E s (l.foldl f s) := by
  induction l generalizing s with
  | nil => exact refl s
  | cons x l ih => exact (h s x).trans (ih _)

theorem foldlp {α β : Type} {f : State × β → α → State × β} (h : ∀ p x, RegsBy E p.1 (f p x).1) (l : List α) (p : State × β) :
    RegsBy E p.1 (l.foldl f p).1 := by
  induction l generalizing p with
  | nil => exact refl p.1
  | cons x l ih => exact (h p x).trans (ih _)

end RegsBy

theorem State.regs_poke (s : State) (a : Nat) (b : Byte) : (s.poke a b).regs = s.regs := rfl

theorem State.regs_pokeL (s : State) (a : Nat) (l : List Byte) : (s.pokeL a l).regs = s.regs := by
  induction l generalizing s a with
  | nil => rfl
  | cons b l ih => exact (ih _ _).trans rfl

theorem State.regs_writeIndex (s : State) (r : Nat) : (s.writeIndex r).regs = s.regs := by
  unfold State.writeIndex
  dsimp only
  repeat' split
  all_goals simp only [State.regs_pokeL]

theorem State.regs_putRing (s : State) (r : Nat) (x : Ring) : (s.putRing r x).regs = s.regs := by
  show ((s.setRing r x).writeIndex r).regs = s.regs
  rw [State.regs_writeIndex]; rfl

theorem State.noteCorrected_regs (s : State) (a : Nat) : RegsBy EventReg s (s.noteCorrected a) := by
  unfold State.noteCorrected
  refine RegsBy.ite (fun _ => RegsBy.bumpSat _ _ _ (.inr (.inl rfl)) (by decide)) (fun _ => ?_)
  refine RegsBy.ite (fun _ => RegsBy.bumpSat _ _ _ (.inr (.inr (.inr (.inl rfl)))) (by decide)) (fun _ => ?_)
  refine RegsBy.ite (fun _ => RegsBy.bumpSat _ _ _ (.inr (.inr (.inr (.inl rfl)))) (by decide)) (fun _ => ?_)
  split
  · rename_i k _
    exact RegsBy.bumpSat _ _ _ (.inr (.inr (.inr (.inr ⟨k, rfl⟩)))) (by simp [CR_SERR_CORR])
  · exact RegsBy.refl _

theorem State.writeUnit_regs (s : State) (a : Nat) (bs : List Byte) : RegsBy EventReg s (s.writeUnit a bs).1 := by
  unfold State.writeUnit
  split
  · exact RegsBy.of_eq (by simp only [State.regs_pokeL]; rfl)
  · split
    · exact RegsBy.of_eq (State.regs_pokeL ..)
    · exact (State.noteCorrected_regs s a).trans (RegsBy.of_eq (by simp only [State.regs_pokeL]; rfl))
    · split
      · exact RegsBy.refl _
      · exact RegsBy.of_eq (State.regs_pokeL ..)

theorem State.writeBytes_regs (s : State) (a : Nat) (bs : List Byte) : RegsBy EventReg s (s.writeBytes a bs).1 :=
  RegsBy.foldlp (f := fun (p : State × List Nat) (u : Nat × List Byte) =>
    ((p.1.writeUnit u.1 u.2).1, if (p.1.writeUnit u.1 u.2).2 then p.2 else p.2 ++ [granule u.1])) (fun p u => State.writeUnit_regs p.1 u.1 u.2) _ _

theorem State.ringPost_regs (s : State) (r : Nat) (e sl : List Byte) : RegsBy EventReg s (s.ringPost r e sl).1 := by
  unfold State.ringPost
  dsimp only
  split
  · dsimp only
    split
    · exact RegsBy.of_eq (State.regs_putRing ..)
    · exact RegsBy.refl _
  · exact ((State.writeBytes_regs s _ _).trans (State.writeBytes_regs _ _ _)).trans (RegsBy.of_eq (State.regs_putRing ..))

theorem State.deliverTo_regs (s : State) (e : Event) (k : Nat) : RegsBy EventReg s (s.deliverTo e k).1 := by
  unfold State.deliverTo
  split
  · have h := State.ringPost_regs s (s.fld (MG_EVROUTE_RING k)) e.bytes e.params
    generalize State.ringPost _ _ _ _ = p at h
    obtain ⟨s', _ | _ | _⟩ := p <;> exact h
  · exact RegsBy.refl _

theorem State.deliver_regs (s : State) (e : Event) : RegsBy EventReg s (s.deliver e).1 :=
  RegsBy.foldlp (f := fun (p : State × List Nat) k => ((p.1.deliverTo e k).1, p.2 ++ (p.1.deliverTo e k).2))
    (fun p k => State.deliverTo_regs p.1 e k) [0, 1, 2, 3] (s, [])

theorem State.countEvent_regs (s : State) (code : Nat) : RegsBy EventReg s (s.countEvent code) := by
  unfold State.countEvent
  split
  · exact RegsBy.bump _ _ (.inl rfl) (by decide)
  · exact RegsBy.bump _ _ (.inl rfl) (by decide)
  · exact RegsBy.bump _ _ (.inl rfl) (by decide)
  · exact RegsBy.refl _

theorem State.recordUe_regs (s : State) (a source : Nat) : RegsBy EventReg s (s.recordUe a source) :=
  (((RegsBy.bumpSat _ _ _ (.inr (.inl rfl)) (by decide)).trans (RegsBy.setFld _ _ _ (.inr (.inr (.inl rfl))) (by decide))).trans
    (RegsBy.setFld _ _ _ (.inr (.inr (.inl rfl))) (by decide))).trans (RegsBy.setFld _ _ _ (.inr (.inr (.inl rfl))) (by decide))

theorem State.lostEvent_regs (s : State) (a : Nat) : RegsBy EventReg s (s.lostEvent a) := by
  unfold State.lostEvent
  have h : RegsBy EventReg s ((s.recordUe a 2).countEvent 0x0A02) := (State.recordUe_regs s a 2).trans (State.countEvent_regs _ _)
  extract_lets u
  have hu : RegsBy EventReg s u := h
  clear_value u
  split
  rename_i v l hv
  have hd := State.deliver_regs u (ueEvent u a 2)
  rw [hv] at hd
  exact (hu.trans hd).trans (RegsBy.foldl (fun s a => State.recordUe_regs s a 2) _ _)

/-- An event touches no register but those of `EventReg` (R617). -/
theorem State.raise_regs (s : State) (code p0 p1 psn : Nat) : RegsBy EventReg s (s.raise code p0 p1 psn) := by
  unfold State.raise
  extract_lets e u
  have hu : RegsBy EventReg s u := State.countEvent_regs s code
  clear_value e u
  refine RegsBy.ite (fun _ => ?_) (fun _ => ?_)
  · split
    rename_i v l hv
    have hd := State.deliver_regs u e
    rw [hv] at hd
    exact (hu.trans hd).trans (RegsBy.foldl State.lostEvent_regs _ _)
  · exact RegsBy.ite (fun _ => hu.trans (RegsBy.of_eq rfl)) (fun _ => hu.trans (RegsBy.bump _ _ (.inl rfl) (by decide)))

/-- A field of a register that events do not touch keeps its value when one is raised. -/
theorem State.fld_raise (s : State) (code p0 p1 psn : Nat) (f : Fld) (hf : ¬EventReg f.reg) (hl : f.lo < 64) :
    (s.raise code p0 p1 psn).fld f = s.fld f := (State.raise_regs s code p0 p1 psn).fld hf hl

end Sys2Proof.Machine
end

