-- ==== Sys2Proof/Laws/State.lean ====
section
/-! SUPPORT. What one update of the state leaves: every field and every accessor after each setter. -/

set_option linter.unusedVariables false

namespace Sys2Proof.Machine

/-! ## setFld -/

@[simp] theorem State.setFld_pending (s : State) (f : Fld) (v : Nat) : (s.setFld f v).pending = s.pending := rfl
@[simp] theorem State.setFld_variant (s : State) (f : Fld) (v : Nat) : (s.setFld f v).variant = s.variant := rfl
@[simp] theorem State.setFld_phase (s : State) (f : Fld) (v : Nat) : (s.setFld f v).phase = s.phase := rfl
@[simp] theorem State.setFld_mem (s : State) (f : Fld) (v : Nat) : (s.setFld f v).mem = s.mem := rfl
@[simp] theorem State.setFld_marks (s : State) (f : Fld) (v : Nat) : (s.setFld f v).marks = s.marks := rfl
@[simp] theorem State.setFld_rings (s : State) (f : Fld) (v : Nat) : (s.setFld f v).rings = s.rings := rfl
@[simp] theorem State.setFld_clk (s : State) (f : Fld) (v : Nat) : (s.setFld f v).clk = s.clk := rfl
@[simp] theorem State.setFld_ev (s : State) (f : Fld) (v : Nat) : (s.setFld f v).ev = s.ev := rfl
@[simp] theorem State.setFld_pos (s : State) (f : Fld) (v : Nat) : (s.setFld f v).pos = s.pos := rfl
@[simp] theorem State.setFld_fold (s : State) (f : Fld) (v : Nat) : (s.setFld f v).fold = s.fold := rfl
@[simp] theorem State.setFld_shep (s : State) (f : Fld) (v : Nat) : (s.setFld f v).shep = s.shep := rfl
@[simp] theorem State.setFld_cores (s : State) (f : Fld) (v : Nat) : (s.setFld f v).cores = s.cores := rfl
@[simp] theorem State.setFld_lamb (s : State) (f : Fld) (v : Nat) : (s.setFld f v).lamb = s.lamb := rfl
@[simp] theorem State.setFld_drove (s : State) (f : Fld) (v : Nat) : (s.setFld f v).drove = s.drove := rfl
@[simp] theorem State.setFld_link (s : State) (f : Fld) (v : Nat) : (s.setFld f v).link = s.link := rfl
@[simp] theorem State.setFld_die (s : State) (f : Fld) (v : Nat) : (s.setFld f v).die = s.die := rfl
@[simp] theorem State.setFld_audit (s : State) (f : Fld) (v : Nat) : (s.setFld f v).audit = s.audit := rfl
@[simp] theorem State.setFld_lanes (s : State) (f : Fld) (v : Nat) : (s.setFld f v).lanes = s.lanes := rfl
@[simp] theorem State.setFld_streams (s : State) (f : Fld) (v : Nat) : (s.setFld f v).streams = s.streams := rfl
@[simp] theorem State.setFld_px (s : State) (f : Fld) (v : Nat) : (s.setFld f v).px = s.px := rfl
@[simp] theorem State.setFld_replay (s : State) (f : Fld) (v : Nat) : (s.setFld f v).replay = s.replay := rfl
@[simp] theorem State.setFld_ptpHold (s : State) (f : Fld) (v : Nat) : (s.setFld f v).ptpHold = s.ptpHold := rfl
@[simp] theorem State.setFld_pair (s : State) (f : Fld) (v : Nat) : (s.setFld f v).pair = s.pair := rfl
@[simp] theorem State.setFld_ptp (s : State) (f : Fld) (v : Nat) : (s.setFld f v).ptp = s.ptp := rfl
@[simp] theorem State.setFld_bell (s : State) (f : Fld) (v : Nat) : (s.setFld f v).bell = s.bell := rfl
@[simp] theorem State.setFld_dma (s : State) (f : Fld) (v : Nat) : (s.setFld f v).dma = s.dma := rfl
@[simp] theorem State.setFld_host (s : State) (f : Fld) (v : Nat) : (s.setFld f v).host = s.host := rfl
@[simp] theorem State.setFld_halves (s : State) (f : Fld) (v : Nat) : (s.setFld f v).halves = s.halves := rfl
@[simp] theorem State.setFld_pkg (s : State) (f : Fld) (v : Nat) : (s.setFld f v).pkg = s.pkg := rfl
@[simp] theorem State.setFld_image (s : State) (f : Fld) (v : Nat) : (s.setFld f v).image = s.image := rfl
@[simp] theorem State.setFld_ident (s : State) (f : Fld) (v : Nat) : (s.setFld f v).ident = s.ident := rfl
@[simp] theorem State.setFld_start (s : State) (f : Fld) (v : Nat) : (s.setFld f v).start = s.start := rfl
@[simp] theorem State.setFld_health (s : State) (f : Fld) (v : Nat) : (s.setFld f v).health = s.health := rfl
@[simp] theorem State.setFld_pins (s : State) (f : Fld) (v : Nat) : (s.setFld f v).pins = s.pins := rfl
@[simp] theorem State.setFld_free (s : State) (f : Fld) (v : Nat) : (s.setFld f v).free = s.free := rfl
@[simp] theorem State.setFld_peek (s : State) (f : Fld) (v : Nat) (k : Nat) : (s.setFld f v).peek k = s.peek k := rfl
@[simp] theorem State.setFld_ring (s : State) (f : Fld) (v : Nat) (k : Nat) : (s.setFld f v).ring k = s.ring k := rfl
@[simp] theorem State.setFld_slot (s : State) (f : Fld) (v : Nat) (k : Nat) : (s.setFld f v).slot k = s.slot k := rfl
@[simp] theorem State.setFld_gout (s : State) (f : Fld) (v : Nat) (k : Nat) : (s.setFld f v).gout k = s.gout k := rfl
@[simp] theorem State.setFld_enc (s : State) (f : Fld) (v : Nat) (k : Nat) : (s.setFld f v).enc k = s.enc k := rfl
@[simp] theorem State.setFld_trig (s : State) (f : Fld) (v : Nat) (k : Nat) : (s.setFld f v).trig k = s.trig k := rfl
@[simp] theorem State.setFld_job (s : State) (f : Fld) (v : Nat) (k : Nat) : (s.setFld f v).job k = s.job k := rfl
@[simp] theorem State.setFld_core (s : State) (f : Fld) (v : Nat) (k : Nat) : (s.setFld f v).core k = s.core k := rfl
@[simp] theorem State.setFld_stream (s : State) (f : Fld) (v : Nat) (k : Nat) : (s.setFld f v).stream k = s.stream k := rfl
@[simp] theorem State.setFld_view (s : State) (f : Fld) (v : Nat) (k : Nat) : (s.setFld f v).view k = s.view k := rfl
@[simp] theorem State.setFld_raceSt (s : State) (f : Fld) (v : Nat) (k : Nat) : (s.setFld f v).raceSt k = s.raceSt k := rfl
@[simp] theorem State.setFld_tileOf (s : State) (f : Fld) (v : Nat) (k : Nat) : (s.setFld f v).tileOf k = s.tileOf k := rfl
@[simp] theorem State.setFld_lane (s : State) (f : Fld) (v : Nat) (k : Nat) : (s.setFld f v).lane k = s.lane k := rfl

/-! ## setSFld -/

@[simp] theorem State.setSFld_pending (s : State) (f : Fld) (v : Int) : (s.setSFld f v).pending = s.pending := rfl
@[simp] theorem State.setSFld_variant (s : State) (f : Fld) (v : Int) : (s.setSFld f v).variant = s.variant := rfl
@[simp] theorem State.setSFld_phase (s : State) (f : Fld) (v : Int) : (s.setSFld f v).phase = s.phase := rfl
@[simp] theorem State.setSFld_mem (s : State) (f : Fld) (v : Int) : (s.setSFld f v).mem = s.mem := rfl
@[simp] theorem State.setSFld_marks (s : State) (f : Fld) (v : Int) : (s.setSFld f v).marks = s.marks := rfl
@[simp] theorem State.setSFld_rings (s : State) (f : Fld) (v : Int) : (s.setSFld f v).rings = s.rings := rfl
@[simp] theorem State.setSFld_clk (s : State) (f : Fld) (v : Int) : (s.setSFld f v).clk = s.clk := rfl
@[simp] theorem State.setSFld_ev (s : State) (f : Fld) (v : Int) : (s.setSFld f v).ev = s.ev := rfl
@[simp] theorem State.setSFld_pos (s : State) (f : Fld) (v : Int) : (s.setSFld f v).pos = s.pos := rfl
@[simp] theorem State.setSFld_fold (s : State) (f : Fld) (v : Int) : (s.setSFld f v).fold = s.fold := rfl
@[simp] theorem State.setSFld_shep (s : State) (f : Fld) (v : Int) : (s.setSFld f v).shep = s.shep := rfl
@[simp] theorem State.setSFld_cores (s : State) (f : Fld) (v : Int) : (s.setSFld f v).cores = s.cores := rfl
@[simp] theorem State.setSFld_lamb (s : State) (f : Fld) (v : Int) : (s.setSFld f v).lamb = s.lamb := rfl
@[simp] theorem State.setSFld_drove (s : State) (f : Fld) (v : Int) : (s.setSFld f v).drove = s.drove := rfl
@[simp] theorem State.setSFld_link (s : State) (f : Fld) (v : Int) : (s.setSFld f v).link = s.link := rfl
@[simp] theorem State.setSFld_die (s : State) (f : Fld) (v : Int) : (s.setSFld f v).die = s.die := rfl
@[simp] theorem State.setSFld_audit (s : State) (f : Fld) (v : Int) : (s.setSFld f v).audit = s.audit := rfl
@[simp] theorem State.setSFld_lanes (s : State) (f : Fld) (v : Int) : (s.setSFld f v).lanes = s.lanes := rfl
@[simp] theorem State.setSFld_streams (s : State) (f : Fld) (v : Int) : (s.setSFld f v).streams = s.streams := rfl
@[simp] theorem State.setSFld_px (s : State) (f : Fld) (v : Int) : (s.setSFld f v).px = s.px := rfl
@[simp] theorem State.setSFld_replay (s : State) (f : Fld) (v : Int) : (s.setSFld f v).replay = s.replay := rfl
@[simp] theorem State.setSFld_ptpHold (s : State) (f : Fld) (v : Int) : (s.setSFld f v).ptpHold = s.ptpHold := rfl
@[simp] theorem State.setSFld_pair (s : State) (f : Fld) (v : Int) : (s.setSFld f v).pair = s.pair := rfl
@[simp] theorem State.setSFld_ptp (s : State) (f : Fld) (v : Int) : (s.setSFld f v).ptp = s.ptp := rfl
@[simp] theorem State.setSFld_bell (s : State) (f : Fld) (v : Int) : (s.setSFld f v).bell = s.bell := rfl
@[simp] theorem State.setSFld_dma (s : State) (f : Fld) (v : Int) : (s.setSFld f v).dma = s.dma := rfl
@[simp] theorem State.setSFld_host (s : State) (f : Fld) (v : Int) : (s.setSFld f v).host = s.host := rfl
@[simp] theorem State.setSFld_halves (s : State) (f : Fld) (v : Int) : (s.setSFld f v).halves = s.halves := rfl
@[simp] theorem State.setSFld_pkg (s : State) (f : Fld) (v : Int) : (s.setSFld f v).pkg = s.pkg := rfl
@[simp] theorem State.setSFld_image (s : State) (f : Fld) (v : Int) : (s.setSFld f v).image = s.image := rfl
@[simp] theorem State.setSFld_ident (s : State) (f : Fld) (v : Int) : (s.setSFld f v).ident = s.ident := rfl
@[simp] theorem State.setSFld_start (s : State) (f : Fld) (v : Int) : (s.setSFld f v).start = s.start := rfl
@[simp] theorem State.setSFld_health (s : State) (f : Fld) (v : Int) : (s.setSFld f v).health = s.health := rfl
@[simp] theorem State.setSFld_pins (s : State) (f : Fld) (v : Int) : (s.setSFld f v).pins = s.pins := rfl
@[simp] theorem State.setSFld_free (s : State) (f : Fld) (v : Int) : (s.setSFld f v).free = s.free := rfl
@[simp] theorem State.setSFld_peek (s : State) (f : Fld) (v : Int) (k : Nat) : (s.setSFld f v).peek k = s.peek k := rfl
@[simp] theorem State.setSFld_ring (s : State) (f : Fld) (v : Int) (k : Nat) : (s.setSFld f v).ring k = s.ring k := rfl
@[simp] theorem State.setSFld_slot (s : State) (f : Fld) (v : Int) (k : Nat) : (s.setSFld f v).slot k = s.slot k := rfl
@[simp] theorem State.setSFld_gout (s : State) (f : Fld) (v : Int) (k : Nat) : (s.setSFld f v).gout k = s.gout k := rfl
@[simp] theorem State.setSFld_enc (s : State) (f : Fld) (v : Int) (k : Nat) : (s.setSFld f v).enc k = s.enc k := rfl
@[simp] theorem State.setSFld_trig (s : State) (f : Fld) (v : Int) (k : Nat) : (s.setSFld f v).trig k = s.trig k := rfl
@[simp] theorem State.setSFld_job (s : State) (f : Fld) (v : Int) (k : Nat) : (s.setSFld f v).job k = s.job k := rfl
@[simp] theorem State.setSFld_core (s : State) (f : Fld) (v : Int) (k : Nat) : (s.setSFld f v).core k = s.core k := rfl
@[simp] theorem State.setSFld_stream (s : State) (f : Fld) (v : Int) (k : Nat) : (s.setSFld f v).stream k = s.stream k := rfl
@[simp] theorem State.setSFld_view (s : State) (f : Fld) (v : Int) (k : Nat) : (s.setSFld f v).view k = s.view k := rfl
@[simp] theorem State.setSFld_raceSt (s : State) (f : Fld) (v : Int) (k : Nat) : (s.setSFld f v).raceSt k = s.raceSt k := rfl
@[simp] theorem State.setSFld_tileOf (s : State) (f : Fld) (v : Int) (k : Nat) : (s.setSFld f v).tileOf k = s.tileOf k := rfl
@[simp] theorem State.setSFld_lane (s : State) (f : Fld) (v : Int) (k : Nat) : (s.setSFld f v).lane k = s.lane k := rfl

/-! ## bump -/

@[simp] theorem State.bump_pending (s : State) (f : Fld) : (s.bump f).pending = s.pending := rfl
@[simp] theorem State.bump_variant (s : State) (f : Fld) : (s.bump f).variant = s.variant := rfl
@[simp] theorem State.bump_phase (s : State) (f : Fld) : (s.bump f).phase = s.phase := rfl
@[simp] theorem State.bump_mem (s : State) (f : Fld) : (s.bump f).mem = s.mem := rfl
@[simp] theorem State.bump_marks (s : State) (f : Fld) : (s.bump f).marks = s.marks := rfl
@[simp] theorem State.bump_rings (s : State) (f : Fld) : (s.bump f).rings = s.rings := rfl
@[simp] theorem State.bump_clk (s : State) (f : Fld) : (s.bump f).clk = s.clk := rfl
@[simp] theorem State.bump_ev (s : State) (f : Fld) : (s.bump f).ev = s.ev := rfl
@[simp] theorem State.bump_pos (s : State) (f : Fld) : (s.bump f).pos = s.pos := rfl
@[simp] theorem State.bump_fold (s : State) (f : Fld) : (s.bump f).fold = s.fold := rfl
@[simp] theorem State.bump_shep (s : State) (f : Fld) : (s.bump f).shep = s.shep := rfl
@[simp] theorem State.bump_cores (s : State) (f : Fld) : (s.bump f).cores = s.cores := rfl
@[simp] theorem State.bump_lamb (s : State) (f : Fld) : (s.bump f).lamb = s.lamb := rfl
@[simp] theorem State.bump_drove (s : State) (f : Fld) : (s.bump f).drove = s.drove := rfl
@[simp] theorem State.bump_link (s : State) (f : Fld) : (s.bump f).link = s.link := rfl
@[simp] theorem State.bump_die (s : State) (f : Fld) : (s.bump f).die = s.die := rfl
@[simp] theorem State.bump_audit (s : State) (f : Fld) : (s.bump f).audit = s.audit := rfl
@[simp] theorem State.bump_lanes (s : State) (f : Fld) : (s.bump f).lanes = s.lanes := rfl
@[simp] theorem State.bump_streams (s : State) (f : Fld) : (s.bump f).streams = s.streams := rfl
@[simp] theorem State.bump_px (s : State) (f : Fld) : (s.bump f).px = s.px := rfl
@[simp] theorem State.bump_replay (s : State) (f : Fld) : (s.bump f).replay = s.replay := rfl
@[simp] theorem State.bump_ptpHold (s : State) (f : Fld) : (s.bump f).ptpHold = s.ptpHold := rfl
@[simp] theorem State.bump_pair (s : State) (f : Fld) : (s.bump f).pair = s.pair := rfl
@[simp] theorem State.bump_ptp (s : State) (f : Fld) : (s.bump f).ptp = s.ptp := rfl
@[simp] theorem State.bump_bell (s : State) (f : Fld) : (s.bump f).bell = s.bell := rfl
@[simp] theorem State.bump_dma (s : State) (f : Fld) : (s.bump f).dma = s.dma := rfl
@[simp] theorem State.bump_host (s : State) (f : Fld) : (s.bump f).host = s.host := rfl
@[simp] theorem State.bump_halves (s : State) (f : Fld) : (s.bump f).halves = s.halves := rfl
@[simp] theorem State.bump_pkg (s : State) (f : Fld) : (s.bump f).pkg = s.pkg := rfl
@[simp] theorem State.bump_image (s : State) (f : Fld) : (s.bump f).image = s.image := rfl
@[simp] theorem State.bump_ident (s : State) (f : Fld) : (s.bump f).ident = s.ident := rfl
@[simp] theorem State.bump_start (s : State) (f : Fld) : (s.bump f).start = s.start := rfl
@[simp] theorem State.bump_health (s : State) (f : Fld) : (s.bump f).health = s.health := rfl
@[simp] theorem State.bump_pins (s : State) (f : Fld) : (s.bump f).pins = s.pins := rfl
@[simp] theorem State.bump_free (s : State) (f : Fld) : (s.bump f).free = s.free := rfl
@[simp] theorem State.bump_peek (s : State) (f : Fld) (k : Nat) : (s.bump f).peek k = s.peek k := rfl
@[simp] theorem State.bump_ring (s : State) (f : Fld) (k : Nat) : (s.bump f).ring k = s.ring k := rfl
@[simp] theorem State.bump_slot (s : State) (f : Fld) (k : Nat) : (s.bump f).slot k = s.slot k := rfl
@[simp] theorem State.bump_gout (s : State) (f : Fld) (k : Nat) : (s.bump f).gout k = s.gout k := rfl
@[simp] theorem State.bump_enc (s : State) (f : Fld) (k : Nat) : (s.bump f).enc k = s.enc k := rfl
@[simp] theorem State.bump_trig (s : State) (f : Fld) (k : Nat) : (s.bump f).trig k = s.trig k := rfl
@[simp] theorem State.bump_job (s : State) (f : Fld) (k : Nat) : (s.bump f).job k = s.job k := rfl
@[simp] theorem State.bump_core (s : State) (f : Fld) (k : Nat) : (s.bump f).core k = s.core k := rfl
@[simp] theorem State.bump_stream (s : State) (f : Fld) (k : Nat) : (s.bump f).stream k = s.stream k := rfl
@[simp] theorem State.bump_view (s : State) (f : Fld) (k : Nat) : (s.bump f).view k = s.view k := rfl
@[simp] theorem State.bump_raceSt (s : State) (f : Fld) (k : Nat) : (s.bump f).raceSt k = s.raceSt k := rfl
@[simp] theorem State.bump_tileOf (s : State) (f : Fld) (k : Nat) : (s.bump f).tileOf k = s.tileOf k := rfl
@[simp] theorem State.bump_lane (s : State) (f : Fld) (k : Nat) : (s.bump f).lane k = s.lane k := rfl

/-! ## bumpSat -/

@[simp] theorem State.bumpSat_pending (s : State) (f : Fld) (n : Nat) : (s.bumpSat f n).pending = s.pending := rfl
@[simp] theorem State.bumpSat_variant (s : State) (f : Fld) (n : Nat) : (s.bumpSat f n).variant = s.variant := rfl
@[simp] theorem State.bumpSat_phase (s : State) (f : Fld) (n : Nat) : (s.bumpSat f n).phase = s.phase := rfl
@[simp] theorem State.bumpSat_mem (s : State) (f : Fld) (n : Nat) : (s.bumpSat f n).mem = s.mem := rfl
@[simp] theorem State.bumpSat_marks (s : State) (f : Fld) (n : Nat) : (s.bumpSat f n).marks = s.marks := rfl
@[simp] theorem State.bumpSat_rings (s : State) (f : Fld) (n : Nat) : (s.bumpSat f n).rings = s.rings := rfl
@[simp] theorem State.bumpSat_clk (s : State) (f : Fld) (n : Nat) : (s.bumpSat f n).clk = s.clk := rfl
@[simp] theorem State.bumpSat_ev (s : State) (f : Fld) (n : Nat) : (s.bumpSat f n).ev = s.ev := rfl
@[simp] theorem State.bumpSat_pos (s : State) (f : Fld) (n : Nat) : (s.bumpSat f n).pos = s.pos := rfl
@[simp] theorem State.bumpSat_fold (s : State) (f : Fld) (n : Nat) : (s.bumpSat f n).fold = s.fold := rfl
@[simp] theorem State.bumpSat_shep (s : State) (f : Fld) (n : Nat) : (s.bumpSat f n).shep = s.shep := rfl
@[simp] theorem State.bumpSat_cores (s : State) (f : Fld) (n : Nat) : (s.bumpSat f n).cores = s.cores := rfl
@[simp] theorem State.bumpSat_lamb (s : State) (f : Fld) (n : Nat) : (s.bumpSat f n).lamb = s.lamb := rfl
@[simp] theorem State.bumpSat_drove (s : State) (f : Fld) (n : Nat) : (s.bumpSat f n).drove = s.drove := rfl
@[simp] theorem State.bumpSat_link (s : State) (f : Fld) (n : Nat) : (s.bumpSat f n).link = s.link := rfl
@[simp] theorem State.bumpSat_die (s : State) (f : Fld) (n : Nat) : (s.bumpSat f n).die = s.die := rfl
@[simp] theorem State.bumpSat_audit (s : State) (f : Fld) (n : Nat) : (s.bumpSat f n).audit = s.audit := rfl
@[simp] theorem State.bumpSat_lanes (s : State) (f : Fld) (n : Nat) : (s.bumpSat f n).lanes = s.lanes := rfl
@[simp] theorem State.bumpSat_streams (s : State) (f : Fld) (n : Nat) : (s.bumpSat f n).streams = s.streams := rfl
@[simp] theorem State.bumpSat_px (s : State) (f : Fld) (n : Nat) : (s.bumpSat f n).px = s.px := rfl
@[simp] theorem State.bumpSat_replay (s : State) (f : Fld) (n : Nat) : (s.bumpSat f n).replay = s.replay := rfl
@[simp] theorem State.bumpSat_ptpHold (s : State) (f : Fld) (n : Nat) : (s.bumpSat f n).ptpHold = s.ptpHold := rfl
@[simp] theorem State.bumpSat_pair (s : State) (f : Fld) (n : Nat) : (s.bumpSat f n).pair = s.pair := rfl
@[simp] theorem State.bumpSat_ptp (s : State) (f : Fld) (n : Nat) : (s.bumpSat f n).ptp = s.ptp := rfl
@[simp] theorem State.bumpSat_bell (s : State) (f : Fld) (n : Nat) : (s.bumpSat f n).bell = s.bell := rfl
@[simp] theorem State.bumpSat_dma (s : State) (f : Fld) (n : Nat) : (s.bumpSat f n).dma = s.dma := rfl
@[simp] theorem State.bumpSat_host (s : State) (f : Fld) (n : Nat) : (s.bumpSat f n).host = s.host := rfl
@[simp] theorem State.bumpSat_halves (s : State) (f : Fld) (n : Nat) : (s.bumpSat f n).halves = s.halves := rfl
@[simp] theorem State.bumpSat_pkg (s : State) (f : Fld) (n : Nat) : (s.bumpSat f n).pkg = s.pkg := rfl
@[simp] theorem State.bumpSat_image (s : State) (f : Fld) (n : Nat) : (s.bumpSat f n).image = s.image := rfl
@[simp] theorem State.bumpSat_ident (s : State) (f : Fld) (n : Nat) : (s.bumpSat f n).ident = s.ident := rfl
@[simp] theorem State.bumpSat_start (s : State) (f : Fld) (n : Nat) : (s.bumpSat f n).start = s.start := rfl
@[simp] theorem State.bumpSat_health (s : State) (f : Fld) (n : Nat) : (s.bumpSat f n).health = s.health := rfl
@[simp] theorem State.bumpSat_pins (s : State) (f : Fld) (n : Nat) : (s.bumpSat f n).pins = s.pins := rfl
@[simp] theorem State.bumpSat_free (s : State) (f : Fld) (n : Nat) : (s.bumpSat f n).free = s.free := rfl
@[simp] theorem State.bumpSat_peek (s : State) (f : Fld) (n : Nat) (k : Nat) : (s.bumpSat f n).peek k = s.peek k := rfl
@[simp] theorem State.bumpSat_ring (s : State) (f : Fld) (n : Nat) (k : Nat) : (s.bumpSat f n).ring k = s.ring k := rfl
@[simp] theorem State.bumpSat_slot (s : State) (f : Fld) (n : Nat) (k : Nat) : (s.bumpSat f n).slot k = s.slot k := rfl
@[simp] theorem State.bumpSat_gout (s : State) (f : Fld) (n : Nat) (k : Nat) : (s.bumpSat f n).gout k = s.gout k := rfl
@[simp] theorem State.bumpSat_enc (s : State) (f : Fld) (n : Nat) (k : Nat) : (s.bumpSat f n).enc k = s.enc k := rfl
@[simp] theorem State.bumpSat_trig (s : State) (f : Fld) (n : Nat) (k : Nat) : (s.bumpSat f n).trig k = s.trig k := rfl
@[simp] theorem State.bumpSat_job (s : State) (f : Fld) (n : Nat) (k : Nat) : (s.bumpSat f n).job k = s.job k := rfl
@[simp] theorem State.bumpSat_core (s : State) (f : Fld) (n : Nat) (k : Nat) : (s.bumpSat f n).core k = s.core k := rfl
@[simp] theorem State.bumpSat_stream (s : State) (f : Fld) (n : Nat) (k : Nat) : (s.bumpSat f n).stream k = s.stream k := rfl
@[simp] theorem State.bumpSat_view (s : State) (f : Fld) (n : Nat) (k : Nat) : (s.bumpSat f n).view k = s.view k := rfl
@[simp] theorem State.bumpSat_raceSt (s : State) (f : Fld) (n : Nat) (k : Nat) : (s.bumpSat f n).raceSt k = s.raceSt k := rfl
@[simp] theorem State.bumpSat_tileOf (s : State) (f : Fld) (n : Nat) (k : Nat) : (s.bumpSat f n).tileOf k = s.tileOf k := rfl
@[simp] theorem State.bumpSat_lane (s : State) (f : Fld) (n : Nat) (k : Nat) : (s.bumpSat f n).lane k = s.lane k := rfl

/-! ## setFlag -/

@[simp] theorem State.setFlag_pending (s : State) (f : Fld) (b : Bool) : (s.setFlag f b).pending = s.pending := rfl
@[simp] theorem State.setFlag_variant (s : State) (f : Fld) (b : Bool) : (s.setFlag f b).variant = s.variant := rfl
@[simp] theorem State.setFlag_phase (s : State) (f : Fld) (b : Bool) : (s.setFlag f b).phase = s.phase := rfl
@[simp] theorem State.setFlag_mem (s : State) (f : Fld) (b : Bool) : (s.setFlag f b).mem = s.mem := rfl
@[simp] theorem State.setFlag_marks (s : State) (f : Fld) (b : Bool) : (s.setFlag f b).marks = s.marks := rfl
@[simp] theorem State.setFlag_rings (s : State) (f : Fld) (b : Bool) : (s.setFlag f b).rings = s.rings := rfl
@[simp] theorem State.setFlag_clk (s : State) (f : Fld) (b : Bool) : (s.setFlag f b).clk = s.clk := rfl
@[simp] theorem State.setFlag_ev (s : State) (f : Fld) (b : Bool) : (s.setFlag f b).ev = s.ev := rfl
@[simp] theorem State.setFlag_pos (s : State) (f : Fld) (b : Bool) : (s.setFlag f b).pos = s.pos := rfl
@[simp] theorem State.setFlag_fold (s : State) (f : Fld) (b : Bool) : (s.setFlag f b).fold = s.fold := rfl
@[simp] theorem State.setFlag_shep (s : State) (f : Fld) (b : Bool) : (s.setFlag f b).shep = s.shep := rfl
@[simp] theorem State.setFlag_cores (s : State) (f : Fld) (b : Bool) : (s.setFlag f b).cores = s.cores := rfl
@[simp] theorem State.setFlag_lamb (s : State) (f : Fld) (b : Bool) : (s.setFlag f b).lamb = s.lamb := rfl
@[simp] theorem State.setFlag_drove (s : State) (f : Fld) (b : Bool) : (s.setFlag f b).drove = s.drove := rfl
@[simp] theorem State.setFlag_link (s : State) (f : Fld) (b : Bool) : (s.setFlag f b).link = s.link := rfl
@[simp] theorem State.setFlag_die (s : State) (f : Fld) (b : Bool) : (s.setFlag f b).die = s.die := rfl
@[simp] theorem State.setFlag_audit (s : State) (f : Fld) (b : Bool) : (s.setFlag f b).audit = s.audit := rfl
@[simp] theorem State.setFlag_lanes (s : State) (f : Fld) (b : Bool) : (s.setFlag f b).lanes = s.lanes := rfl
@[simp] theorem State.setFlag_streams (s : State) (f : Fld) (b : Bool) : (s.setFlag f b).streams = s.streams := rfl
@[simp] theorem State.setFlag_px (s : State) (f : Fld) (b : Bool) : (s.setFlag f b).px = s.px := rfl
@[simp] theorem State.setFlag_replay (s : State) (f : Fld) (b : Bool) : (s.setFlag f b).replay = s.replay := rfl
@[simp] theorem State.setFlag_ptpHold (s : State) (f : Fld) (b : Bool) : (s.setFlag f b).ptpHold = s.ptpHold := rfl
@[simp] theorem State.setFlag_pair (s : State) (f : Fld) (b : Bool) : (s.setFlag f b).pair = s.pair := rfl
@[simp] theorem State.setFlag_ptp (s : State) (f : Fld) (b : Bool) : (s.setFlag f b).ptp = s.ptp := rfl
@[simp] theorem State.setFlag_bell (s : State) (f : Fld) (b : Bool) : (s.setFlag f b).bell = s.bell := rfl
@[simp] theorem State.setFlag_dma (s : State) (f : Fld) (b : Bool) : (s.setFlag f b).dma = s.dma := rfl
@[simp] theorem State.setFlag_host (s : State) (f : Fld) (b : Bool) : (s.setFlag f b).host = s.host := rfl
@[simp] theorem State.setFlag_halves (s : State) (f : Fld) (b : Bool) : (s.setFlag f b).halves = s.halves := rfl
@[simp] theorem State.setFlag_pkg (s : State) (f : Fld) (b : Bool) : (s.setFlag f b).pkg = s.pkg := rfl
@[simp] theorem State.setFlag_image (s : State) (f : Fld) (b : Bool) : (s.setFlag f b).image = s.image := rfl
@[simp] theorem State.setFlag_ident (s : State) (f : Fld) (b : Bool) : (s.setFlag f b).ident = s.ident := rfl
@[simp] theorem State.setFlag_start (s : State) (f : Fld) (b : Bool) : (s.setFlag f b).start = s.start := rfl
@[simp] theorem State.setFlag_health (s : State) (f : Fld) (b : Bool) : (s.setFlag f b).health = s.health := rfl
@[simp] theorem State.setFlag_pins (s : State) (f : Fld) (b : Bool) : (s.setFlag f b).pins = s.pins := rfl
@[simp] theorem State.setFlag_free (s : State) (f : Fld) (b : Bool) : (s.setFlag f b).free = s.free := rfl
@[simp] theorem State.setFlag_peek (s : State) (f : Fld) (b : Bool) (k : Nat) : (s.setFlag f b).peek k = s.peek k := rfl
@[simp] theorem State.setFlag_ring (s : State) (f : Fld) (b : Bool) (k : Nat) : (s.setFlag f b).ring k = s.ring k := rfl
@[simp] theorem State.setFlag_slot (s : State) (f : Fld) (b : Bool) (k : Nat) : (s.setFlag f b).slot k = s.slot k := rfl
@[simp] theorem State.setFlag_gout (s : State) (f : Fld) (b : Bool) (k : Nat) : (s.setFlag f b).gout k = s.gout k := rfl
@[simp] theorem State.setFlag_enc (s : State) (f : Fld) (b : Bool) (k : Nat) : (s.setFlag f b).enc k = s.enc k := rfl
@[simp] theorem State.setFlag_trig (s : State) (f : Fld) (b : Bool) (k : Nat) : (s.setFlag f b).trig k = s.trig k := rfl
@[simp] theorem State.setFlag_job (s : State) (f : Fld) (b : Bool) (k : Nat) : (s.setFlag f b).job k = s.job k := rfl
@[simp] theorem State.setFlag_core (s : State) (f : Fld) (b : Bool) (k : Nat) : (s.setFlag f b).core k = s.core k := rfl
@[simp] theorem State.setFlag_stream (s : State) (f : Fld) (b : Bool) (k : Nat) : (s.setFlag f b).stream k = s.stream k := rfl
@[simp] theorem State.setFlag_view (s : State) (f : Fld) (b : Bool) (k : Nat) : (s.setFlag f b).view k = s.view k := rfl
@[simp] theorem State.setFlag_raceSt (s : State) (f : Fld) (b : Bool) (k : Nat) : (s.setFlag f b).raceSt k = s.raceSt k := rfl
@[simp] theorem State.setFlag_tileOf (s : State) (f : Fld) (b : Bool) (k : Nat) : (s.setFlag f b).tileOf k = s.tileOf k := rfl
@[simp] theorem State.setFlag_lane (s : State) (f : Fld) (b : Bool) (k : Nat) : (s.setFlag f b).lane k = s.lane k := rfl

/-! ## poke -/

@[simp] theorem State.poke_pending (s : State) (a : Nat) (b : Byte) : (s.poke a b).pending = s.pending := rfl
@[simp] theorem State.poke_variant (s : State) (a : Nat) (b : Byte) : (s.poke a b).variant = s.variant := rfl
@[simp] theorem State.poke_phase (s : State) (a : Nat) (b : Byte) : (s.poke a b).phase = s.phase := rfl
@[simp] theorem State.poke_regs (s : State) (a : Nat) (b : Byte) : (s.poke a b).regs = s.regs := rfl
@[simp] theorem State.poke_marks (s : State) (a : Nat) (b : Byte) : (s.poke a b).marks = s.marks := rfl
@[simp] theorem State.poke_rings (s : State) (a : Nat) (b : Byte) : (s.poke a b).rings = s.rings := rfl
@[simp] theorem State.poke_clk (s : State) (a : Nat) (b : Byte) : (s.poke a b).clk = s.clk := rfl
@[simp] theorem State.poke_ev (s : State) (a : Nat) (b : Byte) : (s.poke a b).ev = s.ev := rfl
@[simp] theorem State.poke_pos (s : State) (a : Nat) (b : Byte) : (s.poke a b).pos = s.pos := rfl
@[simp] theorem State.poke_fold (s : State) (a : Nat) (b : Byte) : (s.poke a b).fold = s.fold := rfl
@[simp] theorem State.poke_shep (s : State) (a : Nat) (b : Byte) : (s.poke a b).shep = s.shep := rfl
@[simp] theorem State.poke_cores (s : State) (a : Nat) (b : Byte) : (s.poke a b).cores = s.cores := rfl
@[simp] theorem State.poke_lamb (s : State) (a : Nat) (b : Byte) : (s.poke a b).lamb = s.lamb := rfl
@[simp] theorem State.poke_drove (s : State) (a : Nat) (b : Byte) : (s.poke a b).drove = s.drove := rfl
@[simp] theorem State.poke_link (s : State) (a : Nat) (b : Byte) : (s.poke a b).link = s.link := rfl
@[simp] theorem State.poke_die (s : State) (a : Nat) (b : Byte) : (s.poke a b).die = s.die := rfl
@[simp] theorem State.poke_audit (s : State) (a : Nat) (b : Byte) : (s.poke a b).audit = s.audit := rfl
@[simp] theorem State.poke_lanes (s : State) (a : Nat) (b : Byte) : (s.poke a b).lanes = s.lanes := rfl
@[simp] theorem State.poke_streams (s : State) (a : Nat) (b : Byte) : (s.poke a b).streams = s.streams := rfl
@[simp] theorem State.poke_px (s : State) (a : Nat) (b : Byte) : (s.poke a b).px = s.px := rfl
@[simp] theorem State.poke_replay (s : State) (a : Nat) (b : Byte) : (s.poke a b).replay = s.replay := rfl
@[simp] theorem State.poke_ptpHold (s : State) (a : Nat) (b : Byte) : (s.poke a b).ptpHold = s.ptpHold := rfl
@[simp] theorem State.poke_pair (s : State) (a : Nat) (b : Byte) : (s.poke a b).pair = s.pair := rfl
@[simp] theorem State.poke_ptp (s : State) (a : Nat) (b : Byte) : (s.poke a b).ptp = s.ptp := rfl
@[simp] theorem State.poke_bell (s : State) (a : Nat) (b : Byte) : (s.poke a b).bell = s.bell := rfl
@[simp] theorem State.poke_dma (s : State) (a : Nat) (b : Byte) : (s.poke a b).dma = s.dma := rfl
@[simp] theorem State.poke_host (s : State) (a : Nat) (b : Byte) : (s.poke a b).host = s.host := rfl
@[simp] theorem State.poke_halves (s : State) (a : Nat) (b : Byte) : (s.poke a b).halves = s.halves := rfl
@[simp] theorem State.poke_pkg (s : State) (a : Nat) (b : Byte) : (s.poke a b).pkg = s.pkg := rfl
@[simp] theorem State.poke_image (s : State) (a : Nat) (b : Byte) : (s.poke a b).image = s.image := rfl
@[simp] theorem State.poke_ident (s : State) (a : Nat) (b : Byte) : (s.poke a b).ident = s.ident := rfl
@[simp] theorem State.poke_start (s : State) (a : Nat) (b : Byte) : (s.poke a b).start = s.start := rfl
@[simp] theorem State.poke_health (s : State) (a : Nat) (b : Byte) : (s.poke a b).health = s.health := rfl
@[simp] theorem State.poke_pins (s : State) (a : Nat) (b : Byte) : (s.poke a b).pins = s.pins := rfl
@[simp] theorem State.poke_free (s : State) (a : Nat) (b : Byte) : (s.poke a b).free = s.free := rfl
@[simp] theorem State.poke_fld (s : State) (a : Nat) (b : Byte) (g : Fld) : (s.poke a b).fld g = s.fld g := rfl
@[simp] theorem State.poke_ring (s : State) (a : Nat) (b : Byte) (k : Nat) : (s.poke a b).ring k = s.ring k := rfl
@[simp] theorem State.poke_slot (s : State) (a : Nat) (b : Byte) (k : Nat) : (s.poke a b).slot k = s.slot k := rfl
@[simp] theorem State.poke_gout (s : State) (a : Nat) (b : Byte) (k : Nat) : (s.poke a b).gout k = s.gout k := rfl
@[simp] theorem State.poke_enc (s : State) (a : Nat) (b : Byte) (k : Nat) : (s.poke a b).enc k = s.enc k := rfl
@[simp] theorem State.poke_trig (s : State) (a : Nat) (b : Byte) (k : Nat) : (s.poke a b).trig k = s.trig k := rfl
@[simp] theorem State.poke_job (s : State) (a : Nat) (b : Byte) (k : Nat) : (s.poke a b).job k = s.job k := rfl
@[simp] theorem State.poke_core (s : State) (a : Nat) (b : Byte) (k : Nat) : (s.poke a b).core k = s.core k := rfl
@[simp] theorem State.poke_stream (s : State) (a : Nat) (b : Byte) (k : Nat) : (s.poke a b).stream k = s.stream k := rfl
@[simp] theorem State.poke_view (s : State) (a : Nat) (b : Byte) (k : Nat) : (s.poke a b).view k = s.view k := rfl
@[simp] theorem State.poke_raceSt (s : State) (a : Nat) (b : Byte) (k : Nat) : (s.poke a b).raceSt k = s.raceSt k := rfl
@[simp] theorem State.poke_tileOf (s : State) (a : Nat) (b : Byte) (k : Nat) : (s.poke a b).tileOf k = s.tileOf k := rfl
@[simp] theorem State.poke_lane (s : State) (a : Nat) (b : Byte) (k : Nat) : (s.poke a b).lane k = s.lane k := rfl
@[simp] theorem State.poke_peek_self (s : State) (a : Nat) (b : Byte) : (s.poke a b).peek a = b := Tab.get_set_self ..
theorem State.poke_peek_other (s : State) (a : Nat) (b : Byte) (m : Nat) (h : m ≠ a) : (s.poke a b).peek m = s.peek m := Tab.get_set_other _ _ _ _ _ h

/-! ## setMark -/

@[simp] theorem State.setMark_pending (s : State) (a : Nat) (m : Mark) : (s.setMark a m).pending = s.pending := rfl
@[simp] theorem State.setMark_variant (s : State) (a : Nat) (m : Mark) : (s.setMark a m).variant = s.variant := rfl
@[simp] theorem State.setMark_phase (s : State) (a : Nat) (m : Mark) : (s.setMark a m).phase = s.phase := rfl
@[simp] theorem State.setMark_regs (s : State) (a : Nat) (m : Mark) : (s.setMark a m).regs = s.regs := rfl
@[simp] theorem State.setMark_mem (s : State) (a : Nat) (m : Mark) : (s.setMark a m).mem = s.mem := rfl
@[simp] theorem State.setMark_rings (s : State) (a : Nat) (m : Mark) : (s.setMark a m).rings = s.rings := rfl
@[simp] theorem State.setMark_clk (s : State) (a : Nat) (m : Mark) : (s.setMark a m).clk = s.clk := rfl
@[simp] theorem State.setMark_ev (s : State) (a : Nat) (m : Mark) : (s.setMark a m).ev = s.ev := rfl
@[simp] theorem State.setMark_pos (s : State) (a : Nat) (m : Mark) : (s.setMark a m).pos = s.pos := rfl
@[simp] theorem State.setMark_fold (s : State) (a : Nat) (m : Mark) : (s.setMark a m).fold = s.fold := rfl
@[simp] theorem State.setMark_shep (s : State) (a : Nat) (m : Mark) : (s.setMark a m).shep = s.shep := rfl
@[simp] theorem State.setMark_cores (s : State) (a : Nat) (m : Mark) : (s.setMark a m).cores = s.cores := rfl
@[simp] theorem State.setMark_lamb (s : State) (a : Nat) (m : Mark) : (s.setMark a m).lamb = s.lamb := rfl
@[simp] theorem State.setMark_drove (s : State) (a : Nat) (m : Mark) : (s.setMark a m).drove = s.drove := rfl
@[simp] theorem State.setMark_link (s : State) (a : Nat) (m : Mark) : (s.setMark a m).link = s.link := rfl
@[simp] theorem State.setMark_die (s : State) (a : Nat) (m : Mark) : (s.setMark a m).die = s.die := rfl
@[simp] theorem State.setMark_audit (s : State) (a : Nat) (m : Mark) : (s.setMark a m).audit = s.audit := rfl
@[simp] theorem State.setMark_lanes (s : State) (a : Nat) (m : Mark) : (s.setMark a m).lanes = s.lanes := rfl
@[simp] theorem State.setMark_streams (s : State) (a : Nat) (m : Mark) : (s.setMark a m).streams = s.streams := rfl
@[simp] theorem State.setMark_px (s : State) (a : Nat) (m : Mark) : (s.setMark a m).px = s.px := rfl
@[simp] theorem State.setMark_replay (s : State) (a : Nat) (m : Mark) : (s.setMark a m).replay = s.replay := rfl
@[simp] theorem State.setMark_ptpHold (s : State) (a : Nat) (m : Mark) : (s.setMark a m).ptpHold = s.ptpHold := rfl
@[simp] theorem State.setMark_pair (s : State) (a : Nat) (m : Mark) : (s.setMark a m).pair = s.pair := rfl
@[simp] theorem State.setMark_ptp (s : State) (a : Nat) (m : Mark) : (s.setMark a m).ptp = s.ptp := rfl
@[simp] theorem State.setMark_bell (s : State) (a : Nat) (m : Mark) : (s.setMark a m).bell = s.bell := rfl
@[simp] theorem State.setMark_dma (s : State) (a : Nat) (m : Mark) : (s.setMark a m).dma = s.dma := rfl
@[simp] theorem State.setMark_host (s : State) (a : Nat) (m : Mark) : (s.setMark a m).host = s.host := rfl
@[simp] theorem State.setMark_halves (s : State) (a : Nat) (m : Mark) : (s.setMark a m).halves = s.halves := rfl
@[simp] theorem State.setMark_pkg (s : State) (a : Nat) (m : Mark) : (s.setMark a m).pkg = s.pkg := rfl
@[simp] theorem State.setMark_image (s : State) (a : Nat) (m : Mark) : (s.setMark a m).image = s.image := rfl
@[simp] theorem State.setMark_ident (s : State) (a : Nat) (m : Mark) : (s.setMark a m).ident = s.ident := rfl
@[simp] theorem State.setMark_start (s : State) (a : Nat) (m : Mark) : (s.setMark a m).start = s.start := rfl
@[simp] theorem State.setMark_health (s : State) (a : Nat) (m : Mark) : (s.setMark a m).health = s.health := rfl
@[simp] theorem State.setMark_pins (s : State) (a : Nat) (m : Mark) : (s.setMark a m).pins = s.pins := rfl
@[simp] theorem State.setMark_free (s : State) (a : Nat) (m : Mark) : (s.setMark a m).free = s.free := rfl
@[simp] theorem State.setMark_fld (s : State) (a : Nat) (m : Mark) (g : Fld) : (s.setMark a m).fld g = s.fld g := rfl
@[simp] theorem State.setMark_peek (s : State) (a : Nat) (m : Mark) (k : Nat) : (s.setMark a m).peek k = s.peek k := rfl
@[simp] theorem State.setMark_ring (s : State) (a : Nat) (m : Mark) (k : Nat) : (s.setMark a m).ring k = s.ring k := rfl
@[simp] theorem State.setMark_slot (s : State) (a : Nat) (m : Mark) (k : Nat) : (s.setMark a m).slot k = s.slot k := rfl
@[simp] theorem State.setMark_gout (s : State) (a : Nat) (m : Mark) (k : Nat) : (s.setMark a m).gout k = s.gout k := rfl
@[simp] theorem State.setMark_enc (s : State) (a : Nat) (m : Mark) (k : Nat) : (s.setMark a m).enc k = s.enc k := rfl
@[simp] theorem State.setMark_trig (s : State) (a : Nat) (m : Mark) (k : Nat) : (s.setMark a m).trig k = s.trig k := rfl
@[simp] theorem State.setMark_job (s : State) (a : Nat) (m : Mark) (k : Nat) : (s.setMark a m).job k = s.job k := rfl
@[simp] theorem State.setMark_core (s : State) (a : Nat) (m : Mark) (k : Nat) : (s.setMark a m).core k = s.core k := rfl
@[simp] theorem State.setMark_stream (s : State) (a : Nat) (m : Mark) (k : Nat) : (s.setMark a m).stream k = s.stream k := rfl
@[simp] theorem State.setMark_view (s : State) (a : Nat) (m : Mark) (k : Nat) : (s.setMark a m).view k = s.view k := rfl
@[simp] theorem State.setMark_raceSt (s : State) (a : Nat) (m : Mark) (k : Nat) : (s.setMark a m).raceSt k = s.raceSt k := rfl
@[simp] theorem State.setMark_tileOf (s : State) (a : Nat) (m : Mark) (k : Nat) : (s.setMark a m).tileOf k = s.tileOf k := rfl
@[simp] theorem State.setMark_lane (s : State) (a : Nat) (m : Mark) (k : Nat) : (s.setMark a m).lane k = s.lane k := rfl

/-! ## setRing -/

@[simp] theorem State.setRing_pending (s : State) (r : Nat) (x : Ring) : (s.setRing r x).pending = s.pending := rfl
@[simp] theorem State.setRing_variant (s : State) (r : Nat) (x : Ring) : (s.setRing r x).variant = s.variant := rfl
@[simp] theorem State.setRing_phase (s : State) (r : Nat) (x : Ring) : (s.setRing r x).phase = s.phase := rfl
@[simp] theorem State.setRing_regs (s : State) (r : Nat) (x : Ring) : (s.setRing r x).regs = s.regs := rfl
@[simp] theorem State.setRing_mem (s : State) (r : Nat) (x : Ring) : (s.setRing r x).mem = s.mem := rfl
@[simp] theorem State.setRing_marks (s : State) (r : Nat) (x : Ring) : (s.setRing r x).marks = s.marks := rfl
@[simp] theorem State.setRing_clk (s : State) (r : Nat) (x : Ring) : (s.setRing r x).clk = s.clk := rfl
@[simp] theorem State.setRing_ev (s : State) (r : Nat) (x : Ring) : (s.setRing r x).ev = s.ev := rfl
@[simp] theorem State.setRing_pos (s : State) (r : Nat) (x : Ring) : (s.setRing r x).pos = s.pos := rfl
@[simp] theorem State.setRing_fold (s : State) (r : Nat) (x : Ring) : (s.setRing r x).fold = s.fold := rfl
@[simp] theorem State.setRing_shep (s : State) (r : Nat) (x : Ring) : (s.setRing r x).shep = s.shep := rfl
@[simp] theorem State.setRing_cores (s : State) (r : Nat) (x : Ring) : (s.setRing r x).cores = s.cores := rfl
@[simp] theorem State.setRing_lamb (s : State) (r : Nat) (x : Ring) : (s.setRing r x).lamb = s.lamb := rfl
@[simp] theorem State.setRing_drove (s : State) (r : Nat) (x : Ring) : (s.setRing r x).drove = s.drove := rfl
@[simp] theorem State.setRing_link (s : State) (r : Nat) (x : Ring) : (s.setRing r x).link = s.link := rfl
@[simp] theorem State.setRing_die (s : State) (r : Nat) (x : Ring) : (s.setRing r x).die = s.die := rfl
@[simp] theorem State.setRing_audit (s : State) (r : Nat) (x : Ring) : (s.setRing r x).audit = s.audit := rfl
@[simp] theorem State.setRing_lanes (s : State) (r : Nat) (x : Ring) : (s.setRing r x).lanes = s.lanes := rfl
@[simp] theorem State.setRing_streams (s : State) (r : Nat) (x : Ring) : (s.setRing r x).streams = s.streams := rfl
@[simp] theorem State.setRing_px (s : State) (r : Nat) (x : Ring) : (s.setRing r x).px = s.px := rfl
@[simp] theorem State.setRing_replay (s : State) (r : Nat) (x : Ring) : (s.setRing r x).replay = s.replay := rfl
@[simp] theorem State.setRing_ptpHold (s : State) (r : Nat) (x : Ring) : (s.setRing r x).ptpHold = s.ptpHold := rfl
@[simp] theorem State.setRing_pair (s : State) (r : Nat) (x : Ring) : (s.setRing r x).pair = s.pair := rfl
@[simp] theorem State.setRing_ptp (s : State) (r : Nat) (x : Ring) : (s.setRing r x).ptp = s.ptp := rfl
@[simp] theorem State.setRing_bell (s : State) (r : Nat) (x : Ring) : (s.setRing r x).bell = s.bell := rfl
@[simp] theorem State.setRing_dma (s : State) (r : Nat) (x : Ring) : (s.setRing r x).dma = s.dma := rfl
@[simp] theorem State.setRing_host (s : State) (r : Nat) (x : Ring) : (s.setRing r x).host = s.host := rfl
@[simp] theorem State.setRing_halves (s : State) (r : Nat) (x : Ring) : (s.setRing r x).halves = s.halves := rfl
@[simp] theorem State.setRing_pkg (s : State) (r : Nat) (x : Ring) : (s.setRing r x).pkg = s.pkg := rfl
@[simp] theorem State.setRing_image (s : State) (r : Nat) (x : Ring) : (s.setRing r x).image = s.image := rfl
@[simp] theorem State.setRing_ident (s : State) (r : Nat) (x : Ring) : (s.setRing r x).ident = s.ident := rfl
@[simp] theorem State.setRing_start (s : State) (r : Nat) (x : Ring) : (s.setRing r x).start = s.start := rfl
@[simp] theorem State.setRing_health (s : State) (r : Nat) (x : Ring) : (s.setRing r x).health = s.health := rfl
@[simp] theorem State.setRing_pins (s : State) (r : Nat) (x : Ring) : (s.setRing r x).pins = s.pins := rfl
@[simp] theorem State.setRing_free (s : State) (r : Nat) (x : Ring) : (s.setRing r x).free = s.free := rfl
@[simp] theorem State.setRing_fld (s : State) (r : Nat) (x : Ring) (g : Fld) : (s.setRing r x).fld g = s.fld g := rfl
@[simp] theorem State.setRing_peek (s : State) (r : Nat) (x : Ring) (k : Nat) : (s.setRing r x).peek k = s.peek k := rfl
@[simp] theorem State.setRing_slot (s : State) (r : Nat) (x : Ring) (k : Nat) : (s.setRing r x).slot k = s.slot k := rfl
@[simp] theorem State.setRing_gout (s : State) (r : Nat) (x : Ring) (k : Nat) : (s.setRing r x).gout k = s.gout k := rfl
@[simp] theorem State.setRing_enc (s : State) (r : Nat) (x : Ring) (k : Nat) : (s.setRing r x).enc k = s.enc k := rfl
@[simp] theorem State.setRing_trig (s : State) (r : Nat) (x : Ring) (k : Nat) : (s.setRing r x).trig k = s.trig k := rfl
@[simp] theorem State.setRing_job (s : State) (r : Nat) (x : Ring) (k : Nat) : (s.setRing r x).job k = s.job k := rfl
@[simp] theorem State.setRing_core (s : State) (r : Nat) (x : Ring) (k : Nat) : (s.setRing r x).core k = s.core k := rfl
@[simp] theorem State.setRing_stream (s : State) (r : Nat) (x : Ring) (k : Nat) : (s.setRing r x).stream k = s.stream k := rfl
@[simp] theorem State.setRing_view (s : State) (r : Nat) (x : Ring) (k : Nat) : (s.setRing r x).view k = s.view k := rfl
@[simp] theorem State.setRing_raceSt (s : State) (r : Nat) (x : Ring) (k : Nat) : (s.setRing r x).raceSt k = s.raceSt k := rfl
@[simp] theorem State.setRing_tileOf (s : State) (r : Nat) (x : Ring) (k : Nat) : (s.setRing r x).tileOf k = s.tileOf k := rfl
@[simp] theorem State.setRing_lane (s : State) (r : Nat) (x : Ring) (k : Nat) : (s.setRing r x).lane k = s.lane k := rfl
@[simp] theorem State.setRing_ring_self (s : State) (r : Nat) (x : Ring) : (s.setRing r x).ring r = x := Tab.get_set_self ..
theorem State.setRing_ring_other (s : State) (r : Nat) (x : Ring) (m : Nat) (h : m ≠ r) : (s.setRing r x).ring m = s.ring m := Tab.get_set_other _ _ _ _ _ h

/-! ## advance -/

@[simp] theorem State.advance_pending (s : State) (n : Nat) : (s.advance n).pending = s.pending := rfl
@[simp] theorem State.advance_variant (s : State) (n : Nat) : (s.advance n).variant = s.variant := rfl
@[simp] theorem State.advance_phase (s : State) (n : Nat) : (s.advance n).phase = s.phase := rfl
@[simp] theorem State.advance_regs (s : State) (n : Nat) : (s.advance n).regs = s.regs := rfl
@[simp] theorem State.advance_mem (s : State) (n : Nat) : (s.advance n).mem = s.mem := rfl
@[simp] theorem State.advance_marks (s : State) (n : Nat) : (s.advance n).marks = s.marks := rfl
@[simp] theorem State.advance_rings (s : State) (n : Nat) : (s.advance n).rings = s.rings := rfl
@[simp] theorem State.advance_ev (s : State) (n : Nat) : (s.advance n).ev = s.ev := rfl
@[simp] theorem State.advance_pos (s : State) (n : Nat) : (s.advance n).pos = s.pos := rfl
@[simp] theorem State.advance_fold (s : State) (n : Nat) : (s.advance n).fold = s.fold := rfl
@[simp] theorem State.advance_shep (s : State) (n : Nat) : (s.advance n).shep = s.shep := rfl
@[simp] theorem State.advance_cores (s : State) (n : Nat) : (s.advance n).cores = s.cores := rfl
@[simp] theorem State.advance_lamb (s : State) (n : Nat) : (s.advance n).lamb = s.lamb := rfl
@[simp] theorem State.advance_drove (s : State) (n : Nat) : (s.advance n).drove = s.drove := rfl
@[simp] theorem State.advance_link (s : State) (n : Nat) : (s.advance n).link = s.link := rfl
@[simp] theorem State.advance_die (s : State) (n : Nat) : (s.advance n).die = s.die := rfl
@[simp] theorem State.advance_audit (s : State) (n : Nat) : (s.advance n).audit = s.audit := rfl
@[simp] theorem State.advance_lanes (s : State) (n : Nat) : (s.advance n).lanes = s.lanes := rfl
@[simp] theorem State.advance_streams (s : State) (n : Nat) : (s.advance n).streams = s.streams := rfl
@[simp] theorem State.advance_px (s : State) (n : Nat) : (s.advance n).px = s.px := rfl
@[simp] theorem State.advance_replay (s : State) (n : Nat) : (s.advance n).replay = s.replay := rfl
@[simp] theorem State.advance_ptpHold (s : State) (n : Nat) : (s.advance n).ptpHold = s.ptpHold := rfl
@[simp] theorem State.advance_pair (s : State) (n : Nat) : (s.advance n).pair = s.pair := rfl
@[simp] theorem State.advance_ptp (s : State) (n : Nat) : (s.advance n).ptp = s.ptp := rfl
@[simp] theorem State.advance_bell (s : State) (n : Nat) : (s.advance n).bell = s.bell := rfl
@[simp] theorem State.advance_dma (s : State) (n : Nat) : (s.advance n).dma = s.dma := rfl
@[simp] theorem State.advance_host (s : State) (n : Nat) : (s.advance n).host = s.host := rfl
@[simp] theorem State.advance_halves (s : State) (n : Nat) : (s.advance n).halves = s.halves := rfl
@[simp] theorem State.advance_pkg (s : State) (n : Nat) : (s.advance n).pkg = s.pkg := rfl
@[simp] theorem State.advance_image (s : State) (n : Nat) : (s.advance n).image = s.image := rfl
@[simp] theorem State.advance_ident (s : State) (n : Nat) : (s.advance n).ident = s.ident := rfl
@[simp] theorem State.advance_start (s : State) (n : Nat) : (s.advance n).start = s.start := rfl
@[simp] theorem State.advance_health (s : State) (n : Nat) : (s.advance n).health = s.health := rfl
@[simp] theorem State.advance_pins (s : State) (n : Nat) : (s.advance n).pins = s.pins := rfl
@[simp] theorem State.advance_free (s : State) (n : Nat) : (s.advance n).free = s.free := rfl
@[simp] theorem State.advance_fld (s : State) (n : Nat) (g : Fld) : (s.advance n).fld g = s.fld g := rfl
@[simp] theorem State.advance_peek (s : State) (n : Nat) (k : Nat) : (s.advance n).peek k = s.peek k := rfl
@[simp] theorem State.advance_ring (s : State) (n : Nat) (k : Nat) : (s.advance n).ring k = s.ring k := rfl
@[simp] theorem State.advance_slot (s : State) (n : Nat) (k : Nat) : (s.advance n).slot k = s.slot k := rfl
@[simp] theorem State.advance_gout (s : State) (n : Nat) (k : Nat) : (s.advance n).gout k = s.gout k := rfl
@[simp] theorem State.advance_enc (s : State) (n : Nat) (k : Nat) : (s.advance n).enc k = s.enc k := rfl
@[simp] theorem State.advance_trig (s : State) (n : Nat) (k : Nat) : (s.advance n).trig k = s.trig k := rfl
@[simp] theorem State.advance_job (s : State) (n : Nat) (k : Nat) : (s.advance n).job k = s.job k := rfl
@[simp] theorem State.advance_core (s : State) (n : Nat) (k : Nat) : (s.advance n).core k = s.core k := rfl
@[simp] theorem State.advance_stream (s : State) (n : Nat) (k : Nat) : (s.advance n).stream k = s.stream k := rfl
@[simp] theorem State.advance_view (s : State) (n : Nat) (k : Nat) : (s.advance n).view k = s.view k := rfl
@[simp] theorem State.advance_raceSt (s : State) (n : Nat) (k : Nat) : (s.advance n).raceSt k = s.raceSt k := rfl
@[simp] theorem State.advance_tileOf (s : State) (n : Nat) (k : Nat) : (s.advance n).tileOf k = s.tileOf k := rfl
@[simp] theorem State.advance_lane (s : State) (n : Nat) (k : Nat) : (s.advance n).lane k = s.lane k := rfl

/-! ## setSlot -/

@[simp] theorem State.setSlot_pending (s : State) (i : Nat) (x : Slot) : (s.setSlot i x).pending = s.pending := rfl
@[simp] theorem State.setSlot_variant (s : State) (i : Nat) (x : Slot) : (s.setSlot i x).variant = s.variant := rfl
@[simp] theorem State.setSlot_phase (s : State) (i : Nat) (x : Slot) : (s.setSlot i x).phase = s.phase := rfl
@[simp] theorem State.setSlot_regs (s : State) (i : Nat) (x : Slot) : (s.setSlot i x).regs = s.regs := rfl
@[simp] theorem State.setSlot_mem (s : State) (i : Nat) (x : Slot) : (s.setSlot i x).mem = s.mem := rfl
@[simp] theorem State.setSlot_marks (s : State) (i : Nat) (x : Slot) : (s.setSlot i x).marks = s.marks := rfl
@[simp] theorem State.setSlot_rings (s : State) (i : Nat) (x : Slot) : (s.setSlot i x).rings = s.rings := rfl
@[simp] theorem State.setSlot_clk (s : State) (i : Nat) (x : Slot) : (s.setSlot i x).clk = s.clk := rfl
@[simp] theorem State.setSlot_ev (s : State) (i : Nat) (x : Slot) : (s.setSlot i x).ev = s.ev := rfl
@[simp] theorem State.setSlot_pos (s : State) (i : Nat) (x : Slot) : (s.setSlot i x).pos = s.pos := rfl
@[simp] theorem State.setSlot_shep (s : State) (i : Nat) (x : Slot) : (s.setSlot i x).shep = s.shep := rfl
@[simp] theorem State.setSlot_cores (s : State) (i : Nat) (x : Slot) : (s.setSlot i x).cores = s.cores := rfl
@[simp] theorem State.setSlot_lamb (s : State) (i : Nat) (x : Slot) : (s.setSlot i x).lamb = s.lamb := rfl
@[simp] theorem State.setSlot_drove (s : State) (i : Nat) (x : Slot) : (s.setSlot i x).drove = s.drove := rfl
@[simp] theorem State.setSlot_link (s : State) (i : Nat) (x : Slot) : (s.setSlot i x).link = s.link := rfl
@[simp] theorem State.setSlot_die (s : State) (i : Nat) (x : Slot) : (s.setSlot i x).die = s.die := rfl
@[simp] theorem State.setSlot_audit (s : State) (i : Nat) (x : Slot) : (s.setSlot i x).audit = s.audit := rfl
@[simp] theorem State.setSlot_lanes (s : State) (i : Nat) (x : Slot) : (s.setSlot i x).lanes = s.lanes := rfl
@[simp] theorem State.setSlot_streams (s : State) (i : Nat) (x : Slot) : (s.setSlot i x).streams = s.streams := rfl
@[simp] theorem State.setSlot_px (s : State) (i : Nat) (x : Slot) : (s.setSlot i x).px = s.px := rfl
@[simp] theorem State.setSlot_replay (s : State) (i : Nat) (x : Slot) : (s.setSlot i x).replay = s.replay := rfl
@[simp] theorem State.setSlot_ptpHold (s : State) (i : Nat) (x : Slot) : (s.setSlot i x).ptpHold = s.ptpHold := rfl
@[simp] theorem State.setSlot_pair (s : State) (i : Nat) (x : Slot) : (s.setSlot i x).pair = s.pair := rfl
@[simp] theorem State.setSlot_ptp (s : State) (i : Nat) (x : Slot) : (s.setSlot i x).ptp = s.ptp := rfl
@[simp] theorem State.setSlot_bell (s : State) (i : Nat) (x : Slot) : (s.setSlot i x).bell = s.bell := rfl
@[simp] theorem State.setSlot_dma (s : State) (i : Nat) (x : Slot) : (s.setSlot i x).dma = s.dma := rfl
@[simp] theorem State.setSlot_host (s : State) (i : Nat) (x : Slot) : (s.setSlot i x).host = s.host := rfl
@[simp] theorem State.setSlot_halves (s : State) (i : Nat) (x : Slot) : (s.setSlot i x).halves = s.halves := rfl
@[simp] theorem State.setSlot_pkg (s : State) (i : Nat) (x : Slot) : (s.setSlot i x).pkg = s.pkg := rfl
@[simp] theorem State.setSlot_image (s : State) (i : Nat) (x : Slot) : (s.setSlot i x).image = s.image := rfl
@[simp] theorem State.setSlot_ident (s : State) (i : Nat) (x : Slot) : (s.setSlot i x).ident = s.ident := rfl
@[simp] theorem State.setSlot_start (s : State) (i : Nat) (x : Slot) : (s.setSlot i x).start = s.start := rfl
@[simp] theorem State.setSlot_health (s : State) (i : Nat) (x : Slot) : (s.setSlot i x).health = s.health := rfl
@[simp] theorem State.setSlot_pins (s : State) (i : Nat) (x : Slot) : (s.setSlot i x).pins = s.pins := rfl
@[simp] theorem State.setSlot_free (s : State) (i : Nat) (x : Slot) : (s.setSlot i x).free = s.free := rfl
@[simp] theorem State.setSlot_fld (s : State) (i : Nat) (x : Slot) (g : Fld) : (s.setSlot i x).fld g = s.fld g := rfl
@[simp] theorem State.setSlot_peek (s : State) (i : Nat) (x : Slot) (k : Nat) : (s.setSlot i x).peek k = s.peek k := rfl
@[simp] theorem State.setSlot_ring (s : State) (i : Nat) (x : Slot) (k : Nat) : (s.setSlot i x).ring k = s.ring k := rfl
@[simp] theorem State.setSlot_gout (s : State) (i : Nat) (x : Slot) (k : Nat) : (s.setSlot i x).gout k = s.gout k := rfl
@[simp] theorem State.setSlot_enc (s : State) (i : Nat) (x : Slot) (k : Nat) : (s.setSlot i x).enc k = s.enc k := rfl
@[simp] theorem State.setSlot_trig (s : State) (i : Nat) (x : Slot) (k : Nat) : (s.setSlot i x).trig k = s.trig k := rfl
@[simp] theorem State.setSlot_job (s : State) (i : Nat) (x : Slot) (k : Nat) : (s.setSlot i x).job k = s.job k := rfl
@[simp] theorem State.setSlot_core (s : State) (i : Nat) (x : Slot) (k : Nat) : (s.setSlot i x).core k = s.core k := rfl
@[simp] theorem State.setSlot_stream (s : State) (i : Nat) (x : Slot) (k : Nat) : (s.setSlot i x).stream k = s.stream k := rfl
@[simp] theorem State.setSlot_view (s : State) (i : Nat) (x : Slot) (k : Nat) : (s.setSlot i x).view k = s.view k := rfl
@[simp] theorem State.setSlot_raceSt (s : State) (i : Nat) (x : Slot) (k : Nat) : (s.setSlot i x).raceSt k = s.raceSt k := rfl
@[simp] theorem State.setSlot_tileOf (s : State) (i : Nat) (x : Slot) (k : Nat) : (s.setSlot i x).tileOf k = s.tileOf k := rfl
@[simp] theorem State.setSlot_lane (s : State) (i : Nat) (x : Slot) (k : Nat) : (s.setSlot i x).lane k = s.lane k := rfl
@[simp] theorem State.setSlot_slot_self (s : State) (i : Nat) (x : Slot) : (s.setSlot i x).slot i = x := Tab.get_set_self ..
theorem State.setSlot_slot_other (s : State) (i : Nat) (x : Slot) (m : Nat) (h : m ≠ i) : (s.setSlot i x).slot m = s.slot m := Tab.get_set_other _ _ _ _ _ h

/-! ## setGout -/

@[simp] theorem State.setGout_pending (s : State) (o : Nat) (x : GateOut) : (s.setGout o x).pending = s.pending := rfl
@[simp] theorem State.setGout_variant (s : State) (o : Nat) (x : GateOut) : (s.setGout o x).variant = s.variant := rfl
@[simp] theorem State.setGout_phase (s : State) (o : Nat) (x : GateOut) : (s.setGout o x).phase = s.phase := rfl
@[simp] theorem State.setGout_regs (s : State) (o : Nat) (x : GateOut) : (s.setGout o x).regs = s.regs := rfl
@[simp] theorem State.setGout_mem (s : State) (o : Nat) (x : GateOut) : (s.setGout o x).mem = s.mem := rfl
@[simp] theorem State.setGout_marks (s : State) (o : Nat) (x : GateOut) : (s.setGout o x).marks = s.marks := rfl
@[simp] theorem State.setGout_rings (s : State) (o : Nat) (x : GateOut) : (s.setGout o x).rings = s.rings := rfl
@[simp] theorem State.setGout_clk (s : State) (o : Nat) (x : GateOut) : (s.setGout o x).clk = s.clk := rfl
@[simp] theorem State.setGout_ev (s : State) (o : Nat) (x : GateOut) : (s.setGout o x).ev = s.ev := rfl
@[simp] theorem State.setGout_pos (s : State) (o : Nat) (x : GateOut) : (s.setGout o x).pos = s.pos := rfl
@[simp] theorem State.setGout_shep (s : State) (o : Nat) (x : GateOut) : (s.setGout o x).shep = s.shep := rfl
@[simp] theorem State.setGout_cores (s : State) (o : Nat) (x : GateOut) : (s.setGout o x).cores = s.cores := rfl
@[simp] theorem State.setGout_lamb (s : State) (o : Nat) (x : GateOut) : (s.setGout o x).lamb = s.lamb := rfl
@[simp] theorem State.setGout_drove (s : State) (o : Nat) (x : GateOut) : (s.setGout o x).drove = s.drove := rfl
@[simp] theorem State.setGout_link (s : State) (o : Nat) (x : GateOut) : (s.setGout o x).link = s.link := rfl
@[simp] theorem State.setGout_die (s : State) (o : Nat) (x : GateOut) : (s.setGout o x).die = s.die := rfl
@[simp] theorem State.setGout_audit (s : State) (o : Nat) (x : GateOut) : (s.setGout o x).audit = s.audit := rfl
@[simp] theorem State.setGout_lanes (s : State) (o : Nat) (x : GateOut) : (s.setGout o x).lanes = s.lanes := rfl
@[simp] theorem State.setGout_streams (s : State) (o : Nat) (x : GateOut) : (s.setGout o x).streams = s.streams := rfl
@[simp] theorem State.setGout_px (s : State) (o : Nat) (x : GateOut) : (s.setGout o x).px = s.px := rfl
@[simp] theorem State.setGout_replay (s : State) (o : Nat) (x : GateOut) : (s.setGout o x).replay = s.replay := rfl
@[simp] theorem State.setGout_ptpHold (s : State) (o : Nat) (x : GateOut) : (s.setGout o x).ptpHold = s.ptpHold := rfl
@[simp] theorem State.setGout_pair (s : State) (o : Nat) (x : GateOut) : (s.setGout o x).pair = s.pair := rfl
@[simp] theorem State.setGout_ptp (s : State) (o : Nat) (x : GateOut) : (s.setGout o x).ptp = s.ptp := rfl
@[simp] theorem State.setGout_bell (s : State) (o : Nat) (x : GateOut) : (s.setGout o x).bell = s.bell := rfl
@[simp] theorem State.setGout_dma (s : State) (o : Nat) (x : GateOut) : (s.setGout o x).dma = s.dma := rfl
@[simp] theorem State.setGout_host (s : State) (o : Nat) (x : GateOut) : (s.setGout o x).host = s.host := rfl
@[simp] theorem State.setGout_halves (s : State) (o : Nat) (x : GateOut) : (s.setGout o x).halves = s.halves := rfl
@[simp] theorem State.setGout_pkg (s : State) (o : Nat) (x : GateOut) : (s.setGout o x).pkg = s.pkg := rfl
@[simp] theorem State.setGout_image (s : State) (o : Nat) (x : GateOut) : (s.setGout o x).image = s.image := rfl
@[simp] theorem State.setGout_ident (s : State) (o : Nat) (x : GateOut) : (s.setGout o x).ident = s.ident := rfl
@[simp] theorem State.setGout_start (s : State) (o : Nat) (x : GateOut) : (s.setGout o x).start = s.start := rfl
@[simp] theorem State.setGout_health (s : State) (o : Nat) (x : GateOut) : (s.setGout o x).health = s.health := rfl
@[simp] theorem State.setGout_pins (s : State) (o : Nat) (x : GateOut) : (s.setGout o x).pins = s.pins := rfl
@[simp] theorem State.setGout_free (s : State) (o : Nat) (x : GateOut) : (s.setGout o x).free = s.free := rfl
@[simp] theorem State.setGout_fld (s : State) (o : Nat) (x : GateOut) (g : Fld) : (s.setGout o x).fld g = s.fld g := rfl
@[simp] theorem State.setGout_peek (s : State) (o : Nat) (x : GateOut) (k : Nat) : (s.setGout o x).peek k = s.peek k := rfl
@[simp] theorem State.setGout_ring (s : State) (o : Nat) (x : GateOut) (k : Nat) : (s.setGout o x).ring k = s.ring k := rfl
@[simp] theorem State.setGout_slot (s : State) (o : Nat) (x : GateOut) (k : Nat) : (s.setGout o x).slot k = s.slot k := rfl
@[simp] theorem State.setGout_enc (s : State) (o : Nat) (x : GateOut) (k : Nat) : (s.setGout o x).enc k = s.enc k := rfl
@[simp] theorem State.setGout_trig (s : State) (o : Nat) (x : GateOut) (k : Nat) : (s.setGout o x).trig k = s.trig k := rfl
@[simp] theorem State.setGout_job (s : State) (o : Nat) (x : GateOut) (k : Nat) : (s.setGout o x).job k = s.job k := rfl
@[simp] theorem State.setGout_core (s : State) (o : Nat) (x : GateOut) (k : Nat) : (s.setGout o x).core k = s.core k := rfl
@[simp] theorem State.setGout_stream (s : State) (o : Nat) (x : GateOut) (k : Nat) : (s.setGout o x).stream k = s.stream k := rfl
@[simp] theorem State.setGout_view (s : State) (o : Nat) (x : GateOut) (k : Nat) : (s.setGout o x).view k = s.view k := rfl
@[simp] theorem State.setGout_raceSt (s : State) (o : Nat) (x : GateOut) (k : Nat) : (s.setGout o x).raceSt k = s.raceSt k := rfl
@[simp] theorem State.setGout_tileOf (s : State) (o : Nat) (x : GateOut) (k : Nat) : (s.setGout o x).tileOf k = s.tileOf k := rfl
@[simp] theorem State.setGout_lane (s : State) (o : Nat) (x : GateOut) (k : Nat) : (s.setGout o x).lane k = s.lane k := rfl
@[simp] theorem State.setGout_gout_self (s : State) (o : Nat) (x : GateOut) : (s.setGout o x).gout o = x := Tab.get_set_self ..
theorem State.setGout_gout_other (s : State) (o : Nat) (x : GateOut) (m : Nat) (h : m ≠ o) : (s.setGout o x).gout m = s.gout m := Tab.get_set_other _ _ _ _ _ h

/-! ## setEnc -/

@[simp] theorem State.setEnc_pending (s : State) (e : Nat) (x : Enc) : (s.setEnc e x).pending = s.pending := rfl
@[simp] theorem State.setEnc_variant (s : State) (e : Nat) (x : Enc) : (s.setEnc e x).variant = s.variant := rfl
@[simp] theorem State.setEnc_phase (s : State) (e : Nat) (x : Enc) : (s.setEnc e x).phase = s.phase := rfl
@[simp] theorem State.setEnc_regs (s : State) (e : Nat) (x : Enc) : (s.setEnc e x).regs = s.regs := rfl
@[simp] theorem State.setEnc_mem (s : State) (e : Nat) (x : Enc) : (s.setEnc e x).mem = s.mem := rfl
@[simp] theorem State.setEnc_marks (s : State) (e : Nat) (x : Enc) : (s.setEnc e x).marks = s.marks := rfl
@[simp] theorem State.setEnc_rings (s : State) (e : Nat) (x : Enc) : (s.setEnc e x).rings = s.rings := rfl
@[simp] theorem State.setEnc_clk (s : State) (e : Nat) (x : Enc) : (s.setEnc e x).clk = s.clk := rfl
@[simp] theorem State.setEnc_ev (s : State) (e : Nat) (x : Enc) : (s.setEnc e x).ev = s.ev := rfl
@[simp] theorem State.setEnc_fold (s : State) (e : Nat) (x : Enc) : (s.setEnc e x).fold = s.fold := rfl
@[simp] theorem State.setEnc_shep (s : State) (e : Nat) (x : Enc) : (s.setEnc e x).shep = s.shep := rfl
@[simp] theorem State.setEnc_cores (s : State) (e : Nat) (x : Enc) : (s.setEnc e x).cores = s.cores := rfl
@[simp] theorem State.setEnc_lamb (s : State) (e : Nat) (x : Enc) : (s.setEnc e x).lamb = s.lamb := rfl
@[simp] theorem State.setEnc_drove (s : State) (e : Nat) (x : Enc) : (s.setEnc e x).drove = s.drove := rfl
@[simp] theorem State.setEnc_link (s : State) (e : Nat) (x : Enc) : (s.setEnc e x).link = s.link := rfl
@[simp] theorem State.setEnc_die (s : State) (e : Nat) (x : Enc) : (s.setEnc e x).die = s.die := rfl
@[simp] theorem State.setEnc_audit (s : State) (e : Nat) (x : Enc) : (s.setEnc e x).audit = s.audit := rfl
@[simp] theorem State.setEnc_lanes (s : State) (e : Nat) (x : Enc) : (s.setEnc e x).lanes = s.lanes := rfl
@[simp] theorem State.setEnc_streams (s : State) (e : Nat) (x : Enc) : (s.setEnc e x).streams = s.streams := rfl
@[simp] theorem State.setEnc_px (s : State) (e : Nat) (x : Enc) : (s.setEnc e x).px = s.px := rfl
@[simp] theorem State.setEnc_replay (s : State) (e : Nat) (x : Enc) : (s.setEnc e x).replay = s.replay := rfl
@[simp] theorem State.setEnc_ptpHold (s : State) (e : Nat) (x : Enc) : (s.setEnc e x).ptpHold = s.ptpHold := rfl
@[simp] theorem State.setEnc_pair (s : State) (e : Nat) (x : Enc) : (s.setEnc e x).pair = s.pair := rfl
@[simp] theorem State.setEnc_ptp (s : State) (e : Nat) (x : Enc) : (s.setEnc e x).ptp = s.ptp := rfl
@[simp] theorem State.setEnc_bell (s : State) (e : Nat) (x : Enc) : (s.setEnc e x).bell = s.bell := rfl
@[simp] theorem State.setEnc_dma (s : State) (e : Nat) (x : Enc) : (s.setEnc e x).dma = s.dma := rfl
@[simp] theorem State.setEnc_host (s : State) (e : Nat) (x : Enc) : (s.setEnc e x).host = s.host := rfl
@[simp] theorem State.setEnc_halves (s : State) (e : Nat) (x : Enc) : (s.setEnc e x).halves = s.halves := rfl
@[simp] theorem State.setEnc_pkg (s : State) (e : Nat) (x : Enc) : (s.setEnc e x).pkg = s.pkg := rfl
@[simp] theorem State.setEnc_image (s : State) (e : Nat) (x : Enc) : (s.setEnc e x).image = s.image := rfl
@[simp] theorem State.setEnc_ident (s : State) (e : Nat) (x : Enc) : (s.setEnc e x).ident = s.ident := rfl
@[simp] theorem State.setEnc_start (s : State) (e : Nat) (x : Enc) : (s.setEnc e x).start = s.start := rfl
@[simp] theorem State.setEnc_health (s : State) (e : Nat) (x : Enc) : (s.setEnc e x).health = s.health := rfl
@[simp] theorem State.setEnc_pins (s : State) (e : Nat) (x : Enc) : (s.setEnc e x).pins = s.pins := rfl
@[simp] theorem State.setEnc_free (s : State) (e : Nat) (x : Enc) : (s.setEnc e x).free = s.free := rfl
@[simp] theorem State.setEnc_fld (s : State) (e : Nat) (x : Enc) (g : Fld) : (s.setEnc e x).fld g = s.fld g := rfl
@[simp] theorem State.setEnc_peek (s : State) (e : Nat) (x : Enc) (k : Nat) : (s.setEnc e x).peek k = s.peek k := rfl
@[simp] theorem State.setEnc_ring (s : State) (e : Nat) (x : Enc) (k : Nat) : (s.setEnc e x).ring k = s.ring k := rfl
@[simp] theorem State.setEnc_slot (s : State) (e : Nat) (x : Enc) (k : Nat) : (s.setEnc e x).slot k = s.slot k := rfl
@[simp] theorem State.setEnc_gout (s : State) (e : Nat) (x : Enc) (k : Nat) : (s.setEnc e x).gout k = s.gout k := rfl
@[simp] theorem State.setEnc_trig (s : State) (e : Nat) (x : Enc) (k : Nat) : (s.setEnc e x).trig k = s.trig k := rfl
@[simp] theorem State.setEnc_job (s : State) (e : Nat) (x : Enc) (k : Nat) : (s.setEnc e x).job k = s.job k := rfl
@[simp] theorem State.setEnc_core (s : State) (e : Nat) (x : Enc) (k : Nat) : (s.setEnc e x).core k = s.core k := rfl
@[simp] theorem State.setEnc_stream (s : State) (e : Nat) (x : Enc) (k : Nat) : (s.setEnc e x).stream k = s.stream k := rfl
@[simp] theorem State.setEnc_view (s : State) (e : Nat) (x : Enc) (k : Nat) : (s.setEnc e x).view k = s.view k := rfl
@[simp] theorem State.setEnc_raceSt (s : State) (e : Nat) (x : Enc) (k : Nat) : (s.setEnc e x).raceSt k = s.raceSt k := rfl
@[simp] theorem State.setEnc_tileOf (s : State) (e : Nat) (x : Enc) (k : Nat) : (s.setEnc e x).tileOf k = s.tileOf k := rfl
@[simp] theorem State.setEnc_lane (s : State) (e : Nat) (x : Enc) (k : Nat) : (s.setEnc e x).lane k = s.lane k := rfl
@[simp] theorem State.setEnc_enc_self (s : State) (e : Nat) (x : Enc) : (s.setEnc e x).enc e = x := Tab.get_set_self ..
theorem State.setEnc_enc_other (s : State) (e : Nat) (x : Enc) (m : Nat) (h : m ≠ e) : (s.setEnc e x).enc m = s.enc m := Tab.get_set_other _ _ _ _ _ h

/-! ## setTrig -/

@[simp] theorem State.setTrig_pending (s : State) (t : Nat) (x : Trig) : (s.setTrig t x).pending = s.pending := rfl
@[simp] theorem State.setTrig_variant (s : State) (t : Nat) (x : Trig) : (s.setTrig t x).variant = s.variant := rfl
@[simp] theorem State.setTrig_phase (s : State) (t : Nat) (x : Trig) : (s.setTrig t x).phase = s.phase := rfl
@[simp] theorem State.setTrig_regs (s : State) (t : Nat) (x : Trig) : (s.setTrig t x).regs = s.regs := rfl
@[simp] theorem State.setTrig_mem (s : State) (t : Nat) (x : Trig) : (s.setTrig t x).mem = s.mem := rfl
@[simp] theorem State.setTrig_marks (s : State) (t : Nat) (x : Trig) : (s.setTrig t x).marks = s.marks := rfl
@[simp] theorem State.setTrig_rings (s : State) (t : Nat) (x : Trig) : (s.setTrig t x).rings = s.rings := rfl
@[simp] theorem State.setTrig_clk (s : State) (t : Nat) (x : Trig) : (s.setTrig t x).clk = s.clk := rfl
@[simp] theorem State.setTrig_ev (s : State) (t : Nat) (x : Trig) : (s.setTrig t x).ev = s.ev := rfl
@[simp] theorem State.setTrig_fold (s : State) (t : Nat) (x : Trig) : (s.setTrig t x).fold = s.fold := rfl
@[simp] theorem State.setTrig_shep (s : State) (t : Nat) (x : Trig) : (s.setTrig t x).shep = s.shep := rfl
@[simp] theorem State.setTrig_cores (s : State) (t : Nat) (x : Trig) : (s.setTrig t x).cores = s.cores := rfl
@[simp] theorem State.setTrig_lamb (s : State) (t : Nat) (x : Trig) : (s.setTrig t x).lamb = s.lamb := rfl
@[simp] theorem State.setTrig_drove (s : State) (t : Nat) (x : Trig) : (s.setTrig t x).drove = s.drove := rfl
@[simp] theorem State.setTrig_link (s : State) (t : Nat) (x : Trig) : (s.setTrig t x).link = s.link := rfl
@[simp] theorem State.setTrig_die (s : State) (t : Nat) (x : Trig) : (s.setTrig t x).die = s.die := rfl
@[simp] theorem State.setTrig_audit (s : State) (t : Nat) (x : Trig) : (s.setTrig t x).audit = s.audit := rfl
@[simp] theorem State.setTrig_lanes (s : State) (t : Nat) (x : Trig) : (s.setTrig t x).lanes = s.lanes := rfl
@[simp] theorem State.setTrig_streams (s : State) (t : Nat) (x : Trig) : (s.setTrig t x).streams = s.streams := rfl
@[simp] theorem State.setTrig_px (s : State) (t : Nat) (x : Trig) : (s.setTrig t x).px = s.px := rfl
@[simp] theorem State.setTrig_replay (s : State) (t : Nat) (x : Trig) : (s.setTrig t x).replay = s.replay := rfl
@[simp] theorem State.setTrig_ptpHold (s : State) (t : Nat) (x : Trig) : (s.setTrig t x).ptpHold = s.ptpHold := rfl
@[simp] theorem State.setTrig_pair (s : State) (t : Nat) (x : Trig) : (s.setTrig t x).pair = s.pair := rfl
@[simp] theorem State.setTrig_ptp (s : State) (t : Nat) (x : Trig) : (s.setTrig t x).ptp = s.ptp := rfl
@[simp] theorem State.setTrig_bell (s : State) (t : Nat) (x : Trig) : (s.setTrig t x).bell = s.bell := rfl
@[simp] theorem State.setTrig_dma (s : State) (t : Nat) (x : Trig) : (s.setTrig t x).dma = s.dma := rfl
@[simp] theorem State.setTrig_host (s : State) (t : Nat) (x : Trig) : (s.setTrig t x).host = s.host := rfl
@[simp] theorem State.setTrig_halves (s : State) (t : Nat) (x : Trig) : (s.setTrig t x).halves = s.halves := rfl
@[simp] theorem State.setTrig_pkg (s : State) (t : Nat) (x : Trig) : (s.setTrig t x).pkg = s.pkg := rfl
@[simp] theorem State.setTrig_image (s : State) (t : Nat) (x : Trig) : (s.setTrig t x).image = s.image := rfl
@[simp] theorem State.setTrig_ident (s : State) (t : Nat) (x : Trig) : (s.setTrig t x).ident = s.ident := rfl
@[simp] theorem State.setTrig_start (s : State) (t : Nat) (x : Trig) : (s.setTrig t x).start = s.start := rfl
@[simp] theorem State.setTrig_health (s : State) (t : Nat) (x : Trig) : (s.setTrig t x).health = s.health := rfl
@[simp] theorem State.setTrig_pins (s : State) (t : Nat) (x : Trig) : (s.setTrig t x).pins = s.pins := rfl
@[simp] theorem State.setTrig_free (s : State) (t : Nat) (x : Trig) : (s.setTrig t x).free = s.free := rfl
@[simp] theorem State.setTrig_fld (s : State) (t : Nat) (x : Trig) (g : Fld) : (s.setTrig t x).fld g = s.fld g := rfl
@[simp] theorem State.setTrig_peek (s : State) (t : Nat) (x : Trig) (k : Nat) : (s.setTrig t x).peek k = s.peek k := rfl
@[simp] theorem State.setTrig_ring (s : State) (t : Nat) (x : Trig) (k : Nat) : (s.setTrig t x).ring k = s.ring k := rfl
@[simp] theorem State.setTrig_slot (s : State) (t : Nat) (x : Trig) (k : Nat) : (s.setTrig t x).slot k = s.slot k := rfl
@[simp] theorem State.setTrig_gout (s : State) (t : Nat) (x : Trig) (k : Nat) : (s.setTrig t x).gout k = s.gout k := rfl
@[simp] theorem State.setTrig_enc (s : State) (t : Nat) (x : Trig) (k : Nat) : (s.setTrig t x).enc k = s.enc k := rfl
@[simp] theorem State.setTrig_job (s : State) (t : Nat) (x : Trig) (k : Nat) : (s.setTrig t x).job k = s.job k := rfl
@[simp] theorem State.setTrig_core (s : State) (t : Nat) (x : Trig) (k : Nat) : (s.setTrig t x).core k = s.core k := rfl
@[simp] theorem State.setTrig_stream (s : State) (t : Nat) (x : Trig) (k : Nat) : (s.setTrig t x).stream k = s.stream k := rfl
@[simp] theorem State.setTrig_view (s : State) (t : Nat) (x : Trig) (k : Nat) : (s.setTrig t x).view k = s.view k := rfl
@[simp] theorem State.setTrig_raceSt (s : State) (t : Nat) (x : Trig) (k : Nat) : (s.setTrig t x).raceSt k = s.raceSt k := rfl
@[simp] theorem State.setTrig_tileOf (s : State) (t : Nat) (x : Trig) (k : Nat) : (s.setTrig t x).tileOf k = s.tileOf k := rfl
@[simp] theorem State.setTrig_lane (s : State) (t : Nat) (x : Trig) (k : Nat) : (s.setTrig t x).lane k = s.lane k := rfl
@[simp] theorem State.setTrig_trig_self (s : State) (t : Nat) (x : Trig) : (s.setTrig t x).trig t = x := Tab.get_set_self ..
theorem State.setTrig_trig_other (s : State) (t : Nat) (x : Trig) (m : Nat) (h : m ≠ t) : (s.setTrig t x).trig m = s.trig m := Tab.get_set_other _ _ _ _ _ h

/-! ## setJob -/

@[simp] theorem State.setJob_pending (s : State) (j : Nat) (x : Option Job) : (s.setJob j x).pending = s.pending := rfl
@[simp] theorem State.setJob_variant (s : State) (j : Nat) (x : Option Job) : (s.setJob j x).variant = s.variant := rfl
@[simp] theorem State.setJob_phase (s : State) (j : Nat) (x : Option Job) : (s.setJob j x).phase = s.phase := rfl
@[simp] theorem State.setJob_regs (s : State) (j : Nat) (x : Option Job) : (s.setJob j x).regs = s.regs := rfl
@[simp] theorem State.setJob_mem (s : State) (j : Nat) (x : Option Job) : (s.setJob j x).mem = s.mem := rfl
@[simp] theorem State.setJob_marks (s : State) (j : Nat) (x : Option Job) : (s.setJob j x).marks = s.marks := rfl
@[simp] theorem State.setJob_rings (s : State) (j : Nat) (x : Option Job) : (s.setJob j x).rings = s.rings := rfl
@[simp] theorem State.setJob_clk (s : State) (j : Nat) (x : Option Job) : (s.setJob j x).clk = s.clk := rfl
@[simp] theorem State.setJob_ev (s : State) (j : Nat) (x : Option Job) : (s.setJob j x).ev = s.ev := rfl
@[simp] theorem State.setJob_pos (s : State) (j : Nat) (x : Option Job) : (s.setJob j x).pos = s.pos := rfl
@[simp] theorem State.setJob_fold (s : State) (j : Nat) (x : Option Job) : (s.setJob j x).fold = s.fold := rfl
@[simp] theorem State.setJob_cores (s : State) (j : Nat) (x : Option Job) : (s.setJob j x).cores = s.cores := rfl
@[simp] theorem State.setJob_lamb (s : State) (j : Nat) (x : Option Job) : (s.setJob j x).lamb = s.lamb := rfl
@[simp] theorem State.setJob_drove (s : State) (j : Nat) (x : Option Job) : (s.setJob j x).drove = s.drove := rfl
@[simp] theorem State.setJob_link (s : State) (j : Nat) (x : Option Job) : (s.setJob j x).link = s.link := rfl
@[simp] theorem State.setJob_die (s : State) (j : Nat) (x : Option Job) : (s.setJob j x).die = s.die := rfl
@[simp] theorem State.setJob_audit (s : State) (j : Nat) (x : Option Job) : (s.setJob j x).audit = s.audit := rfl
@[simp] theorem State.setJob_lanes (s : State) (j : Nat) (x : Option Job) : (s.setJob j x).lanes = s.lanes := rfl
@[simp] theorem State.setJob_streams (s : State) (j : Nat) (x : Option Job) : (s.setJob j x).streams = s.streams := rfl
@[simp] theorem State.setJob_px (s : State) (j : Nat) (x : Option Job) : (s.setJob j x).px = s.px := rfl
@[simp] theorem State.setJob_replay (s : State) (j : Nat) (x : Option Job) : (s.setJob j x).replay = s.replay := rfl
@[simp] theorem State.setJob_ptpHold (s : State) (j : Nat) (x : Option Job) : (s.setJob j x).ptpHold = s.ptpHold := rfl
@[simp] theorem State.setJob_pair (s : State) (j : Nat) (x : Option Job) : (s.setJob j x).pair = s.pair := rfl
@[simp] theorem State.setJob_ptp (s : State) (j : Nat) (x : Option Job) : (s.setJob j x).ptp = s.ptp := rfl
@[simp] theorem State.setJob_bell (s : State) (j : Nat) (x : Option Job) : (s.setJob j x).bell = s.bell := rfl
@[simp] theorem State.setJob_dma (s : State) (j : Nat) (x : Option Job) : (s.setJob j x).dma = s.dma := rfl
@[simp] theorem State.setJob_host (s : State) (j : Nat) (x : Option Job) : (s.setJob j x).host = s.host := rfl
@[simp] theorem State.setJob_halves (s : State) (j : Nat) (x : Option Job) : (s.setJob j x).halves = s.halves := rfl
@[simp] theorem State.setJob_pkg (s : State) (j : Nat) (x : Option Job) : (s.setJob j x).pkg = s.pkg := rfl
@[simp] theorem State.setJob_image (s : State) (j : Nat) (x : Option Job) : (s.setJob j x).image = s.image := rfl
@[simp] theorem State.setJob_ident (s : State) (j : Nat) (x : Option Job) : (s.setJob j x).ident = s.ident := rfl
@[simp] theorem State.setJob_start (s : State) (j : Nat) (x : Option Job) : (s.setJob j x).start = s.start := rfl
@[simp] theorem State.setJob_health (s : State) (j : Nat) (x : Option Job) : (s.setJob j x).health = s.health := rfl
@[simp] theorem State.setJob_pins (s : State) (j : Nat) (x : Option Job) : (s.setJob j x).pins = s.pins := rfl
@[simp] theorem State.setJob_free (s : State) (j : Nat) (x : Option Job) : (s.setJob j x).free = s.free := rfl
@[simp] theorem State.setJob_fld (s : State) (j : Nat) (x : Option Job) (g : Fld) : (s.setJob j x).fld g = s.fld g := rfl
@[simp] theorem State.setJob_peek (s : State) (j : Nat) (x : Option Job) (k : Nat) : (s.setJob j x).peek k = s.peek k := rfl
@[simp] theorem State.setJob_ring (s : State) (j : Nat) (x : Option Job) (k : Nat) : (s.setJob j x).ring k = s.ring k := rfl
@[simp] theorem State.setJob_slot (s : State) (j : Nat) (x : Option Job) (k : Nat) : (s.setJob j x).slot k = s.slot k := rfl
@[simp] theorem State.setJob_gout (s : State) (j : Nat) (x : Option Job) (k : Nat) : (s.setJob j x).gout k = s.gout k := rfl
@[simp] theorem State.setJob_enc (s : State) (j : Nat) (x : Option Job) (k : Nat) : (s.setJob j x).enc k = s.enc k := rfl
@[simp] theorem State.setJob_trig (s : State) (j : Nat) (x : Option Job) (k : Nat) : (s.setJob j x).trig k = s.trig k := rfl
@[simp] theorem State.setJob_core (s : State) (j : Nat) (x : Option Job) (k : Nat) : (s.setJob j x).core k = s.core k := rfl
@[simp] theorem State.setJob_stream (s : State) (j : Nat) (x : Option Job) (k : Nat) : (s.setJob j x).stream k = s.stream k := rfl
@[simp] theorem State.setJob_view (s : State) (j : Nat) (x : Option Job) (k : Nat) : (s.setJob j x).view k = s.view k := rfl
@[simp] theorem State.setJob_raceSt (s : State) (j : Nat) (x : Option Job) (k : Nat) : (s.setJob j x).raceSt k = s.raceSt k := rfl
@[simp] theorem State.setJob_tileOf (s : State) (j : Nat) (x : Option Job) (k : Nat) : (s.setJob j x).tileOf k = s.tileOf k := rfl
@[simp] theorem State.setJob_lane (s : State) (j : Nat) (x : Option Job) (k : Nat) : (s.setJob j x).lane k = s.lane k := rfl
@[simp] theorem State.setJob_job_self (s : State) (j : Nat) (x : Option Job) : (s.setJob j x).job j = x := Tab.get_set_self ..
theorem State.setJob_job_other (s : State) (j : Nat) (x : Option Job) (m : Nat) (h : m ≠ j) : (s.setJob j x).job m = s.job m := Tab.get_set_other _ _ _ _ _ h

/-! ## setCore -/

@[simp] theorem State.setCore_pending (s : State) (k : Nat) (x : CoreSt) : (s.setCore k x).pending = s.pending := rfl
@[simp] theorem State.setCore_variant (s : State) (k : Nat) (x : CoreSt) : (s.setCore k x).variant = s.variant := rfl
@[simp] theorem State.setCore_phase (s : State) (k : Nat) (x : CoreSt) : (s.setCore k x).phase = s.phase := rfl
@[simp] theorem State.setCore_regs (s : State) (k : Nat) (x : CoreSt) : (s.setCore k x).regs = s.regs := rfl
@[simp] theorem State.setCore_mem (s : State) (k : Nat) (x : CoreSt) : (s.setCore k x).mem = s.mem := rfl
@[simp] theorem State.setCore_marks (s : State) (k : Nat) (x : CoreSt) : (s.setCore k x).marks = s.marks := rfl
@[simp] theorem State.setCore_rings (s : State) (k : Nat) (x : CoreSt) : (s.setCore k x).rings = s.rings := rfl
@[simp] theorem State.setCore_clk (s : State) (k : Nat) (x : CoreSt) : (s.setCore k x).clk = s.clk := rfl
@[simp] theorem State.setCore_ev (s : State) (k : Nat) (x : CoreSt) : (s.setCore k x).ev = s.ev := rfl
@[simp] theorem State.setCore_pos (s : State) (k : Nat) (x : CoreSt) : (s.setCore k x).pos = s.pos := rfl
@[simp] theorem State.setCore_fold (s : State) (k : Nat) (x : CoreSt) : (s.setCore k x).fold = s.fold := rfl
@[simp] theorem State.setCore_shep (s : State) (k : Nat) (x : CoreSt) : (s.setCore k x).shep = s.shep := rfl
@[simp] theorem State.setCore_lamb (s : State) (k : Nat) (x : CoreSt) : (s.setCore k x).lamb = s.lamb := rfl
@[simp] theorem State.setCore_drove (s : State) (k : Nat) (x : CoreSt) : (s.setCore k x).drove = s.drove := rfl
@[simp] theorem State.setCore_link (s : State) (k : Nat) (x : CoreSt) : (s.setCore k x).link = s.link := rfl
@[simp] theorem State.setCore_die (s : State) (k : Nat) (x : CoreSt) : (s.setCore k x).die = s.die := rfl
@[simp] theorem State.setCore_audit (s : State) (k : Nat) (x : CoreSt) : (s.setCore k x).audit = s.audit := rfl
@[simp] theorem State.setCore_lanes (s : State) (k : Nat) (x : CoreSt) : (s.setCore k x).lanes = s.lanes := rfl
@[simp] theorem State.setCore_streams (s : State) (k : Nat) (x : CoreSt) : (s.setCore k x).streams = s.streams := rfl
@[simp] theorem State.setCore_px (s : State) (k : Nat) (x : CoreSt) : (s.setCore k x).px = s.px := rfl
@[simp] theorem State.setCore_replay (s : State) (k : Nat) (x : CoreSt) : (s.setCore k x).replay = s.replay := rfl
@[simp] theorem State.setCore_ptpHold (s : State) (k : Nat) (x : CoreSt) : (s.setCore k x).ptpHold = s.ptpHold := rfl
@[simp] theorem State.setCore_pair (s : State) (k : Nat) (x : CoreSt) : (s.setCore k x).pair = s.pair := rfl
@[simp] theorem State.setCore_ptp (s : State) (k : Nat) (x : CoreSt) : (s.setCore k x).ptp = s.ptp := rfl
@[simp] theorem State.setCore_bell (s : State) (k : Nat) (x : CoreSt) : (s.setCore k x).bell = s.bell := rfl
@[simp] theorem State.setCore_dma (s : State) (k : Nat) (x : CoreSt) : (s.setCore k x).dma = s.dma := rfl
@[simp] theorem State.setCore_host (s : State) (k : Nat) (x : CoreSt) : (s.setCore k x).host = s.host := rfl
@[simp] theorem State.setCore_halves (s : State) (k : Nat) (x : CoreSt) : (s.setCore k x).halves = s.halves := rfl
@[simp] theorem State.setCore_pkg (s : State) (k : Nat) (x : CoreSt) : (s.setCore k x).pkg = s.pkg := rfl
@[simp] theorem State.setCore_image (s : State) (k : Nat) (x : CoreSt) : (s.setCore k x).image = s.image := rfl
@[simp] theorem State.setCore_ident (s : State) (k : Nat) (x : CoreSt) : (s.setCore k x).ident = s.ident := rfl
@[simp] theorem State.setCore_start (s : State) (k : Nat) (x : CoreSt) : (s.setCore k x).start = s.start := rfl
@[simp] theorem State.setCore_health (s : State) (k : Nat) (x : CoreSt) : (s.setCore k x).health = s.health := rfl
@[simp] theorem State.setCore_pins (s : State) (k : Nat) (x : CoreSt) : (s.setCore k x).pins = s.pins := rfl
@[simp] theorem State.setCore_free (s : State) (k : Nat) (x : CoreSt) : (s.setCore k x).free = s.free := rfl
@[simp] theorem State.setCore_fld (s : State) (k : Nat) (x : CoreSt) (g : Fld) : (s.setCore k x).fld g = s.fld g := rfl
@[simp] theorem State.setCore_peek (s : State) (k : Nat) (x : CoreSt) (k : Nat) : (s.setCore k x).peek k = s.peek k := rfl
@[simp] theorem State.setCore_ring (s : State) (k : Nat) (x : CoreSt) (k : Nat) : (s.setCore k x).ring k = s.ring k := rfl
@[simp] theorem State.setCore_slot (s : State) (k : Nat) (x : CoreSt) (k : Nat) : (s.setCore k x).slot k = s.slot k := rfl
@[simp] theorem State.setCore_gout (s : State) (k : Nat) (x : CoreSt) (k : Nat) : (s.setCore k x).gout k = s.gout k := rfl
@[simp] theorem State.setCore_enc (s : State) (k : Nat) (x : CoreSt) (k : Nat) : (s.setCore k x).enc k = s.enc k := rfl
@[simp] theorem State.setCore_trig (s : State) (k : Nat) (x : CoreSt) (k : Nat) : (s.setCore k x).trig k = s.trig k := rfl
@[simp] theorem State.setCore_job (s : State) (k : Nat) (x : CoreSt) (k : Nat) : (s.setCore k x).job k = s.job k := rfl
@[simp] theorem State.setCore_stream (s : State) (k : Nat) (x : CoreSt) (k : Nat) : (s.setCore k x).stream k = s.stream k := rfl
@[simp] theorem State.setCore_view (s : State) (k : Nat) (x : CoreSt) (k : Nat) : (s.setCore k x).view k = s.view k := rfl
@[simp] theorem State.setCore_raceSt (s : State) (k : Nat) (x : CoreSt) (k : Nat) : (s.setCore k x).raceSt k = s.raceSt k := rfl
@[simp] theorem State.setCore_tileOf (s : State) (k : Nat) (x : CoreSt) (k : Nat) : (s.setCore k x).tileOf k = s.tileOf k := rfl
@[simp] theorem State.setCore_lane (s : State) (k : Nat) (x : CoreSt) (k : Nat) : (s.setCore k x).lane k = s.lane k := rfl
@[simp] theorem State.setCore_core_self (s : State) (k : Nat) (x : CoreSt) : (s.setCore k x).core k = { x with busy := (s.core k).busyAt s.clk.enc, since := s.clk.enc } := Tab.get_set_self ..
theorem State.setCore_core_other (s : State) (k : Nat) (x : CoreSt) (m : Nat) (h : m ≠ k) : (s.setCore k x).core m = s.core m := Tab.get_set_other _ _ _ _ _ h

/-! ## setStream -/

@[simp] theorem State.setStream_pending (s : State) (n : Nat) (x : Stream) : (s.setStream n x).pending = s.pending := rfl
@[simp] theorem State.setStream_variant (s : State) (n : Nat) (x : Stream) : (s.setStream n x).variant = s.variant := rfl
@[simp] theorem State.setStream_phase (s : State) (n : Nat) (x : Stream) : (s.setStream n x).phase = s.phase := rfl
@[simp] theorem State.setStream_regs (s : State) (n : Nat) (x : Stream) : (s.setStream n x).regs = s.regs := rfl
@[simp] theorem State.setStream_mem (s : State) (n : Nat) (x : Stream) : (s.setStream n x).mem = s.mem := rfl
@[simp] theorem State.setStream_marks (s : State) (n : Nat) (x : Stream) : (s.setStream n x).marks = s.marks := rfl
@[simp] theorem State.setStream_rings (s : State) (n : Nat) (x : Stream) : (s.setStream n x).rings = s.rings := rfl
@[simp] theorem State.setStream_clk (s : State) (n : Nat) (x : Stream) : (s.setStream n x).clk = s.clk := rfl
@[simp] theorem State.setStream_ev (s : State) (n : Nat) (x : Stream) : (s.setStream n x).ev = s.ev := rfl
@[simp] theorem State.setStream_pos (s : State) (n : Nat) (x : Stream) : (s.setStream n x).pos = s.pos := rfl
@[simp] theorem State.setStream_fold (s : State) (n : Nat) (x : Stream) : (s.setStream n x).fold = s.fold := rfl
@[simp] theorem State.setStream_shep (s : State) (n : Nat) (x : Stream) : (s.setStream n x).shep = s.shep := rfl
@[simp] theorem State.setStream_cores (s : State) (n : Nat) (x : Stream) : (s.setStream n x).cores = s.cores := rfl
@[simp] theorem State.setStream_lamb (s : State) (n : Nat) (x : Stream) : (s.setStream n x).lamb = s.lamb := rfl
@[simp] theorem State.setStream_drove (s : State) (n : Nat) (x : Stream) : (s.setStream n x).drove = s.drove := rfl
@[simp] theorem State.setStream_link (s : State) (n : Nat) (x : Stream) : (s.setStream n x).link = s.link := rfl
@[simp] theorem State.setStream_die (s : State) (n : Nat) (x : Stream) : (s.setStream n x).die = s.die := rfl
@[simp] theorem State.setStream_audit (s : State) (n : Nat) (x : Stream) : (s.setStream n x).audit = s.audit := rfl
@[simp] theorem State.setStream_lanes (s : State) (n : Nat) (x : Stream) : (s.setStream n x).lanes = s.lanes := rfl
@[simp] theorem State.setStream_px (s : State) (n : Nat) (x : Stream) : (s.setStream n x).px = s.px := rfl
@[simp] theorem State.setStream_replay (s : State) (n : Nat) (x : Stream) : (s.setStream n x).replay = s.replay := rfl
@[simp] theorem State.setStream_ptpHold (s : State) (n : Nat) (x : Stream) : (s.setStream n x).ptpHold = s.ptpHold := rfl
@[simp] theorem State.setStream_pair (s : State) (n : Nat) (x : Stream) : (s.setStream n x).pair = s.pair := rfl
@[simp] theorem State.setStream_ptp (s : State) (n : Nat) (x : Stream) : (s.setStream n x).ptp = s.ptp := rfl
@[simp] theorem State.setStream_bell (s : State) (n : Nat) (x : Stream) : (s.setStream n x).bell = s.bell := rfl
@[simp] theorem State.setStream_dma (s : State) (n : Nat) (x : Stream) : (s.setStream n x).dma = s.dma := rfl
@[simp] theorem State.setStream_host (s : State) (n : Nat) (x : Stream) : (s.setStream n x).host = s.host := rfl
@[simp] theorem State.setStream_halves (s : State) (n : Nat) (x : Stream) : (s.setStream n x).halves = s.halves := rfl
@[simp] theorem State.setStream_pkg (s : State) (n : Nat) (x : Stream) : (s.setStream n x).pkg = s.pkg := rfl
@[simp] theorem State.setStream_image (s : State) (n : Nat) (x : Stream) : (s.setStream n x).image = s.image := rfl
@[simp] theorem State.setStream_ident (s : State) (n : Nat) (x : Stream) : (s.setStream n x).ident = s.ident := rfl
@[simp] theorem State.setStream_start (s : State) (n : Nat) (x : Stream) : (s.setStream n x).start = s.start := rfl
@[simp] theorem State.setStream_health (s : State) (n : Nat) (x : Stream) : (s.setStream n x).health = s.health := rfl
@[simp] theorem State.setStream_pins (s : State) (n : Nat) (x : Stream) : (s.setStream n x).pins = s.pins := rfl
@[simp] theorem State.setStream_free (s : State) (n : Nat) (x : Stream) : (s.setStream n x).free = s.free := rfl
@[simp] theorem State.setStream_fld (s : State) (n : Nat) (x : Stream) (g : Fld) : (s.setStream n x).fld g = s.fld g := rfl
@[simp] theorem State.setStream_peek (s : State) (n : Nat) (x : Stream) (k : Nat) : (s.setStream n x).peek k = s.peek k := rfl
@[simp] theorem State.setStream_ring (s : State) (n : Nat) (x : Stream) (k : Nat) : (s.setStream n x).ring k = s.ring k := rfl
@[simp] theorem State.setStream_slot (s : State) (n : Nat) (x : Stream) (k : Nat) : (s.setStream n x).slot k = s.slot k := rfl
@[simp] theorem State.setStream_gout (s : State) (n : Nat) (x : Stream) (k : Nat) : (s.setStream n x).gout k = s.gout k := rfl
@[simp] theorem State.setStream_enc (s : State) (n : Nat) (x : Stream) (k : Nat) : (s.setStream n x).enc k = s.enc k := rfl
@[simp] theorem State.setStream_trig (s : State) (n : Nat) (x : Stream) (k : Nat) : (s.setStream n x).trig k = s.trig k := rfl
@[simp] theorem State.setStream_job (s : State) (n : Nat) (x : Stream) (k : Nat) : (s.setStream n x).job k = s.job k := rfl
@[simp] theorem State.setStream_core (s : State) (n : Nat) (x : Stream) (k : Nat) : (s.setStream n x).core k = s.core k := rfl
@[simp] theorem State.setStream_view (s : State) (n : Nat) (x : Stream) (k : Nat) : (s.setStream n x).view k = s.view k := rfl
@[simp] theorem State.setStream_raceSt (s : State) (n : Nat) (x : Stream) (k : Nat) : (s.setStream n x).raceSt k = s.raceSt k := rfl
@[simp] theorem State.setStream_tileOf (s : State) (n : Nat) (x : Stream) (k : Nat) : (s.setStream n x).tileOf k = s.tileOf k := rfl
@[simp] theorem State.setStream_lane (s : State) (n : Nat) (x : Stream) (k : Nat) : (s.setStream n x).lane k = s.lane k := rfl
@[simp] theorem State.setStream_stream_self (s : State) (n : Nat) (x : Stream) : (s.setStream n x).stream n = x := Tab.get_set_self ..
theorem State.setStream_stream_other (s : State) (n : Nat) (x : Stream) (m : Nat) (h : m ≠ n) : (s.setStream n x).stream m = s.stream m := Tab.get_set_other _ _ _ _ _ h

/-! ## setView -/

@[simp] theorem State.setView_pending (s : State) (v : Nat) (x : View) : (s.setView v x).pending = s.pending := rfl
@[simp] theorem State.setView_variant (s : State) (v : Nat) (x : View) : (s.setView v x).variant = s.variant := rfl
@[simp] theorem State.setView_phase (s : State) (v : Nat) (x : View) : (s.setView v x).phase = s.phase := rfl
@[simp] theorem State.setView_regs (s : State) (v : Nat) (x : View) : (s.setView v x).regs = s.regs := rfl
@[simp] theorem State.setView_mem (s : State) (v : Nat) (x : View) : (s.setView v x).mem = s.mem := rfl
@[simp] theorem State.setView_marks (s : State) (v : Nat) (x : View) : (s.setView v x).marks = s.marks := rfl
@[simp] theorem State.setView_rings (s : State) (v : Nat) (x : View) : (s.setView v x).rings = s.rings := rfl
@[simp] theorem State.setView_clk (s : State) (v : Nat) (x : View) : (s.setView v x).clk = s.clk := rfl
@[simp] theorem State.setView_ev (s : State) (v : Nat) (x : View) : (s.setView v x).ev = s.ev := rfl
@[simp] theorem State.setView_pos (s : State) (v : Nat) (x : View) : (s.setView v x).pos = s.pos := rfl
@[simp] theorem State.setView_fold (s : State) (v : Nat) (x : View) : (s.setView v x).fold = s.fold := rfl
@[simp] theorem State.setView_shep (s : State) (v : Nat) (x : View) : (s.setView v x).shep = s.shep := rfl
@[simp] theorem State.setView_cores (s : State) (v : Nat) (x : View) : (s.setView v x).cores = s.cores := rfl
@[simp] theorem State.setView_lamb (s : State) (v : Nat) (x : View) : (s.setView v x).lamb = s.lamb := rfl
@[simp] theorem State.setView_drove (s : State) (v : Nat) (x : View) : (s.setView v x).drove = s.drove := rfl
@[simp] theorem State.setView_link (s : State) (v : Nat) (x : View) : (s.setView v x).link = s.link := rfl
@[simp] theorem State.setView_die (s : State) (v : Nat) (x : View) : (s.setView v x).die = s.die := rfl
@[simp] theorem State.setView_audit (s : State) (v : Nat) (x : View) : (s.setView v x).audit = s.audit := rfl
@[simp] theorem State.setView_lanes (s : State) (v : Nat) (x : View) : (s.setView v x).lanes = s.lanes := rfl
@[simp] theorem State.setView_streams (s : State) (v : Nat) (x : View) : (s.setView v x).streams = s.streams := rfl
@[simp] theorem State.setView_replay (s : State) (v : Nat) (x : View) : (s.setView v x).replay = s.replay := rfl
@[simp] theorem State.setView_ptpHold (s : State) (v : Nat) (x : View) : (s.setView v x).ptpHold = s.ptpHold := rfl
@[simp] theorem State.setView_pair (s : State) (v : Nat) (x : View) : (s.setView v x).pair = s.pair := rfl
@[simp] theorem State.setView_ptp (s : State) (v : Nat) (x : View) : (s.setView v x).ptp = s.ptp := rfl
@[simp] theorem State.setView_bell (s : State) (v : Nat) (x : View) : (s.setView v x).bell = s.bell := rfl
@[simp] theorem State.setView_dma (s : State) (v : Nat) (x : View) : (s.setView v x).dma = s.dma := rfl
@[simp] theorem State.setView_host (s : State) (v : Nat) (x : View) : (s.setView v x).host = s.host := rfl
@[simp] theorem State.setView_halves (s : State) (v : Nat) (x : View) : (s.setView v x).halves = s.halves := rfl
@[simp] theorem State.setView_pkg (s : State) (v : Nat) (x : View) : (s.setView v x).pkg = s.pkg := rfl
@[simp] theorem State.setView_image (s : State) (v : Nat) (x : View) : (s.setView v x).image = s.image := rfl
@[simp] theorem State.setView_ident (s : State) (v : Nat) (x : View) : (s.setView v x).ident = s.ident := rfl
@[simp] theorem State.setView_start (s : State) (v : Nat) (x : View) : (s.setView v x).start = s.start := rfl
@[simp] theorem State.setView_health (s : State) (v : Nat) (x : View) : (s.setView v x).health = s.health := rfl
@[simp] theorem State.setView_pins (s : State) (v : Nat) (x : View) : (s.setView v x).pins = s.pins := rfl
@[simp] theorem State.setView_free (s : State) (v : Nat) (x : View) : (s.setView v x).free = s.free := rfl
@[simp] theorem State.setView_fld (s : State) (v : Nat) (x : View) (g : Fld) : (s.setView v x).fld g = s.fld g := rfl
@[simp] theorem State.setView_peek (s : State) (v : Nat) (x : View) (k : Nat) : (s.setView v x).peek k = s.peek k := rfl
@[simp] theorem State.setView_ring (s : State) (v : Nat) (x : View) (k : Nat) : (s.setView v x).ring k = s.ring k := rfl
@[simp] theorem State.setView_slot (s : State) (v : Nat) (x : View) (k : Nat) : (s.setView v x).slot k = s.slot k := rfl
@[simp] theorem State.setView_gout (s : State) (v : Nat) (x : View) (k : Nat) : (s.setView v x).gout k = s.gout k := rfl
@[simp] theorem State.setView_enc (s : State) (v : Nat) (x : View) (k : Nat) : (s.setView v x).enc k = s.enc k := rfl
@[simp] theorem State.setView_trig (s : State) (v : Nat) (x : View) (k : Nat) : (s.setView v x).trig k = s.trig k := rfl
@[simp] theorem State.setView_job (s : State) (v : Nat) (x : View) (k : Nat) : (s.setView v x).job k = s.job k := rfl
@[simp] theorem State.setView_core (s : State) (v : Nat) (x : View) (k : Nat) : (s.setView v x).core k = s.core k := rfl
@[simp] theorem State.setView_stream (s : State) (v : Nat) (x : View) (k : Nat) : (s.setView v x).stream k = s.stream k := rfl
@[simp] theorem State.setView_raceSt (s : State) (v : Nat) (x : View) (k : Nat) : (s.setView v x).raceSt k = s.raceSt k := rfl
@[simp] theorem State.setView_tileOf (s : State) (v : Nat) (x : View) (k : Nat) : (s.setView v x).tileOf k = s.tileOf k := rfl
@[simp] theorem State.setView_lane (s : State) (v : Nat) (x : View) (k : Nat) : (s.setView v x).lane k = s.lane k := rfl
@[simp] theorem State.setView_view_self (s : State) (v : Nat) (x : View) : (s.setView v x).view v = x := Tab.get_set_self ..
theorem State.setView_view_other (s : State) (v : Nat) (x : View) (m : Nat) (h : m ≠ v) : (s.setView v x).view m = s.view m := Tab.get_set_other _ _ _ _ _ h

/-! ## setRace -/

@[simp] theorem State.setRace_pending (s : State) (r : Nat) (x : RaceSt) : (s.setRace r x).pending = s.pending := rfl
@[simp] theorem State.setRace_variant (s : State) (r : Nat) (x : RaceSt) : (s.setRace r x).variant = s.variant := rfl
@[simp] theorem State.setRace_phase (s : State) (r : Nat) (x : RaceSt) : (s.setRace r x).phase = s.phase := rfl
@[simp] theorem State.setRace_regs (s : State) (r : Nat) (x : RaceSt) : (s.setRace r x).regs = s.regs := rfl
@[simp] theorem State.setRace_mem (s : State) (r : Nat) (x : RaceSt) : (s.setRace r x).mem = s.mem := rfl
@[simp] theorem State.setRace_marks (s : State) (r : Nat) (x : RaceSt) : (s.setRace r x).marks = s.marks := rfl
@[simp] theorem State.setRace_rings (s : State) (r : Nat) (x : RaceSt) : (s.setRace r x).rings = s.rings := rfl
@[simp] theorem State.setRace_clk (s : State) (r : Nat) (x : RaceSt) : (s.setRace r x).clk = s.clk := rfl
@[simp] theorem State.setRace_ev (s : State) (r : Nat) (x : RaceSt) : (s.setRace r x).ev = s.ev := rfl
@[simp] theorem State.setRace_pos (s : State) (r : Nat) (x : RaceSt) : (s.setRace r x).pos = s.pos := rfl
@[simp] theorem State.setRace_fold (s : State) (r : Nat) (x : RaceSt) : (s.setRace r x).fold = s.fold := rfl
@[simp] theorem State.setRace_shep (s : State) (r : Nat) (x : RaceSt) : (s.setRace r x).shep = s.shep := rfl
@[simp] theorem State.setRace_cores (s : State) (r : Nat) (x : RaceSt) : (s.setRace r x).cores = s.cores := rfl
@[simp] theorem State.setRace_lamb (s : State) (r : Nat) (x : RaceSt) : (s.setRace r x).lamb = s.lamb := rfl
@[simp] theorem State.setRace_drove (s : State) (r : Nat) (x : RaceSt) : (s.setRace r x).drove = s.drove := rfl
@[simp] theorem State.setRace_link (s : State) (r : Nat) (x : RaceSt) : (s.setRace r x).link = s.link := rfl
@[simp] theorem State.setRace_die (s : State) (r : Nat) (x : RaceSt) : (s.setRace r x).die = s.die := rfl
@[simp] theorem State.setRace_audit (s : State) (r : Nat) (x : RaceSt) : (s.setRace r x).audit = s.audit := rfl
@[simp] theorem State.setRace_lanes (s : State) (r : Nat) (x : RaceSt) : (s.setRace r x).lanes = s.lanes := rfl
@[simp] theorem State.setRace_streams (s : State) (r : Nat) (x : RaceSt) : (s.setRace r x).streams = s.streams := rfl
@[simp] theorem State.setRace_replay (s : State) (r : Nat) (x : RaceSt) : (s.setRace r x).replay = s.replay := rfl
@[simp] theorem State.setRace_ptpHold (s : State) (r : Nat) (x : RaceSt) : (s.setRace r x).ptpHold = s.ptpHold := rfl
@[simp] theorem State.setRace_pair (s : State) (r : Nat) (x : RaceSt) : (s.setRace r x).pair = s.pair := rfl
@[simp] theorem State.setRace_ptp (s : State) (r : Nat) (x : RaceSt) : (s.setRace r x).ptp = s.ptp := rfl
@[simp] theorem State.setRace_bell (s : State) (r : Nat) (x : RaceSt) : (s.setRace r x).bell = s.bell := rfl
@[simp] theorem State.setRace_dma (s : State) (r : Nat) (x : RaceSt) : (s.setRace r x).dma = s.dma := rfl
@[simp] theorem State.setRace_host (s : State) (r : Nat) (x : RaceSt) : (s.setRace r x).host = s.host := rfl
@[simp] theorem State.setRace_halves (s : State) (r : Nat) (x : RaceSt) : (s.setRace r x).halves = s.halves := rfl
@[simp] theorem State.setRace_pkg (s : State) (r : Nat) (x : RaceSt) : (s.setRace r x).pkg = s.pkg := rfl
@[simp] theorem State.setRace_image (s : State) (r : Nat) (x : RaceSt) : (s.setRace r x).image = s.image := rfl
@[simp] theorem State.setRace_ident (s : State) (r : Nat) (x : RaceSt) : (s.setRace r x).ident = s.ident := rfl
@[simp] theorem State.setRace_start (s : State) (r : Nat) (x : RaceSt) : (s.setRace r x).start = s.start := rfl
@[simp] theorem State.setRace_health (s : State) (r : Nat) (x : RaceSt) : (s.setRace r x).health = s.health := rfl
@[simp] theorem State.setRace_pins (s : State) (r : Nat) (x : RaceSt) : (s.setRace r x).pins = s.pins := rfl
@[simp] theorem State.setRace_free (s : State) (r : Nat) (x : RaceSt) : (s.setRace r x).free = s.free := rfl
@[simp] theorem State.setRace_fld (s : State) (r : Nat) (x : RaceSt) (g : Fld) : (s.setRace r x).fld g = s.fld g := rfl
@[simp] theorem State.setRace_peek (s : State) (r : Nat) (x : RaceSt) (k : Nat) : (s.setRace r x).peek k = s.peek k := rfl
@[simp] theorem State.setRace_ring (s : State) (r : Nat) (x : RaceSt) (k : Nat) : (s.setRace r x).ring k = s.ring k := rfl
@[simp] theorem State.setRace_slot (s : State) (r : Nat) (x : RaceSt) (k : Nat) : (s.setRace r x).slot k = s.slot k := rfl
@[simp] theorem State.setRace_gout (s : State) (r : Nat) (x : RaceSt) (k : Nat) : (s.setRace r x).gout k = s.gout k := rfl
@[simp] theorem State.setRace_enc (s : State) (r : Nat) (x : RaceSt) (k : Nat) : (s.setRace r x).enc k = s.enc k := rfl
@[simp] theorem State.setRace_trig (s : State) (r : Nat) (x : RaceSt) (k : Nat) : (s.setRace r x).trig k = s.trig k := rfl
@[simp] theorem State.setRace_job (s : State) (r : Nat) (x : RaceSt) (k : Nat) : (s.setRace r x).job k = s.job k := rfl
@[simp] theorem State.setRace_core (s : State) (r : Nat) (x : RaceSt) (k : Nat) : (s.setRace r x).core k = s.core k := rfl
@[simp] theorem State.setRace_stream (s : State) (r : Nat) (x : RaceSt) (k : Nat) : (s.setRace r x).stream k = s.stream k := rfl
@[simp] theorem State.setRace_view (s : State) (r : Nat) (x : RaceSt) (k : Nat) : (s.setRace r x).view k = s.view k := rfl
@[simp] theorem State.setRace_tileOf (s : State) (r : Nat) (x : RaceSt) (k : Nat) : (s.setRace r x).tileOf k = s.tileOf k := rfl
@[simp] theorem State.setRace_lane (s : State) (r : Nat) (x : RaceSt) (k : Nat) : (s.setRace r x).lane k = s.lane k := rfl
@[simp] theorem State.setRace_raceSt_self (s : State) (r : Nat) (x : RaceSt) : (s.setRace r x).raceSt r = x := Tab.get_set_self ..
theorem State.setRace_raceSt_other (s : State) (r : Nat) (x : RaceSt) (m : Nat) (h : m ≠ r) : (s.setRace r x).raceSt m = s.raceSt m := Tab.get_set_other _ _ _ _ _ h

/-! ## setTile -/

@[simp] theorem State.setTile_pending (s : State) (i : Nat) (x : Option Tile) : (s.setTile i x).pending = s.pending := rfl
@[simp] theorem State.setTile_variant (s : State) (i : Nat) (x : Option Tile) : (s.setTile i x).variant = s.variant := rfl
@[simp] theorem State.setTile_phase (s : State) (i : Nat) (x : Option Tile) : (s.setTile i x).phase = s.phase := rfl
@[simp] theorem State.setTile_regs (s : State) (i : Nat) (x : Option Tile) : (s.setTile i x).regs = s.regs := rfl
@[simp] theorem State.setTile_mem (s : State) (i : Nat) (x : Option Tile) : (s.setTile i x).mem = s.mem := rfl
@[simp] theorem State.setTile_marks (s : State) (i : Nat) (x : Option Tile) : (s.setTile i x).marks = s.marks := rfl
@[simp] theorem State.setTile_rings (s : State) (i : Nat) (x : Option Tile) : (s.setTile i x).rings = s.rings := rfl
@[simp] theorem State.setTile_clk (s : State) (i : Nat) (x : Option Tile) : (s.setTile i x).clk = s.clk := rfl
@[simp] theorem State.setTile_ev (s : State) (i : Nat) (x : Option Tile) : (s.setTile i x).ev = s.ev := rfl
@[simp] theorem State.setTile_pos (s : State) (i : Nat) (x : Option Tile) : (s.setTile i x).pos = s.pos := rfl
@[simp] theorem State.setTile_fold (s : State) (i : Nat) (x : Option Tile) : (s.setTile i x).fold = s.fold := rfl
@[simp] theorem State.setTile_shep (s : State) (i : Nat) (x : Option Tile) : (s.setTile i x).shep = s.shep := rfl
@[simp] theorem State.setTile_cores (s : State) (i : Nat) (x : Option Tile) : (s.setTile i x).cores = s.cores := rfl
@[simp] theorem State.setTile_lamb (s : State) (i : Nat) (x : Option Tile) : (s.setTile i x).lamb = s.lamb := rfl
@[simp] theorem State.setTile_drove (s : State) (i : Nat) (x : Option Tile) : (s.setTile i x).drove = s.drove := rfl
@[simp] theorem State.setTile_link (s : State) (i : Nat) (x : Option Tile) : (s.setTile i x).link = s.link := rfl
@[simp] theorem State.setTile_die (s : State) (i : Nat) (x : Option Tile) : (s.setTile i x).die = s.die := rfl
@[simp] theorem State.setTile_audit (s : State) (i : Nat) (x : Option Tile) : (s.setTile i x).audit = s.audit := rfl
@[simp] theorem State.setTile_lanes (s : State) (i : Nat) (x : Option Tile) : (s.setTile i x).lanes = s.lanes := rfl
@[simp] theorem State.setTile_streams (s : State) (i : Nat) (x : Option Tile) : (s.setTile i x).streams = s.streams := rfl
@[simp] theorem State.setTile_replay (s : State) (i : Nat) (x : Option Tile) : (s.setTile i x).replay = s.replay := rfl
@[simp] theorem State.setTile_ptpHold (s : State) (i : Nat) (x : Option Tile) : (s.setTile i x).ptpHold = s.ptpHold := rfl
@[simp] theorem State.setTile_pair (s : State) (i : Nat) (x : Option Tile) : (s.setTile i x).pair = s.pair := rfl
@[simp] theorem State.setTile_ptp (s : State) (i : Nat) (x : Option Tile) : (s.setTile i x).ptp = s.ptp := rfl
@[simp] theorem State.setTile_bell (s : State) (i : Nat) (x : Option Tile) : (s.setTile i x).bell = s.bell := rfl
@[simp] theorem State.setTile_dma (s : State) (i : Nat) (x : Option Tile) : (s.setTile i x).dma = s.dma := rfl
@[simp] theorem State.setTile_host (s : State) (i : Nat) (x : Option Tile) : (s.setTile i x).host = s.host := rfl
@[simp] theorem State.setTile_halves (s : State) (i : Nat) (x : Option Tile) : (s.setTile i x).halves = s.halves := rfl
@[simp] theorem State.setTile_pkg (s : State) (i : Nat) (x : Option Tile) : (s.setTile i x).pkg = s.pkg := rfl
@[simp] theorem State.setTile_image (s : State) (i : Nat) (x : Option Tile) : (s.setTile i x).image = s.image := rfl
@[simp] theorem State.setTile_ident (s : State) (i : Nat) (x : Option Tile) : (s.setTile i x).ident = s.ident := rfl
@[simp] theorem State.setTile_start (s : State) (i : Nat) (x : Option Tile) : (s.setTile i x).start = s.start := rfl
@[simp] theorem State.setTile_health (s : State) (i : Nat) (x : Option Tile) : (s.setTile i x).health = s.health := rfl
@[simp] theorem State.setTile_pins (s : State) (i : Nat) (x : Option Tile) : (s.setTile i x).pins = s.pins := rfl
@[simp] theorem State.setTile_free (s : State) (i : Nat) (x : Option Tile) : (s.setTile i x).free = s.free := rfl
@[simp] theorem State.setTile_fld (s : State) (i : Nat) (x : Option Tile) (g : Fld) : (s.setTile i x).fld g = s.fld g := rfl
@[simp] theorem State.setTile_peek (s : State) (i : Nat) (x : Option Tile) (k : Nat) : (s.setTile i x).peek k = s.peek k := rfl
@[simp] theorem State.setTile_ring (s : State) (i : Nat) (x : Option Tile) (k : Nat) : (s.setTile i x).ring k = s.ring k := rfl
@[simp] theorem State.setTile_slot (s : State) (i : Nat) (x : Option Tile) (k : Nat) : (s.setTile i x).slot k = s.slot k := rfl
@[simp] theorem State.setTile_gout (s : State) (i : Nat) (x : Option Tile) (k : Nat) : (s.setTile i x).gout k = s.gout k := rfl
@[simp] theorem State.setTile_enc (s : State) (i : Nat) (x : Option Tile) (k : Nat) : (s.setTile i x).enc k = s.enc k := rfl
@[simp] theorem State.setTile_trig (s : State) (i : Nat) (x : Option Tile) (k : Nat) : (s.setTile i x).trig k = s.trig k := rfl
@[simp] theorem State.setTile_job (s : State) (i : Nat) (x : Option Tile) (k : Nat) : (s.setTile i x).job k = s.job k := rfl
@[simp] theorem State.setTile_core (s : State) (i : Nat) (x : Option Tile) (k : Nat) : (s.setTile i x).core k = s.core k := rfl
@[simp] theorem State.setTile_stream (s : State) (i : Nat) (x : Option Tile) (k : Nat) : (s.setTile i x).stream k = s.stream k := rfl
@[simp] theorem State.setTile_view (s : State) (i : Nat) (x : Option Tile) (k : Nat) : (s.setTile i x).view k = s.view k := rfl
@[simp] theorem State.setTile_raceSt (s : State) (i : Nat) (x : Option Tile) (k : Nat) : (s.setTile i x).raceSt k = s.raceSt k := rfl
@[simp] theorem State.setTile_lane (s : State) (i : Nat) (x : Option Tile) (k : Nat) : (s.setTile i x).lane k = s.lane k := rfl
@[simp] theorem State.setTile_tileOf_self (s : State) (i : Nat) (x : Option Tile) : (s.setTile i x).tileOf i = x := Tab.get_set_self ..
theorem State.setTile_tileOf_other (s : State) (i : Nat) (x : Option Tile) (m : Nat) (h : m ≠ i) : (s.setTile i x).tileOf m = s.tileOf m := Tab.get_set_other _ _ _ _ _ h

/-! ## setLane -/

@[simp] theorem State.setLane_pending (s : State) (l : Nat) (x : Lane) : (s.setLane l x).pending = s.pending := rfl
@[simp] theorem State.setLane_variant (s : State) (l : Nat) (x : Lane) : (s.setLane l x).variant = s.variant := rfl
@[simp] theorem State.setLane_phase (s : State) (l : Nat) (x : Lane) : (s.setLane l x).phase = s.phase := rfl
@[simp] theorem State.setLane_regs (s : State) (l : Nat) (x : Lane) : (s.setLane l x).regs = s.regs := rfl
@[simp] theorem State.setLane_mem (s : State) (l : Nat) (x : Lane) : (s.setLane l x).mem = s.mem := rfl
@[simp] theorem State.setLane_marks (s : State) (l : Nat) (x : Lane) : (s.setLane l x).marks = s.marks := rfl
@[simp] theorem State.setLane_rings (s : State) (l : Nat) (x : Lane) : (s.setLane l x).rings = s.rings := rfl
@[simp] theorem State.setLane_clk (s : State) (l : Nat) (x : Lane) : (s.setLane l x).clk = s.clk := rfl
@[simp] theorem State.setLane_ev (s : State) (l : Nat) (x : Lane) : (s.setLane l x).ev = s.ev := rfl
@[simp] theorem State.setLane_pos (s : State) (l : Nat) (x : Lane) : (s.setLane l x).pos = s.pos := rfl
@[simp] theorem State.setLane_fold (s : State) (l : Nat) (x : Lane) : (s.setLane l x).fold = s.fold := rfl
@[simp] theorem State.setLane_shep (s : State) (l : Nat) (x : Lane) : (s.setLane l x).shep = s.shep := rfl
@[simp] theorem State.setLane_cores (s : State) (l : Nat) (x : Lane) : (s.setLane l x).cores = s.cores := rfl
@[simp] theorem State.setLane_lamb (s : State) (l : Nat) (x : Lane) : (s.setLane l x).lamb = s.lamb := rfl
@[simp] theorem State.setLane_drove (s : State) (l : Nat) (x : Lane) : (s.setLane l x).drove = s.drove := rfl
@[simp] theorem State.setLane_link (s : State) (l : Nat) (x : Lane) : (s.setLane l x).link = s.link := rfl
@[simp] theorem State.setLane_die (s : State) (l : Nat) (x : Lane) : (s.setLane l x).die = s.die := rfl
@[simp] theorem State.setLane_audit (s : State) (l : Nat) (x : Lane) : (s.setLane l x).audit = s.audit := rfl
@[simp] theorem State.setLane_streams (s : State) (l : Nat) (x : Lane) : (s.setLane l x).streams = s.streams := rfl
@[simp] theorem State.setLane_px (s : State) (l : Nat) (x : Lane) : (s.setLane l x).px = s.px := rfl
@[simp] theorem State.setLane_replay (s : State) (l : Nat) (x : Lane) : (s.setLane l x).replay = s.replay := rfl
@[simp] theorem State.setLane_ptpHold (s : State) (l : Nat) (x : Lane) : (s.setLane l x).ptpHold = s.ptpHold := rfl
@[simp] theorem State.setLane_pair (s : State) (l : Nat) (x : Lane) : (s.setLane l x).pair = s.pair := rfl
@[simp] theorem State.setLane_ptp (s : State) (l : Nat) (x : Lane) : (s.setLane l x).ptp = s.ptp := rfl
@[simp] theorem State.setLane_bell (s : State) (l : Nat) (x : Lane) : (s.setLane l x).bell = s.bell := rfl
@[simp] theorem State.setLane_dma (s : State) (l : Nat) (x : Lane) : (s.setLane l x).dma = s.dma := rfl
@[simp] theorem State.setLane_host (s : State) (l : Nat) (x : Lane) : (s.setLane l x).host = s.host := rfl
@[simp] theorem State.setLane_halves (s : State) (l : Nat) (x : Lane) : (s.setLane l x).halves = s.halves := rfl
@[simp] theorem State.setLane_pkg (s : State) (l : Nat) (x : Lane) : (s.setLane l x).pkg = s.pkg := rfl
@[simp] theorem State.setLane_image (s : State) (l : Nat) (x : Lane) : (s.setLane l x).image = s.image := rfl
@[simp] theorem State.setLane_ident (s : State) (l : Nat) (x : Lane) : (s.setLane l x).ident = s.ident := rfl
@[simp] theorem State.setLane_start (s : State) (l : Nat) (x : Lane) : (s.setLane l x).start = s.start := rfl
@[simp] theorem State.setLane_health (s : State) (l : Nat) (x : Lane) : (s.setLane l x).health = s.health := rfl
@[simp] theorem State.setLane_pins (s : State) (l : Nat) (x : Lane) : (s.setLane l x).pins = s.pins := rfl
@[simp] theorem State.setLane_free (s : State) (l : Nat) (x : Lane) : (s.setLane l x).free = s.free := rfl
@[simp] theorem State.setLane_fld (s : State) (l : Nat) (x : Lane) (g : Fld) : (s.setLane l x).fld g = s.fld g := rfl
@[simp] theorem State.setLane_peek (s : State) (l : Nat) (x : Lane) (k : Nat) : (s.setLane l x).peek k = s.peek k := rfl
@[simp] theorem State.setLane_ring (s : State) (l : Nat) (x : Lane) (k : Nat) : (s.setLane l x).ring k = s.ring k := rfl
@[simp] theorem State.setLane_slot (s : State) (l : Nat) (x : Lane) (k : Nat) : (s.setLane l x).slot k = s.slot k := rfl
@[simp] theorem State.setLane_gout (s : State) (l : Nat) (x : Lane) (k : Nat) : (s.setLane l x).gout k = s.gout k := rfl
@[simp] theorem State.setLane_enc (s : State) (l : Nat) (x : Lane) (k : Nat) : (s.setLane l x).enc k = s.enc k := rfl
@[simp] theorem State.setLane_trig (s : State) (l : Nat) (x : Lane) (k : Nat) : (s.setLane l x).trig k = s.trig k := rfl
@[simp] theorem State.setLane_job (s : State) (l : Nat) (x : Lane) (k : Nat) : (s.setLane l x).job k = s.job k := rfl
@[simp] theorem State.setLane_core (s : State) (l : Nat) (x : Lane) (k : Nat) : (s.setLane l x).core k = s.core k := rfl
@[simp] theorem State.setLane_stream (s : State) (l : Nat) (x : Lane) (k : Nat) : (s.setLane l x).stream k = s.stream k := rfl
@[simp] theorem State.setLane_view (s : State) (l : Nat) (x : Lane) (k : Nat) : (s.setLane l x).view k = s.view k := rfl
@[simp] theorem State.setLane_raceSt (s : State) (l : Nat) (x : Lane) (k : Nat) : (s.setLane l x).raceSt k = s.raceSt k := rfl
@[simp] theorem State.setLane_tileOf (s : State) (l : Nat) (x : Lane) (k : Nat) : (s.setLane l x).tileOf k = s.tileOf k := rfl
@[simp] theorem State.setLane_lane_self (s : State) (l : Nat) (x : Lane) : (s.setLane l x).lane l = x := Tab.get_set_self ..
theorem State.setLane_lane_other (s : State) (l : Nat) (x : Lane) (m : Nat) (h : m ≠ l) : (s.setLane l x).lane m = s.lane m := Tab.get_set_other _ _ _ _ _ h

/-! ## setReplayLane -/

@[simp] theorem State.setReplayLane_pending (s : State) (n : Nat) (x : Option DecodeLane) : (s.setReplayLane n x).pending = s.pending := rfl
@[simp] theorem State.setReplayLane_variant (s : State) (n : Nat) (x : Option DecodeLane) : (s.setReplayLane n x).variant = s.variant := rfl
@[simp] theorem State.setReplayLane_phase (s : State) (n : Nat) (x : Option DecodeLane) : (s.setReplayLane n x).phase = s.phase := rfl
@[simp] theorem State.setReplayLane_regs (s : State) (n : Nat) (x : Option DecodeLane) : (s.setReplayLane n x).regs = s.regs := rfl
@[simp] theorem State.setReplayLane_mem (s : State) (n : Nat) (x : Option DecodeLane) : (s.setReplayLane n x).mem = s.mem := rfl
@[simp] theorem State.setReplayLane_marks (s : State) (n : Nat) (x : Option DecodeLane) : (s.setReplayLane n x).marks = s.marks := rfl
@[simp] theorem State.setReplayLane_rings (s : State) (n : Nat) (x : Option DecodeLane) : (s.setReplayLane n x).rings = s.rings := rfl
@[simp] theorem State.setReplayLane_clk (s : State) (n : Nat) (x : Option DecodeLane) : (s.setReplayLane n x).clk = s.clk := rfl
@[simp] theorem State.setReplayLane_ev (s : State) (n : Nat) (x : Option DecodeLane) : (s.setReplayLane n x).ev = s.ev := rfl
@[simp] theorem State.setReplayLane_pos (s : State) (n : Nat) (x : Option DecodeLane) : (s.setReplayLane n x).pos = s.pos := rfl
@[simp] theorem State.setReplayLane_fold (s : State) (n : Nat) (x : Option DecodeLane) : (s.setReplayLane n x).fold = s.fold := rfl
@[simp] theorem State.setReplayLane_shep (s : State) (n : Nat) (x : Option DecodeLane) : (s.setReplayLane n x).shep = s.shep := rfl
@[simp] theorem State.setReplayLane_cores (s : State) (n : Nat) (x : Option DecodeLane) : (s.setReplayLane n x).cores = s.cores := rfl
@[simp] theorem State.setReplayLane_lamb (s : State) (n : Nat) (x : Option DecodeLane) : (s.setReplayLane n x).lamb = s.lamb := rfl
@[simp] theorem State.setReplayLane_drove (s : State) (n : Nat) (x : Option DecodeLane) : (s.setReplayLane n x).drove = s.drove := rfl
@[simp] theorem State.setReplayLane_link (s : State) (n : Nat) (x : Option DecodeLane) : (s.setReplayLane n x).link = s.link := rfl
@[simp] theorem State.setReplayLane_die (s : State) (n : Nat) (x : Option DecodeLane) : (s.setReplayLane n x).die = s.die := rfl
@[simp] theorem State.setReplayLane_audit (s : State) (n : Nat) (x : Option DecodeLane) : (s.setReplayLane n x).audit = s.audit := rfl
@[simp] theorem State.setReplayLane_lanes (s : State) (n : Nat) (x : Option DecodeLane) : (s.setReplayLane n x).lanes = s.lanes := rfl
@[simp] theorem State.setReplayLane_streams (s : State) (n : Nat) (x : Option DecodeLane) : (s.setReplayLane n x).streams = s.streams := rfl
@[simp] theorem State.setReplayLane_px (s : State) (n : Nat) (x : Option DecodeLane) : (s.setReplayLane n x).px = s.px := rfl
@[simp] theorem State.setReplayLane_ptpHold (s : State) (n : Nat) (x : Option DecodeLane) : (s.setReplayLane n x).ptpHold = s.ptpHold := rfl
@[simp] theorem State.setReplayLane_pair (s : State) (n : Nat) (x : Option DecodeLane) : (s.setReplayLane n x).pair = s.pair := rfl
@[simp] theorem State.setReplayLane_ptp (s : State) (n : Nat) (x : Option DecodeLane) : (s.setReplayLane n x).ptp = s.ptp := rfl
@[simp] theorem State.setReplayLane_bell (s : State) (n : Nat) (x : Option DecodeLane) : (s.setReplayLane n x).bell = s.bell := rfl
@[simp] theorem State.setReplayLane_dma (s : State) (n : Nat) (x : Option DecodeLane) : (s.setReplayLane n x).dma = s.dma := rfl
@[simp] theorem State.setReplayLane_host (s : State) (n : Nat) (x : Option DecodeLane) : (s.setReplayLane n x).host = s.host := rfl
@[simp] theorem State.setReplayLane_halves (s : State) (n : Nat) (x : Option DecodeLane) : (s.setReplayLane n x).halves = s.halves := rfl
@[simp] theorem State.setReplayLane_pkg (s : State) (n : Nat) (x : Option DecodeLane) : (s.setReplayLane n x).pkg = s.pkg := rfl
@[simp] theorem State.setReplayLane_image (s : State) (n : Nat) (x : Option DecodeLane) : (s.setReplayLane n x).image = s.image := rfl
@[simp] theorem State.setReplayLane_ident (s : State) (n : Nat) (x : Option DecodeLane) : (s.setReplayLane n x).ident = s.ident := rfl
@[simp] theorem State.setReplayLane_start (s : State) (n : Nat) (x : Option DecodeLane) : (s.setReplayLane n x).start = s.start := rfl
@[simp] theorem State.setReplayLane_health (s : State) (n : Nat) (x : Option DecodeLane) : (s.setReplayLane n x).health = s.health := rfl
@[simp] theorem State.setReplayLane_pins (s : State) (n : Nat) (x : Option DecodeLane) : (s.setReplayLane n x).pins = s.pins := rfl
@[simp] theorem State.setReplayLane_free (s : State) (n : Nat) (x : Option DecodeLane) : (s.setReplayLane n x).free = s.free := rfl
@[simp] theorem State.setReplayLane_fld (s : State) (n : Nat) (x : Option DecodeLane) (g : Fld) : (s.setReplayLane n x).fld g = s.fld g := rfl
@[simp] theorem State.setReplayLane_peek (s : State) (n : Nat) (x : Option DecodeLane) (k : Nat) : (s.setReplayLane n x).peek k = s.peek k := rfl
@[simp] theorem State.setReplayLane_ring (s : State) (n : Nat) (x : Option DecodeLane) (k : Nat) : (s.setReplayLane n x).ring k = s.ring k := rfl
@[simp] theorem State.setReplayLane_slot (s : State) (n : Nat) (x : Option DecodeLane) (k : Nat) : (s.setReplayLane n x).slot k = s.slot k := rfl
@[simp] theorem State.setReplayLane_gout (s : State) (n : Nat) (x : Option DecodeLane) (k : Nat) : (s.setReplayLane n x).gout k = s.gout k := rfl
@[simp] theorem State.setReplayLane_enc (s : State) (n : Nat) (x : Option DecodeLane) (k : Nat) : (s.setReplayLane n x).enc k = s.enc k := rfl
@[simp] theorem State.setReplayLane_trig (s : State) (n : Nat) (x : Option DecodeLane) (k : Nat) : (s.setReplayLane n x).trig k = s.trig k := rfl
@[simp] theorem State.setReplayLane_job (s : State) (n : Nat) (x : Option DecodeLane) (k : Nat) : (s.setReplayLane n x).job k = s.job k := rfl
@[simp] theorem State.setReplayLane_core (s : State) (n : Nat) (x : Option DecodeLane) (k : Nat) : (s.setReplayLane n x).core k = s.core k := rfl
@[simp] theorem State.setReplayLane_stream (s : State) (n : Nat) (x : Option DecodeLane) (k : Nat) : (s.setReplayLane n x).stream k = s.stream k := rfl
@[simp] theorem State.setReplayLane_view (s : State) (n : Nat) (x : Option DecodeLane) (k : Nat) : (s.setReplayLane n x).view k = s.view k := rfl
@[simp] theorem State.setReplayLane_raceSt (s : State) (n : Nat) (x : Option DecodeLane) (k : Nat) : (s.setReplayLane n x).raceSt k = s.raceSt k := rfl
@[simp] theorem State.setReplayLane_tileOf (s : State) (n : Nat) (x : Option DecodeLane) (k : Nat) : (s.setReplayLane n x).tileOf k = s.tileOf k := rfl
@[simp] theorem State.setReplayLane_lane (s : State) (n : Nat) (x : Option DecodeLane) (k : Nat) : (s.setReplayLane n x).lane k = s.lane k := rfl

end Sys2Proof.Machine
end

