-- ==== Sys2Proof/Tests/Slice0.lean ====
section
/-! SUPPORT. Tests of the model: commands that are not well formed, worked examples of the spec, and for every obligation with hypotheses a state
and operands that meet them. -/

open Sys2Proof Sys2Proof.Machine

section
set_option Elab.async false

/-- A powered, running module with the listed register fields set. -/
def Tests.on (l : List (Fld × Nat)) : State :=
  l.foldl (fun s p => s.setFld p.1 p.2) { State.reset with phase := .running, start := { powered := true } }

/-- The same module in another phase. -/
def Tests.at_ (p : Phase) (l : List (Fld × Nat)) : State := { Tests.on l with phase := p }

/-- The state that a command answers. -/
def Tests.after (c : Instr) (s : State) : State :=
  match exec c s with
  | .next t => t
  | _ => s

open Tests

/-! ## Well-formed commands -/

/-- Every check of `Instr.wellFormed` refuses a command that breaks it. -/
theorem test_ill_formed_commands_are_refused :
    ([.encoderLineFault 2 0 1, .reg64LowRead 0 4, .reg64LowWrite 0 4 0, .reg64HighWrite 0 8 0, .registerWrite 0 2 0,
      .warmStartStepDone 0 [(0x900000000, false)] true true, .cameraFrameReceive 0 [] [(16, 0, 0, false)] [], .scrubRead [(0x800000000, true)],
      .conv 0 [(0x2100800000, false)] .none, .dmaCopy 0 [(0x2410000000, false)], .coreCommandComplete true 4 [],
      .coreCommandComplete false 0 [(4096, true)], .ringIndexSample [(8192, false)] [],
      .ptpAnnounce 0 0 false { prio1 := 256, cls := 0, acc := 0, var := 0, prio2 := 0, gm := 0, steps := 0, src := 0 },
      .droveDataFlit [], .hostWr 0 0 false [] 0, .hostWr 0 0 false (List.replicate 32 0) (BitVec.ofNat 64 (2 ^ 32)), .wff [],
      .mgSramCe 0 0, .mgSramCe 1 1, .mgWatchdog 0 false 8 0] : List Instr).all (fun c => !c.wellFormed) = true := by decide +kernel

/-- Commands at the borders of those checks are well formed. -/
theorem test_well_formed_commands :
    ([.encoderLineFault 1 0 1, .reg64LowRead 0 8, .reg64HighWrite 0 12 0, .registerWrite 0 4 0, .scrubRead [(0x7FFFFFFFF, true)],
      .dmaCopy 0 [(0x240FFFFFFF, false)], .coreCommandComplete true 3 [(4095, true)], .ringIndexSample [(8191, false)] [],
      .droveNopFlit (List.replicate 256 0), .hostWr 0 0 true (List.replicate 64 0) (BitVec.ofNat 64 (2 ^ 63)), .mgSramCe 4 3,
      .mgWatchdog 0 true 8 0] : List Instr).all Instr.wellFormed = true := by decide +kernel

/-! ## States that meet the hypotheses of the obligations -/

theorem test_wit_StepRunsTheFrontCommand : step { on [] with pending := [.hostPre, .zqStart] } = exec .hostPre { on [] with pending := [.zqStart] } := rfl

theorem test_wit_IdleStepLetsOneCyclePass :
    State.reset.pending = [] ∧ State.reset.phase = .off ∧ (on []).pending = [] ∧ (on []).phase ≠ .off := by decide +kernel

theorem test_wit_StepConsumesOneCommand : ∃ t, step { on [] with pending := [.hostPre, .zqStart] } = .next t ∧ t.pending = [.zqStart] :=
  ⟨_, rfl, by decide +kernel⟩

theorem test_wit_EveryCommandKeepsTheUnitsItDoesNotOwn : ∃ t, exec (.shSemWrite 255 7) (on []) = .next t ∧ t.fld (SH_SEM_VALUE 255) = 7 :=
  ⟨_, rfl, by decide +kernel⟩

theorem test_wit_EveryStepKeepsTheCanonicalForms : (on [(SH_SEM_VALUE 3, 4)]).wf = true ∧
    ∃ t, step { on [(SH_SEM_VALUE 3, 4)] with pending := [.shSemWrite 3 0] } = .next t ∧ t.regs = [] := ⟨by decide +kernel, _, rfl, by decide +kernel⟩

theorem test_wit_BurntBitsStayBurnt : step State.reset = .next State.reset := rfl

theorem test_wit_ModuleInResetDoesNothing : State.reset.phase = .off ∧ exec .hostCold State.reset = .next State.reset := ⟨rfl, rfl⟩

theorem test_wit_ColdCausesBeginAColdStart :
    State.reset.start.powered = false ∧ (on []).start.powered = true ∧ (on []).health.tripped = false ∧ (on []).phase ≠ .off ∧
    ({ on [] with health := { tripped := true } } : State).health.tripped = true ∧ (on []).phase ≠ .paddock ∧
    (after (.resetN 10000) (on [])).phase = .cold 1 ∧ (after (.resetN 9999) (on [])).phase = .running := by decide +kernel

theorem test_wit_WarmStartBeginsAndDrains : (on []).phase = .running ∧ (at_ (.cold 9) []).phase = .cold 9 ∧ (at_ (.warm 8) []).phase = .warm 8 ∧
    (at_ .paddock []).phase = .paddock ∧ (at_ (.warm 2) []).phase = .warm 2 ∧ (after .hostWarm (on [])).phase = .warm 2 := by decide +kernel

theorem test_wit_FailedStartsEscalate :
    (at_ (.cold 1) [(MG_START_COLD_FAIL, 1)]).fld MG_START_COLD_FAIL < 2 ∧ 2 ≤ (at_ (.cold 9) [(MG_START_COLD_FAIL, 2)]).fld MG_START_COLD_FAIL ∧
    (at_ (.warm 2) [(MG_START_WARM_FAIL, 1)]).fld MG_START_WARM_FAIL < 2 ∧ 2 ≤ (at_ (.warm 8) [(MG_START_WARM_FAIL, 2)]).fld MG_START_WARM_FAIL ∧
    (at_ (.cold 1) []).phase = .cold 1 ∧ (at_ (.warm 8) []).phase = .warm 8 ∧ (on []).phase = .running := by decide +kernel

/-- The smallest firmware section and the smallest customer section, with no record, and the header that names them. -/
def Tests.fwSection : List Byte := leBytes 8 1 ++ leBytes 248 256
def Tests.custSection : List Byte := leBytes 8 (1 + 2 ^ 32) ++ leBytes 4 256 ++ leBytes 8 0 ++ leBytes 236 256
def Tests.header : ImgHdr := ⟨1, 256, 256, List.replicate 32 0, List.replicate 32 0⟩

/-- A warm start stands at a step, with that image in its flash and in the image copy. -/
def Tests.warming (n : Nat) : State :=
  let s : State := at_ (.warm n) []
  let s : State := { s with image := { s.image with copyOk := true, fwHash := List.replicate 32 0, custHash := List.replicate 32 0 } }
  ((s.setFlash 0 header.bytes).pokeL (copyBase + fwOfs) fwSection).pokeL (copyBase + custOfs) custSection

/-- Whether a cold start's configuration read accepts an image is decided by the hash and signature functions of Config. -/
theorem test_wit_StartStepsFollowOneAnother :
    (∀ n < 9, (at_ (.cold (n + 1)) []).phase = .cold (n + 1)) ∧
    (at_ (.cold 3) [(MG_START_COLD_FAIL, 1)]).fld MG_START_COLD_FAIL < 2 ∧ 2 ≤ (at_ (.cold 4) [(MG_START_COLD_FAIL, 2)]).fld MG_START_COLD_FAIL ∧
    (at_ (.warm 3) []).phase = .warm 3 ∧ (at_ (.warm 3) [(MG_START_WARM_FAIL, 1)]).fld MG_START_WARM_FAIL < 2 ∧ (at_ (.warm 8) []).phase = .warm 8 ∧
    (let v (n : Nat) : State := ((warming n).advanceTo ((warming n).start.tStep + 7)).upset []
     (v 4).warmHeaders.2 = true ∧ (v 5).warmChecks.2 = true ∧ (v 6).refreshCopy.2 = true ∧ (v 7).refreshCopy.2 = true) := by decide +kernel

/-! ### Position -/

/-- ENC1 counts with a 2-sample filter that holds the levels `a` and `b`; the synchronised levels are `sa`, `sb` and `sz`. -/
def Tests.counting (a b sa sb sz : Bool) (l : List (Fld × Nat)) : State :=
  let sy (x : Bool) : BitVec 2 := if x then 2 else 0
  let s := on ((PS_ENCCFG_EN 1, 1) :: (PS_ENCCFG_FILT_N 1, 2) :: l)
  { s with pos := { s.pos with encs := [(1, { fA := a, fB := b, winA := filled a, winB := filled b, winZ := 1, syA := sy sa, syB := sy sb, syZ := sy sz,
                                              onSince := 5, chkSince := 9, base := true })] } }

/-- ENC2 or ENC3 stands one FIELD cycle behind, with a filter of whose last seven samples four are high and whose output is low. -/
def Tests.htl (e : Nat) : State :=
  let s := on []
  { s with clk := { s.clk with enc := 2 }
           pos := { s.pos with encs := [(e, { winA := 15, winZ := 15 })] } }

theorem test_wit_PositionFollowsTheQuadraturePair :
    let all := BitVec.allOnes 64
    (on []).phase ≠ .off ∧ (on []).encFitted 3 = true ∧ (on []).counting 0 = false ∧ ({ on [] with variant := .n } : State).encFitted 2 = false ∧
    (∀ a ∈ [false, true], ∀ b ∈ [false, true], ∀ sa ∈ [false, true], ∀ sb ∈ [false, true],
      let s := counting a b sa sb false []
      s.counting 1 = true ∧ s.lineDue 1 = none ∧ s.clk.enc + 1 = (s.enc 1).seen + 1 ∧ s.indexRises 1 a b false = false ∧
      majority (s.fld (PS_ENCCFG_FILT_N 1)) (shiftIn 64 (s.enc 1).winA ((s.enc 1).syA.getLsbD 1)) (s.enc 1).fA = a) ∧
    majority 2 (shiftIn 64 (shiftIn 64 0 true) true) false = true ∧
    (after (.encoderCount 1 4 15 0 0) (counting false false false false false [])).posOf 1 = 1 ∧
    (after (.encoderCount 1 4 0 15 0) (counting false false false false false [])).posOf 1 = -1 ∧
    (after (.encoderCount 1 4 15 15 0) (counting false false false false false [])).posOf 1 = 0 ∧
    2 * ((htl 3).clk.enc + 1) / 5 = 2 * ((htl 3).enc 3).seen / 5 + 1 ∧ (htl 3).dieFilt 3 = 8 ∧
    majority 8 (shiftIn 64 ((htl 3).enc 3).winA (all.getLsbD 0)) ((htl 3).enc 3).fA = true ∧
    (after (.encoderCount 3 1 all 0 0) (htl 3)).die.cnt3 = 1 ∧ (after (.encoderCount 2 1 0 0 0) (htl 2)).die.cnt2 = 0 := by decide +kernel

/-- ENC1 counts, and since cycle `c` its line A stands below its level. -/
def Tests.faulty (c : Nat) : State :=
  let s := counting false false false false false []
  { s with clk := { s.clk with enc := 100 }
           pos := { s.pos with encs := [(1, { s.enc 1 with flA := some c, flZ := some 0 })] } }

theorem test_wit_EncodersFailAndRecover :
    (on []).lineDue 1 = none ∧ (faulty 7).lineDue 1 = some 207 ∧ (faulty 3).lineDue 1 = some 205 ∧ (faulty 7).clk.enc + 106 < 207 ∧ 207 ≤ (faulty 7).clk.enc + 107 ∧
    ((faulty 7).setFld (PS_IDXCHK_CHK_EN 1) 1).lineDue 1 = some 207 ∧ ((faulty 10).setFld (PS_IDXCHK_CHK_EN 1) 1).lineDue 1 = some 209 ∧
    (let s := on [(PS_ENCCFG_EN 3, 1), (PS_ENCSTAT_FAILED 3, 1), (FI_LINK_FIELD_LOST, 0)]
     s.isOn (PS_ENCSTAT_FAILED 3) = true ∧ s.causeStands 3 = false) ∧ (on []).causeStands 3 = true ∧ (on []).isOn (PS_ENCSTAT_FAILED 1) = false ∧
    ((faulty 7).setFld (PS_ENCSTAT_FAILED 1) 1).causeStands 1 = true ∧
    (after (.encoderLineFault 1 106 1) (faulty 7)).counting 1 = true ∧ (after (.encoderLineFault 1 107 1) (faulty 7)).counting 1 = false := by decide +kernel

/-- Z of ENC1 is about to rise at a position, one revolution of four lines after the baseline at 0, within a tolerance; Z is ungated, or gated by
levels A and B. -/
def Tests.indexed (pos tol : Nat) (gate ab : Bool) : State :=
  counting ab ab ab ab true [(PS_IDXCHK_CHK_EN 1, 1), (PS_IDXCHK_LPR 1, 4), (PS_IDXCHK_TOL 1, tol), (PS_IDXCHK_ZGATE 1, if gate then 1 else 0), (PS_POS_POS 1, pos)]

theorem test_wit_IndexEventsLatchAndCheck :
    let err (s : State) : Int := posDiff (s.posOf 1) (s.sfld (PS_IDXPOS_IDX_POS 1)) - 16
    let z (s : State) : Bool := majority (s.fld (PS_ENCCFG_FILT_N 1)) (shiftIn 64 (s.enc 1).winZ ((s.enc 1).syZ.getLsbD 1)) (s.enc 1).fZ
    let c := Instr.indexEvent 1 1 0 0 0
    (∀ s ∈ [indexed 18 2 false false, indexed 19 2 false false, indexed 18 2 true true, indexed 18 2 true false], s.counting 1 = true ∧ s.lineDue 1 = none ∧
      s.clk.enc + 1 = (s.enc 1).seen + 1 ∧ z s = true ∧ (s.enc 1).fZ = false ∧ s.isOn (PS_IDXCHK_CHK_EN 1) = true ∧
      ((s.enc 1).base && !(s.enc 1).dirMoved && decide ((s.enc 1).baseDir = (s.enc 1).dir)) = true ∧
      majority (s.fld (PS_ENCCFG_FILT_N 1)) (shiftIn 64 (s.enc 1).winA ((s.enc 1).syA.getLsbD 1)) (s.enc 1).fA = (s.enc 1).fA ∧
      majority (s.fld (PS_ENCCFG_FILT_N 1)) (shiftIn 64 (s.enc 1).winB ((s.enc 1).syB.getLsbD 1)) (s.enc 1).fB = (s.enc 1).fB) ∧
    (err (indexed 18 2 false false)).natAbs = 2 ∧ (err (indexed 19 2 false false)).natAbs = 3 ∧
    (counting false false false false true []).isOn (PS_IDXCHK_CHK_EN 1) = false ∧ z (counting false false false false false []) = false ∧
    (after c (indexed 18 2 false false)).sfld (PS_DRIFT_DRIFT 1) = 2 ∧ (after c (indexed 18 2 true true)).sfld (PS_DRIFT_DRIFT 1) = 2 ∧
    (after c (indexed 18 2 true false)).sfld (PS_DRIFT_DRIFT 1) = 0 ∧ (after c (indexed 19 2 false false)).sfld (PS_DRIFT_DRIFT 1) = 0 ∧
    (after c (indexed 19 2 false false)).isOn (PS_IDXPOS_IDX_VALID 1) = true ∧ (after (.indexEvent 3 1 0 0 1) (htl 3)).die.zev3 = true := by decide +kernel

theorem test_wit_EncoderSettingsAndSpeedWindows :
    (on []).isOn (PS_ENCCFG_EN 1) = false ∧ (0xC0400000#32).getLsbD 31 = true ∧ (0x40400000#32).getLsbD 31 = false ∧ (on []).encFitted 3 = true ∧
    (on []).isOn FI_LINK_FIELD_LOST = true ∧ (on [(FI_LINK_FIELD_LOST, 0)]).isOn FI_LINK_FIELD_LOST = false ∧
    ({ on [] with variant := .n } : State).encFitted 2 = false ∧ (on [(PS_ENCCFG_EN 3, 1)]).isOn (PS_ENCCFG_EN 3) = true ∧
    (on [(PS_ENCCFG_EN 3, 1)]).encBound 3 = false ∧ (on [(PS_ENCCFG_EN 0, 1), (PX_RCFG_EN 2, 1)]).encBound 0 = true ∧
    ((counting false false false false false []).enc 1).wAny = false ∧
    (({ on [] with pos := { encs := [(1, { wAny := true })] } } : State).enc 1).wAfterStill = true ∧
    (after (.encCfgWrite 1 0xC0400000) (on [])).fld (PS_ENCCFG_FILT_N 1) = 64 := by decide +kernel

/-- Output `t` is enabled with a pending trigger and a running pulse. -/
def Tests.trigger (t : Nat) : State :=
  let s := on [(PS_TRGCFG_EN t, 1), (PS_TRGDIV_N_INT t, 5)]
  { s with pos := { s.pos with trigs := [(t, { target := some 655360, pend := true, lastStart := some 100, pulseEnd := some 120 })] } }

theorem test_wit_LineTriggersAreNumberedAndSpaced :
    (on [(PS_TRGDIV_N_INT 7, 5)]).isOn (PS_TRGCFG_EN 7) = false ∧ 0 < (on [(PS_TRGDIV_N_INT 7, 5)]).trigD 7 ∧
    (trigger 7).isOn (PS_TRGCFG_EN 7) = true ∧ (0x0#32).getLsbD 31 = false ∧ bits (0x10000#64).toNat 16 24 ≠ 0 ∧
    ((trigger 7).trig 7).pend = true ∧ ((trigger 7).trig 7).lastStart = some 100 ∧ ((trigger 7).trig 7).pulseEnd = some 120 ∧
    (0x80000000#32).getLsbD 31 = true ∧ (after (.triggerPendingIssue 7) (trigger 7)).clk.enc = 500 := by decide +kernel

/-- Encoder 3 has gathered 15 samples up to tick 14. -/
def Tests.gathering : State :=
  let s := on [(PS_THCFG_TH_EN, 8)]
  { s with clk := { s.clk with dev := 14999 }
           pos := { s.pos with combine := [(3, (List.range' 0 15).map fun i => (i, 7))] } }

theorem test_wit_TrackHistorySamplesThePositions :
    (on []).phase ≠ .off ∧ (on []).inWarm = false ∧ (at_ (.warm 2) []).inWarm = true ∧ gathering.clk.dev / 1000 + 1 = 15 ∧ gathering.marks = [] ∧
    (gathering.fld PS_THCFG_TH_EN).testBit 3 = true ∧ gathering.encFitted 3 = true ∧
    (Tab.get [] gathering.pos.combine 3).map Prod.fst = List.range' (15 - 15) 15 ∧ (Tab.get [] gathering.pos.combine 0).map Prod.fst = List.range' (15 - 0) 0 ∧
    Tab.get [] (after .trackSample gathering).pos.combine 3 = [] := by decide +kernel

/-! ### Registers, memory, rings -/

theorem test_wit_RegisterWritesFollowTheAccessTypes :
    ((on []).regAt MM_CFG).map (fun d => (d.width, decide (d.addr ∉ ownRules))) = some (32, true) ∧ MM_CFG % 4 = 0 ∧
    (MM_CFG + 2) % 4 ≠ 0 ∧ (on []).regAt 0x4FFFFFFC = none ∧ (on []).highOf 0x4FFFFFFC = none := by decide +kernel

theorem test_wit_HalvesOfA64BitRegister :
    ((on []).regAt (PS_TRGSTART 7)).map (fun d => d.width) = some 64 ∧
    ((on []).highOf (PS_TRGSTART 7 + 4)).map (fun d => decide (d.addr ∉ ownRules)) = some true := by decide +kernel

/-- A portal request of slot 63: READ32, WRITE32, READ64 or WRITE64 of a register. -/
def Tests.request (op a v : Nat) : PortalReq := ⟨63, leBytes 8 a ++ leBytes 8 v ++ leBytes 1 9 ++ leBytes 1 op ++ leBytes 14 0⟩

/-- The portal's queue holds one request. -/
def Tests.portal (p : Phase) (q : PortalReq) : State := { at_ p [] with host := { portal := [q] } }

theorem test_wit_PortalPerformsItsOldestRequest :
    (∀ op ∈ [0, 1, 2, 3], (portal .running (request op 0x45000000 0)).portalStatus (request op 0x45000000 0) = 0 ∧ (request op 0x45000000 0).op = op) ∧
    (portal .running (request 1 0x45000002 0)).portalStatus (request 1 (0x45000000 + 2) 0) = 1 ∧
    (portal .running (request 1 0x4F000000 0)).portalStatus (request 1 0x4F000000 0) = 2 ∧
    (portal (.cold 8) (request 1 0x45000000 0)).portalStatus (request 1 0x45000000 0) = 3 ∧
    (portal .running (request 1 0 (2 ^ 32))).portalStatus (request 1 0 (2 ^ 32)) = 4 := by decide +kernel

theorem test_wit_EpochControlActsOnlyInReady : (on [(PX_EPOCH_STATE, 1)]).fld PX_EPOCH_STATE ≠ 2 ∧ (on [(PX_EPOCH_STATE, 3)]).fld PX_EPOCH_STATE ≠ 2 := by
  decide +kernel

theorem test_wit_ResetControlNeedsItsKey :
    bits (0xB4FFFFFF#32).toNat 24 8 ≠ 0xB5 ∧ (at_ .paddock []).phase = .paddock ∧ bits (0xB5000003#32).toNat 24 8 = 0xB5 ∧
    (let s : State := { at_ .paddock [] with image := { ddrUp := true, recovery := [⟨4, 0, 0, 255⟩] } }
     s.phase = .paddock ∧ s.image.check = none ∧ s.image.write = none ∧ s.image.recovery = ⟨4, 0, 0, 255⟩ :: [] ∧ s.image.ddrUp = true) ∧
    (0xB5000003#32).getLsbD 1 = true ∧ (0xB5000001#32).getLsbD 1 = false ∧ (0xB5000001#32).getLsbD 0 = true ∧ (0xB5000000#32).getLsbD 0 = false := by
  decide +kernel

theorem test_wit_MemoryHoldsWhatIsWritten : ((on []).writeBytes 60 [1, 2, 3, 4, 5, 6, 7, 8]).2 = [] ∧
    ((on []).writeBytes 60 [1, 2, 3, 4, 5, 6, 7, 8]).1.peekN 59 3 = [0, 1, 2] := by decide +kernel

/-- The DDR5 line at 64 bears an error beyond correction. -/
def Tests.badLine : State := { on [] with marks := [(64, .uncorrectable)] }

theorem test_wit_PartWritesOfBadLinesAreRefused :
    inDdr 127 = true ∧ badLine.mark 127 = .uncorrectable ∧ 127 % 64 + [(1 : Byte)].length ≤ 64 ∧ badLine.mark 64 = .uncorrectable ∧
    (badLine.write 64 (List.replicate 64 7)).1.mark 64 = .clean := by decide +kernel

/-- Ring 8191 with its indices and kind. -/
def Tests.ringed (x : Ring) : State := { on [] with rings := [(8191, x)] }

theorem test_wit_RingsTakeEntriesInOrder :
    ((ringed { kind := 4, size := 4, esize := 4, prod := 16 }).ring 8191).full = true ∧
    ((ringed { kind := 4, size := 4, esize := 4, prod := 15 }).ring 8191).full = false ∧
    ((ringed { kind := 4, size := 4, esize := 4, prod := 4294967295, cons := 4294967290 }).ringPost 8191 [1]).2 = .posted := by decide +kernel

/-- The scrubber is about to read a line, with its error mark. -/
def Tests.scrubber (n : Nat) (m : Mark) : State :=
  { on [(MM_CFG_SCRUB_EN, 1), (MM_SCRUB_NEXT_LINE, n)] with image := { ddrUp := true }, marks := if m = .clean then [] else [(64 * n, m)] }

theorem test_wit_ScrubbingAndItsReports :
    (scrubber 0 .clean).isOn MM_CFG_SCRUB_EN = true ∧ (scrubber 0 .clean).image.ddrUp = true ∧
    (scrubber 536870910 .clean).fld MM_SCRUB_NEXT_LINE + 1 < 536870912 ∧ (scrubber 536870911 .clean).fld MM_SCRUB_NEXT_LINE + 1 = 536870912 ∧
    (scrubber 536870910 .corrected).mark (64 * 536870910) = .corrected ∧ (scrubber 0 .uncorrectable).mark 0 = .uncorrectable ∧
    (on [(MM_CFG_SCRUB_EN, 0)]).isOn MM_CFG_SCRUB_EN = false ∧ (on []).image.ddrUp = false ∧ (on []).ev.ceTime = none ∧
    (on [(MM_ECCSTAT_CORR, 65535)]).fld MM_ECCSTAT_CORR ≠ (on [(MM_ECCSTAT_CORR, 65535)]).ev.ceCorr ∧ (on []).fld MM_ECCSTAT_CORR = (on []).ev.ceCorr ∧
    ((on []).bumpSat MG_SERR_CP_CORR 0).sramCount 4 = Tab.get 0 (on []).ev.sramCorr 4 ∧
    ((on []).bumpSat MG_SERR_CP_CORR 1).sramCount 4 ≠ Tab.get 0 (on []).ev.sramCorr 4 ∧ (on [(MG_SERR_SWS_CORR, 1)]).sramCount 1 ≠ Tab.get 0 (on [(MG_SERR_SWS_CORR, 1)]).ev.sramCorr 1 := by decide +kernel

/-! ### The host port -/

/-- The last bank has recorded a row. -/
def Tests.opened (row : Nat) : State := { on [] with host := { rows := [(15, row)] } }

/-- Slot 63 of the portal holds SEQ 5, and a request of it waits. -/
def Tests.asked (waits : Bool) : State :=
  let s := (opened 0).poke (portalSlot 63 + 16) 5
  if waits then { s with host := { s.host with portal := [⟨63, []⟩] } } else s

/-- A burst of 32 bytes with SEQ 6 in its seventeenth byte. -/
def Tests.burst32 : List Byte := leBytes 16 0 ++ leBytes 16 6

theorem test_wit_HostReadsAndWritesThePenWindow :
    let at_ (col : Nat) := 0 * 32768 + 3 * 2048 + col * 32
    let full : State := { opened 63 with marks := [(penBase + 0x1FFFE0, .uncorrectable)] }
    (opened 63).portAnswers = true ∧ (Tests.at_ (.cold 3) []).portAnswers = true ∧ (opened 63).host.lost = false ∧
    (∀ u ∈ unitsOf (penBase + (63 * 32768 + 15 * 2048 + 63 * 32)) 32, (opened 63).mark u ≠ .uncorrectable) ∧
    63 * 32768 + 15 * 2048 + 63 * 32 + 32 = 0x200000 ∧ (unitsOf (penBase + 0x1FFFE0) 32).any (fun u => decide (full.mark u = .uncorrectable)) = true ∧
    Tab.get 0 (opened 64).host.rows 15 = 64 ∧ hostMayWrite 0 = false ∧ hostMayWrite (0x1000 + 16) = true ∧
    (at_ 62 - 4096) / 64 = 63 ∧ 4096 ≤ at_ 62 ∧ at_ 62 < 8192 ∧ at_ 0 + 2048 = 0x2000 ∧
    (let t := after (.hostWr 3 62 false burst32 0) (asked false)
     t.peek (portalSlot 63 + 16) ≠ (asked false).peek (portalSlot 63 + 16) ∧ t.host.portal = [⟨63, burst32⟩] ∧ (∀ q ∈ (asked false).host.portal, q.slot ≠ 63)) ∧
    (let t := after (.hostWr 3 62 false burst32 0) (asked true)
     (∃ q ∈ (asked true).host.portal, q.slot = 63) ∧ t.fld HP_ERRCNT_OVERRUN = 1) := by decide +kernel

theorem test_wit_HostModesAndPlainCommands :
    (on []).portAnswers = true ∧ (on []).host.lost = false ∧ modeReadOnly 1 = false ∧ modeReadOnly 127 = false ∧ modeAccepts 1 0xB0 = true ∧
    modeAccepts 1 0xC0 = false ∧ modeAccepts 1 0x50 = true ∧ modeAccepts 1 0x40 = false ∧ (∃ r < 128, modeReadOnly r = true) ∧
    (at_ (.cold 2) []).portAnswers = false ∧ hostPortCommand .hostPre = true ∧ hostPortRead .rff = true ∧
    (let s : State := { on [] with host := { lost := true } }
     s.portAnswers = true ∧ s.host.lost = true) := by decide +kernel

theorem test_wit_HostPowerStatesAndTraining :
    (on []).portAnswers = true ∧ (on []).host.lost = false ∧ (on []).host.wff.length < 8 ∧ (List.replicate 32 (0 : Byte)).length = 32 ∧
    (on []).phase ≠ .off ∧
    ({ on [] with host := { wff := List.replicate 8 [1] } } : State).host.wff = [1] :: List.replicate 7 [1] := by decide +kernel

theorem test_wit_HeartbeatAndHostLoss :
    (at_ (.cold 3) []).beats = true ∧ (at_ (.cold 2) []).beats = false ∧ (on []).host.asleep = false ∧ (on []).host.lost = false ∧
    (∀ k < 3, (at_ (.cold 3) []).phase ≠ .cold k) ∧ (at_ (.cold 2) []).phase = .cold 2 ∧
    (0x10000000#32).getLsbD 28 = true ∧ (0#32).getLsbD 28 = false ∧ (after (.heartbeatWrite 1023) (on [])).clk.dev = 10000 := by decide +kernel

/-! ### Lanes and cameras -/

/-- Lane 15 stands in a state, with its record. -/
def Tests.laned (st : Nat) (x : Lane) (l : List (Fld × Nat)) : State := { on ((LN_LANESTAT_STATE 15, st) :: l) with lanes := [(15, x)] }

theorem test_wit_LanesLockAndLoseLock :
    let some? (s : State) : Bool := (s.lineIn 15 2 0).2.isSome
    (on []).laneState 15 = 0 ∧ (on []).isOn (LN_LANECFG_EN 15) = false ∧ (0x80000000#32).getLsbD 31 = true ∧ (0#32).getLsbD 31 = false ∧
    (laned 2 {} [(LN_LANECFG_EN 15, 1)]).isOn (LN_LANECFG_EN 15) = true ∧ (laned 1 {} []).laneState 15 = 1 ∧ (laned 2 {} []).laneLoop 15 = 0 ∧
    (laned 2 {} [(LN_LANECFG_LOOP 15, 2)]).laneLoop 15 = 2 ∧ 2 ≤ (laned 4 {} []).laneState 15 ∧ (laned 4 {} []).rxDown 15 = false ∧
    (laned 4 {} [(LN_LANESTAT_LPI_RX 15, 1)]).rxDown 15 = true ∧ (laned 2 {} []).lanePat 15 = false ∧ (laned 2 {} [(LN_LANECFG_TESTPAT 15, 1)]).lanePat 15 = true ∧
    (laned 2 {} []).droveLane 15 = false ∧ (laned 3 {} [(LN_DRVCFG_EN, 1)]).droveLane 15 = true ∧
    ((laned 2 {} []).lane 15).rx = 0 ∧ ((laned 2 {} []).lane 15).rxLen = 0 ∧ ((laned 2 {} []).lane 15).rxSkip = false ∧
    some? (laned 2 {} []) = true ∧ some? (laned 2 { rxSkip := true } []) = false ∧
    ((laned 2 { goodRun := 62 } []).lane 15).goodRun < 63 ∧ 63 ≤ ((laned 2 { goodRun := 63 } []).lane 15).goodRun ∧
    (∀ h ∈ [0#2, 1#2, 2#2, 3#2], ((laned 2 {} []).lineIn 15 h 0).2.map (fun b => (b.hdr, b.valid)) = some (h, decide (h = 1#2) || decide (h = 2#2))) ∧
    (after (.laneBlockReceive 15 2 0 0) (laned 2 { goodRun := 63 } [])).laneState 15 = 3 ∧
    (∀ b ∈ ((laned 3 {} []).lineIn 15 3 0).2, 16 ≤ (laned 3 { badHdrs := 32767 } []).badHeaders 15 b ∧ (laned 3 { badHdrs := 16383 } []).badHeaders 15 b < 16) ∧
    some? (laned 3 {} [(LN_DRVCFG_EN, 1)]) = true ∧
    (after (.laneBlockReceive 15 3 0 0) (laned 3 { badHdrs := 32767 } [])).laneState 15 = 2 ∧
    (after (.laneBlockReceive 15 3 0 0) (laned 3 { badHdrs := 16383 } [])).laneState 15 = 3 := by decide +kernel

theorem test_wit_PortsSendAndSleep :
    let f : TxFrame := .arpReply 1 2
    ((laned 4 { txq := [f] } []).lane 15).txq = f :: [] ∧ (laned 4 { txq := [f] } []).laneState 15 = 4 ∧ (laned 4 { txq := [f] } []).droveLane 15 = false ∧
    ((laned 4 { txq := [f] } []).lane 15).lpi = 0 ∧ (laned 3 {} []).laneState 15 ≠ 4 ∧ (laned 4 {} [(LN_LANECFG_LPI_EN 15, 1)]).isOn (LN_LANECFG_LPI_EN 15) = true ∧
    (laned 4 {} []).isOn (LN_LANECFG_LPI_EN 15) = false ∧
    ((laned 4 {} []).lane 15).txq = [] ∧ ((laned 4 { lpi := 2, txq := [f] } []).lane 15).lpi = 2 ∧ ((laned 4 { lpi := 1 } []).lane 15).lpi ≠ 2 ∧
    (after (.lpiWakeDone 15) (laned 4 { lpi := 2, txq := [f] } [])).clk.enc = 1100 := by decide +kernel

/-- An Ethernet frame of at least 60 bytes without its FCS: broadcast, of a type, with a payload. -/
def Tests.ether (kind : Nat) (p : List Byte) : List Byte :=
  let b := beBytes 6 (2 ^ 48 - 1) ++ beBytes 6 0x020000000001 ++ beBytes 2 kind ++ p
  b ++ List.replicate (60 - b.length) 0

/-- An IPv4 packet of a protocol to 10.0.0.1, with a good header checksum. -/
def Tests.ipv4 (proto : Nat) (p : List Byte) : List Byte :=
  let h (c : Nat) : List Byte := [0x45, 0] ++ beBytes 2 (20 + p.length) ++ beBytes 4 0 ++ [64, BitVec.ofNat 8 proto] ++ beBytes 2 c ++
    beBytes 4 0x0A000002 ++ beBytes 4 0x0A000001
  ether 0x0800 (h (65535 - fold16 (sum16 (h 0))) ++ p)

/-- A UDP datagram without a checksum. -/
def Tests.udp (src dst : Nat) (p : List Byte) : List Byte := ipv4 17 (beBytes 2 src ++ beBytes 2 dst ++ beBytes 2 (8 + p.length) ++ beBytes 2 0 ++ p)

/-- A frame with its FCS. -/
def Tests.fcs (b : List Byte) : List Byte := b ++ leBytes 4 (crc32 b)

/-- Camera port 15 is UP, at 10.0.0.1, with GVSP on UDP port 50000. -/
def Tests.port (x : Lane) : State := laned 4 x [(LN_PORTIP_IPV4 15, 0x0A000001), (LN_PORTADDR_GVSP_PORT 15, 50000), (IN_STRCFG_EN 15, 1)]

/-- An ARP request for 10.0.0.1, an echo request to it, an acknowledgement of the GVCP command 5. -/
def Tests.arp : List Byte := ether 0x0806 ([0, 1, 8, 0, 6, 4, 0, 1] ++ beBytes 6 0x020000000001 ++ beBytes 4 0x0A000002 ++ beBytes 6 0 ++ beBytes 4 0x0A000001)
def Tests.echo : List Byte := ipv4 1 [8, 0, 0, 0, 1, 2, 3, 4]
def Tests.ack : List Byte := udp 3956 3956 (beBytes 2 0 ++ beBytes 2 0x83 ++ beBytes 2 4 ++ beBytes 2 5 ++ beBytes 4 0)

theorem test_wit_ReceivedFramesAreClassified :
    (port {}).portUp 15 = true ∧ (port {}).rxDown 15 = false ∧ ({ port {} with regs := [] } : State).portUp 15 = false ∧
    ((port {}).setFld (IN_STRCFG_EN 15) 0 |>.setFld (LN_LANESTAT_LPI_RX 15) 1).rxDown 15 = true ∧
    (port {}).intakeUp = true ∧ ({ port {} with phase := .warm 3 } : State).intakeUp = false ∧
    (port {}).classify 15 (ether 0x0806 []) = .badFcs ∧ (port {}).classify 15 (fcs (ether 0x1234 [])) = .filtered ∧
    (port {}).classify 15 (fcs (ether 0x88F7 [])) = .time ∧ (port {}).classify 15 (fcs arp) = .firmware ∧
    ((port { fwq := List.replicate 63 [] }).lane 15).fwq.length < 64 ∧ 64 ≤ ((port { fwq := List.replicate 64 [] }).lane 15).fwq.length ∧
    (port {}).classify 15 (fcs (udp 4000 50000 (List.replicate 16 1))) = .gvsp ∧ (fcs (arp.take 59)).length = 63 := by decide +kernel

set_option maxRecDepth 100000 in
set_option maxRecDepth 100000 in
/-- A frame of 9,019 bytes whose FCS is good is over the limit. -/

theorem test_wit_oversize : (port {}).classify 15 (fcs (List.replicate 9015 0)) = .oversize := by decide +kernel

/-- A GVCP command with request ID 5. -/
def Tests.gvcp (use : GvcpUse) (tries : Nat) : Gvcp := ⟨use, 5, tries, 0, [1]⟩

theorem test_wit_FirmwareServesTheCameraPorts :
    let s (g : Gvcp) : State := port { fwq := [ack], gvcp := [g], control := true, writes := [(1, 2), (3, 4)] }
    let pkt := (ack.drop 42).take (dBe ack 38 2 - 8)
    let hit (g : Gvcp) := ((s g).lane 15).gvcp.find? fun h => decide (h.req = dBe pkt 6 2)
    let refusal := Tests.udp 3956 3956 (beBytes 2 0x8006 ++ beBytes 2 0x83 ++ beBytes 2 4 ++ beBytes 2 5 ++ beBytes 4 0)
    (port { fwq := [arp] }).isArp 15 arp = true ∧ (port { fwq := [echo] }).isArp 15 echo = false ∧ (port { fwq := [echo] }).isEcho 15 echo = true ∧
    (port {}).isEcho 15 arp = false ∧ (port {}).isArp 15 ack = false ∧ (port {}).isEcho 15 ack = false ∧
    ((port { fwq := [arp] }).lane 15).fwq = arp :: [] ∧ (port {}).intakeUp = true ∧ isGvcpAck ack = true ∧
    (∀ u ∈ [GvcpUse.heartbeat, .probe, .setup 2 0, .setup 3 0, .setup 4 0, .mailbox 7], hit (gvcp u 2) = some (gvcp u 2)) ∧
    ((port { fwq := [ack] }).lane 15).gvcp.find? (fun h => decide (h.req = dBe pkt 6 2)) = none ∧
    dBe pkt 0 2 = 0 ∧ isGvcpAck refusal = true ∧ dBe ((refusal.drop 42).take (dBe refusal 38 2 - 8)) 0 2 ≠ 0 ∧
    ((s (gvcp (.setup 3 0) 2)).setupWrites 15 3)[0 + 1]? = some (3, 4) ∧ ((s (gvcp (.setup 2 0) 2)).setupWrites 15 2)[0 + 1]? = some (0x0D00, 50000) ∧
    ((s (gvcp .heartbeat 2)).lane 15).gvcp = gvcp .heartbeat 2 :: [] ∧ (gvcp .heartbeat 2).tries < 3 ∧ 3 ≤ (gvcp (.setup 3 0) 3).tries ∧
    ((s (gvcp .heartbeat 2)).lane 15).control = true ∧ ((port {}).lane 15).control = false ∧ ((port {}).lane 15).gvcp = [] ∧
    (1#32).getLsbD 0 = true ∧ (0#32).getLsbD 0 = false ∧ (port {}).isOn (IN_STRCTL_BUSY 15) = false ∧
    (at_ (.cold 9) [(IN_STRCTL_BUSY 15, 1)]).isOn (IN_STRCTL_BUSY 15) = true ∧ (at_ (.cold 9) []).phase = .cold 9 ∧
    (after (.gvcpAck 15) (s (gvcp .heartbeat 2))).lane 15 = { control := true, writes := [(1, 2), (3, 4)] } := by decide +kernel

/-- The host has filled request slot 7 with a packet of `len` bytes for lane 15. -/
def Tests.mailbox (len : Nat) : State := (port {}).pokeL (mboxReq 7) ([1, 15, 0, 0] ++ leBytes 2 len)

theorem test_wit_MailboxCarriesCommands :
    (mailbox 992).phase = .running ∧ (mailbox 992).mboxNext = some 7 ∧ (mailbox 992).peek (mboxReq 7 + 1) = 15 ∧
    (mailbox 992).peekLe (mboxReq 7 + 4) 2 = 992 ∧ (mailbox 993).peekLe (mboxReq 7 + 4) 2 = 993 ∧ (mailbox 7).peekLe (mboxReq 7 + 4) 2 = 7 ∧
    (mailbox 8).peekLe (mboxReq 7 + 4) 2 = 8 ∧ (mailbox 992).portUp 15 = true ∧ (mailbox 992).isOn (IN_STRCFG_EN 15) = true ∧
    (on []).mboxNext = none ∧ ({ mailbox 8 with regs := [] } : State).portUp 15 = false ∧ ({ mailbox 8 with regs := [] } : State).mboxNext = some 7 ∧
    (after .mailboxRequest (mailbox 993)).peek (mboxRep 7 + 2) = 4 := by decide +kernel

/-- Stream 15 gives view 15 the line of a trigger. -/
def Tests.streaming : State :=
  { on [(IN_STRCFG_EN 15, 1), (IN_STRCFG_VIEW 15, 15), (IN_VIEWCFG_EN 15, 1)] with streams := [(15, { expect := [⟨3, 40, 7⟩] })] }

theorem test_wit_MissingLinesAndEnables :
    let may (s : State) (n : Nat) : Bool := decide (s.fld (IN_STRGEOM_WIDTH n) ≠ 0 ∧
      s.fld (IN_STRGEOM_WIDTH n) % widthStep (s.fld (IN_STRCFG_PIXFMT n)) = 0 ∧ (n < 12 ∨ s.isOn LN_DRVCFG_EN = false))
    streaming.intakeUp = true ∧ streaming.isOn (IN_STRCFG_EN 15) = true ∧ streaming.fld (IN_STRCFG_VIEW 15) = 15 ∧
    streaming.isOn (IN_VIEWCFG_EN 15) = true ∧ streaming.ptpView 15 = false ∧ (streaming.stream 15).expect = ⟨3, 40, 7⟩ :: [] ∧
    (streaming.setFld (IN_VIEWCFG_TAGMODE 15) 1).ptpView 15 = true ∧ ({ streaming with streams := [] } : State).isOn (IN_VIEWCFG_EN 15) = true ∧
    (({ streaming with streams := [] } : State).stream 15).expect = [] ∧ (on []).isOn (IN_STRCFG_EN 11) = false ∧
    may (on [(IN_STRGEOM_WIDTH 11, 4), (LN_DRVCFG_EN, 1)]) 11 = true ∧ may (on [(IN_STRGEOM_WIDTH 12, 4), (LN_DRVCFG_EN, 1)]) 12 = false ∧
    may (on []) 11 = false ∧ (on []).isOn (IN_VIEWCFG_EN 15) = false := by decide +kernel

/-! ### Time, launches, the drove link -/

/-- A PTP slave of port 15 whose device time is 2 ms. -/
def Tests.slave (st : Nat) (p : Ptp) : State :=
  { on [(TM_CFG_PTP_EN, 1), (TM_CFG_ROLE, 1), (TM_CFG_SLV_PORT, 15), (TM_CFG_DOMAIN, 255), (TM_STAT_STATE, st)] with
    clk := { dev := 2000000 }, ptp := p }

/-- A master with clock identity 77. -/
def Tests.grand : PtpMaster := ⟨128, 6, 33, 100, 128, 77, 0, 77⟩

theorem test_wit_PtpSlaveFollowsItsMaster :
    let off (t1 : Nat) : Int := sx 64 (toU 64 ((2000000 : Int) + ((slave 0 {}).fld TM_PTPOFS_PTP_OFS : Int) - (t1 + 0) - (slave 0 {}).ptp.delay))
    let late : State := { slave 0 { best := some grand } with clk := { dev := 100000000000 } }
    (slave 0 {}).slaveTakes 15 (255#8).toNat false = true ∧ (slave 0 {}).slaveTakes 15 (255#8).toNat true = false ∧ (slave 0 {}).ptp.best = none ∧
    (slave 0 {}).ptp.early ≠ some grand.src ∧ (slave 0 { early := some 77 }).ptp.early = some grand.src ∧
    (slave 0 { best := some { grand with prio1 := 129, gm := 9, src := 9 } }).ptp.best = some { grand with prio1 := 129, gm := 9, src := 9 } ∧
    grand.better { grand with prio1 := 129, gm := 9, src := 9 } = true ∧ ({ grand with prio1 := 129, gm := 9, src := 9 } : PtpMaster).better grand = false ∧
    (slave 0 {}).clk.dev < (slave 0 {}).ptp.lastAnn + 3 * (slave 0 {}).annNs ∧ late.ptp.lastAnn + 3 * late.annNs ≤ late.clk.dev ∧
    (slave 0 {}).extendStamp (2000000#32).toNat = some 2000000 ∧ (slave 0 {}).extendStamp (2000001#32).toNat = none ∧
    (slave 0 { best := some grand }).ptp.best = some grand ∧ grand.src = (77#64).toNat ∧ grand.src ≠ (78#64).toNat ∧
    (slave 3 {}).ptpState = 3 ∧ (slave 4 {}).ptpState ≤ 4 ∧ (slave 4 {}).ptpState ≠ 1 ∧ (off 1000000).natAbs ≤ 1000000 ∧
    1000000 < (off 999999).natAbs ∧ (slave 3 { pend := some (65535, 2000000, 5) }).ptp.pend = some ((65535#16).toNat, 2000000, 5) ∧
    (slave 3 { req := some (9, 100), sync := some (50, 90) }).ptp.req = some ((9#16).toNat, 100) ∧
    (slave 3 { req := some (9, 100), sync := some (50, 90) }).ptp.sync = some (50, 90) ∧
    (slave 3 {}).ptpSlave = true ∧ (slave 3 {}).firmwareUp = true ∧ (on []).ptpSlave = false ∧ (slave 3 { best := some grand }).ptp.best ≠ none ∧
    (after (.ptpSync 15 255 false 77 0 2000000 false 999999 0) (slave 2 { best := some grand })).isOn TM_STAT_STEP_SEEN = true ∧
    (after (.ptpSync 15 255 true 77 0 2000000 false 999999 0) (slave 2 { best := some grand })).isOn TM_STAT_STEP_SEEN = false := by decide +kernel

/-- A PTP master on port 15. -/
def Tests.master : State := { on [(TM_CFG_PTP_EN, 1), (TM_CFG_ROLE, 0), (TM_CFG_DOMAIN, 255), (TM_PORTS_PORT_EN, 0x8000)] with clk := { dev := 50 } }

theorem test_wit_PtpMasterSendsAndSteps :
    master.ptpMaster = true ∧ master.inWarm = false ∧ master.firmwareUp = true ∧ master.ptpLanes = [15] ∧ (on []).ptpMaster = false ∧
    master.masterTakes 15 (255#8).toNat false = true ∧ master.masterTakes 14 (255#8).toNat false = false ∧
    master.extendStamp (0#32).toNat = some 0 ∧ master.extendStamp (51#32).toNat = none ∧ master.isOn TM_CFG_ROLE = false ∧
    (slave 0 {}).isOn TM_CFG_ROLE = true := by decide +kernel

/-- A launch at `l`, armed or not, of a module in a role, paired or not. -/
def Tests.launching (arm paired role l : Nat) : State :=
  on [(TM_LAUNCHCFG_ARM, arm), (TM_BWCFG_PAIRED, paired), (TM_BWCFG_BW_ROLE, role), (TM_LAUNCH_L, l), (TM_LAUNCHCFG_TRG_MASK, 0x80),
    (TM_LAUNCHCFG_RACE_MASK, 0x8000), (PS_ENCCFG_EN 3, 1), (LN_DRVSTAT_STATE, 3), (TM_BWSTAT_TRACK, 1)]

theorem test_wit_LaunchesHappenAtTheirCount :
    let checked (c : Bool) : State := { launching 1 1 2 200000 with bell := { check := some c } }
    (launching 0 0 1 100000).isOn TM_LAUNCHCFG_ARM = false ∧ (launching 0 0 1 100000).clk.bw + 100000 ≤ (launching 0 0 1 100000).fld TM_LAUNCH_L ∧
    (launching 0 0 1 99999).fld TM_LAUNCH_L < (launching 0 0 1 99999).clk.bw + 100000 ∧ (launching 0 0 3 0).fld TM_BWCFG_BW_ROLE = 3 ∧
    (0x80800080#32).getLsbD 31 = true ∧ (launching 0 1 2 100000).isOn TM_BWCFG_PAIRED = true ∧ (launching 0 1 1 100000).fld TM_BWCFG_BW_ROLE = 1 ∧
    ((launching 0 1 2 100000).setFld TM_BWSTAT_TRACK 0).fld TM_BWSTAT_TRACK = 0 ∧
    (launching 1 1 2 200000).isOn TM_LAUNCHCFG_ARM = true ∧ (launching 1 1 2 200000).fld TM_BWCFG_BW_ROLE ≠ 3 ∧
    (launching 1 0 1 200000).isOn TM_BWCFG_PAIRED = false ∧ (checked true).bell.check = some true ∧ (checked false).bell.check = some false ∧
    ((launching 1 0 1 200000).fld TM_LAUNCHCFG_TRG_MASK).testBit 7 = true ∧ ((launching 1 0 1 200000).fld TM_LAUNCHCFG_RACE_MASK).testBit 15 = true ∧
    (launching 1 0 1 200000).encFitted 3 = true ∧ (launching 1 0 1 200000).isOn (PS_ENCCFG_EN 3) = true ∧
    ({ on [] with bell := { posDue := some 9 } } : State).bell.posDue = some 9 ∧ (on []).bell.posDue = none ∧
    ({ launching 1 0 3 0 with bell := { go := some 9 } } : State).bell.go = some 9 ∧ (launching 0 0 3 0).isOn TM_LAUNCHCFG_ARM = false ∧ (on []).bell.go = none ∧
    (launching 0 0 2 0).fld TM_BWCFG_BW_ROLE = 2 ∧ (launching 0 0 2 0).linkUp = true ∧ (launching 0 0 2 0).fld TM_BWSTAT_TRACK ≠ 0 ∧
    (after .launch (launching 1 0 1 200000)).isOn TM_BWSTAT_LAUNCHED = true ∧ (after .launch (checked false)).isOn TM_BWSTAT_MISSED = true := by decide +kernel

/-- A flit of a kind, with its SEQ and ACK, carrying credits of class 17. -/
def Tests.flit (kind seq ack : Nat) (data : List Byte) : List Byte := Flit.bytes ⟨3, 17, ack, seq, data.length, 2, 1, kind, 0, data⟩

/-- The drove link in a state. -/
def Tests.drove (st : Nat) (d : Drove) : State := { on [(LN_DRVSTAT_STATE, st), (LN_DRVCFG_EN, 1)] with drove := d }

theorem test_wit_DroveLinkComesUp :
    let i := flit 3 0 0 (List.replicate 18 9)
    let n := flit 0 0 4095 []
    (on []).isOn LN_DRVCFG_EN = false ∧ (drove 3 {}).isOn LN_DRVCFG_EN = true ∧ (0x80000000#32).getLsbD 31 = true ∧ (0#32).getLsbD 31 = false ∧
    ([12, 13, 14, 15].any fun n => (on [(IN_STRCFG_EN 15, 1)]).isOn (IN_STRCFG_EN n)) = true ∧
    ([12, 13, 14, 15].any fun n => (on []).isOn (IN_STRCFG_EN n)) = false ∧ (drove 2 {}).fld LN_DRVSTAT_STATE = 2 ∧ (drove 3 {}).fld LN_DRVSTAT_STATE = 3 ∧
    flitCrcOk i = true ∧ (readFlit i).legal = true ∧ (readFlit i).kind = 3 ∧ flitCrcOk n = true ∧ (readFlit n).legal = true ∧ (readFlit n).kind = 0 ∧
    (drove 2 {}).drove.partnerInit = false ∧ (drove 2 { partnerInit := true }).drove.partnerInit = true ∧
    (∃ x ∈ (drove 3 { window := [⟨4095, 17, []⟩] }).drove.window, x.seq = (readFlit n).ack) ∧
    (∀ x ∈ (drove 3 { window := [⟨4094, 17, []⟩] }).drove.window, x.seq ≠ (readFlit n).ack) := by
  decide +kernel

theorem test_wit_FlitsAreAcceptedInSequence :
    let h : Half := ⟨1, 15, none, .late, false, false, false, false, 0, 0, 0, 0, 0⟩
    let f (k q : Nat) := readFlit (flit k q 7 [1, 2])
    let held (d : Drove) : State := { drove 3 d with pair := { toSend := [h] } }
    (drove 1 {}).fld LN_DRVSTAT_STATE < 2 ∧ 2 ≤ (drove 2 {}).fld LN_DRVSTAT_STATE ∧ flitCrcOk (List.replicate 256 0) = false ∧
    flitCrcOk (flit 5 0 0 []) = true ∧ (readFlit (flit 5 0 0 [])).legal = false ∧
    flitCrcOk (flit 1 4095 7 [1, 2]) = true ∧ (f 1 4095).legal = true ∧ (f 1 4095).kind = 1 ∧
    (drove 3 { expSeq := 4095 }).drove.expSeq = (f 1 4095).seq ∧ (f 1 4095).seq ≠ (drove 3 {}).drove.expSeq ∧ (drove 3 {}).drove.nakSent = false ∧
    (drove 3 { nakSent := true }).drove.nakSent = true ∧
    flitCrcOk (flit 2 5 7 [1, 2]) = true ∧ (f 2 5).legal = true ∧ (f 2 5).kind = 2 ∧ (drove 3 { window := [⟨5, 0, []⟩] }).drove.window = [⟨(f 2 5).seq, 0, []⟩] ∧
    (f 2 5).ack ≠ (f 2 5).seq ∧ (drove 3 {}).drove.retries + 1 < (drove 3 {}).fld LN_DRVCFG_RETRY_LIMIT ∧
    (drove 3 { retries := 254 }).fld LN_DRVCFG_RETRY_LIMIT ≤ (drove 3 { retries := 254 }).drove.retries + 1 ∧ (drove 3 { nakDue := true }).drove.nakDue = true ∧
    (drove 3 { replay := some 5, window := [⟨5, 0, []⟩] }).drove.replay.bind (fun q => [(⟨5, 0, []⟩ : SentFlit)].find? fun x => decide (x.seq = q)) = some ⟨5, 0, []⟩ ∧
    (drove 3 {}).drove.replay = none ∧ (drove 3 { queue := [(17, [[5]])], credits := [(17, 1)] }).nextClass = some 17 ∧ (drove 3 {}).nextClass = none ∧
    Tab.get [] (drove 3 { queue := [(17, [[5]])] }).drove.queue 17 = [5] :: [] ∧
    (drove 3 { window := List.replicate 127 ⟨0, 0, []⟩ }).drove.window.length < 128 ∧ 128 ≤ (drove 3 { window := List.replicate 128 ⟨0, 0, []⟩ }).drove.window.length ∧
    (drove 3 {}).linkUp = true ∧ (drove 1 {}).linkUp = false ∧ (drove 2 { partnerInit := true }).drove.partnerInit = true ∧
    (held { credits := [(17, 1)] }).boundCredits (2 + h.race) < Tab.get 0 (held { credits := [(17, 1)] }).drove.credits (2 + h.race) ∧
    Tab.get 0 (held {}).drove.credits (2 + h.race) ≤ (held {}).boundCredits (2 + h.race) ∧ (held {}).pair.toSend = h :: [] ∧ (drove 3 {}).pair.toSend = [] := by
  decide +kernel

/-! ### Replay, pixels, the Gate -/

/-- A Fleece header of 64 bytes, a stripe table of one entry and a raw stripe of one byte: an image of one pixel. -/
def Tests.fleece : List Byte :=
  let h := leBytes 4 0x00010801 ++ leBytes 4 1 ++ leBytes 4 1 ++ leBytes 4 1 ++ leBytes 4 1 ++ leBytes 4 3 ++ leBytes 4 15 ++ leBytes 32 0
  h ++ leBytes 4 (crc32 h) ++ leBytes 8 (2 ^ 63 + 1 * 2 ^ 32 + 72) ++ [200]

/-- A replay entry of `len` bytes at `src`, for race 15, with flags, a cache slot and a budget. -/
def Tests.replayEntry (flags slot src len budget : Nat) : List Byte :=
  leBytes 1 1 ++ leBytes 1 flags ++ leBytes 2 slot ++ leBytes 4 3 ++ leBytes 8 src ++ leBytes 4 len ++ leBytes 4 budget ++ leBytes 8 16384 ++ leBytes 32 15

/-- A replay pass reads ring 8191, whose first entry is given; two cache slots of 1 MiB lie at 1 MiB, and the second holds sample 3 of one pixel. -/
def Tests.replaying (e : List Byte) : State :=
  let s := { on [(IN_RPLCFG_EN, 1), (IN_RPLCFG_RING, 8191), (PX_RGEOM_W 15, 1), (PX_RVIEW_VALID 15 0, 1), (PX_RLEN_LMAX 15, 1), (PX_RTILE_TSLOTS 15, 1),
      (IN_RPLCACHE_SLOTS, 2), (IN_RPLCACHE_BASE, 1), (IN_RPLCACHE_SLOT_MIB, 1)] with
    rings := [(8191, { kind := 1, size := 4, esize := 6, base := 64, prod := 1 })] }
  ((s.pokeL 64 e).pokeL 4096 fleece).pokeL 0x200000 (leBytes 4 3 ++ leBytes 4 1 ++ leBytes 4 1 ++ [1, 8, 1])

/-- Decode lane 3 works on an entry, as a load from the cache or not. -/
def Tests.decoding (e : List Byte) (load ready : Bool) : State :=
  { replaying e with replay := { lanes := [(3, some ⟨readReplayEnt e, 0, load, ready⟩)] } }

theorem test_wit_ReplayPassesRun :
    let b := replayEntry 0 0 4096 73 60
    let s := replaying b
    let take (b : List Byte) := ((replaying b).takeEntry 8191).2
    let x (flags slot src len : Nat) : DecodeLane := ⟨readReplayEnt (replayEntry flags slot src len 60), 0, false, false⟩
    (0x8000000000000000#64).getLsbD 63 = true ∧ (0#64).getLsbD 63 = false ∧ bits (0x00001FFF00000000#64).toNat 32 16 = 8191 ∧
    (on []).isOn IN_RPLCFG_EN = false ∧ s.isOn IN_RPLCFG_EN = true ∧ (1#32).getLsbD 0 = true ∧ (0#32).getLsbD 0 = false ∧
    s.intakeUp = true ∧ s.freeLane = some 0 ∧ ({ s with phase := .warm 3 } : State).intakeUp = false ∧
    ({ s with replay := { lanes := (List.range 4).map fun i => (i, some (x 0 0 4096 73)) } } : State).freeLane = none ∧
    (({ s with rings := [] } : State).takeEntry 8191).2 = none ∧ take b = some b ∧
    s.replayEntryOk (replayEntry 0 0 4096 73 0) = false ∧ s.replayEntryOk b = true ∧ s.replayEntryOk (replayEntry 4 1 4096 73 60) = true ∧
    s.replayEntryOk (replayEntry 4 2 4096 73 60) = false ∧ s.cacheBusy (readReplayEnt b) = false ∧
    (decoding (replayEntry 4 1 4096 73 60) false false).cacheBusy (readReplayEnt (replayEntry 4 1 4096 73 60)) = true := by decide +kernel

/-- The checks of an entry that is to be decoded or loaded. -/
theorem test_wit_replay_checks :
    let s := replaying []
    let f := (readFleece (fleece.take 64)).getD (readCache [])
    let tb := (fleece.drop 64).take 8
    let hb := s.peekN 0x200000 64
    (readReplayEnt (replayEntry 0 0 4096 63 60)).srcLen < 64 ∧ ddrSize < 0x7FFFFFFF8 + 73 ∧ (s.readDdr 4096 64).2 = some (fleece.take 64) ∧
    readFleece (fleece.take 64) = some f ∧ readFleece (s.peekN 0 64) = none ∧ 64 + 8 * f.nstripe ≤ 73 ∧ (s.readDdr (4096 + 64) (8 * f.nstripe)).2 = some tb ∧
    f.tableOk 73 (stripesOf f.nstripe tb) = true ∧ f.tableOk 72 (stripesOf f.nstripe tb) = false ∧
    1 ≤ f.w ∧ f.w ≤ 65536 ∧ 1 ≤ f.h ∧ f.h ≤ 65536 ∧ f.w * f.h * f.planes ≤ 64 * 73 ∧ ¬ (1 ≤ ({ f with w := 0 } : Fleece).w) ∧
    s.sampleFits 15 f = true ∧ s.sampleFits 14 f = false ∧ (readReplayEnt (replayEntry 8 1 0 0 60)).load = true ∧
    (s.readDdr (s.cacheAddr 1) 64).2 = some hb ∧ cacheValid hb 3 = true ∧ s.sampleFits 15 (readCache hb) = true ∧ cacheValid hb 4 = false := by decide +kernel

/-- The ends of a decode. -/
theorem test_wit_replay_ends :
    let e := readReplayEnt (replayEntry 0 0 4096 73 60)
    let s := decoding (replayEntry 0 0 4096 73 60) false false
    let x : DecodeLane := ⟨e, 0, false, false⟩
    let bad : State := { s with marks := [(4096, .uncorrectable)] }
    (on []).replayLane 3 = none ∧ s.replayLane 3 = some x ∧ s.clk.enc ≤ x.deadline ∧ x.deadline = 10 ∧ (s.advanceTo 11).clk.enc = 11 ∧
    (match (bad.laneDecode x).2 with | .error => true | _ => false) = true ∧
    (match (({ s with mem := [] } : State).laneDecode x).2 with | .malformed _ => true | _ => false) = true ∧
    (match (s.laneDecode x).2 with | .image _ rows => decide (rows = [[200]]) | _ => false) = true ∧
    (s.laneDecode x).1.replaySlot 15 = none ∧ ((s.setFld (PX_RTILE_TSLOTS 15) 2).laneDecode x).1.replaySlot 15 = some 0 ∧
    (readReplayEnt (replayEntry 4 1 4096 73 60)).store = true ∧ e.store = false := by decide +kernel

/-- Graze builds for race 15 on view 15, whose segment has all its gap lines where `cycle` is 1; a candidate with epoch 7 waits in READY where it is 2. -/
def Tests.grazing (cycle ask : Nat) : State :=
  { on [(PX_EPOCH_STATE, cycle), (PX_EPOCH_EPOCH, 65535), (PX_EPOCH_APPROVE_REQ, ask), (PX_RCFG_EN 15, 1), (PX_RVIEW_VALID 15 0, 1), (PX_RVIEW_VIEW 15 0, 15),
      (PX_RGEOM_W 15, 2), (PX_VCFG_GZ_EN 15, 1), (PX_VCFG_GZ_LOG2N 15, 4)] with
    px := { gapLines := [(60, 16)], cycle := cycle, epochs := [(1, 7)] } }

/-- Slot 4095 holds a part of race 15 whose tile is not yet written. -/
def Tests.tiled : State :=
  { on [] with fold := { slots := [(4095, { st := .closed, race := 15, tile := some 3 })] }
               px := { tiles := [(4095, some { n0 := 0, n1 := 0, p0 := 0, p1 := 0, y0 := 0, ended := true })] } }

theorem test_wit_EpochsAndTiles :
    let b := grazing 1 1
    b.px.cycle = 1 ∧ b.grazeSegs = [(15, 0)] ∧ (grazing 2 1).px.cycle ≠ 1 ∧
    (b.grazeSegs.all fun q => decide (2 ^ b.fld (PX_VCFG_GZ_LOG2N (b.rview q.1 q.2)) ≤ Tab.get 0 b.px.gapLines (segKey q.1 q.2) ∧
      b.rview q.1 q.2 < 16 ∧ (b.rangeOf q.1 q.2).1 + (b.rangeOf q.1 q.2).2 ≤ 131072 ∧ 0 < (b.rangeOf q.1 q.2).2)) = true ∧
    b.isOn PX_EPOCH_APPROVE_REQ = true ∧ (grazing 1 0).isOn PX_EPOCH_APPROVE_REQ = false ∧ (grazing 2 1).fld PX_EPOCH_STATE = 2 ∧
    (grazing 2 1).raceOn 15 = true ∧ ((grazing 2 1).raceSt 15).epoch ≠ Tab.get 0 (grazing 2 1).px.epochs (1 - (grazing 2 1).px.cur) ∧
    (grazing 2 1).raceOn 0 = false ∧ (after .grazeBuildDone b).fld PX_EPOCH_EPOCH = 1 ∧
    (tiled.tileOf 4095).isSome = true ∧ (tiled.slot 4095).tile = some 3 ∧ (tiled.slot 4095).st ≠ .free ∧ (tiled.slot 4095).st ≠ .opened ∧
    (tiled.slot 4095).tileDone = false ∧ tiled.writesTile 15 = true ∧ (tiled.tileOf 4094) = none ∧ tiled.tilePending 15 3 = true ∧ tiled.tilePending 15 2 = false ∧
    (on []).audit.queue = [] ∧
    ({ on [] with audit := { queue := [⟨1, 15, 3, 0, true, false, false, false⟩] } } : State).audit.queue = ⟨1, 15, 3, 0, true, false, false, false⟩ :: [] := by
  decide +kernel

/-- Output 15 in MODE GATE, with a pulse of slot 2 on from step 0 up to a step. -/
def Tests.gated (n : Nat) : State := { on [(FI_LINK_FIELD_LOST, 0)] with fold := { outs := [(15, { mode := 1, pw := 1, pulses :=
  [{ slot := 2, start := 0, stop := .step n, time := 0 }] })] } }

theorem test_wit_GateFramesCommitEdges :
    let n := 0 + (gated 400).startOffset ((gated 400).raceEnc ((gated 400).slot 1).race) ((gated 400).slot 1).a
    (on []).variant = .f ∧ ({ on [] with variant := .n } : State).variant = .n ∧ (on []).isOn FI_LINK_FIELD_LOST = true ∧
    ((on []).gout 15).mode ≠ 1 ∧ ((gated 400).gout 15).mode = 1 ∧ ((gated 400).gout 15).pw ≠ 0 ∧
    (({ on [] with fold := { outs := [(15, { mode := 1 })] } } : State).gout 15).pw = 0 ∧ (gated 400).isOn FI_LINK_FIELD_LOST = false ∧
    (((gated 400).gout 15).pulses.any fun p => (gated 400).covers 15 0 n p) = true ∧
    (((gated 80).gout 15).pulses.any fun p => (gated 80).covers 15 0 n p) = false ∧
    (({ on [] with fold := { outs := [(15, { pulses := [{ slot := 1, start := 81, stop := .pos 5 900, time := 0 }] })] } } : State).gout 15).pulses =
      [{ slot := 1, start := 81, stop := .pos 5 900, time := 0 }] ∧
    (∀ p ∈ ((gated 400).gout 15).pulses, (match p.stop with | .pos .. => false | .step _ => true) = true) ∧
    (on [(FO_OCFG_MODE 15, 1)]).fld (FO_OCFG_MODE 15) = 1 ∧ bits (0x8000000000000000#64).toNat 62 2 = 2 ∧ bits (0x4000000000000000#64).toNat 62 2 = 1 ∧
    (({ on [] with fold := { outs := [(15, { queue := [⟨1, 0, 0⟩] })] } } : State).gout 15).queue ≠ [] ∧ (descAt (FO_OCFG 15)).isSome = true := by
  decide +kernel

/-! ### Cores and the Lamb engine -/

/-- A descriptor from the values of its fields, each at a byte. -/
def Tests.desc (l : List (Nat × Nat)) : List Byte := leBytes 64 (l.map fun p => p.2 * 256 ^ p.1).sum

/-- A job of client 5 with the commands it has admitted. -/
def Tests.jobOf (cls : JobClass) (cmds : List Cmd) : Job :=
  { client := 5, cls := cls, jobId := 77, origin := .host, hdr := {}, bases := [⟨0, 1048576, true⟩], next := 1, cmds := cmds }

/-- Job-table entry 255 stands on core 15 with one command at the head of the core's queue. -/
def Tests.cored (c : Cmd) : State :=
  { on [] with shep := { jobs := [(255, some (jobOf .trial [c]))] }, cores := [(15, { queue := [⟨255, 0, 0, none⟩] })] }

/-- COPY of one S8 element from address 0 to 64; REDUCE MEAN over an empty row; TABLE with one codebook; EMIT of 64 elements. -/
def Tests.copyCmd (version : Nat) : Cmd :=
  ⟨0, 0, desc [(0, 13), (1, version), (3, 1), (4, 1), (12, 1), (36, 1), (40, 1 + 2 ^ 18), (45, 1 + 2 ^ 18)], .queued, 0, 16, none, false⟩
def Tests.meanCmd : Cmd := ⟨0, 0, desc [(0, 9), (1, 1), (2, 4), (3, 1), (4, 10), (12, 1), (36, 1), (40, 2 ^ 18)], .queued, 0, 16, none, false⟩
def Tests.tableCmd : Cmd := ⟨0, 0, desc [(0, 12), (1, 1), (12, 1)], .queued, 0, 16, none, false⟩
def Tests.emitCmd : Cmd := ⟨0, 0, desc [(0, 34), (1, 1), (3, 10), (12, 64), (14, 15)], .queued, 0, 16, none, false⟩

theorem test_wit_TensorCommandsWriteTheirOutput :
    let e : QEnt := ⟨255, 0, 0, none⟩
    let s := cored (copyCmd 1)
    let x := jobOf .trial [copyCmd 1]
    let t : State := { s with marks := [(corePlace 15 0, .uncorrectable)] }
    let y := jobOf .trial [meanCmd]
    let z := cored meanCmd
    s.coreHead 15 = some (e, x, copyCmd 1) ∧ z.coreHead 15 = some (e, y, meanCmd) ∧ s.inService 15 = true ∧ s.marks = [] ∧
    ((s.tensorCommands 15 255 x (copyCmd 1)).map fun p => (p.command, (p.ran s 15 x (copyCmd 1)).2)) = [(.copy 15 [] .none, .done false false)] ∧
    ((s.tensorCommands 15 255 x (copyCmd 1)).map fun p => firstFlaw (headFlaws (copyCmd 1).desc 0 ++ p.flaws ++ s.dataFlaws 15 x (copyCmd 1).desc p.plan)) = [none] ∧
    ((t.tensorCommands 15 255 x (copyCmd 1)).map fun p => (p.ran t 15 x (copyCmd 1)).2) = [.dataError false] ∧
    ((s.tensorCommands 15 255 x (copyCmd 0)).map fun p => firstFlaw (headFlaws (copyCmd 0).desc 0 ++ p.flaws ++ s.dataFlaws 15 x (copyCmd 0).desc p.plan)) =
      [some (2, 1)] ∧
    emptyMean x (copyCmd 1) = false ∧ emptyMean y meanCmd = true ∧
    ((z.tensorCommands 15 255 y meanCmd).map fun p => (p.ran z 15 y meanCmd).2) = [.done true false] ∧
    (after (.copy 15 [] .none) (s.poke (corePlace 15 0) 9)).peek (corePlace 15 64) = 9 := by decide +kernel

theorem test_wit_KernelArithmetic :
    [Machine.Num.int 1, .int 2].Perm [.int 2, .int 1] ∧ isIntFmt 1 = true ∧ (fmtRange 1).1 ≤ -128 ∧ (127 : Int) ≤ (fmtRange 1).2 ∧
    1 * (5 - 1) + 1 ≤ 1 + 2 + 2 := ⟨List.Perm.swap _ _ _, by decide +kernel⟩

theorem test_wit_TableAndEmit :
    let e : QEnt := ⟨255, 0, 0, none⟩
    let x := jobOf .trial [tableCmd]
    let y := jobOf .trial [emitCmd]
    let a := cored tableCmd
    let b := cored emitCmd
    let fa (c : Cmd) := firstFlaw (headFlaws c.desc 0 ++ tableFlaws c.desc ++ x.regionFlaws c.desc [⟨8, 16 * dLe c.desc 12 2, false⟩])
    let fb (c : Cmd) := firstFlaw (headFlaws c.desc 0 ++ emitFlaws c.desc ++ y.regionFlaws c.desc [⟨8, dLe c.desc 12 2 * fmtBytes (aFmt c.desc), false⟩])
    a.coreHead 15 = some (e, x, tableCmd) ∧ dOp tableCmd.desc = 12 ∧ fa tableCmd = none ∧ fa (copyCmd 0) ≠ none ∧ (a.core 15).book ≠ some e.job ∧
    (({ a with cores := [(15, { queue := [e], book := some 255 })] } : State).core 15).book = some e.job ∧
    (a.readUnits (addUnits 15 [] (x.addr tableCmd.desc 8) 16)).2 = true ∧
    (State.readUnits { a with marks := [(corePlace 15 0, .uncorrectable)] } (addUnits 15 [] (x.addr tableCmd.desc 8) 16)).2 = false ∧
    b.coreHead 15 = some (e, y, emitCmd) ∧ dOp emitCmd.desc = 34 ∧ b.fifoRoom 15 = true ∧ aFmt emitCmd.desc = 10 ∧ isFp 11 = true ∧ isFp 10 = false ∧
    fb emitCmd = none ∧ fb (copyCmd 0) ≠ none ∧ (b.readUnits (addUnits 15 [] (y.addr emitCmd.desc 8) 256)).2 = true ∧ a.marks = [] ∧ b.marks = [] ∧
    ({ on [] with fold := { fifos := [(15, List.replicate 64 ⟨0, 0, 0, false, false, 0, 0, none, none⟩)] } } : State).fifoRoom 15 = false := by decide +kernel

/-- A stem of race 15: one channel, a 1 by 1 window, one S8 weight at 0, a requantisation entry at 64. -/
def Tests.stem : List Byte := desc [(0, 192), (1, 1), (2, 1), (3, 0x11), (4, 1), (5, 1 + 8), (8, 1), (10, 1), (44, 64)]

/-- Slot 4095 of race 15 has a tile of one row and two columns; the requantisation entry has MULT 2^30. -/
def Tests.lambing (l : Lamb) : State :=
  let s := { on ((PX_RGEOM_W 15, 2) :: (PX_RVIEW_VALID 15 0, 1) :: (List.range 16).map fun i => (LB_RSTEM_DESC 15 i, dLe stem (4 * i) 4)) with
    lamb := l
    fold := { slots := [(4095, { st := .closed, race := 15, tile := some 0 })] }
    px := { tiles := [(4095, some { n0 := 0, n1 := 0, p0 := 0, p1 := 0, y0 := 0, ended := true })], views := [(0, { newest := some (9, 0) })] } }
  s.pokeL 64 (leBytes 4 0x40000000 ++ leBytes 4 31 ++ leBytes 8 0)

/-- Lamb unit 3 runs its stream, which has computed nothing yet. -/
def Tests.lambed : State := lambing { units := [(3, .stream 4095)], runs := [(4095, some {})] }

/-- The Lamb engine's queue holds a command of job-table entry 255: the stem as an ordinary layer, or a sort of two entries. -/
def Tests.layerCmd : Cmd := ⟨0, 0, desc [(0, 192), (1, 1), (3, 0x11), (4, 1), (5, 1 + 8), (8, 1), (10, 1), (12, 1), (16, 1), (28, 128), (44, 64)], .queued, 0, 16, none, false⟩
def Tests.sortCmd : Cmd := ⟨0, 0, desc [(0, 193), (1, 1), (8, 2), (10, 2), (28, 64)], .queued, 0, 16, none, false⟩
def Tests.lambQueue (c : Cmd) : State :=
  State.pokeL { on [] with shep := { jobs := [(255, some (jobOf .replay [c]))] }, lamb := { queue := [⟨255, 0, 0, some 5⟩] } } 64
    (leBytes 4 0x40000000 ++ leBytes 4 31 ++ leBytes 8 0)

theorem test_wit_LambEngineRuns :
    let w : State := lambing { streams := [4095] }
    let d := w.streamDesc 4095
    let started := ((State.takeUnit { w with lamb := { w.lamb with streams := [] } } 0 (.stream 4095)).bump LB_STREAMCNT_STREAMS).setRun 4095 { free := w.fabNow }
    let g := readLb (lambed.streamDesc 4095).1
    let x : StreamRun := {}
    w.lamb.streams = 4095 :: [] ∧ w.freeUnit = some 0 ∧ (on []).lamb.streams = [] ∧ w.stemRuns d.1 1 d.2 = true ∧ w.stemRuns (leBytes 64 0) 1 d.2 = false ∧
    (({ started with px := { started.px with tiles := [] } } : State).streamRow 4095 0 (some w.fabNow)).isNone = true ∧
    lambed.lambUnit 3 = .stream 4095 ∧ (on []).lambUnit 3 = .idle ∧ lambed.streamHeight 4095 = some 1 ∧ ({ lambed with px := {} } : State).streamHeight 4095 = none ∧
    lambed.stemRuns (lambed.streamDesc 4095).1 1 (lambed.streamDesc 4095).2 = true ∧ (lambed.readUnits g.tableUnits).2 = true ∧
    (State.readUnits { lambed with marks := [(64, .uncorrectable)] } g.tableUnits).2 = false ∧ lambed.marks = [] ∧ lambed.runOf 4095 = some x ∧
    (lambed.slot 4095).tile = some 0 ∧ x.out.length = x.next ∧ x.next ≤ (g.win 1 (lambed.streamDesc 4095).2).outH ∧
    (lambQueue layerCmd).shep.flush = none ∧ (lambQueue layerCmd).freeUnit = some 0 ∧ (lambQueue layerCmd).lamb.streams = [] ∧ (on []).nextLamb = none ∧
    (lambQueue layerCmd).nextLamb = some (⟨255, 0, 0, some 5⟩, jobOf .replay [layerCmd], layerCmd) ∧ (lambQueue layerCmd).marks = [] ∧
    firstFlaw (lbConvFlaws layerCmd.desc false ++ (lambQueue layerCmd).lbDataFlaws (readLb layerCmd.desc) layerCmd.desc) = none ∧ (readLb layerCmd.desc).mode = 0 ∧
    (State.lbConvRun (lambQueue layerCmd) (jobOf .replay [layerCmd]) layerCmd).2.1 = .done false false ∧
    firstFlaw (lbConvFlaws (copyCmd 1).desc false) = some (5, 3) ∧ dOp (copyCmd 1).desc ≠ 192 ∧
    dOp sortCmd.desc = 193 ∧ firstFlaw (lbSortFlaws (jobOf .replay [sortCmd]) sortCmd.desc) = none ∧ (lambQueue sortCmd).marks = [] := by decide +kernel

/-- What a command whose requantisation entry is beyond correction answers. -/
theorem test_wit_lamb_data_error : (State.lbConvRun { lambQueue layerCmd with marks := [(64, .uncorrectable)] } (jobOf .replay [layerCmd]) layerCmd).2.1 =
    .dataError false := by decide +kernel

/-! ### Jobs, semaphores, contexts -/

/-- A program of one command for client 63: its header at 65536, its base template at 262144 (all zero). -/
def Tests.program (version : Nat) : State :=
  State.pokeL { on [(SH_CSCR_SLOTS 63, 1)] with shep := { waiting := [⟨63, .trial, 8, .host, 65536⟩] } } 65536
    (desc [(0, version), (4, 1), (8, 0x20000), (16, 0x30000), (24, 0x40000)])

/-- A submission of client 62. -/
def Tests.entry : List Byte := leBytes 64 (1 + 62 * 256)

/-- Client 63's submission ring holds that entry. -/
def Tests.submitting (suspect : Nat) : State :=
  State.pokeL { on [(SH_CCFG_EN 63, 1), (SH_CCFG_CLASS 63, 3), (SH_CRING_SUB_RING 63, 8191), (SH_CCFG_EN 62, 1), (SH_CCFG_CLASS 62, 3),
      (SH_CSTAT_SUSPECT 62, suspect)] with
    rings := [(8191, { kind := 1, size := 4, esize := 6, base := 64, prod := 1 })] } 64 entry

/-- Job-table entry 255 has a COPY command to admit, whose destination names a base. -/
def Tests.admitting (place base : Nat) (x : Job) : State :=
  State.pokeL (State.poke { on [] with shep := { jobs := [(255, some { x with next := 0, hdr := { ncmd := 1, cmds := 64, place := 4096 } })] } } 4096
    (BitVec.ofNat 8 place)) 64 (desc [(0, 13), (12, base * 2 ^ 28)])

/-- Whether the command of `admitting` fits its placement. -/
def Tests.fitting (s : State) (run : Option Nat) : Bool :=
  let d := s.peekN 64 64
  let p := (s.peek 4096).toNat
  plOk p (dOp d) && (!run.isSome || plCs p) && (!plCs p || plEnd p) && (plCs p || !namesFoot d)

theorem test_wit_JobsEnterTheTable :
    let q : JobReq := ⟨63, .trial, 8, .host, 65536⟩
    let s := program 1
    let u := (submitting 0).takeEntry ((submitting 0).fld (SH_CRING_SUB_RING 63))
    let x := jobOf .trial []
    s.shep.flush = none ∧ s.nextEntry = some q ∧ s.freeJob = some 0 ∧ s.freeScratch 63 = some 0 ∧ s.progAddr q = 65536 ∧ s.marks = [] ∧
    (decodeHdr (s.peekN 65536 64)).map ProgHdr.bases = some 262144 ∧ (on []).nextEntry = none ∧
    templateOk (s.peekN 262144 256) = true ∧ templateOk (leBytes 16 0 ++ leBytes 240 (2 ^ 97)) = false ∧
    decodeHdr ((program 2).peekN 65536 64) = none ∧ (program 2).nextEntry = some q ∧
    (submitting 0).inWarm = false ∧ (at_ (.warm 2) []).inWarm = true ∧ (on []).clientClass 63 ≠ .housekeeping ∧
    (submitting 0).isOn (SH_CCFG_EN 63) = true ∧ (submitting 0).suspect 63 = false ∧ (65536#64).toNat % 64 = 0 ∧ (65537#64).toNat % 64 ≠ 0 ∧
    (submitting 0).clientClass 63 = .housekeeping ∧ u.2 = some entry ∧ ((u.1).takeEntry 8191).2 = none ∧
    submissionOk entry = true ∧ submissionOk (leBytes 64 (1 + 64 * 256)) = false ∧ dByte entry 1 = 62 ∧ u.1.isOn (SH_CCFG_EN 62) = true ∧
    u.1.suspect 62 = false ∧ u.1.clientClass 62 = .housekeeping ∧ (submitting 1).suspect 62 = true ∧
    (admitting 3 14 x).sbUsed < 512 ∧ (admitting 3 14 x).marks = [] ∧ (on []).job 255 = none ∧
    ((admitting 3 14 x).job 255).any (fun y => decide (y.next < y.hdr.ncmd ∧ y.next - y.oldest < 64) && y.ended.isNone) = true ∧
    fitting (admitting 3 14 x) none = true ∧ fitting (admitting 0 0 x) none = true ∧ fitting (admitting 2 0 x) none = false ∧
    fitting (admitting 1 0 x) none = false ∧ fitting (admitting 0 14 x) none = false ∧ fitting (admitting 0 0 x) (some 0) = false ∧
    ((after (.scoreboardAdmit 255 []) (admitting 3 14 x)).job 255).any (fun y => decide (y.cmds.length = 1)) = true := by decide +kernel

/-- A waiting COPY command; one whose context stands saved; its job on a module with save slots. -/
def Tests.waitingCmd (saved : Bool) : Cmd := { copyCmd 1 with st := .waiting, slot := some 0, saved := saved }
def Tests.placing (cls : JobClass) (saved : Bool) : State :=
  { on [(SH_SAVE_SLOTS, 2), (SH_CFG_QAHEAD, 2), (SH_CFG_TSLICE_US, 100), (SH_CCFG_EN 5, 1)] with shep := { jobs := [(255, some (jobOf cls [waitingCmd saved]))] } }

/-- Core 0 stands in client 5's slice. -/
def Tests.sliced (s : State) : State := { s with cores := [(0, { slice := some (5, 900) })] }

/-- Every core is fenced; a module none of whose cores but core 15 is in service, where a command of client 9 runs. -/
def Tests.fenced : State := on ((List.range 16).map fun k => (CR_FENCE_FENCED k, 1))
def Tests.crowded : State :=
  { on ((SH_SAVE_SLOTS, 2) :: (SH_CFG_QAHEAD, 1) :: (List.range 15).map fun k => (CR_FENCE_FENCED k, 1)) with
    shep := { jobs := [(3, some { jobOf .trial [copyCmd 1] with client := 9 }), (255, some (jobOf .realtime [waitingCmd false]))] }
    cores := [(15, { queue := [⟨3, 0, 0, some 9⟩, ⟨3, 0, 0, some 9⟩], slice := some (9, 900) })] }

/-- A command that has taken effect, on a Lamb unit. -/
def Tests.executedCmd : Cmd := { copyCmd 1 with st := .executed }
def Tests.onLamb : State :=
  { on [] with shep := { jobs := [(255, some (jobOf .trial [executedCmd]))] }, lamb := { units := [(3, .command ⟨255, 0, 0, none⟩)] } }

/-- The last FIFO of the collector holds a result of job-table entry 255, or of a job that has gone. -/
def Tests.collecting (job : Nat) : State :=
  { on [] with
    shep := { jobs := [(255, some (jobOf .trial [{ copyCmd 1 with st := .emitting }]))] }
    fold := { fifos := [(17, [⟨77, 5, 15, true, false, 3, 9, some job, some 0⟩])] } }

theorem test_wit_CommandsArePlacedAndComplete :
    let p := placing .realtime
    let t := placing .trial false
    (∀ b ∈ [false, true], (rotate 16 (p b).shep.corePtr).find? (fun k => (p b).canTake k && ((p b).bestRealtime k).isSome) = some 0 ∧
      (p b).bestRealtime 0 = some (255, waitingCmd b)) ∧
    (∀ k < 16, (crowded.canTake k && (crowded.bestRealtime k).isSome) = false) ∧ crowded.savesRunning < crowded.realtimeWaiting ∧ crowded.victim = some 15 ∧
    (∀ k < 16, (fenced.serveCore k).isNone = true) ∧ fenced.realtimeWaiting ≤ fenced.savesRunning ∧ fenced.victim = none ∧
    (rotate 16 t.shep.corePtr).find? (fun k => (t.serveCore k).isSome) = some 0 ∧ t.canTake 0 = true ∧ t.bestRealtime 0 = none ∧
    (t.core 0).slice = none ∧ t.lowestPass 0 none = some 5 ∧ t.oldestOffer 0 5 = some (255, waitingCmd false) ∧
    (sliced t).canTake 0 = true ∧ (sliced t).bestRealtime 0 = none ∧ ((sliced t).core 0).slice = some (5, 900) ∧ (sliced t).clk.enc < 900 ∧
    (sliced t).oldestOffer 0 5 = some (255, waitingCmd false) := by decide +kernel

theorem test_wit_CommandsComplete :
    let e : QEnt := ⟨255, 0, 0, none⟩
    let full : State := { onLamb with fold := { fifos := [(16, List.replicate 64 ⟨0, 0, 0, false, false, 0, 0, none, none⟩)] } }
    (cored executedCmd).headCmd 15 = some (e, jobOf .trial [executedCmd], executedCmd) ∧ (on []).headCmd 15 = none ∧
    (cored (copyCmd 1)).headCmd 15 = some (e, jobOf .trial [copyCmd 1], copyCmd 1) ∧ (copyCmd 1).st ≠ .executed ∧
    onLamb.lambUnit 3 = .command e ∧ onLamb.job 255 = some (jobOf .trial [executedCmd]) ∧
    (jobOf .trial [executedCmd]).cmds.find? (fun d => decide (d.idx = 0)) = some executedCmd ∧
    (jobOf .trial [executedCmd]).hdr.ncmd ≤ (jobOf .trial [executedCmd]).next ∧ Tab.get none onLamb.lamb.emits 3 = none ∧ full.fifoRoom 16 = false ∧
    (∀ j ∈ [254, 255], (rotate 18 (collecting j).fold.fifoPtr).find? (fun f => !(Tab.get [] (collecting j).fold.fifos f).isEmpty) = some 17) ∧
    ((collecting 255).job 255).isSome = true ∧ (collecting 254).job 254 = none ∧
    (cored (copyCmd 1)).inService 15 = true ∧ fenced.inService 15 = false ∧ ((cored (copyCmd 1)).core 15).queue ≠ [] := by decide +kernel

/-- A SEM command of an operation, or a WAIT, on semaphore 255 with value 4; the job's client may name semaphores up to `hi`. -/
def Tests.semCmd (op f v : Nat) : Cmd := ⟨0, 0, desc [(0, op), (1, 1), (2, f), (8, 255), (12, v), (16, if op = 32 ∧ f = 2 then 8191 else 0),
  (20, if op = 32 ∧ f = 2 then v else 0)], .waiting, 0, 16, none, false⟩
def Tests.semaphored (c : Cmd) (hi : Nat) : State :=
  { on [(SH_CCFG_SEM_HI 5, hi), (SH_SEM_VALUE 255, 4)] with shep := { jobs := [(255, some (jobOf .trial [c]))] }
                                                            rings := [(8191, { kind := 1, size := 4 })] }

theorem test_wit_SemaphoresAndWaits :
    (∀ c ∈ [semCmd 32 0 9, semCmd 32 1 4294967295, semCmd 33 4 4, semCmd 33 0 4, semCmd 33 0 5, semCmd 32 2 16, semCmd 32 2 17],
      (semaphored c 255).firstEligible (jobOf .trial [c]) (fun c => isShepOp (dOp c.desc)) = some c ∧ shepCheck c.desc 0 = none ∧
      (semaphored c 255).semAllowed 5 255 = true) ∧
    (semaphored (semCmd 33 4 4) 255).waitHolds (semCmd 33 4 4).desc = true ∧ (semaphored (semCmd 33 0 4) 255).waitHolds (semCmd 33 0 4).desc = true ∧
    (semaphored (semCmd 33 0 5) 255).waitHolds (semCmd 33 0 5).desc = false ∧
    idxDiff 16 ((semaphored (semCmd 32 2 16) 255).ring 8191).cons = 2 ^ ((semaphored (semCmd 32 2 16) 255).ring 8191).size ∧
    2 ^ ((semaphored (semCmd 32 2 17) 255).ring 8191).size < idxDiff 17 ((semaphored (semCmd 32 2 17) 255).ring 8191).cons ∧
    (semaphored (semCmd 33 0 4) 254).semAllowed 5 255 = false ∧
    (∀ c ∈ [semCmd 33 3 4, semCmd 32 3 4], (shepCheck c.desc 0).isSome = true ∧
      (semaphored c 255).firstEligible (jobOf .trial [c]) (fun c => isShepOp (dOp c.desc)) = some c) ∧
    (∀ f ∈ [0, 4], (semaphored { semCmd 33 f 4 with st := .pending } 255).readyWait = some (255, { semCmd 33 f 4 with st := .pending })) ∧
    (on []).readyWait = none ∧ (on []).shep.flush = none ∧ (on []).job 255 = none := by decide +kernel

/-- Core 15 is in client `o`'s slice, ending at cycle 900, with a command of client 5 at its head and one of client 9 waiting, in client 9's pass `p`. -/
def Tests.slicing (o p : Nat) (c : Cmd) : State :=
  { on [(SH_SAVE_SLOTS, 2), (SH_CFG_QAHEAD, 2), (SH_CCFG_EN 5, 1), (SH_CCFG_EN 9, 1)] with
    shep := { jobs := [(3, some { jobOf .trial [waitingCmd false] with client := 9 }), (255, some (jobOf .trial [c]))], pass := [(5, 7), (9, p)] }
    cores := [(15, { queue := [⟨255, 0, 0, some 5⟩], slice := some (o, 900), sliceStart := 900 })] }

/-- Core 15 saves, or restores, the context of a command, of which one accumulator counts. -/
def Tests.moving (x : Transfer) : State := { cored { copyCmd 1 with slot := some 1 } with cores := [(15, { xfer := x, prog := { acc := [7] } })] }

theorem test_wit_ContextsSlicesAndFlushes :
    let e : QEnt := ⟨255, 0, 0, none⟩
    let c : Cmd := { copyCmd 1 with slot := some 0 }
    let low := slicing 5 8 c
    let high := slicing 5 1 c
    let other := slicing 7 1 c
    let alone : State := { on [] with cores := [(15, { slice := some (9, 900) })] }
    let later := slicing 7 (2 ^ 64 - 1) c
    let nobody : State := { on [] with cores := [(15, { slice := some (64, 900) })] }
    let now (s : State) := s.advanceTo 900
    ((on []).core 15).slice = none ∧ (low.core 15).slice = some (5, 900) ∧ low.headCmd 15 = some (⟨255, 0, 0, some 5⟩, jobOf .trial [c], c) ∧
    (now low).preemptible 15 = true ∧ (now (slicing 5 8 { c with st := .executed })).preemptible 15 = false ∧
    ((now low).endSlice 15).lowestPass 15 (some 5) = some 5 ∧ ((now high).endSlice 15).lowestPass 15 (some 5) = some 9 ∧
    ((now other).endSlice 15).lowestPass 15 (some 7) = some 7 ∧ ((now later).endSlice 15).lowestPass 15 (some 7) = some 9 ∧
    ((now nobody).endSlice 15).lowestPass 15 (some 64) = none ∧ nobody.headCmd 15 = none ∧
    alone.headCmd 15 = none ∧ ((now alone).endSlice 15).lowestPass 15 (some 9) = some 9 ∧
    low.partsReady ⟨255, 0, 0, some 5⟩ (jobOf .trial [c]) c = true ∧ low.partCores ⟨255, 0, 0, some 5⟩ = [15] ∧
    ((moving (.save e)).core 15).xfer = .save e ∧ ((moving (.save e)).job 255).isSome = true ∧ 4 * ((moving (.save e)).core 15).prog.acc.length ≤ 131072 ∧
    ((moving (.restore e)).core 15).xfer = .restore e ∧ ((moving (.restore e)).job 255).isSome = true ∧ (moving (.restore e)).marks = [] ∧
    (on []).phase ≠ .off ∧ ((on []).core 15).xfer = .none ∧ (low.job 255).isSome = true := by decide +kernel

/-! ### DMA, field input and output -/

/-- Channel 63's ring holds one descriptor of an operation: 3 bytes from 128, to 4096 or elsewhere. -/
def Tests.dma (op src dst value : Nat) : State :=
  State.pokeL { on [(DM_CHCFG_EN 63, 1), (DM_CHCFG_DESC_RING 63, 8191)] with rings := [(8191, { kind := 1, size := 4, esize := 6, base := 64, prod := 1 })] } 64
    (desc [(0, 1), (1, op), (8, src), (16, dst), (24, 3), (28, value)])

/-- What a channel would read from its ring. -/
def Tests.descOf (s : State) : List Byte := s.peekN 64 64

theorem test_wit_DmaChannelsAndRings :
    (∀ s ∈ [dma 0 128 4096 0, dma 1 0 4096 7, dma 2 128 4096 0], s.dmaReady 63 = true ∧ (s.ring 8191).entryAddr 0 = 64 ∧ (∀ u ∈ unitsOf 64 64, s.mark u = .clean) ∧
      (readDma (descOf s)).legal (descOf s) = true ∧ (readDma (descOf s)).inMap (s.isOn (DM_CHCFG_PRIV 63)) = true ∧ inEveryCore (readDma (descOf s)).dst = false ∧
      s.marks = [] ∧ s.isOn (DM_CHCFG_PRIV 63) = false) ∧
    (let b := descOf (dma 3 128 4096 0)
     (readDma b).op = 3 ∧ (readDma b).legal b = false ∧ (dma 3 128 4096 0).dmaReady 63 = true) ∧ (on []).dmaReady 63 = false ∧
    (let b := descOf (dma 0 128 0x2500280000 0)
     (readDma b).legal b = true ∧ inEveryCore (readDma b).dst = true ∧ (readDma b).inMap true = true ∧
     inEveryCore (readDma (descOf (dma 1 0 0x2500280000 0))).dst = true) ∧
    (readDma (descOf (dma 0 128 130 0))).legal (descOf (dma 0 128 130 0)) = false ∧ (readDma (descOf (dma 0 128 131 0))).legal (descOf (dma 0 128 131 0)) = true ∧
    (readDma (descOf (dma 0 128 0x7EFFFFFFD 0))).inMap false = true ∧ (readDma (descOf (dma 0 128 0x7EFFFFFFE 0))).inMap false = false ∧
    (on [(DM_CHSTAT_STATE 63, 2)]).fld (DM_CHSTAT_STATE 63) = 2 ∧ ((dma 0 128 4096 0).ring 8191).empty = false ∧ ((dma 0 128 4096 0).ring 8191).out = false ∧
    (on [(DM_CHSTAT_STATE 63, 1)]).fld (DM_CHSTAT_STATE 63) ≠ 2 ∧ ((on []).ring 8191).idxAddr = 0 ∧
    (let s := State.pokeL (ringed { kind := 2, size := 4, prod := 5, idxAddr := penBase + 0x8000 }) (penBase + 0x8004) [5]
     (s.ring 8191).modProduces = true ∧ s.peekLe (penBase + 0x8004) 4 = 5 ∧ (s.ring 8191).out = false ∧ (s.ring 8191).used = 5) ∧
    (on []).ringsUp = true ∧ (at_ (.warm 2) []).ringsUp = true ∧ (at_ (.warm 3) []).ringsUp = false ∧
    (let s := State.pokeL (ringed { kind := 1, size := 4, idxAddr := penBase + 0x8000 }) (penBase + 0x8000) [16]
     (s.ring 8191).modProduces = false ∧ s.peekLe (penBase + 0x8000) 4 = 16 ∧ idxDiff 16 (s.ring 8191).cons = 2 ^ (s.ring 8191).size) ∧
    (let s := State.pokeL (ringed { kind := 1, size := 4, idxAddr := penBase + 0x8000, bad := some 18 }) (penBase + 0x8000) [17]
     2 ^ (s.ring 8191).size < idxDiff (s.peekLe (penBase + 0x8000) 4) (s.ring 8191).cons ∧ (s.ring 8191).bad ≠ some (s.peekLe (penBase + 0x8000) 4)) := by
  decide +kernel

/-- A frame on its way to the field die, and the die's uplink frame. -/
def Tests.field (d : Die) (l : FieldLink) : State := { on [(FI_LINK_FIELD_LOST, 0)] with die := d, link := l }

/-- A downlink frame with one start edge on output 15. -/
def Tests.down : List Byte := downBytes 7 0x8000 [{ out := 15, start := true, step := 160 }] 0 9 true

/-- The uplink frame that a field die answers a window with. -/
def Tests.upFrame : List Byte := (after (.fieldWindowOpen 0x8001) (field { next := some (readDown down), aligned := true } {})).die.uplink

theorem test_wit_IsolationLinkCarriesFrames :
    goodFrame down = true ∧ disturb down 0 = down ∧ goodFrame (disturb down 1) = false ∧ (field {} { lastDown := down }).link.lastDown = down ∧
    (field { good := 3 } {}).die.good = 3 ∧ (field { good := 2 } {}).die.aligned = false ∧ (field { good := 2 } {}).die.good < 3 ∧
    (field {} {}).fold.late = [] ∧ (field {} {}).fold.lateMerged = [] ∧ (field {} {}).die.cur = none ∧
    (let n : State := { on [] with variant := .n, pins := { (on []).pins with ejtEdges := [{ out := 15, start := true, step := 160 }] } }
     n.addLate.pins.ejtEdges = [{ out := 15, start := true, step := 160 }] ∧ ({ on [] with variant := .n } : State).addLate.pins.ejtEdges = []) ∧
    (readDown down).edges = [⟨160, false, 15⟩] ∧ (field { cur := some (readDown down), aligned := true } {}).die.heldOff = true ∧
    (field { cur := some (readDown down), aligned := true, cfgok := true, supply := 0 } {}).die.heldOff = false ∧
    (field {} {}).die.ready = none ∧ (field { ready := some (18, 5) } {}).die.ready = some (18, 5) ∧ (field { ready := some (255, 0) } {}).die.ready = some (255, 0) ∧
    (field { ready := some (20, 5) } {}).die.ready = some (20, 5) ∧ (field {} {}).dieFilt 3 ≠ 5 ∧ (field { supply := 1, nextSupply := 2 } {}).die.nextSupply = 2 ∧
    8 ≤ (field { miss := 8 } {}).die.miss ∧ (field { miss := 7 } {}).die.miss < 8 ∧ 8 ≤ (field { bad := 8 } {}).die.bad ∧ (field { bad := 7 } {}).die.bad < 8 ∧
    (field {} { bad := 7, lost := 7, back := 63 }).link.bad < 8 ∧
    8 ≤ (field {} { bad := 8, lost := 8, back := 64 }).link.bad ∧ goodFrame upFrame = true ∧ disturb upFrame 0 = upFrame ∧ goodFrame (disturb upFrame 1) = false ∧
    goodFrame (field {} {}).die.uplink = false ∧ (field {} { good := 2 }).fld FI_LINK_STATE ≠ 2 ∧ (field {} { good := 2 }).link.good < 3 ∧
    (on [(FI_LINK_STATE, 2)]).fld FI_LINK_STATE = 2 ∧ (field {} { lost := 8 }).link.lost = 8 ∧ (field {} { prevLost := true }).link.prevLost = true ∧
    (field {} {}).link.prevLost = false ∧ 3 ≤ (field {} { good := 3 }).link.good ∧ (field {} {}).isOn FI_LINK_FIELD_LOST = false ∧
    64 ≤ (field {} { back := 64 }).link.back ∧ (on []).isOn FI_LINK_FIELD_LOST = true := by
  decide +kernel

theorem test_wit_no_joined_pair (o : Nat) : (field { cur := some (readDown down), aligned := true, cfgok := true, supply := 0 } {}).die.paired o = false := by
  have h : (field { cur := some (readDown down), aligned := true, cfgok := true, supply := 0 } {}).die.pairMask = 0 := by decide +kernel
  simp [Die.paired, h]

theorem test_wit_FieldTerminalsAndHealthy :
    (field {} {}).variant = .f ∧ ({ conf := [(16, 8388608)] } : Die).wbEn 15 = true ∧ ({ conf := [(16, 8388607)] } : Die).wbEn 15 = false ∧
    (field { drive := 0x8000 } {}).die.drive.testBit 15 = true ∧ (field { drive := 0x8000 } {}).die.tripped.testBit 15 = false ∧
    (field { drive := 0x8000, tripped := 0x8000 } {}).die.tripped.testBit 15 = true ∧ (field { drive := 0x8000 } {}).die.conducts 15 = true ∧
    (field { drive := 0x8000, tripped := 0x8000 } {}).die.conducts 15 = false ∧ ({ on [] with variant := .n } : State).variant = .n ∧ (on []).phase ≠ .off := by decide +kernel


/-! ### Packages, recovery, identity, supervision -/

/-- A module whose flash and image copy hold that image, with candidate slots of a size in MiB, and a package request at the front. -/
def Tests.packaged (mib : Nat) (states : Nat) (q : PkgReq) (c : SlotContent) : State :=
  let s : State := { on [(MG_CANDCFG_SLOTS, 4), (MG_CANDCFG_SLOT_MIB, mib), (MG_CANDCFG_BASE, 16), (MG_PKGSTAT_SLOTSTATE, states), (SH_CCFG_CLASS 63, 2)] with
    pkg := { queue := [q], slots := [(3, c)], client := [(3, 63)] } }
  ((s.setFlash 0 header.bytes).pokeL (copyBase + fwOfs) fwSection).pokeL (copyBase + custOfs) custSection

/-- A request of an operation on slot 3 for client 63. -/
def Tests.pkgReq (op : Nat) : PkgReq := ⟨op, 3, 63, false, 255⟩

/-- The customer section stands in slot 3 as well. -/
def Tests.promoting : State :=
  let s := packaged 1 64 (pkgReq 4) (.section_ [] 256)
  s.pokeL (s.candAddr 3) custSection

set_option maxRecDepth 100000 in
/-- Requests whose content depends on the signature and hash functions of Config meet the other hypotheses; which of their clauses applies, those
functions decide. -/
theorem test_wit_PackageRequests :
    let a : State := packaged 1 0 (pkgReq 1) .none
    let b := packaged 0 64 (pkgReq 2) (.package [])
    let p := readPack (b.peekN (b.candAddr 3) b.candSize)
    let b' := b.setFld (SH_CCFG_CLASS 63) 1
    let d := packaged 1 128 (pkgReq 3) (.package [])
    (on []).pkg.queue = [] ∧ (at_ .paddock []).phase ≠ .running ∧ (on []).pkg.verify = none ∧ (on []).pkg.flash = none ∧
    (packaged 1 0 (pkgReq 6) .none).pkg.queue = [pkgReq 6] ∧ (pkgReq 6).op = 6 ∧ (on []).candSlots ≤ 3 ∧ a.content 3 = .none ∧ b.marks = [] ∧
    a.phase = .running ∧ a.pkg.verify = none ∧ a.pkg.queue = [pkgReq 1] ∧ (3 < a.candSlots) ∧ a.slotState 3 = 0 ∧
    b.slotState 3 = 1 ∧ b.content 3 = .package [] ∧
    b'.slotState 3 = 1 ∧ b'.content 3 = .package [] ∧ b'.candSize = b.candSize ∧
    b'.admitFlaws 63 p (b'.peekN (b'.candAddr 3) p.size) (p.relocate (b'.peekN (b'.candAddr 3) p.size) (b'.candSite 3)).isSome = [] ∧
    (b.admitFlaws 63 p (b.peekN (b.candAddr 3) p.size) (p.relocate (b.peekN (b.candAddr 3) p.size) (b.candSite 3)).isSome).length = 1 ∧
    d.slotState 3 = 2 ∧ d.isOn (SH_CCFG_EN (Tab.get 64 d.pkg.client 3)) = false ∧
    (d.setFld (SH_CCFG_EN 63) 1).isOn (SH_CCFG_EN (Tab.get 64 d.pkg.client 3)) = true ∧
    promoting.slotState 3 = 1 ∧ promoting.content 3 = .section_ [] 256 ∧ promoting.pkgState = 0 ∧ promoting.image.write = none ∧
    (packsBad (promoting.peekN (promoting.candAddr 3) 256)).isSome = false ∧
    (rangeBad promoting.variant promoting.imageNow.1 (promoting.peekN (promoting.candAddr 3) 256)).isSome = false ∧
    ({ promoting with pkg := { promoting.pkg with ready := some 3 } } : State).pkgState = 3 ∧
    (let w : State := { promoting with image := { promoting.image with write := some ⟨3, 0, 0, 255⟩ } }
     w.image.write.isSome = true) ∧
    (State.read { b with marks := [(b.candAddr 3, .uncorrectable)] } (b.candAddr 3) 64).2 = none ∧
    ({ a with pkg := { verify := some (pkgReq 1), flash := some (pkgReq 4) } } : State).pkg.verify = some (pkgReq 1) ∧
    (promoting.imageBurns promoting.imageNow.1 (promoting.peekN (promoting.candAddr 3) 256) true).2 = true := by decide +kernel

/-- A module with a recovery queue in a phase, whose DDR5 is trained. -/
def Tests.recovering (p : Phase) (f : List (Fld × Nat)) (l : List PadReq) : State :=
  let s := on f
  { s with phase := p, image := { s.image with ddrUp := true, recovery := l } }

/-- The staged image: the header and the sections above in the image copy area, as the bytes of theirs that are not zero. -/
def Tests.staged (f : List (Fld × Nat)) (q : PadReq) : State :=
  let s := on f
  let s : State := { s with image := { s.image with ddrUp := true, check := some q, write := some q } }
  (((s.pokeL copyBase (header.bytes.take 20)).pokeL (copyBase + 252) (header.bytes.drop 252)).pokeL (copyBase + fwOfs) (fwSection.take 16)).pokeL
    (copyBase + custOfs) (custSection.take 24)

set_option maxRecDepth 100000 in
/-- What a CHECK of that image finds is decided by the hash and signature functions of Config; the other hypotheses are met here. -/
theorem test_wit_RecoveryRequests :
    let q (op len ofs : Nat) : PadReq := ⟨op, len, ofs, 255⟩
    let a := recovering .running [] [q 1 1 0]
    let c := recovering .paddock [] [q 2 0 0]
    let w (p : Nat) := recovering .running [(MG_PADSTAT_PHASE, p)] [q 3 0 0]
    let t := staged [] (q 2 0 0)
    a.servingAll = true ∧ (at_ (.warm 2) []).servingAll = false ∧ ({ a with image := { a.image with ddrUp := false } } : State).image.ddrUp = false ∧
    (on []).image.recovery = [] ∧ (recovering .running [] [q 5 0 0]).image.recovery = [q 5 0 0] ∧ (on []).staged? = none ∧
    a.image.check = none ∧ a.image.write = none ∧ a.image.recovery = [q 1 1 0] ∧ a.image.ddrUp = true ∧ a.marks = [] ∧
    (0 * 64 + 1 ≤ 251658240) ∧ ((q 1 64 3932159).ofs * 64 + (q 1 64 3932159).len = 251658240) ∧
    (251658240 < (q 1 65 3932159).ofs * 64 + (q 1 65 3932159).len) ∧
    c.phase = .paddock ∧ c.lifeNow ≠ 4 ∧ (w 2).pkg.flash = none ∧ (w 2).padPhase = 2 ∧ (w 1).padPhase ≠ 2 ∧
    (recovering .running [(MG_PADSTAT_PHASE, 4)] [q 4 0 0]).padPhase = 4 ∧ (recovering .running [] [q 4 0 0]).padPhase ≠ 4 ∧
    ({ a with image := { a.image with check := some (q 2 0 0) } } : State).staged? = none ∧
    t.image.check = some (q 2 0 0) ∧ t.image.write = some (q 2 0 0) ∧ t.staged? = some (header, fwSection, custSection) ∧
    (((t.setFlash fwOfs fwSection).setFlash custOfs custSection).imageBurns fwSection custSection true).2 = true := by decide +kernel

/-- A module with an identity request, a state of the identity, and spent leaves. -/
def Tests.identified (st sigs spent : Nat) (q : IdReq) : State :=
  { on [(MG_IDSTAT_STATE, st), (MG_IDSTAT_SIGS, sigs)] with ident := { spent := spent, queue := [q] } }

theorem test_wit_IdentitySupervisionAndPower :
    let q (op dest : Nat) : IdReq := ⟨op, dest, 255⟩
    let a := identified 1 8190 1023 (q 1 0)
    let p (l : List (Fld × Nat)) : State := { on ((MG_PWRSTAT_PROFILE, 2) :: (MG_PWRSTAT_STRAP, 2) :: l) with clk := { enc := 400000 } }
    a.servingAll = true ∧ (at_ (.warm 2) []).servingAll = false ∧ (on []).ident.queue = [] ∧ (identified 1 0 0 (q 3 0)).ident.queue = [q 3 0] ∧
    (identified 1 8191 1023 (q 1 0)).fld MG_IDSTAT_SIGS = 8191 ∧ (identified 1 0 0 (q 2 16384)).ident.queue = [q 2 16384] ∧
    (q 2 16384).fits (a.cert.length + 1) = false ∧
    a.phase = .running ∧ a.ident.waiting = none ∧ a.ident.queue = [q 1 0] ∧ a.fld MG_IDSTAT_STATE = 1 ∧ (q 1 16297).fits 5556 = true ∧
    (q 1 16298).fits 5556 = false ∧ a.ident.spent < 1024 ∧ a.fld MG_IDSTAT_SIGS = 8190 ∧ a.marks = [] ∧ a.image.runFw.length ≤ 32 ∧
    a.image.runCust.length ≤ 32 ∧ 1024 ≤ (identified 1 0 1024 (q 1 0)).ident.spent ∧ (identified 2 0 0 (q 1 0)).fld MG_IDSTAT_STATE = 2 ∧
    (identified 3 0 0 (q 2 0)).fld MG_IDSTAT_STATE = 3 ∧ (q 2 0).fits (identified 3 0 0 (q 2 0)).cert.length = true ∧
    ({ a with ident := { waiting := some (q 1 0) } } : State).ident.waiting = some (q 1 0) ∧
    (let b : State := { p [(MG_THRSTAT_DUTY, 1)] with clk := { enc := 4000000 }, health := { coolFrom := some 0 } }
     b.health.coolFrom = some 0 ∧ 2000000 + 0 ≤ b.clk.enc ∧ 0 < b.fld MG_THRSTAT_DUTY) ∧
    (p [(MG_THRSTAT_STEP, 1)]).capStep < (p [(MG_THRSTAT_STEP, 1)]).fld MG_THRSTAT_STEP ∧ (p []).fld MG_THRSTAT_DUTY = 0 ∧
    (on []).cpsRun = true ∧ (on []).phase = .running ∧ (on []).health.cpu = 0 ∧ (on []).health.pass = 0 ∧
    ({ on [] with health := { cpu := 3, passes := 1, passTime := 7 } } : State).health.cpUntilCold = false ∧ (on []).clk.enc ≤ 200000 + 7 ∧
    profilePower ((p []).fld MG_PWRSTAT_PROFILE) = 4500 ∧ (p []).health.coolFrom = none ∧
    ¬(115 * 4500 < 100 * 5175 ∨ 97 * 4500 < 100 * 4365) ∧ 115 * 4500 < 100 * 5176 ∧ 100 * 3599 < 80 * 4500 ∧
    (105#8).toInt = 105 ∧ (104#8).toInt < 105 ∧ 200000 + (p []).health.thrChange ≤ max (p []).clk.enc (20000 + (p []).health.thrTime) ∧
    (p [(MG_THRSTAT_STEP, 2)]).fld MG_THRSTAT_STEP < 3 ∧ (p [(MG_THRSTAT_STEP, 3), (MG_THRSTAT_DUTY, 3)]).fld MG_THRSTAT_STEP = 3 ∧
    (p [(MG_THRSTAT_STEP, 3), (MG_THRSTAT_DUTY, 3)]).fld MG_THRSTAT_DUTY < 4 ∧
    (3#32).toNat % 4 = 3 ∧ (p []).fld MG_PWRSTAT_STRAP = 2 ∧ (p [(MG_PWRSTAT_STRAP, 1)]).fld MG_PWRSTAT_STRAP < (2#32).toNat % 4 := by
  decide +kernel

/-! ## Worked examples of the spec -/

/-- The requantiser's examples (R212, R219): a tie to even, the wide code, a clip, and a tie in the wide code. -/
theorem test_requantise :
    requant ⟨0x60000000, 40, -6, 519⟩ 1 0 0 (.int 23033) = (28, false) ∧ requant ⟨0x60000000, 40, -6, 519⟩ 5 0 4 (.int 23033) = (456, false) ∧
    requant ⟨0x60000000, 40, -6, 0⟩ 1 0 0 (.int 200000) = (127, true) ∧ requant ⟨0x60000000, 40, -6, 0⟩ 5 0 4 (.int 200000) = (4592, false) := by
  decide +kernel

/-- Four pixels of a coded stripe (R526, R527). -/
theorem test_fleece_stripe : bytesOfBits 5 (encodeRows 8 none [[100, 102, 101, 150]] (Adapt.start 8)) = [0x00, 0x07, 0x92, 0x10, 0x24] ∧
    decodeStripe 8 0 4 1 [0x00, 0x07, 0x92, 0x10, 0x24] = some [[100, 102, 101, 150]] := by decide +kernel

/-- The index block and entry 5,000 of the ring that a host reads (R459). -/
theorem test_host_burst_addresses :
    let s (bank row : Nat) : State := { on [] with host := { (on []).host with rows := Tab.set 0 [] bank row } }
    ((s 0 1).burst 0 2 false).1 = some 0x8040 ∧ ((s 14 8).burst 14 8 false).1 = some 0x47100 := by decide +kernel

end
end

section
/-! PROOFS. The epoch control register PX_EPOCHCTL: its description, the command that a write of it is, and its silence outside READY (R178). -/

namespace Sys2Proof.Machine

/-! ## Commands and register writes -/

/-- A command of a module out of reset is its effect. -/
theorem State.whenOn_of_on {s : State} (hon : s.phase ≠ .off) (f : State → State) : s.whenOn f = .next (f s) := by
  rw [State.whenOn, if_neg hon]

theorem exec_registerWrite_of_on {s : State} (hon : s.phase ≠ .off) (agent : Fin 5) (a v : BitVec 32) :
    exec (.registerWrite agent a v) s = .next (s.registerWrite agent a.toNat v.toNat) := State.whenOn_of_on hon _

theorem exec_approve_of_on {s : State} (hon : s.phase ≠ .off) : exec .approve s = .next s.approve := State.whenOn_of_on hon _

theorem exec_discard_of_on {s : State} (hon : s.phase ≠ .off) : exec .discard s = .next s.discard := State.whenOn_of_on hon _

/-- A register that is not 64 bits wide takes a 32-bit write whole, under its own rule (R8, R64). -/
theorem State.registerWrite_of_regAt {s : State} {a : Nat} {d : RegDesc} (ha : a % 4 = 0) (hd : s.regAt a = some d) (hw : d.width ≠ 64)
    (agent v : Nat) : s.registerWrite agent a v = s.regWrite agent d a (v % 2 ^ 32) := by
  simp [State.registerWrite, State.write32, ha, hd, hw]

/-! ## PX_EPOCHCTL -/

/-- The row of PX_EPOCHCTL in the register map. -/
def epochCtlDesc : RegDesc := ⟨"PX_EPOCHCTL", PX_EPOCHCTL, (0, 1), (0, 1), 32, [⟨1, 1, .wo, 0, true, .any⟩, ⟨0, 1, .wo, 0, true, .any⟩]⟩

theorem descAt_epochCtl : descAt PX_EPOCHCTL = some epochCtlDesc := by decide

/-- Every variant has PX_EPOCHCTL. -/
theorem State.regAt_epochCtl (s : State) : s.regAt PX_EPOCHCTL = some epochCtlDesc := by
  have present : s.absent PX_EPOCHCTL = false := by simp [State.absent, PX_EPOCHCTL]
  rw [State.regAt, present, descAt_epochCtl]
  rfl

/-- A write of PX_EPOCHCTL is APPROVE or DISCARD by its two bits, APPROVE before DISCARD. -/
theorem State.regWrite_epochCtl (s : State) (agent a v : Nat) :
    s.regWrite agent epochCtlDesc a v = if bit v 0 then s.approve else if bit v 1 then s.discard else s := rfl

theorem State.approve_of_not_ready {s : State} (h : s.fld PX_EPOCH_STATE ≠ 2) : s.approve = s := if_neg h

theorem State.discard_of_not_ready {s : State} (h : s.fld PX_EPOCH_STATE ≠ 2) : s.discard = s := if_neg h

theorem State.registerWrite_epochCtl_of_not_ready {s : State} (h : s.fld PX_EPOCH_STATE ≠ 2) (agent v : Nat) :
    s.registerWrite agent PX_EPOCHCTL v = s := by
  rw [State.registerWrite_of_regAt (by decide) s.regAt_epochCtl (by decide), State.regWrite_epochCtl,
    State.approve_of_not_ready h, State.discard_of_not_ready h, ite_self, ite_self]

/-- Settles O23: the register map gives the place and the fields, and outside READY both commands, and with them the write, do nothing. -/
theorem epochControlActsOnlyInReady : Obligations.EpochControlActsOnlyInReady := by
  refine ⟨rfl, ?place, ?reset, fun agent v s hon hready => ⟨?write, ?approve, ?discard⟩⟩
  case place => rw [descAt_epochCtl]; rfl
  case reset => decide
  case write =>
    have haddr : (BitVec.ofNat 32 PX_EPOCHCTL).toNat = PX_EPOCHCTL := by decide
    rw [exec_registerWrite_of_on hon, haddr, State.registerWrite_epochCtl_of_not_ready hready]
  case approve => rw [exec_approve_of_on hon, State.approve_of_not_ready hready]
  case discard => rw [exec_discard_of_on hon, State.discard_of_not_ready hready]

end Sys2Proof.Machine
end

section
/-! PROOFS. Writes that lie in one protected unit: what they leave in memory and in the error mark, and the refusal of a part-write of an uncorrectable
DDR5 line (R430, R434). -/

namespace Sys2Proof.Machine

/-! ## Bytes and marks -/

@[simp] theorem State.marks_pokeL (s : State) (a : Nat) (bs : List Byte) : (s.pokeL a bs).marks = s.marks := by
  induction bs generalizing s a with
  | nil => rfl
  | cons b t ih => exact ih (s.poke a b) (a + 1)

@[simp] theorem State.mark_pokeL (s : State) (a : Nat) (bs : List Byte) (k : Nat) : (s.pokeL a bs).mark k = s.mark k := by
  rw [State.mark, State.mark, State.marks_pokeL]

@[simp] theorem State.mark_setMark_self (s : State) (a : Nat) (m : Mark) : (s.setMark a m).mark a = m := Tab.get_set_self ..

/-- Bytes outside the extent of a write stay. -/
theorem State.peek_pokeL_outside (s : State) {a x : Nat} {bs : List Byte} (h : x < a ∨ a + bs.length ≤ x) : (s.pokeL a bs).peek x = s.peek x := by
  induction bs generalizing s a with
  | nil => rfl
  | cons b t ih =>
    rw [List.length_cons] at h
    rw [State.pokeL, ih _ (by omega), State.poke_peek_other _ _ _ _ (by omega)]

/-- Bytes inside the extent of a write are those written. -/
theorem State.peek_pokeL_inside (s : State) (a : Nat) {i : Nat} {bs : List Byte} (hi : i < bs.length) : (s.pokeL a bs).peek (a + i) = bs[i] := by
  induction bs generalizing s a i with
  | nil => cases hi
  | cons b t ih =>
    cases i with
    | zero =>
      rw [State.pokeL, State.peek_pokeL_outside _ (by omega)]
      exact State.poke_peek_self s a b
    | succ j =>
      rw [State.pokeL, show a + (j + 1) = a + 1 + j by omega]
      exact ih _ _ (Nat.lt_of_succ_lt_succ hi)

/-- What is written reads back. -/
theorem State.peekN_pokeL (s : State) (a : Nat) (bs : List Byte) : (s.pokeL a bs).peekN a bs.length = bs := by
  refine List.ext_getElem (by simp [State.peekN]) fun i _ hi => ?_
  simp only [State.peekN, List.getElem_map, List.getElem_range]
  exact s.peek_pokeL_inside a hi

/-! ## Protected units in DDR5 -/

theorem granSize_of_inDdr {a : Nat} (ha : inDdr a = true) : granSize a = 64 := if_pos ha

/-- The line of a DDR5 byte is in DDR5. -/
theorem inDdr_granule {a : Nat} (ha : inDdr a = true) : inDdr (granule a) = true := by
  simp only [granule, ha, if_true]
  simp only [inDdr, decide_eq_true_eq] at ha ⊢
  omega

@[simp] theorem cutUnits_nil (fuel a : Nat) : cutUnits fuel a [] = [] := by
  cases fuel <;> rfl

/-- A write inside one unit is not cut. -/
theorem cutUnits_of_fits {a : Nat} {bs : List Byte} (hne : bs ≠ []) (hfit : a % granSize a + bs.length ≤ granSize a) (fuel : Nat) :
    cutUnits (fuel + 1) a bs = [(a, bs)] := by
  cases bs with
  | nil => exact absurd rfl hne
  | cons b t =>
    have hlen : (b :: t).length ≤ granSize a - a % granSize a := by omega
    rw [cutUnits, List.take_of_length_le hlen, List.drop_of_length_le hlen, cutUnits_nil]

/-- A write inside one unit is that unit's write. -/
theorem State.writeBytes_of_fits (s : State) {a : Nat} {bs : List Byte} (hne : bs ≠ []) (hfit : a % granSize a + bs.length ≤ granSize a) :
    s.writeBytes a bs = ((s.writeUnit a bs).1, if (s.writeUnit a bs).2 then [] else [granule a]) := by
  rw [State.writeBytes, cutUnits_of_fits hne hfit]
  rfl

/-- A write of a whole unit clears its mark and is performed, whatever the mark was (R430, R434). -/
theorem State.writeUnit_whole (s : State) {a : Nat} {bs : List Byte} (hlen : bs.length = granSize a) :
    s.writeUnit a bs = ((s.setMark a .clean).pokeL a bs, true) := if_pos hlen

/-- Part of an uncorrectable DDR5 line is not written (R434). -/
theorem State.writeUnit_part_of_bad_line {s : State} {a : Nat} {bs : List Byte} (ha : inDdr a = true) (hbad : s.mark a = .uncorrectable)
    (hlen : bs.length ≠ granSize a) : s.writeUnit a bs = (s, false) := by
  rw [State.writeUnit, if_neg hlen, hbad]
  exact if_pos ha

/-! ## The report of a refused part-write -/

/-- A refused part-write of a DDR5 line is recorded and raised as MM_UE with source 2 (R433, R434). -/
theorem State.reportRefused_line (s : State) {u : Nat} (hu : inDdr u = true) :
    s.reportRefused [u] = (s.recordUe u 2).raise 0x0A02 (u % 4294967296) 2 := if_pos hu

theorem State.fld_recordUe_source (s : State) (a : Nat) {source : Nat} (h : source < 4) : (s.recordUe a source).fld MM_UEADDR_SOURCE = source := by
  rw [State.recordUe, State.fld_setFld_other _ _ _ _ (by decide), State.fld_setFld_lt _ _ _ h]

/-- The count of uncorrectable lines saturates at 65,535. -/
theorem State.fld_recordUe_uncorr (s : State) (a source : Nat) :
    (s.recordUe a source).fld MM_ECCSTAT_UNCORR = min (s.fld MM_ECCSTAT_UNCORR + 1) 65535 := by
  have hmax : min (s.fld MM_ECCSTAT_UNCORR + 1) (2 ^ MM_ECCSTAT_UNCORR.w - 1) < 2 ^ MM_ECCSTAT_UNCORR.w :=
    Nat.lt_of_le_of_lt (Nat.min_le_right ..) (by decide)
  rw [State.recordUe, State.fld_setFld_other _ _ _ _ (by decide), State.fld_setFld_other _ _ _ _ (by decide),
    State.fld_setFld_other _ _ _ _ (by decide), State.bumpSat, State.fld_setFld_lt _ _ _ hmax]
  rfl

/-! ## Part and whole writes of a line -/

theorem State.writeBytes_part_of_bad_line {s : State} {a : Nat} {bs : List Byte} (ha : inDdr a = true) (hbad : s.mark a = .uncorrectable)
    (hne : bs ≠ []) (hshort : bs.length < 64) (hfit : a % 64 + bs.length ≤ 64) : s.writeBytes a bs = (s, [granule a]) := by
  have hsize := granSize_of_inDdr ha
  rw [State.writeBytes_of_fits s hne (by rwa [hsize]), State.writeUnit_part_of_bad_line ha hbad (by omega)]
  rfl

theorem State.write_part_of_bad_line {s : State} {a : Nat} {bs : List Byte} (ha : inDdr a = true) (hbad : s.mark a = .uncorrectable)
    (hne : bs ≠ []) (hshort : bs.length < 64) (hfit : a % 64 + bs.length ≤ 64) :
    s.write a bs = ((s.recordUe (granule a) 2).raise 0x0A02 (granule a % 4294967296) 2, false) := by
  rw [State.write, State.writeBytes_part_of_bad_line ha hbad hne hshort hfit, ← State.reportRefused_line s (inDdr_granule ha)]
  rfl

/-- A write of a whole DDR5 line is performed, whatever the line's mark, and nothing is reported. -/
theorem State.write_whole_line (s : State) {a : Nat} {bs : List Byte} (ha : inDdr a = true) (hlen : bs.length = 64) (halign : a % 64 = 0) :
    s.write a bs = ((s.setMark a .clean).pokeL a bs, true) := by
  have hsize := granSize_of_inDdr ha
  have hne : bs ≠ [] := List.ne_nil_of_length_pos (by omega)
  rw [State.write, State.writeBytes_of_fits s hne (by rw [hsize]; omega), State.writeUnit_whole s (hlen.trans hsize.symm)]
  rfl

/-- Settles O26: a write inside one line is one unit write, which the uncorrectable mark refuses unless it covers the line; the refusal is what `write`
reports. -/
theorem partWritesOfBadLinesAreRefused : Obligations.PartWritesOfBadLinesAreRefused := by
  refine fun s a bs ha hbad => ⟨fun hne hshort hfit => ⟨?kept, ?reported, ?source, ?counted⟩, fun hlen halign => ?whole⟩
  case kept => exact State.writeBytes_part_of_bad_line ha hbad hne hshort hfit
  case reported => exact State.write_part_of_bad_line ha hbad hne hshort hfit
  case source => exact s.fld_recordUe_source _ (by decide)
  case counted => exact s.fld_recordUe_uncorr _ _
  case whole =>
    have hread := (s.setMark a .clean).peekN_pokeL a bs
    rw [hlen] at hread
    rw [State.write_whole_line s ha hlen halign]
    exact ⟨rfl, (State.mark_pokeL ..).trans (State.mark_setMark_self ..), hread⟩

end Sys2Proof.Machine
end

section
/-! PROOFS. The reset control register MG_RESETCTL: its description, what a write of it does by its key and its two bits, and RESTART in Paddock mode
as the beginning of a cold start (R557, R580, R582, R589). -/

namespace Sys2Proof

/-- An entry whose key fails the test reads as an unlisted one. -/
theorem Tab.get_keep_of_not {α : Type} {f : Nat → α → Bool} {k : Nat} (hf : ∀ v, f k v = false) (d : α) (t : Tab α) :
    Tab.get d (Tab.keep f t) k = d := by
  induction t with
  | nil => rfl
  | cons p t ih =>
    obtain ⟨k', v⟩ := p
    by_cases hkept : f k' v = true
    · have hne : k ≠ k' := fun h => by simp [← h, hf] at hkept
      rw [Tab.keep, List.filter_cons_of_pos (by exact hkept), Tab.get, if_neg hne]
      exact ih
    · rw [Tab.keep, List.filter_cons_of_neg (by exact hkept)]
      exact ih

end Sys2Proof

namespace Sys2Proof.Machine

/-! ## What a cold start begins with -/

/-- Outside the always-on store a field of a module held in reset has its reset value (R580, R581). -/
theorem State.fld_bare_of_not_kept (s : State) {f : Fld} (hf : keptCold f.key = false) : s.bare.fld f = f.rst :=
  Tab.get_keep_of_not (f := fun k _ => keptCold k) (fun _ => hf) f.rst s.regs

/-- The registers that take the straps and the hold bits at a cold start. -/
def strapRegs : List Nat := [MG_PWRCFG, MG_PWRSTAT, MG_THRSTAT, MG_HOLD]

theorem State.loadStraps_regs (s : State) : RegsBy (· ∈ strapRegs) s s.loadStraps :=
  (((RegsBy.setFld s MG_PWRCFG_PROFILE _ (by decide) (by decide)).trans
    (RegsBy.setFld _ MG_PWRSTAT_STRAP _ (by decide) (by decide))).trans
    (RegsBy.setFld _ MG_PWRSTAT_PROFILE _ (by decide) (by decide))).trans
    (RegsBy.setFld _ MG_THRSTAT_STEP _ (by decide) (by decide))

theorem State.resetHolds_regs (s : State) : RegsBy (· ∈ strapRegs) s s.resetHolds := by
  unfold State.resetHolds
  split
  · exact (RegsBy.setFld s MG_HOLD_FIELD _ (by decide) (by decide)).trans (RegsBy.setFld _ MG_HOLD_SUPPLY _ (by decide) (by decide))
  · exact RegsBy.refl s

/-- Beside the registers, the hold bits touch nothing. -/
theorem State.resetHolds_eq (s : State) : s.resetHolds = { s with regs := s.resetHolds.regs } := by
  unfold State.resetHolds
  split <;> rfl

/-- Beside the registers, a cold start begins as the module held in reset (R580, R581). -/
theorem State.coldBegin_eq (s : State) (cause : Nat) :
    s.coldBegin cause = { s.bare with phase := .cold 1, regs := (s.coldBegin cause).regs } := State.resetHolds_eq _

/-- A field that is no strap's and no hold's stands at the beginning of a cold start as its kind and its cause leave it. -/
theorem State.fld_coldBegin (s : State) (cause : Nat) {f : Fld} (hf : f.reg ∉ strapRegs) (hlo : f.lo < 64) :
    (s.coldBegin cause).fld f = ((s.bare.setFld MG_START_KIND 1).setFld MG_START_CAUSE cause).fld f :=
  ((State.loadStraps_regs _).trans (State.resetHolds_regs _)).fld hf hlo

theorem State.fld_coldBegin_kind (s : State) (cause : Nat) : (s.coldBegin cause).fld MG_START_KIND = 1 := by
  rw [State.fld_coldBegin s cause (by decide) (by decide), State.fld_setFld_other _ _ _ _ (by decide), State.fld_setFld_lt _ _ _ (by decide)]

theorem State.fld_coldBegin_cause (s : State) {cause : Nat} (hcause : cause < 16) : (s.coldBegin cause).fld MG_START_CAUSE = cause := by
  rw [State.fld_coldBegin s cause (by decide) (by decide), State.fld_setFld_lt _ _ _ hcause]

/-- A field outside the always-on store, the straps and the holds begins a cold start at its reset value. -/
theorem State.fld_coldBegin_cleared (s : State) (cause : Nat) {f : Fld} (hstart : f.reg ≠ MG_START) (hstrap : f.reg ∉ strapRegs) (hlo : f.lo < 64) :
    (s.coldBegin cause).fld f = f.rst := by
  have hkept : keptCold f.key = false := decide_eq_false (by unfold Fld.key; omega)
  rw [State.fld_coldBegin s cause hstrap hlo, State.fld_setFld_other _ _ _ _ (Fld.key_ne hstart hlo (by decide)),
    State.fld_setFld_other _ _ _ _ (Fld.key_ne hstart hlo (by decide)), State.fld_bare_of_not_kept s hkept]

/-- Every encoder begins a cold start at position 0. -/
theorem State.posOf_coldBegin (s : State) (cause : Nat) (e : Fin 4) : (s.coldBegin cause).posOf e = 0 := by
  have hstart : PS_POS e ≠ MG_START := by unfold PS_POS MG_START; omega
  have hstrap : PS_POS e ∉ strapRegs := by simp [strapRegs, PS_POS, MG_PWRCFG, MG_PWRSTAT, MG_THRSTAT, MG_HOLD]; omega
  have hpos : (s.coldBegin cause).fld (PS_POS_POS e) = 0 := State.fld_coldBegin_cleared s cause hstart hstrap (by simp [PS_POS_POS])
  rw [State.posOf, State.sfld, hpos]
  rfl

/-- A cold start begun from a state with the stores of `s` is one from `s`. -/
theorem State.coldStarted_coldBegin {s u : State} {cause : Nat} (hcause : cause < 16) (hflash : u.image.flash = s.image.flash)
    (hotp : u.image.otp = s.image.otp) (heeprom : u.image.eeprom = s.image.eeprom) : ColdStarted cause s (u.coldBegin cause) := by
  refine ⟨?phase, u.fld_coldBegin_kind cause, u.fld_coldBegin_cause hcause, ?enc, ?dev, ?bw, u.posOf_coldBegin cause, ?slots, ?flash, ?otp, ?eeprom⟩
  all_goals rw [State.coldBegin_eq]
  case flash => exact hflash
  case otp => exact hotp
  case eeprom => exact heeprom
  all_goals rfl

/-! ## MG_RESETCTL -/

/-- The row of MG_RESETCTL in the register map. -/
def resetCtlDesc : RegDesc :=
  ⟨"MG_RESETCTL", MG_RESETCTL, (0, 1), (0, 1), 32, [⟨24, 8, .wo, 0, true, .any⟩, ⟨1, 1, .wo, 0, true, .any⟩, ⟨0, 1, .wo, 0, true, .any⟩]⟩

theorem descAt_resetCtl : descAt MG_RESETCTL = some resetCtlDesc := by decide

/-- Every variant has MG_RESETCTL. -/
theorem State.regAt_resetCtl (s : State) : s.regAt MG_RESETCTL = some resetCtlDesc := by
  have present : s.absent MG_RESETCTL = false := by simp [State.absent, MG_RESETCTL]
  rw [State.regAt, present, descAt_resetCtl]
  rfl

theorem State.regWrite_resetCtl (s : State) (agent a v : Nat) : s.regWrite agent resetCtlDesc a v = s.resetCtlWrite v := rfl

/-- A register write at MG_RESETCTL's address is that register's own write. -/
theorem exec_registerWrite_resetCtl {s : State} (hon : s.phase ≠ .off) (agent : Fin 5) (v : BitVec 32) :
    exec (.registerWrite agent (BitVec.ofNat 32 MG_RESETCTL) v) s = .next (s.resetCtlWrite v.toNat) := by
  have haddr : (BitVec.ofNat 32 MG_RESETCTL).toNat = MG_RESETCTL := by decide
  rw [exec_registerWrite_of_on hon, haddr, State.registerWrite_of_regAt (by decide) s.regAt_resetCtl (by decide),
    State.regWrite_resetCtl, Nat.mod_eq_of_lt v.isLt]

theorem exec_hostCold_of_on {s : State} (hon : s.phase ≠ .off) : exec .hostCold s = .next s.hostCold := State.whenOn_of_on hon _

theorem exec_hostWarm_of_on {s : State} (hon : s.phase ≠ .off) : exec .hostWarm s = .next s.hostWarm := State.whenOn_of_on hon _

/-! ## The write by its key and its bits -/

theorem State.resetCtlWrite_of_no_key (s : State) {v : Nat} (hkey : bits v 24 8 ≠ 0xB5) : s.resetCtlWrite v = s := if_pos hkey

/-- With the key, COLD goes before WARM, and neither bit does nothing (R589). -/
theorem State.resetCtlWrite_of_key (s : State) {v : BitVec 32} (hkey : bits v.toNat 24 8 = 0xB5) :
    s.resetCtlWrite v.toNat = if v.getLsbD 1 then s.hostCold else if v.getLsbD 0 then s.hostWarm else s :=
  if_neg (not_not_intro hkey)

theorem State.hostCold_of_paddock {s : State} (h : s.phase = .paddock) : s.hostCold = s := by
  rw [State.hostCold, h]

theorem State.hostWarm_of_paddock {s : State} (h : s.phase = .paddock) : s.hostWarm = s := by
  rw [State.hostWarm, State.warmBegin, h]

theorem State.resetCtlWrite_of_paddock {s : State} (h : s.phase = .paddock) (v : BitVec 32) : s.resetCtlWrite v.toNat = s := by
  by_cases hkey : bits v.toNat 24 8 = 0xB5
  · rw [s.resetCtlWrite_of_key hkey, State.hostCold_of_paddock h, State.hostWarm_of_paddock h, ite_self, ite_self]
  · exact s.resetCtlWrite_of_no_key hkey

/-! ## RESTART -/

/-- The oldest recovery request runs where no other is in progress and DDR5 is up (R556, R557). -/
theorem State.runPad_of_head {s : State} {q : PadReq} {rest : List PadReq} {op : Nat} (hserving : s.servingAll = true) (hcheck : s.image.check = none)
    (hwrite : s.image.write = none) (hhead : s.image.recovery = q :: rest) (hddr : s.image.ddrUp = true) (hop : q.op = op)
    (act : State → PadReq → State) : s.runPad op act = act { s with image := { s.image with recovery := rest } } q := by
  simp [State.runPad, hserving, hcheck, hwrite, hhead, hddr, hop]

theorem State.servingAll_of_paddock {s : State} (h : s.phase = .paddock) : s.servingAll = true := decide_eq_true (.inr h)

/-- In Paddock mode RESTART clears both counts of failed starts and begins a cold start with cause RESTART, whatever the phase of recovery (R557, R587). -/
theorem State.recoveryRestart_of_paddock {s : State} {q : PadReq} {rest : List PadReq} (h : s.phase = .paddock) (hcheck : s.image.check = none)
    (hwrite : s.image.write = none) (hhead : s.image.recovery = q :: rest) (hddr : s.image.ddrUp = true) (hop : q.op = 4) :
    s.recoveryRestart =
      ((State.setFld { s with image := { s.image with recovery := rest } } MG_START_COLD_FAIL 0).setFld MG_START_WARM_FAIL 0).coldBegin 6 := by
  rw [State.recoveryRestart, State.runPad_of_head (State.servingAll_of_paddock h) hcheck hwrite hhead hddr hop]
  exact if_neg fun hrefused => hrefused.1 h

theorem exec_recoveryRestart_of_on {s : State} (hon : s.phase ≠ .off) : exec .recoveryRestart s = .next s.recoveryRestart := State.whenOn_of_on hon _

/-- Settles O24: the register map gives the place and the fields, the write is decided by the key before COLD before WARM, Paddock mode makes both
commands idle, and RESTART there is a cold start begun on the stores as they stand. -/
theorem resetControlNeedsItsKey : Obligations.ResetControlNeedsItsKey := by
  refine ⟨rfl, ?place, ?reset, fun agent v s hon => ⟨?idle, ?cold, ?warm, ?neither⟩, fun q rest s h hcheck hwrite hhead hddr hop => ?restart⟩
  case place => rw [descAt_resetCtl]; rfl
  case reset => decide
  case idle =>
    rw [exec_registerWrite_resetCtl hon]
    rintro (hkey | hpaddock)
    · rw [s.resetCtlWrite_of_no_key hkey]
    · rw [State.resetCtlWrite_of_paddock hpaddock]
  case cold =>
    intro hkey hcold
    rw [exec_registerWrite_resetCtl hon, s.resetCtlWrite_of_key hkey, if_pos hcold, exec_hostCold_of_on hon]
  case warm =>
    intro hkey hcold hwarm
    rw [exec_registerWrite_resetCtl hon, s.resetCtlWrite_of_key hkey, hcold, hwarm, exec_hostWarm_of_on hon]
    rfl
  case neither =>
    intro hkey hcold hwarm
    rw [exec_registerWrite_resetCtl hon, s.resetCtlWrite_of_key hkey, hcold, hwarm]
    rfl
  case restart =>
    have hon : s.phase ≠ .off := by simp [h]
    refine ⟨s.recoveryRestart, exec_recoveryRestart_of_on hon, ?_⟩
    rw [State.recoveryRestart_of_paddock h hcheck hwrite hhead hddr hop]
    exact State.coldStarted_coldBegin (by decide) rfl rfl rfl

end Sys2Proof.Machine
end
